-- ==== Sys2Proof/Word.lean ====
section
/-! DEFINITION. The plain words of the RV26: characters of the guard line, keys, salts, tokens, and the index types. -/

namespace Sys2Proof

/-- The eight data bits of one character (R2). -/
abbrev Byte := BitVec 8

/-- A 16-bit word: a check value (R209), the setup digest (R195), an event mask (Table 11-5). -/
abbrev Word16 := BitVec 16

/-- The channel key, 256 bits (R76). -/
abbrev ChannelKey := BitVec 256

/-- The salt, 128 bits (R75). -/
abbrev Salt := BitVec 128

/-- A token, 64 bits (R168). -/
abbrev Token := BitVec 64

/-- A station number, 0 to 7 (R28). -/
abbrev StationNo := Fin 8

/-- A slot number, 0 to 5 (R73). -/
abbrev SlotNo := Fin 6

/-- The index of a range entry, 0 to 7 (R155). -/
abbrev RangeNo := Fin 8

/-- A moment or a length of time, in microseconds. -/
abbrev Micros := Nat

/-- Whether a byte holds an odd number of 1 bits. -/
def oddOnes (b : Byte) : Bool :=
  (b.getLsbD 0 ^^ b.getLsbD 1) ^^ (b.getLsbD 2 ^^ b.getLsbD 3) ^^ (b.getLsbD 4 ^^ b.getLsbD 5) ^^ (b.getLsbD 6 ^^ b.getLsbD 7)

end Sys2Proof
end

