-- ==== Sys2Proof/Config.lean ====
section
/-! DEFINITION. What the spec leaves open: the values of the random source, the form of the token function, the one sum the spec does not bound, and where a blink pattern stands. No constant here has a body. -/

namespace Sys2Proof.Config

/-- The channel keys that the random source gives at initial keying and at REKEY (R131, R198): the n-th draw. Free values (log entry 3). -/
opaque freeKey : Nat → ChannelKey

/-- The salt that the random source gives at initial keying (R75, R198): the n-th draw. Free values (log entry 3). -/
opaque freeSalt : Nat → Salt

/-- The form of the one-way function of R168, which the spec does not give: a one-to-one map on 64 bits, laid over the code of a digit string (log entry 4). -/
opaque tokenCipher : Equiv.Perm Token

/-- The open serial after an unlock whose merged open serial stands at its maximum, 4,294,967,295: the spec states no sum there (R65; log entry 5). -/
opaque freeSerial : Nat → BitVec 32

/-- Where each pattern of the indicators stands in its period at the moment 0, by pattern: the spec gives the rates and no starting point (R178, R179; log entry 51). -/
opaque freeBlink : Nat → Micros

end Sys2Proof.Config
end

