-- ==== Sys2Proof/Syntax.lean ====
section
/-! DEFINITION. The commands of the station: one constructor of Instr per row of spec/opcode_table.json, with what the outside world supplies at that step as its operands. -/

namespace Sys2Proof

/-- A key of the matrix: ten digits, LOCK and ENTER (Section 8.2). -/
inductive Key where
  | digit (d : Fin 10)
  | lock
  | enter
  deriving DecidableEq, Repr

/-- What the station reads from its pins at a start (R28, R182, R184): the straps, the attach sense and the first cell sample, both in millivolts. -/
structure StartInputs where
  sn2 : Bool
  sn1 : Bool
  sn0 : Bool
  kpd : Bool
  attachMv : Nat
  cellMv : Nat
  deriving DecidableEq, Repr

/-- The wake causes of R193. A key wake carries the keys that are down when the scanner starts (R170). -/
inductive WakeCause where
  | line
  | key (down : List Key)
  | attach
  | tamper
  deriving DecidableEq, Repr

/-- How the framing of a frame ended (R12): correct, broken off by an abandon mark, or failed in any other way. `afterHeader` says that the third header character had been read by then (R13). -/
inductive Framing where
  | correct
  | abandonMark (afterHeader : Bool)
  | broken (afterHeader : Bool)
  deriving DecidableEq, Repr

/-- A frame as a receiver reads it from the line (R4, R209): its framing, the three header characters, the payload and the check. -/
structure LineFrame where
  framing : Framing
  head0 : Byte
  head1 : Byte
  head2 : Byte
  payload : List Byte
  check : Word16
  deriving DecidableEq, Repr

/-- What the gate reads of a READ or PROGRAM command up to its decision (R142): the opening cycle alone, or the address cycles that complete it. -/
inductive FlashCycles where
  | opening
  | address (col0 col1 row0 row1 row2 : Byte)
  deriving DecidableEq, Repr

/-- What the gate reads of an ERASE command up to its decision (R142): the opening cycle alone, or the three row cycles. -/
inductive RowCycles where
  | opening
  | address (row0 row1 row2 : Byte)
  deriving DecidableEq, Repr

/-- The commands: the steps of the part, in the order of spec/opcode_table.json.
A frame row (ROLL, ENTRY, ...) handles the oldest frame of the receive queue and so has no operand.
`landed` says whether a store write in flight at a loss of supply had reached the store (R206).
`ready` is the level of the flash ready line when the gate reads the cycle (R144).
`sense` is the attach sense in millivolts, as it has stood for 1 ms (R182); unless given it stands just past the threshold of the event. -/
inductive Instr where
  /-- R181, R28, R31. -/
  | powerUp (inputs : StartInputs)
  /-- R181. -/
  | supplyLost (landed : Bool)
  /-- R193. -/
  | wake (cause : WakeCause) (inputs : StartInputs)
  /-- R191: whether a wake cause is pending at the test and at the second test. -/
  | dormancyEntry (atTest : Bool) (atRetest : Bool)
  /-- R30. -/
  | startSettleEnd
  /-- R6, R7, R8: header character 0 of the strongest other frame whose lead began in the same bit time, if any. -/
  | frameAttemptStart (rival : Option Byte)
  /-- R9. -/
  | bitError
  /-- R10, R21: the eight data bits of the receipt character as read. -/
  | attemptComplete (slots : Byte)
  /-- R12 to R16. -/
  | frameReceive (frame : LineFrame)
  /-- R23. -/
  | lineReset
  /-- R34. -/
  | roll
  /-- R38. -/
  | assemblySend
  /-- R45. -/
  | assemblyWindowEnd
  /-- R40. -/
  | reannounce
  /-- R53. -/
  | entry
  /-- R62. -/
  | verdict
  /-- R63. -/
  | verdictWindowExpire
  /-- R71. -/
  | holdExpire
  /-- R80. -/
  | stage
  /-- R82. -/
  | adopt
  /-- R83. -/
  | adoptAbandon
  /-- R85. -/
  | retire
  /-- R86. -/
  | answer
  /-- R87. -/
  | enrollmentTimeout
  /-- R100. -/
  | lock
  /-- R102, R182, R183. -/
  | detach (landed : Bool) (sense : Nat := 4199)
  /-- R182, R183. -/
  | attach (sense : Nat := 4400)
  /-- R103. -/
  | attachWindowExpire
  /-- R107. -/
  | keyShiftEnd
  /-- R108. -/
  | zeroShiftEnd
  /-- R118. -/
  | purge
  /-- R119. -/
  | controllerPurge
  /-- R117. -/
  | purgeReoffer
  /-- R35. -/
  | purged
  /-- R112. -/
  | purgeWriteComplete
  /-- R151: the status byte read from the flash; bit 0 is 1 for FAIL. -/
  | eraseStepReady (status : Byte)
  /-- R151. -/
  | eraseStepTimeout
  /-- R150. -/
  | recoveryResetReady
  /-- R150. -/
  | recoveryResetTimeout
  /-- R153. -/
  | faultPeriod
  /-- R148. -/
  | drainExpire
  /-- R149. -/
  | settleEnd
  /-- R143. -/
  | read00h (cycles : FlashCycles) (ready : Bool)
  /-- R143. -/
  | read05h (cycles : FlashCycles) (ready : Bool)
  /-- R143. -/
  | program80h (cycles : FlashCycles) (ready : Bool)
  /-- R143. -/
  | program85h (cycles : FlashCycles) (ready : Bool)
  /-- R143. -/
  | erase60h (cycles : RowCycles) (ready : Bool)
  /-- R143: the opening code, of class CONTROL. -/
  | controlCommand (code : Byte)
  /-- R141. -/
  | commandEnd (ready : Bool)
  /-- R148. -/
  | flashReady
  /-- R157. -/
  | range
  /-- R158. -/
  | rangeWriteComplete
  /-- R74. -/
  | slotWriteComplete
  /-- R59. -/
  | attemptWriteComplete
  /-- R180. -/
  | tamperWriteComplete
  /-- R197. -/
  | setup
  /-- R197. -/
  | setupWriteComplete
  /-- R198. -/
  | setupLock
  /-- R198. -/
  | keyingWriteComplete
  /-- R199. -/
  | setupLockComplete
  /-- R201. -/
  | query
  /-- R196. -/
  | status
  /-- R203. -/
  | clear
  /-- R164. -/
  | keyDigit (d : Fin 10)
  /-- R171. -/
  | keyLock
  /-- R165. -/
  | keyEnter
  /-- R162, R163: whether another key is still down when the keys followed have been up for 20 ms. -/
  | keyRelease (otherDown : Bool := false)
  /-- R164. -/
  | idleTimerExpire
  /-- R167. -/
  | pendingTimerExpire
  /-- R171. -/
  | lockTimerExpire
  /-- R172. -/
  | prefixTimerExpire
  /-- R173. -/
  | modeTimerExpire
  /-- R176. -/
  | confirmTimerExpire
  /-- R179. -/
  | transientEnd
  /-- R184: the samples of the cell sense in millivolts, one each 10 ms, oldest first. -/
  | cellBandChange (samples : List Nat) (landed : Bool)
  /-- R188. -/
  | tamperAssertion
  /-- R186. -/
  | tamperRelease
  /-- R5. -/
  | lineIdleReached
  /-- R5: the length of the dominant run in bit times. -/
  | dominantRunOutsideFrame (bits : Nat)
  /-- R162. -/
  | keySeenDown (key : Key)
  /-- R162. -/
  | keySeenUpSettling
  /-- R142. -/
  | addressTakingBroken
  deriving DecidableEq, Repr

end Sys2Proof
end

