-- ==== Sys2Proof/WellFormed.lean ====
section
/-! DEFINITION. Which commands the outside world can send: the checks on their operands. A command that fails its check describes no event of the part. -/

namespace Sys2Proof

/-- The length field of a frame's header, bits 7 to 2 of character 2 (Table 11-2). -/
def LineFrame.lengthField (f : LineFrame) : Nat := (f.head2 >>> 2).toNat

/-- The count of 1 bits over the three header characters is odd: the length field is not to be trusted (R13). -/
def LineFrame.oddParity (f : LineFrame) : Bool := oddOnes f.head0 ^^ oddOnes f.head1 ^^ oddOnes f.head2

/-- A frame read without a framing failure, with even header parity, has as many payload characters as its header states (R4, R13). -/
def LineFrame.wellFormed (f : LineFrame) : Bool :=
  match f.framing with
  | .correct => f.oddParity || f.payload.length == f.lengthField
  | .abandonMark _ => true
  | .broken _ => true

/-- The opening codes that are not of class CONTROL (Table 11-19). -/
def openingCodes : List Byte := [0x00, 0x05, 0x80, 0x85, 0x60]

/-- The operands of a command are such as the outside world can supply. -/
def Instr.wellFormed : Instr → Bool
  | .frameReceive f => f.wellFormed
  | .wake (.key down) _ => decide down.Nodup
  | .controlCommand code => !openingCodes.contains code
  | .cellBandChange samples _ => decide (3 ≤ samples.length)
  | .dominantRunOutsideFrame bits => decide (0 < bits)
  | .powerUp _ | .supplyLost _ | .wake .line _ | .wake .attach _ | .wake .tamper _ | .dormancyEntry _ _
  | .startSettleEnd | .frameAttemptStart _ | .bitError | .attemptComplete _ | .lineReset | .roll | .assemblySend
  | .assemblyWindowEnd | .reannounce | .entry | .verdict | .verdictWindowExpire | .holdExpire | .stage | .adopt
  | .adoptAbandon | .retire | .answer | .enrollmentTimeout | .lock | .detach _ _ | .attach _ | .attachWindowExpire
  | .keyShiftEnd | .zeroShiftEnd | .purge | .controllerPurge | .purgeReoffer | .purged | .purgeWriteComplete
  | .eraseStepReady _ | .eraseStepTimeout | .recoveryResetReady | .recoveryResetTimeout | .faultPeriod
  | .drainExpire | .settleEnd | .read00h _ _ | .read05h _ _ | .program80h _ _ | .program85h _ _ | .erase60h _ _
  | .commandEnd _ | .flashReady | .range | .rangeWriteComplete | .slotWriteComplete | .attemptWriteComplete
  | .tamperWriteComplete | .setup | .setupWriteComplete | .setupLock | .keyingWriteComplete | .setupLockComplete
  | .query | .status | .clear | .keyDigit _ | .keyLock | .keyEnter | .keyRelease _ | .idleTimerExpire
  | .pendingTimerExpire | .lockTimerExpire | .prefixTimerExpire | .modeTimerExpire | .confirmTimerExpire
  | .transientEnd | .tamperAssertion | .tamperRelease | .lineIdleReached | .keySeenDown _ | .keySeenUpSettling
  | .addressTakingBroken => true

end Sys2Proof
end

