-- ==== Sys2Proof/Decode.lean ====
section
/-! DEFINITION. The command that a word spells by the bits of spec/opcode_table.json. The table gives bits to none of its rows, so no word spells a command (log entry 43). -/

namespace Sys2Proof

/-- The command spelled by the table's bits in a word: none, since every row of the table has an empty list of fields and no fixed bits. -/
def decodeTableWord (_nbits _w : Nat) : Option Instr := none

end Sys2Proof
end

