-- ==== Sys2Proof/Machine/State.lean ====
section
/-! DEFINITION. The state of one station, as plain data, and its value right after the first power-up of a new part. -/

namespace Sys2Proof.Machine

/-! ### Names of the spec -/

/-- The frame kinds of Table 11-3. -/
inductive Kind where
  | purge | lock | purged | verdict | entry | roll | stage | adopt | retire | answer | range | query | status | clear | setup | setupLock
  deriving DecidableEq, Repr

/-- The ten phases of Table 5-1. -/
inductive Phase where
  | uncommissioned | halted | assembling | incomplete | blank | locked | verifying | unlocked | purging | purgeWait
  deriving DecidableEq, Repr

/-- The start causes of R29. -/
inductive StartCause where
  | power | wake | reseat
  deriving DecidableEq, Repr

/-- The roles of R33. -/
inductive Role where
  | guard | keypadGuard | controller | none
  deriving DecidableEq, Repr

/-- The presence of a roster entry (R34). -/
inductive Presence where
  | absent | present | silent
  deriving DecidableEq, Repr

/-- The grant record (R94). The slot and the read-only flag are there when the kind is USER or ADMIN. -/
inductive Grant where
  | none
  | pub
  | user (slot : SlotNo) (readOnly : Bool)
  | admin (slot : SlotNo) (readOnly : Bool)
  deriving DecidableEq, Repr

/-- The stages of a purge (Table 6-4). -/
inductive PurgeStage where
  | destroy | erase | rekey | close
  deriving DecidableEq, Repr

/-- The causes of a purge (Table 6-1). -/
inductive PurgeCause where
  | limit | request | tamper | epoch
  deriving DecidableEq, Repr

/-- The causes of a LOCK frame (R98, R99). -/
inductive LockCause where
  | key | request | fault
  deriving DecidableEq, Repr

/-- The results of a VERDICT (R60). -/
inductive VerdictResult where
  | matched | mismatch | hold | busy | refused
  deriving DecidableEq, Repr

/-- The results of an ANSWER (Table 11-4). -/
inductive AnswerResult where
  | done | refused | busy | invalid | duplicate | overlap | illegal | lockedEntry
  deriving DecidableEq, Repr

/-- The state of a slot as a summary shows it (Table 11-12). -/
inductive SlotState where
  | empty | active | diverged
  deriving DecidableEq, Repr

/-- The states of the setup record (R194). -/
inductive SetupState where
  | absent | stored | keying | locked
  deriving DecidableEq, Repr

/-- The outcome of an own broadcast frame (R18). -/
inductive SendOutcome where
  | delivered | partially | dropped
  deriving DecidableEq, Repr

/-- The visibility of a range entry (Table 7-5). -/
inductive Visibility where
  | pub | user | admin
  deriving DecidableEq, Repr

/-! ### Line interface -/

/-- The line states of Table 1-3. -/
inductive LineState where
  | tracking | gap | idle | lost
  deriving DecidableEq, Repr

/-- A frame of the transmit queue with its alternation bit and its attempt number (R4, R19). -/
structure TxFrame where
  kind : Kind
  directed : Bool
  target : StationNo
  payload : List Byte
  alt : Bool
  attempt : Nat
  deriving DecidableEq, Repr

/-- A frame of the receive queue (R17). `own` is the outcome of a returned own frame (R18). -/
structure RxFrame where
  kind : Kind
  sender : StationNo
  directed : Bool
  payload : List Byte
  own : Option SendOutcome
  deriving DecidableEq, Repr

/-- An entry of the repeat memory (R16). -/
structure RepeatEntry where
  kind : Kind
  check : Word16
  deriving DecidableEq, Repr

/-- The line interface (Chapter 1). `receipt` says that the station drove its own slot in the receipt character of the last frame: one that it accepted, or one that it sent (R10). -/
structure LineInterface where
  state : LineState
  rx : List RxFrame
  tx : List TxFrame
  onLine : Option (List Byte)
  altUrgent : Bool
  altOther : Bool
  repeatUrgent : Vector (Option RepeatEntry) 8
  repeatOther : Vector (Option RepeatEntry) 8
  headerParity : Bool
  checkFail : Bool
  rxMissed : Bool
  txPartial : Bool
  txDropped : Bool
  settle : Option Micros
  lastDominant : Micros
  inReset : Bool
  sendingReset : Bool
  receipt : Bool
  deriving DecidableEq, Repr

/-! ### Roster unit -/

/-- A slot summary (Table 11-12). `uses` is absent for 0. -/
structure Summary where
  state : SlotState
  gen : Nat
  staged : Bool
  uses : Option Nat
  deriving DecidableEq, Repr

/-- The last record of a guard (Section 2.2). -/
structure GuardRecord where
  epoch : Nat
  serial : Nat
  count : Nat
  phase : Phase
  digest : Word16
  tamper : Bool
  slots : Vector Summary 6
  deriving DecidableEq, Repr

/-- The last record of a roster entry: a guard's report, or the controller's role only. -/
inductive LastRecord where
  | guard (r : GuardRecord)
  | controller
  deriving DecidableEq, Repr

/-- A roster entry other than the own one (Table 2-2). -/
structure RosterEntry where
  presence : Presence
  last : Option LastRecord
  deriving DecidableEq, Repr

/-- The assembly window: when it began and how many of its scheduled sends have been made (R38). -/
structure Window where
  start : Micros
  sends : Nat
  deriving DecidableEq, Repr

/-- The roster unit (Chapter 2). -/
structure RosterUnit where
  sn : StationNo
  kpd : Bool
  startCause : StartCause
  entries : Vector RosterEntry 8
  window : Option Window
  answeredAt : Option Micros
  announce : Option Micros
  announced : Nat
  rollOwed : Bool
  deriving DecidableEq, Repr

/-! ### Slot table values -/

/-- The check value of a token at one station (R75): equal tokens give equal values, tokens that differ give values that differ. -/
structure CheckValue where
  salt : Salt
  token : Token
  deriving DecidableEq, Repr

/-- The wrapping value of a token at one station (R75). -/
structure WrapValue where
  salt : Salt
  token : Token
  deriving DecidableEq, Repr

/-- A channel key sealed under a wrapping value, with its integrity tag (R76). -/
structure WrappedKey where
  sealedUnder : WrapValue
  key : ChannelKey
  deriving DecidableEq, Repr

/-- What an ACTIVE slot or a staged part holds of a credential (Tables 4-1 and 4-2). -/
structure Credential where
  verifier : CheckValue
  wrapped : WrappedKey
  readOnly : Bool
  uses : Option Nat
  deriving DecidableEq, Repr

/-- The state of a slot with what it holds in that state (Table 4-1). -/
inductive SlotBody where
  | empty
  | active (c : Credential)
  | diverged
  deriving DecidableEq, Repr

/-- A staged part (Table 4-2). -/
structure Staged where
  gen : Nat
  cred : Credential
  deriving DecidableEq, Repr

/-- A slot record (Table 4-1). -/
structure Slot where
  gen : Nat
  body : SlotBody
  staged : Option Staged
  deriving DecidableEq, Repr

/-! ### Verifier -/

/-- The attempt record (Table 3-1). -/
structure AttemptRecord where
  epoch : Nat
  serial : Nat
  count : Nat
  deriving DecidableEq, Repr

/-- A verdict filed in the collection (R62). -/
structure Filed where
  result : VerdictResult
  slot : Nat
  count : Nat
  serial : Nat
  deriving DecidableEq, Repr

/-- The own result of an attempt (Table 3-2): a match with its slot and held key, or a mismatch with its increment state. `raisedAt` is the store's count of grants at the raise. -/
inductive OwnResult where
  | matched (slot : SlotNo) (key : ChannelKey)
  | mismatched (stored : Bool) (raisedAt : Nat)
  deriving DecidableEq, Repr

/-- An unlock that waits for the write of its slot (R66). `changedAt` is the store's count of grants at the change. -/
structure HandOverWait where
  slot : SlotNo
  readOnly : Bool
  changedAt : Nat
  deriving DecidableEq, Repr

/-- The current attempt (Table 3-2). -/
structure Attempt where
  origin : StationNo
  seq : Nat
  readOnly : Bool
  own : OwnResult
  window : Option Micros
  filed : Vector (Option Filed) 8
  waiting : Option HandOverWait
  deriving DecidableEq, Repr

/-- The verifier (Chapter 3). -/
structure Verifier where
  held : AttemptRecord
  attempt : Option Attempt
  hold : Option Micros
  deriving DecidableEq, Repr

/-! ### Record store names -/

/-- The requesters of the store, in the order of Table 10-7. -/
inductive Requester where
  | purge | supervisor | verifier | slotTable | gate | roster | setup
  deriving DecidableEq, Repr

/-- The stored records (Table 10-6). -/
inductive RecordId where
  | setup
  | salt
  | attempt
  | slot (i : SlotNo)
  | blankKey
  | range (i : RangeNo)
  | journal
  | badBlocks
  | tamper
  deriving DecidableEq, Repr

/-- The set of changed records of a requester, in the order of their changes; `rechanged` says that the record whose write is in flight was changed after its grant (R74, R112, R155). -/
structure WriteSet where
  changed : List RecordId
  rechanged : Bool
  deriving DecidableEq, Repr

/-! ### Slot table -/

/-- What an answer DONE waits for (R79): the change of a STAGE, an ADOPT, an ADOPT with abandon or a RETIRE. -/
inductive SlotChange where
  | stage | adopt | abandon | retire
  deriving DecidableEq, Repr

/-- An answer DONE that waits for the slot write that stores its change (R79); `first` marks the first adoption of slot 0 in BLANK (R84). `changedAt` is the store's count of grants at the change, `discardedAt` its count when the staged part of a STAGE was discarded. -/
structure SlotWait where
  slot : SlotNo
  gen : Nat
  change : SlotChange
  first : Bool
  replyTo : StationNo
  changedAt : Nat
  discardedAt : Option Nat
  deriving DecidableEq, Repr

/-- The enrollment record of the keypad station (R86). An answer place holds the result code of the answer filed. -/
structure Enrollment where
  slot : Nat
  gen : Nat
  fromBlank : Bool
  timer : Option Micros
  places : Vector (Option Byte) 8
  deriving DecidableEq, Repr

/-- The slot table (Chapter 4). -/
structure SlotTable where
  slots : Vector Slot 6
  salt : Salt
  blankKey : Option ChannelKey
  unlockedKey : Option ChannelKey
  writes : WriteSet
  waits : List SlotWait
  enrollment : Option Enrollment
  slotDiverged : Bool
  deriving DecidableEq, Repr

/-! ### Phase controller and key port -/

/-- The phase controller (Chapter 5). -/
structure PhaseController where
  phase : Phase
  grant : Grant
  attachWindow : Option Micros
  deriving DecidableEq, Repr

/-- The states of the key port (Table 5-6). -/
inductive KeyPortState where
  | clear | shiftingKey | presented | shiftingZero
  deriving DecidableEq, Repr

/-- The key port (Section 5.7). A shift under way ends at `shiftDue`. `lastBit` is the bit of a stopped key shift that stays on KDAT until its time is over, and `sent` counts the key bits that the cipher has received by the end or the stop of the last key shift (R108). -/
structure KeyPort where
  state : KeyPortState
  presented : ChannelKey
  shiftDue : Option Micros
  waiting : Bool
  lastBit : Option Bool
  sent : Nat
  deriving DecidableEq, Repr

/-! ### Purge engine -/

/-- The purge journal (Table 6-1). -/
structure Journal where
  isOpen : Bool
  target : Option Nat
  cause : Option PurgeCause
  stage : Option PurgeStage
  nextBlock : Nat
  eraseIncomplete : Bool
  listFull : Bool
  deriving DecidableEq, Repr

/-- A controller that waits for DONE on its PURGE, with the target it named (R119). -/
structure PurgeReply where
  replyTo : StationNo
  target : Nat
  deriving DecidableEq, Repr

/-- The purge engine (Chapter 6). -/
structure PurgeEngine where
  journal : Journal
  badBlocks : List Nat
  nextBlock : Nat
  writes : WriteSet
  plan : List RecordId
  begun : Bool
  closing : Bool
  suspended : Bool
  heard : Vector Bool 8
  reoffer : Option Micros
  reoffered : Nat
  pendingTarget : Option Nat
  waits : List PurgeReply
  deriving DecidableEq, Repr

/-! ### Channel gate -/

/-- A range entry (Table 7-5). -/
structure RangeEntry where
  enabled : Bool
  base : Nat
  limit : Nat
  read : Bool
  write : Bool
  visibility : Visibility
  lock : Bool
  deriving DecidableEq, Repr

/-- The sides of the channel (R139). -/
inductive Side where
  | controller | guard | none
  deriving DecidableEq, Repr

/-- The hand-over states (Table 7-4). The drain of a CONTROLLER holder has a timer, the others have none. -/
inductive HandOver where
  | steady
  | draining (due : Option Micros)
  | resetting
  | settling (due : Micros)
  deriving DecidableEq, Repr

/-- The controller command (Table 7-1). `code` is the opening cycle held while the address is taken, and `denyHeld` says that DENY has stayed low since the denied command before it (R145), `inDrain` that its opening cycle was read during the drain of a CONTROLLER holder, so that it is to be denied (R148); `driven` the command and address cycles replayed and forwarded to the channel side (R144); `ended` marks a passed command that has ended and whose flash operation is not seen ready. -/
inductive ControllerCommand where
  | idle
  | takingAddress (code : Byte) (denyHeld inDrain : Bool)
  | passed (driven : List Byte) (ended : Bool)
  | denied
  deriving DecidableEq, Repr

/-- Why a recovery reset was issued (R150). -/
inductive ResetReason where
  | drain
  | erase (block : Nat)
  | periodic
  deriving DecidableEq, Repr

/-- The gate's own work in flight on the channel (R150, R151), with the end of its 20 ms wait. -/
inductive ChannelOp where
  | eraseStep (block : Nat) (due : Micros)
  | recoveryReset (reason : ResetReason) (due : Micros)
  deriving DecidableEq, Repr

/-- An answer DONE that waits for a range write (R158). -/
structure RangeWait where
  index : RangeNo
  replyTo : StationNo
  changedAt : Nat
  deriving DecidableEq, Repr

/-- The channel gate (Table 7-1). `driven` holds the cycles of the gate's own operation that it drove last on the channel side (Table 11-20). -/
structure Gate where
  ranges : Vector RangeEntry 8
  writes : WriteSet
  waits : List RangeWait
  owner : Side
  holder : Side
  handOver : HandOver
  command : ControllerCommand
  flashBusy : Bool
  op : Option ChannelOp
  driven : List Byte
  faultCount : Nat
  channelFault : Bool
  faultPeriod : Option Micros
  periodicDue : Bool
  grant : Grant
  gateDenied : Bool
  stepTimeout : Bool
  deriving DecidableEq, Repr

/-! ### Keypad scanner -/

/-- The key states of R162. -/
inductive KeyState where
  | idle
  | settling (key : Key) (due : Micros)
  | held (key : Key)
  | blocked
  deriving DecidableEq, Repr

/-- The mode kinds of Table 8-1. -/
inductive ModeKind where
  | user | adminPin | blank
  deriving DecidableEq, Repr

/-- The sequence states of Table 8-1, each with its own data and the due time of its timer. -/
inductive SeqState where
  | entry
  | pending (token : Token) (readOnly : Bool) (due : Micros)
  | lockTiming (due : Micros)
  | adminPrefix (selector : Option (Fin 10)) (due : Micros)
  | modeFirst (kind : ModeKind) (due : Micros)
  | modeSecond (kind : ModeKind) (first : Token) (due : Micros)
  | purgeConfirm (due : Micros)
  deriving DecidableEq, Repr

/-- The transient patterns of Table 8-4. -/
inductive Transient where
  | amber | red | green
  deriving DecidableEq, Repr

/-- The keypad scanner (Table 8-1). -/
structure Scanner where
  key : KeyState
  digits : List (Fin 10)
  overlong : Bool
  readOnly : Bool
  seq : SeqState
  entrySeq : Nat
  idle : Option Micros
  transient : Option (Transient × Micros)
  deriving DecidableEq, Repr

/-! ### Supply supervisor -/

/-- The cell bands of Table 9-2. -/
inductive Band where
  | good | low | floor | cutoff
  deriving DecidableEq, Repr

/-- The supply supervisor (Table 9-1). The power state is ACTIVE_BUS or ACTIVE_CELL by the attach state unless DORMANT. -/
structure Supervisor where
  supplyValid : Bool
  dormant : Bool
  attached : Bool
  band : Band
  tamperAsserted : Bool
  tampered : Bool
  haltMark : Bool
  deriving DecidableEq, Repr

/-! ### Setup logic and record store -/

/-- The tamper policies of Table 10-1. -/
inductive TamperPolicy where
  | lock | purge
  deriving DecidableEq, Repr

/-- The fault policies of Table 10-1. -/
inductive FaultPolicy where
  | self | all
  deriving DecidableEq, Repr

/-- The setup record (Table 10-1). Bit n of `members` is set for station n. -/
structure SetupRecord where
  members : Byte
  controller : Option StationNo
  keypad : StationNo
  failureLimit : Nat
  retryLimit : Nat
  minDigits : Nat
  hostEntry : Bool
  hostAdmin : Bool
  tamperPolicy : TamperPolicy
  faultPolicy : FaultPolicy
  blocks : Nat
  pagesPerBlock : Nat
  locked : Bool
  deriving DecidableEq, Repr

/-- The setup and status logic (Chapter 10). -/
structure SetupLogic where
  state : SetupState
  held : Option SetupRecord
  keyingLeft : List RecordId
  replyTo : StationNo
  deriving DecidableEq, Repr

/-- A record together with contents for it. -/
inductive Contents where
  | setup (r : Option SetupRecord)
  | salt (v : Salt)
  | attempt (r : AttemptRecord)
  | slot (i : SlotNo) (r : Slot)
  | blankKey (k : Option ChannelKey)
  | range (i : RangeNo) (e : RangeEntry)
  | journal (j : Journal)
  | badBlocks (l : List Nat)
  | tamper (t : Bool)
  deriving DecidableEq, Repr

/-- The stored records (Table 10-6). -/
structure Stored where
  setup : Option SetupRecord
  salt : Salt
  attempt : AttemptRecord
  slots : Vector Slot 6
  blankKey : Option ChannelKey
  ranges : Vector RangeEntry 8
  journal : Journal
  badBlocks : List Nat
  tamper : Bool
  deriving DecidableEq, Repr

/-- The write in flight: its requester, the contents it took at the grant, and the number of the grant (R206). -/
structure InFlight where
  requester : Requester
  contents : Contents
  serial : Nat
  deriving DecidableEq, Repr

/-- The pending requests, at most one for each requester (R206). -/
structure Requests where
  purge : Option RecordId
  supervisor : Option RecordId
  verifier : Option RecordId
  slotTable : Option RecordId
  gate : Option RecordId
  roster : Option RecordId
  setup : Option RecordId
  deriving DecidableEq, Repr

/-- The record store (Section 10.4). -/
structure Store where
  stored : Stored
  inFlight : Option InFlight
  requests : Requests
  grants : Nat
  deciding : Bool
  deriving DecidableEq, Repr

/-! ### The station -/

/-- The state of one station, with the commands that wait for it (log entry 1). -/
structure State where
  pending : List Instr
  clock : Micros
  draws : Nat
  line : LineInterface
  roster : RosterUnit
  verifier : Verifier
  slotTable : SlotTable
  phaseCtl : PhaseController
  keyPort : KeyPort
  purge : PurgeEngine
  gate : Gate
  scanner : Scanner
  supervisor : Supervisor
  setup : SetupLogic
  store : Store
  deriving DecidableEq, Repr

/-- No command of this part stops the station: the spec gives every step an effect, so there is no fault to raise. -/
inductive Fault where
  deriving DecidableEq, Repr

/-- Why a command is turned away. -/
inductive Refusal where
  /-- Raised by an arm of exec whose command has no meaning yet; safe. No arm raises it. -/
  | notModelled (mnemonic : String)
  deriving DecidableEq, Repr

/-- An EMPTY slot at generation 0 with no staged part (R73, R123, R198). -/
def Slot.cleared : Slot := ⟨0, .empty, none⟩

/-- A disabled range entry as the default table has it (R155). -/
def RangeEntry.disabled : RangeEntry := ⟨false, 0, 0, false, false, .user, false⟩

/-- The journal as initial keying writes it (R110). -/
def Journal.closed : Journal := ⟨false, none, none, none, 0, false, false⟩

/-- An empty set of changed records. -/
def WriteSet.none : WriteSet := ⟨[], false⟩

/-- No request pending. -/
def Requests.none : Requests := ⟨.none, .none, .none, .none, .none, .none, .none⟩

/-- An absent roster entry (R34). -/
def RosterEntry.absent : RosterEntry := ⟨.absent, none⟩

/-- The store of a new part (R205): the setup record absent, the tamper flag clear, the other records not yet written (their values here are read by no rule, log entry 10). -/
def Stored.newPart : Stored where
  setup := none
  salt := 0
  attempt := ⟨0, 0, 0⟩
  slots := Vector.replicate 6 Slot.cleared
  blankKey := none
  ranges := Vector.replicate 8 RangeEntry.disabled
  journal := Journal.closed
  badBlocks := []
  tamper := false

/-- The station right after the first power-up of a new part (the power-up columns of Tables 7-1, 8-1 and 9-1, R25, R34, R93, R106, R194, R205).
The pins stand at the values of log entry 8: straps at station 0 with KPD low, attached, cell GOOD. -/
def State.reset : State where
  pending := []
  clock := 0
  draws := 0
  line :=
    { state := .lost, rx := [], tx := [], onLine := none, altUrgent := false, altOther := false
      repeatUrgent := Vector.replicate 8 none, repeatOther := Vector.replicate 8 none
      headerParity := false, checkFail := false, rxMissed := false, txPartial := false, txDropped := false
      settle := some 20000, lastDominant := 0, inReset := false, sendingReset := false, receipt := false }
  roster :=
    { sn := 0, kpd := false, startCause := .power, entries := Vector.replicate 8 RosterEntry.absent
      window := none, answeredAt := none, announce := none, announced := 0, rollOwed := false }
  verifier := { held := ⟨0, 0, 0⟩, attempt := none, hold := none }
  slotTable :=
    { slots := Vector.replicate 6 Slot.cleared, salt := 0, blankKey := none, unlockedKey := none
      writes := WriteSet.none, waits := [], enrollment := none, slotDiverged := false }
  phaseCtl := { phase := .uncommissioned, grant := .none, attachWindow := none }
  keyPort := { state := .clear, presented := 0, shiftDue := none, waiting := false, lastBit := none, sent := 0 }
  purge :=
    { journal := Journal.closed, badBlocks := [], nextBlock := 0, writes := WriteSet.none, plan := []
      begun := false, closing := false, suspended := false, heard := Vector.replicate 8 false
      reoffer := none, reoffered := 0, pendingTarget := none, waits := [] }
  gate :=
    { ranges := Vector.replicate 8 RangeEntry.disabled, writes := WriteSet.none, waits := []
      owner := .none, holder := .none, handOver := .settling 1000, command := .idle, flashBusy := false
      op := none, driven := [], faultCount := 0, channelFault := false, faultPeriod := none, periodicDue := false
      grant := .none, gateDenied := false, stepTimeout := false }
  scanner :=
    { key := .idle, digits := [], overlong := false, readOnly := false, seq := .entry, entrySeq := 0
      idle := none, transient := none }
  supervisor :=
    { supplyValid := true, dormant := false, attached := true, band := .good, tamperAsserted := false
      tampered := false, haltMark := false }
  setup := { state := .absent, held := none, keyingLeft := [], replyTo := 0 }
  store :=
    { stored := Stored.newPart, inFlight := none, requests := Requests.none, grants := 0, deciding := false }

end Sys2Proof.Machine
end

