-- ==== Sys2Proof/Machine/Operands.lean ====
section
/-! DEFINITION. The layouts of Chapter 11: kinds and lengths, header, parity and check value, field codes, the fields of every payload, and the opening codes of flash commands. -/

namespace Sys2Proof.Machine

/-! ### Bytes and fields -/

/-- A number as one byte. -/
def byte (n : Nat) : Byte := BitVec.ofNat 8 n

/-- A number as two bytes, most significant byte first (Chapter 11). -/
def bytes2 (n : Nat) : List Byte := [byte (n / 256), byte n]

/-- A number as four bytes, most significant byte first (Chapter 11). -/
def bytes4 (n : Nat) : List Byte := [byte (n / 16777216), byte (n / 65536), byte (n / 256), byte n]

/-- A token as eight bytes, most significant byte first (Tables 11-10 and 11-13). -/
def tokenBytes (t : Token) : List Byte :=
  [t.extractLsb' 56 8, t.extractLsb' 48 8, t.extractLsb' 40 8, t.extractLsb' 32 8,
   t.extractLsb' 24 8, t.extractLsb' 16 8, t.extractLsb' 8 8, t.extractLsb' 0 8]

/-- Byte i of a payload. -/
def byteAt (p : List Byte) (i : Nat) : Byte := p.getD i 0

/-- Byte i of a payload, as a number. -/
def u8 (p : List Byte) (i : Nat) : Nat := (byteAt p i).toNat

/-- The two-byte field at byte i, most significant byte first. -/
def u16 (p : List Byte) (i : Nat) : Nat := u8 p i * 256 + u8 p (i + 1)

/-- The four-byte field at byte i, most significant byte first. -/
def u32 (p : List Byte) (i : Nat) : Nat := u16 p i * 65536 + u16 p (i + 2)

/-- The token at bytes i to i + 7 of a payload. -/
def tokenAt (p : List Byte) (i : Nat) : Token := BitVec.ofNat 64 (u32 p i * 4294967296 + u32 p (i + 4))

/-- Bit b of byte i of a payload. -/
def bitAt (p : List Byte) (i b : Nat) : Bool := (byteAt p i).getLsbD b

/-- The station number in the low three bits of a byte. -/
def stationOf (b : Byte) : StationNo := (b.extractLsb' 0 3).toFin

/-- 1 for true, 0 for false. -/
def bit (b : Bool) : Nat := if b then 1 else 0

/-- The eight station numbers. -/
def stations : List StationNo := [0, 1, 2, 3, 4, 5, 6, 7]

/-- The six slot numbers. -/
def slotNumbers : List SlotNo := [0, 1, 2, 3, 4, 5]

/-- The eight range indexes. -/
def rangeNumbers : List RangeNo := [0, 1, 2, 3, 4, 5, 6, 7]

/-- The slot number that a number names, if it is 0 to 5. -/
def slotNo? (n : Nat) : Option SlotNo := if h : n < 6 then some ⟨n, h⟩ else none

/-- The range index that a number names, if it is 0 to 7. -/
def rangeNo? (n : Nat) : Option RangeNo := if h : n < 8 then some ⟨n, h⟩ else none

/-! ### Kinds (Table 11-3) -/

/-- The code of a kind. -/
def Kind.code : Kind → Nat
  | .purge => 2 | .lock => 3 | .purged => 4 | .verdict => 5 | .entry => 6 | .roll => 8 | .stage => 10 | .adopt => 11
  | .retire => 12 | .answer => 14 | .range => 16 | .query => 18 | .status => 19 | .clear => 20 | .setup => 24 | .setupLock => 25

/-- The kind of a code, if it is known (R14). -/
def Kind.ofCode : Nat → Option Kind
  | 2 => some .purge | 3 => some .lock | 4 => some .purged | 5 => some .verdict | 6 => some .entry | 8 => some .roll
  | 10 => some .stage | 11 => some .adopt | 12 => some .retire | 14 => some .answer | 16 => some .range | 18 => some .query
  | 19 => some .status | 20 => some .clear | 24 => some .setup | 25 => some .setupLock
  | _ => none

/-- The legal payload lengths of a kind. -/
def Kind.lengths : Kind → List Nat
  | .purge => [3] | .lock => [1] | .purged => [4] | .verdict => [9] | .entry => [12] | .roll => [2, 36] | .stage => [13]
  | .adopt => [4] | .retire => [3] | .answer => [5] | .range => [6] | .query => [0] | .status => [21] | .clear => [2]
  | .setup => [10] | .setupLock => [0]

/-- Whether a kind is directed. -/
def Kind.directed : Kind → Bool
  | .answer | .range | .query | .status | .clear | .setup | .setupLock => true
  | .purge | .lock | .purged | .verdict | .entry | .roll | .stage | .adopt | .retire => false

/-- A frame is urgent when its kind is PURGE or LOCK (R19). -/
def Kind.urgent : Kind → Bool
  | .purge | .lock => true
  | .purged | .verdict | .entry | .roll | .stage | .adopt | .retire | .answer | .range | .query | .status | .clear
  | .setup | .setupLock => false

/-! ### Header and check (R4, R209) -/

/-- One byte through the 16-bit cyclic check with generator x^16 + x^12 + x^5 + 1, most significant bit first. -/
def crcByte (r : Word16) (b : Byte) : Word16 :=
  let shift := fun (r : Word16) => if r.getLsbD 15 then (r <<< 1) ^^^ 0x1021 else r <<< 1
  shift (shift (shift (shift (shift (shift (shift (shift (r ^^^ (b.zeroExtend 16 <<< 8)))))))))

/-- The check function: preset FFFFh, no final inversion (R209). -/
def crc (bytes : List Byte) : Word16 := bytes.foldl crcByte 0xFFFF

/-- The check value of a frame: header characters with the attempt-number bits and the parity bit taken as 0, then the payload (R209). -/
def checkOf (head0 head1 head2 : Byte) (payload : List Byte) : Word16 :=
  crc (head0 :: (head1 &&& 0xF3) :: (head2 &&& 0xFE) :: payload)

/-- Whether the count of 1 bits over the three header characters is odd (R13). -/
def oddHeader (head0 head1 head2 : Byte) : Bool := oddOnes head0 ^^ oddOnes head1 ^^ oddOnes head2

/-- Header character 0: the kind and the sender's number (Table 11-2). -/
def headChar0 (kind : Kind) (sender : StationNo) : Byte := byte (kind.code * 8 + sender.val)

/-- Header character 1: directed flag, target number, attempt number and alternation bit (Table 11-2). The target of a broadcast frame is sent as 0 (R4). -/
def headChar1 (f : TxFrame) : Byte :=
  byte (bit f.directed * 128 + (if f.directed then f.target.val else 0) * 16 + f.attempt % 4 * 4 + bit f.alt * 2)

/-- Header character 2: the payload length and the parity bit that makes the count of 1 bits even (R209). -/
def headChar2 (head0 head1 : Byte) (length : Nat) : Byte :=
  let plain := byte (length * 4)
  if oddHeader head0 head1 plain then plain ||| 1 else plain

/-- The characters of an attempt: header, payload and check (R4). -/
def TxFrame.characters (f : TxFrame) (sender : StationNo) : List Byte :=
  let h0 := headChar0 f.kind sender
  let h1 := headChar1 f
  let h2 := headChar2 h0 h1 f.payload.length
  let c := checkOf h0 h1 h2 f.payload
  h0 :: h1 :: h2 :: f.payload ++ [c.extractLsb' 8 8, c.extractLsb' 0 8]

/-! ### Field codes (Table 11-4) -/

def Role.code : Role → Nat
  | .guard => 0 | .keypadGuard => 1 | .controller => 2 | .none => 3

def Role.ofCode : Nat → Role
  | 0 => .guard | 1 => .keypadGuard | 2 => .controller | _ => .none

def Phase.code : Phase → Nat
  | .uncommissioned => 0 | .halted => 1 | .assembling => 2 | .incomplete => 3 | .blank => 4 | .locked => 5
  | .verifying => 6 | .unlocked => 7 | .purging => 8 | .purgeWait => 9

def Phase.ofCode : Nat → Option Phase
  | 0 => some .uncommissioned | 1 => some .halted | 2 => some .assembling | 3 => some .incomplete | 4 => some .blank
  | 5 => some .locked | 6 => some .verifying | 7 => some .unlocked | 8 => some .purging | 9 => some .purgeWait
  | _ => none

def StartCause.code : StartCause → Nat
  | .power => 0 | .wake => 1 | .reseat => 2

/-- The purge stage code; none stands for NONE. -/
def stageCode : Option PurgeStage → Nat
  | none => 0 | some .destroy => 1 | some .erase => 2 | some .rekey => 3 | some .close => 4

def PurgeCause.code : PurgeCause → Nat
  | .limit => 0 | .request => 1 | .tamper => 2 | .epoch => 3

def PurgeCause.ofCode : Nat → Option PurgeCause
  | 0 => some .limit | 1 => some .request | 2 => some .tamper | 3 => some .epoch | _ => none

def LockCause.code : LockCause → Nat
  | .key => 0 | .request => 1 | .fault => 2

def LockCause.ofCode : Nat → Option LockCause
  | 0 => some .key | 1 => some .request | 2 => some .fault | _ => none

def SlotState.code : SlotState → Nat
  | .empty => 0 | .active => 1 | .diverged => 2

def SlotState.ofCode : Nat → Option SlotState
  | 0 => some .empty | 1 => some .active | 2 => some .diverged | _ => none

def VerdictResult.code : VerdictResult → Nat
  | .matched => 0 | .mismatch => 1 | .hold => 2 | .busy => 3 | .refused => 4

def VerdictResult.ofCode : Nat → Option VerdictResult
  | 0 => some .matched | 1 => some .mismatch | 2 => some .hold | 3 => some .busy | 4 => some .refused | _ => none

def AnswerResult.code : AnswerResult → Nat
  | .done => 0 | .refused => 1 | .busy => 2 | .invalid => 3 | .duplicate => 4 | .overlap => 6 | .illegal => 7 | .lockedEntry => 8

def Grant.kindCode : Grant → Nat
  | .none => 0 | .pub => 1 | .user _ _ => 2 | .admin _ _ => 3

def Visibility.ofCode : Nat → Option Visibility
  | 0 => some .pub | 1 => some .user | 2 => some .admin | _ => none

def SetupState.code : SetupState → Nat
  | .absent => 0 | .stored => 1 | .keying => 2 | .locked => 3

/-- Pages per block of a code (Table 11-4). -/
def pagesOfCode : Nat → Option Nat
  | 0 => some 64 | 1 => some 128 | 2 => some 256 | _ => none

/-! ### Payloads as read -/

/-- A ROLL as read (Table 11-11): a guard's, with its role and report, or the controller's. -/
inductive RollFields where
  | guard (role : Role) (r : GuardRecord)
  | controller
  deriving DecidableEq, Repr

/-- The summary at byte i (Table 11-12), if its codes are named (R210). -/
def summaryAt (p : List Byte) (i : Nat) : Option Summary :=
  match SlotState.ofCode (u8 p i / 64) with
  | none => none
  | some st =>
    if 99 < u8 p (i + 3) then none
    else some ⟨st, u16 p (i + 1), bitAt p i 5, if u8 p (i + 3) = 0 then none else some (u8 p (i + 3))⟩

/-- The six summaries of a guard's ROLL. -/
def summariesOf (p : List Byte) : Option (Vector Summary 6) :=
  match summaryAt p 12, summaryAt p 16, summaryAt p 20, summaryAt p 24, summaryAt p 28, summaryAt p 32 with
  | some a, some b, some c, some d, some e, some f => some #v[a, b, c, d, e, f]
  | _, _, _, _, _, _ => none

/-- The fields of a ROLL, if its length fits its role and every field is within its codes (R210). -/
def readRoll (p : List Byte) : Option RollFields :=
  let role := Role.ofCode (u8 p 0 / 64)
  if p.length = 2 then
    if role = .controller then some .controller else none
  else if p.length = 36 then
    if role = .guard ∨ role = .keypadGuard then
      if u8 p 0 / 16 % 4 = 3 ∨ 4 < u8 p 0 % 8 ∨ 100 < u8 p 9 then none
      else
        match Phase.ofCode (u8 p 8 / 16), summariesOf p with
        | some ph, some sums =>
          some (.guard role ⟨u16 p 1, u32 p 3, u8 p 7, ph, BitVec.ofNat 16 (u16 p 10), bitAt p 0 3, sums⟩)
        | _, _ => none
    else none
  else none

/-- The fields of a VERDICT (Table 11-9). -/
structure VerdictFields where
  origin : StationNo
  seq : Nat
  filed : Filed
  deriving DecidableEq, Repr

/-- The fields of a VERDICT, if its result is named and its slot is 0 to 5 (R210): a slot above 5 takes the frame out whatever its result, though only a MATCH has its slot read (R60; log entry 62). -/
def readVerdict (p : List Byte) : Option VerdictFields :=
  match VerdictResult.ofCode (u8 p 2) with
  | none => none
  | some r => if 5 < u8 p 3 then none else some ⟨stationOf (byteAt p 0), u8 p 1, ⟨r, u8 p 3, u8 p 4, u32 p 5⟩⟩

/-- The fields of an ENTRY (Table 11-10). -/
structure EntryFields where
  seq : Nat
  epoch : Nat
  readOnly : Bool
  token : Token
  deriving DecidableEq, Repr

def readEntry (p : List Byte) : EntryFields := ⟨u8 p 0, u16 p 1, bitAt p 3 7, tokenAt p 4⟩

/-- The fields of a STAGE (Table 11-13). -/
structure StageFields where
  slot : Nat
  gen : Nat
  readOnly : Bool
  uses : Option Nat
  token : Token
  deriving DecidableEq, Repr

def readStage (p : List Byte) : StageFields :=
  ⟨u8 p 0, u16 p 1, bitAt p 3 7, if bitAt p 3 6 then some (u8 p 4) else none, tokenAt p 5⟩

/-- The abandon flag of an ADOPT (Table 11-14). -/
def abandonFlag (p : List Byte) : Bool := bitAt p 3 7

/-- The fields of a RANGE (Table 11-16). -/
structure RangeFields where
  index : Nat
  base : Nat
  limit : Nat
  read : Bool
  write : Bool
  lock : Bool
  visibility : Option Visibility
  deriving DecidableEq, Repr

def readRange (p : List Byte) : RangeFields :=
  ⟨u8 p 0, u16 p 1, u16 p 3, bitAt p 5 7, bitAt p 5 6, bitAt p 5 5, Visibility.ofCode (u8 p 5 / 8 % 4)⟩

/-! ### Payloads as formed -/

/-- The slot's record is ACTIVE. -/
def Slot.isActive (sl : Slot) : Bool :=
  match sl.body with
  | .active _ => true
  | .empty | .diverged => false

/-- The slot holds an ACTIVE record of a generation. -/
def Slot.activeAt (sl : Slot) (gen : Nat) : Bool := sl.isActive && sl.gen = gen

/-- A slot's state as a summary shows it. -/
def SlotBody.state : SlotBody → SlotState
  | .empty => .empty | .active _ => .active | .diverged => .diverged

/-- The uses count of a slot, if it holds one. -/
def Slot.uses (sl : Slot) : Option Nat :=
  match sl.body with
  | .active c => c.uses
  | .empty | .diverged => none

/-- The summary of a slot (R37, R89). -/
def Slot.summary (sl : Slot) : Summary := ⟨sl.body.state, sl.gen, sl.staged.isSome, sl.uses⟩

/-- The bytes of a summary (Table 11-12). -/
def Summary.bytes (m : Summary) : List Byte :=
  byte (m.state.code * 64 + bit m.staged * 32) :: bytes2 m.gen ++ [byte (m.uses.getD 0)]

/-- The drive-wide bytes of a setup record, bytes 0 to 6 of its SETUP payload (Table 11-17). A controller that is not named is encoded as 00h, and the bits of bytes 1 and 2 to which the table gives no value are 0, whatever the SETUP carried (log entry 35). -/
def SetupRecord.driveBytes (r : SetupRecord) : List Byte :=
  [r.members,
   (match r.controller with
    | some n => byte (128 + n.val)
    | none => 0),
   byte r.keypad.val, byte r.failureLimit, byte r.retryLimit, byte r.minDigits,
   byte (bit r.hostEntry * 128 + bit r.hostAdmin * 64 + bit (r.tamperPolicy = .purge) * 32 + bit (r.faultPolicy = .all) * 16)]

/-- The setup digest of a record (R195, R209). -/
def SetupRecord.digest (r : SetupRecord) : Word16 := crc r.driveBytes

/-! ### Flash opening codes (Table 11-19) -/

/-- The classes of controller commands (R141). -/
inductive CommandClass where
  | read | program | erase | control
  deriving DecidableEq, Repr

/-- The class of an opening code. -/
def classOf (code : Byte) : CommandClass :=
  if code = 0x00 ∨ code = 0x05 then .read
  else if code = 0x80 ∨ code = 0x85 then .program
  else if code = 0x60 then .erase
  else .control

/-- The row address of three row cycles, low cycle first (R142). -/
def rowAddress (row0 row1 row2 : Byte) : Nat := row0.toNat + row1.toNat * 256 + row2.toNat * 65536

/-! ### Cycles driven by the gate (Table 11-20) -/

/-- The three row cycles of a row address, low cycle first. -/
def rowCycles (row : Nat) : List Byte := [byte row, byte (row / 256), byte (row / 65536)]

/-- The cycles of the erase of block n: its opening code, the row of its first page, and the confirm (R125, R151). -/
def eraseCycles (n pagesPerBlock : Nat) : List Byte := 0x60 :: rowCycles (n * pagesPerBlock) ++ [0xD0]

/-- The command cycle of the status read that ends an erase step (R151). -/
def statusCycles : List Byte := [0x70]

/-- The cycle of a recovery reset (R150). -/
def resetCycles : List Byte := [0xFF]

end Sys2Proof.Machine
end

