-- ==== Sys2Proof/Machine/Update.lean ====
section
/-! DEFINITION. One update per part of the state: every operation changes the state through these. -/

namespace Sys2Proof.Machine

/-- The state with its pending replaced. -/
def State.setPending (s : State) (v : List Instr) : State := { s with pending := v }

/-- The state with its clock replaced. -/
def State.setClock (s : State) (v : Micros) : State := { s with clock := v }

/-- The state with its draws replaced. -/
def State.setDraws (s : State) (v : Nat) : State := { s with draws := v }

/-- The state with its line replaced. -/
def State.setLine (s : State) (v : LineInterface) : State := { s with line := v }

/-- The state with its roster replaced. -/
def State.setRoster (s : State) (v : RosterUnit) : State := { s with roster := v }

/-- The state with its verifier replaced. -/
def State.setVerifier (s : State) (v : Verifier) : State := { s with verifier := v }

/-- The state with its slotTable replaced. -/
def State.setSlotTable (s : State) (v : SlotTable) : State := { s with slotTable := v }

/-- The state with its phaseCtl replaced. -/
def State.setPhaseCtl (s : State) (v : PhaseController) : State := { s with phaseCtl := v }

/-- The state with its keyPort replaced. -/
def State.setKeyPort (s : State) (v : KeyPort) : State := { s with keyPort := v }

/-- The state with its purge replaced. -/
def State.setPurge (s : State) (v : PurgeEngine) : State := { s with purge := v }

/-- The state with its gate replaced. -/
def State.setGate (s : State) (v : Gate) : State := { s with gate := v }

/-- The state with its scanner replaced. -/
def State.setScanner (s : State) (v : Scanner) : State := { s with scanner := v }

/-- The state with its supervisor replaced. -/
def State.setSupervisor (s : State) (v : Supervisor) : State := { s with supervisor := v }

/-- The state with its setup replaced. -/
def State.setSetup (s : State) (v : SetupLogic) : State := { s with setup := v }

/-- The state with its store replaced. -/
def State.setStore (s : State) (v : Store) : State := { s with store := v }

end Sys2Proof.Machine
end

