-- ==== Sys2Proof/Machine/Timing.lean ====
section
/-! DEFINITION. The stated times, in microseconds, and the tables that give one. -/

namespace Sys2Proof.Machine

/-- A number of milliseconds. -/
def ms (n : Nat) : Micros := n * 1000

/-- A number of seconds. -/
def seconds (n : Nat) : Micros := n * 1000000

/-- The start settle (R30). -/
def startSettle : Micros := ms 20

/-- The spacing of the scheduled sends of the assembly window, and the window (R38). -/
def windowSend : Micros := ms 100
def assemblyWindow : Micros := ms 300

/-- The answer limit (R39). -/
def answerLimit : Micros := ms 500

/-- The re-announcement and re-offer period, and the length of their runs (R40, R117). -/
def announcePeriod : Micros := seconds 2
def runLength : Nat := 15

/-- The verdict window (R61). -/
def verdictWindow : Micros := ms 250

/-- The collection timer of an enrollment (R86). -/
def collectionTime : Micros := ms 500

/-- The attach window (R103). -/
def attachWindowTime : Micros := seconds 30

/-- The bits of the channel key, the time of one bit at the key port, and a full shift (R107). -/
def keyBits : Nat := 256
def bitTime : Micros := 2
def shiftTime : Micros := 512

/-- The wait for flash ready of a drain, an erase step and a recovery reset (R148, R150, R151). -/
def readyWait : Micros := ms 20

/-- The settle of a hand-over (R149). -/
def handOverSettle : Micros := ms 1

/-- The fault period (R153). -/
def faultPeriodTime : Micros := seconds 1

/-- The debounce of a key (R162). -/
def keyDebounce : Micros := ms 20

/-- The scanner's timers (Table 8-1) and the length of a transient (Table 8-4). -/
def idleTime : Micros := seconds 10
def pendingTime : Micros := seconds 2
def lockTime : Micros := seconds 2
def prefixTime : Micros := seconds 5
def modeTime : Micros := seconds 20
def confirmTime : Micros := seconds 5
def transientTime : Micros := seconds 2

/-- The line silence that dormancy needs (R190). -/
def lineSilence : Micros := seconds 10

/-- The hold duration for a failure count (Table 3-7); none for a count of 0 to 2. -/
def holdDuration (count : Nat) : Option Micros :=
  if count < 3 then none
  else if count = 3 then some (seconds 5)
  else if count = 4 then some (seconds 10)
  else if count = 5 then some (seconds 20)
  else if count = 6 then some (seconds 40)
  else if count = 7 then some (seconds 80)
  else if count = 8 then some (seconds 160)
  else some (seconds 320)

/-- The cell band of a sample in millivolts (Table 9-2). -/
def bandOf (mv : Nat) : Band :=
  if 3450 ≤ mv then .good else if 3300 ≤ mv then .low else if 3000 ≤ mv then .floor else .cutoff

/-- The order of the bands, CUTOFF lowest. -/
def Band.level : Band → Nat
  | .cutoff => 0 | .floor => 1 | .low => 2 | .good => 3

/-- The higher and the lower of two bands. -/
def Band.higher (a b : Band) : Band := if a.level < b.level then b else a
def Band.lower (a b : Band) : Band := if b.level < a.level then b else a

/-- The move down of R184: when the last three samples lie in lower bands, the highest of the three. -/
def bandDown (current : Band) : List Nat → Option Band
  | c :: b :: a :: _ =>
    let top := (bandOf a).higher ((bandOf b).higher (bandOf c))
    if top.level < current.level then some top else none
  | _ => none

/-- The samples of one second at one each 10 ms (R184). -/
def samplesPerSecond : Nat := 100

/-- The move up of R184: when the samples of the last second lie in higher bands, the lowest of them. -/
def bandUp (current : Band) (newestFirst : List Nat) : Option Band :=
  let last := newestFirst.take samplesPerSecond
  if last.length < samplesPerSecond then none
  else
    let least := last.foldl (fun b mv => b.lower (bandOf mv)) .good
    if current.level < least.level then some least else none

/-- The band after samples, oldest first, from the band in force (R184). -/
def bandAfter (current : Band) (samples : List Nat) : Band :=
  match bandDown current samples.reverse with
  | some b => b
  | none => (bandUp current samples.reverse).getD current

/-- The attach sense at which a DETACHED station becomes ATTACHED, and below which an ATTACHED one becomes DETACHED, in millivolts (R182). -/
def attachLevel : Nat := 4400
def detachLevel : Nat := 4200

/-- The attach state after the sense has stood at a level for 1 ms: between the two levels it keeps its value (R182). -/
def attachAfter (attached : Bool) (sense : Nat) : Bool := if attached then detachLevel ≤ sense else attachLevel ≤ sense

end Sys2Proof.Machine
end

