-- ==== Sys2Proof/Machine/Views.lean ====
section
/-! DEFINITION. What the blocks read of each other: roles, roster entries, the held records, conditions that are computed and not stored, and the outputs. -/

namespace Sys2Proof.Machine

/-- The station is powered and not dormant: its blocks run (R181, R192). -/
def State.awake (s : State) : Bool := s.supervisor.supplyValid && !s.supervisor.dormant

/-- The current phase (R93). -/
@[simp] abbrev State.phase (s : State) : Phase := s.phaseCtl.phase

/-- The station's own number (R28). -/
@[simp] abbrev State.sn (s : State) : StationNo := s.roster.sn

/-! ### Setup record and roles -/

/-- The setup record while the setup state is LOCKED (R33, R194). -/
def State.lockedSetup (s : State) : Option SetupRecord := if s.setup.state = .locked then s.setup.held else none

/-- The record's member set (Table 11-17). -/
def SetupRecord.member (r : SetupRecord) (n : StationNo) : Bool := r.members.getLsbD n.val

/-- The role a record gives a station number (R33). -/
def SetupRecord.roleOf (r : SetupRecord) (n : StationNo) : Role :=
  if r.member n then (if n = r.keypad then .keypadGuard else .guard)
  else if r.controller = some n then .controller
  else .none

/-- The role of a station number at this station; NONE while no locked record is held (R33). -/
def State.roleOf (s : State) (n : StationNo) : Role :=
  match s.lockedSetup with
  | some r => r.roleOf n
  | none => .none

/-- Whether a station number is a member guard. -/
def State.isMember (s : State) (n : StationNo) : Bool := s.roleOf n = .guard ∨ s.roleOf n = .keypadGuard

/-- The member guards of the setup record. -/
def State.members (s : State) : List StationNo := stations.filter s.isMember

/-- The member guards other than this station. -/
def State.others (s : State) : List StationNo := s.members.filter (· ≠ s.sn)

/-- The straps conflict with a setup record (R32). -/
def strapConflict (sn : StationNo) (kpd : Bool) (r : SetupRecord) : Bool :=
  !r.member sn || (kpd && r.keypad ≠ sn) || (!kpd && r.keypad = sn)

/-- The failure limit of the locked record (R49). -/
def State.failureLimit (s : State) : Nat := (s.lockedSetup.map (·.failureLimit)).getD 0

/-- The blocks of the channel, B (Table 10-1). -/
def State.blocks (s : State) : Nat := (s.lockedSetup.map (·.blocks)).getD 0

/-- The pages per block of the channel (Table 10-1). -/
def State.pagesPerBlock (s : State) : Nat := (s.lockedSetup.map (·.pagesPerBlock)).getD 1

/-- The minimum digits of an entry (R165). -/
def State.minDigits (s : State) : Nat := (s.lockedSetup.map (·.minDigits)).getD 0

/-- Host entry and host administration (R53, R78). -/
def State.hostEntry (s : State) : Bool := (s.lockedSetup.map (·.hostEntry)).getD false
def State.hostAdmin (s : State) : Bool := (s.lockedSetup.map (·.hostAdmin)).getD false

/-- The tamper policy is PURGE (R188); no policy while no record is locked. -/
def State.purgesOnTamper (s : State) : Bool := (s.lockedSetup.map fun r => decide (r.tamperPolicy = .purge)).getD false

/-- The fault policy is ALL (R154). -/
def State.faultPolicyAll (s : State) : Bool := (s.lockedSetup.map fun r => decide (r.faultPolicy = .all)).getD false

/-- The retry limit: that of the stored setup record, 3 while none is stored (R21). -/
def State.retryLimit (s : State) : Nat := (s.store.stored.setup.map (·.retryLimit)).getD 3

/-- The setup digest of the held record; 0 when none is held (R195, R201). -/
def State.digest (s : State) : Word16 := (s.setup.held.map (·.digest)).getD 0

/-! ### Attempt record, purge and slots as others see them -/

/-- The station's own epoch (R113). -/
@[simp] abbrev State.epoch (s : State) : Nat := s.verifier.held.epoch

/-- The epoch a ROLL of this station carries (R37). -/
def State.rollEpoch (s : State) : Nat :=
  if s.purge.journal.isOpen then s.purge.journal.target.getD s.epoch else s.epoch

/-- Lexicographic order of pairs of open serial and failure count (Section 2.6). -/
def pairLess (serial1 count1 serial2 count2 : Nat) : Bool := serial1 < serial2 ∨ (serial1 = serial2 ∧ count1 < count2)

/-- The purge stage that progress shows (R135). -/
def State.progressStage (s : State) : Option PurgeStage := if s.purge.journal.isOpen then s.purge.journal.stage else none

/-- The percentage of progress (R135). -/
def State.progressPercent (s : State) : Nat :=
  if s.purge.journal.isOpen then
    match s.purge.journal.stage with
    | some .destroy => 0
    | some .erase => s.purge.nextBlock * 100 / s.blocks
    | some .rekey => 100
    | some .close => 100
    | none => 0
  else 100

/-- The slot record of a number. -/
def State.slotAt (s : State) (i : SlotNo) : Slot := s.slotTable.slots[i]

/-- The six own summaries. -/
def State.summaries (s : State) : Vector Summary 6 :=
  #v[(s.slotAt 0).summary, (s.slotAt 1).summary, (s.slotAt 2).summary, (s.slotAt 3).summary, (s.slotAt 4).summary,
     (s.slotAt 5).summary]

/-! ### Roster -/

/-- The station's current values, which its own entry always holds as last record (R33). -/
def State.ownRecord (s : State) : GuardRecord :=
  ⟨s.rollEpoch, s.verifier.held.serial, s.verifier.held.count, s.phase, s.digest, s.supervisor.tampered, s.summaries⟩

/-- The presence of a roster entry; the own entry is always PRESENT (R33). -/
def State.presence (s : State) (n : StationNo) : Presence := if n = s.sn then .present else s.roster.entries[n].presence

/-- The last record of a guard's entry, if it holds one. -/
def State.lastGuard (s : State) (n : StationNo) : Option GuardRecord :=
  if n = s.sn then some s.ownRecord
  else
    match s.roster.entries[n].last with
    | some (.guard r) => some r
    | some .controller => none
    | none => none

/-- MEMBER_MISSING: some member guard's entry is not PRESENT (R36). -/
def State.memberMissing (s : State) : Bool := s.members.any fun n => s.presence n ≠ .present

/-- The drive shows tamper (R57). -/
def State.showsTamper (s : State) : Bool :=
  s.supervisor.tampered || s.others.any fun n =>
    s.presence n = .present && (match s.lastGuard n with
      | some r => r.tamper
      | none => false)

/-- The required set of a broadcast attempt of this station: every other station marked PRESENT (R11). -/
def State.presentOthers (s : State) : List StationNo :=
  stations.filter fun n => n ≠ s.sn ∧ s.roster.entries[n].presence = .present

/-! ### Hold -/

/-- The time the hold has left (R71). -/
def State.holdRemaining (s : State) : Micros :=
  match s.verifier.hold with
  | some due => due - s.clock
  | none => 0

/-- HOLD_ACTIVE: the hold timer has time remaining (R71, R72). -/
def State.holdActive (s : State) : Bool := 0 < s.holdRemaining

/-! ### Own frames under way -/

/-- An own frame of a kind is in the transmit queue, or has left it and is not yet handled on return (R98, R116, R166). -/
def State.ownOutstanding (s : State) (k : Kind) : Bool :=
  s.line.tx.any (fun f => f.kind = k) || s.line.rx.any (fun f => f.kind = k && f.own.isSome)

/-- An own ROLL is in the transmit queue (R37). -/
def State.ownRollQueued (s : State) : Bool := s.line.tx.any fun f => f.kind = .roll

/-! ### Line silence -/

/-- The time since the line was last read dominant, held at zero while a dominant run of a line reset lasts (R26). -/
def State.sinceDominant (s : State) : Micros :=
  if s.line.inReset || s.line.sendingReset then 0 else s.clock - s.line.lastDominant

/-! ### Gate -/

/-- The gate's owner for a phase, a journal state and a fault state, the rows of Table 7-2 in order (R140). In HALTED with an OPEN journal its first row gives GUARD, where R202 says NONE: the two rules contradict each other there, and the gate follows R140 (log entry 63). -/
def ownerFor (phase : Phase) (journalOpen channelFault : Bool) : Side :=
  if journalOpen then .guard
  else if phase = .halted ∨ phase = .uncommissioned then .none
  else if channelFault then .none
  else .controller

/-- The grant of a phase other than UNLOCKED (Table 5-1). -/
def grantFor : Phase → Grant
  | .assembling | .incomplete | .locked | .verifying => .pub
  | .uncommissioned | .halted | .blank | .unlocked | .purging | .purgeWait => .none

/-- The grant kind is ADMIN. -/
def Grant.isAdmin : Grant → Bool
  | .admin _ _ => true
  | .none | .pub | .user _ _ => false

/-- The gate holds DENY low (the output is active low; State.outputs says when it is driven): a denied command is under way, or one has been followed on at once by a command that is not yet decided (R145, R160; log entry 52). -/
def State.denyLow (s : State) : Bool :=
  match s.gate.command with
  | .denied => true
  | .takingAddress _ held _ => held
  | .idle => false
  | .passed _ _ => false

/-- A passed command lasts: its cycles go through to the channel side (R144). -/
def State.passes (s : State) : Bool :=
  match s.gate.command with
  | .passed _ ended => s.awake && !ended
  | .idle | .takingAddress _ _ _ | .denied => false

/-- The channel-side chip enable between the gate's own operations, by the level of the controller's: it follows the controller's while a passed command lasts and is inactive otherwise (R144, R145, R192). -/
def State.channelEnable (s : State) (controllerEnable : Bool) : Bool := s.passes && controllerEnable

/-- The controller side sees the flash's own ready line: the controller holds the channel, no command is denied, and the gate has no operation of its own in flight (R144, R145, R150; log entry 53). -/
def State.showsFlashReady (s : State) : Bool :=
  s.awake && s.gate.holder = .controller && s.gate.command ≠ .denied && s.gate.op.isNone

/-- The ready line that the station drives on the controller side, by the level of the flash's: ready wherever the flash's own is not shown (R145, R150, R192). -/
def State.shownReady (s : State) (flashReady : Bool) : Bool := !s.showsFlashReady || flashReady

/-- The byte that the station drives in a read data cycle on the controller side, by the flash's: carried back unchanged in a passed command, all ones otherwise (R144, R145). -/
def State.shownData (s : State) (flashData : Byte) : Byte := if s.passes then flashData else 0xFF

/-- The cell condition of ERASE: attached, or the band GOOD or LOW (R122, R129). -/
def State.eraseCellOk (s : State) : Bool :=
  s.supervisor.attached || s.supervisor.band = .good || s.supervisor.band = .low

/-! ### Key port outputs -/

/-- KVALID (Table 5-6). -/
def State.kvalid (s : State) : Bool := s.keyPort.state = .presented

/-- KCLK and KDAT are shifting (Table 5-6). -/
def State.shifting (s : State) : Bool := s.keyPort.state = .shiftingKey ∨ s.keyPort.state = .shiftingZero

/-- The moment at which the first bit of the shift under way is set on KDAT (R107). -/
def KeyPort.shiftStart (p : KeyPort) : Micros := p.shiftDue.getD 0 - shiftTime

/-- The bits of the shift under way that are over at a moment; this many bits stand before the one on KDAT (R107). -/
def KeyPort.bitsOver (p : KeyPort) (now : Micros) : Nat := (now - p.shiftStart) / bitTime

/-- A shift is under way at a moment: its last bit is not over (R107). -/
def KeyPort.inShift (p : KeyPort) (now : Micros) : Bool :=
  (p.state = .shiftingKey || p.state = .shiftingZero) && now < p.shiftDue.getD 0

/-- KDAT at a moment (R107, R108): the bit of the presented key, most significant first; before a shift of zeros the last bit of a stopped key shift; low otherwise. -/
def KeyPort.kdat (p : KeyPort) (now : Micros) : Bool :=
  p.inShift now
    && (if p.state = .shiftingKey then p.presented.getMsbD (p.bitsOver now)
        else if now < p.shiftStart then p.lastBit.getD false
        else false)

/-- KCLK at a moment: low in the first half of each bit, high in the second (R107). Bits keep their pace, so the time left to the end of the shift is odd in the second half. -/
def KeyPort.kclk (p : KeyPort) (now : Micros) : Bool := p.inShift now && (p.shiftDue.getD 0 - now) % bitTime = 1

/-- KDAT and KCLK (Table 5-6). -/
def State.kdat (s : State) : Bool := s.keyPort.kdat s.clock
def State.kclk (s : State) : Bool := s.keyPort.kclk s.clock

/-! ### Keypad -/

/-- The phases in which the entry buffer takes digits for an ENTRY (R164). -/
def Phase.takesEntry : Phase → Bool
  | .assembling | .incomplete | .locked | .verifying => true
  | .uncommissioned | .halted | .blank | .unlocked | .purging | .purgeWait => false

/-- The scanner is at rest (R161). -/
def State.scannerAtRest (s : State) : Bool :=
  s.scanner.seq = .entry && s.scanner.digits.isEmpty && !s.scanner.readOnly && !s.scanner.overlong

/-- An indicator's pattern (R178, R179). Of two alternating indicators one has `turn` set. -/
inductive Light where
  | dark | steady | slowBlink | blink | alternating (turn : Bool) | fast
  deriving DecidableEq, Repr

/-- The three indicators, and whether red is inverted for 100 ms every 4 s (R179). -/
structure Lights where
  red : Light
  green : Light
  amber : Light
  cellFlash : Bool
  deriving DecidableEq, Repr

/-- A pattern that is lit for a time and dark for a time, in turn, stands in its lit part. -/
def litPart (lit dark moment : Micros) : Bool := moment % (lit + dark) < lit

/-- Whether an indicator is lit at a moment (R178): the rates are the spec's, the starting points free values (log entry 51). -/
def Light.lit (l : Light) (now : Micros) : Bool :=
  match l with
  | .dark => false
  | .steady => true
  | .slowBlink => litPart (seconds 1) (seconds 1) (now + Config.freeBlink 0)
  | .blink => litPart (ms 250) (ms 250) (now + Config.freeBlink 1)
  | .alternating turn => litPart (ms 500) (ms 500) (now + Config.freeBlink 2) != turn
  | .fast => litPart (ms 100) (ms 100) (now + Config.freeBlink 3)

/-- Red is inverted at a moment of CELL_LOW: for 100 ms once every 4 s (R179; log entry 51). -/
def cellInverts (now : Micros) : Bool := litPart (ms 100) (ms 3900) (now + Config.freeBlink 4)

/-- The levels of the three indicators at a moment, red, green, amber (R178, R179). -/
def Lights.levels (l : Lights) (now : Micros) : Bool × Bool × Bool :=
  (l.red.lit now != (l.cellFlash && cellInverts now), l.green.lit now, l.amber.lit now)

/-- CELL_LOW and BELOW_FLOOR (R184). -/
def State.cellLow (s : State) : Bool := s.supervisor.band ≠ .good
def State.belowFloor (s : State) : Bool := s.supervisor.band = .floor ∨ s.supervisor.band = .cutoff

/-- The green of UNLOCKED by the read-only flag of the grant (Table 8-3). -/
def Grant.greenLight : Grant → Light
  | .user _ ro | .admin _ ro => if ro then .blink else .steady
  | .none | .pub => .steady

/-- The base pattern (Table 8-3): red, green, amber. -/
def State.baseLights (s : State) : Light × Light × Light :=
  match s.phase with
  | .uncommissioned => (.dark, .dark, .dark)
  | .halted => (.slowBlink, .dark, .dark)
  | .assembling => (.dark, .dark, .steady)
  | .incomplete => (.slowBlink, .dark, .dark)
  | .locked => (.steady, .dark, .dark)
  | .verifying => (.dark, .dark, .steady)
  | .blank =>
    match s.scanner.seq with
    | .modeSecond _ _ _ => (.dark, .steady, .dark)
    | _ => (.alternating false, .alternating true, .dark)
  | .purging | .purgeWait => (.alternating false, .dark, .alternating true)
  | .unlocked =>
    match s.scanner.seq with
    | .lockTiming _ => (.steady, s.phaseCtl.grant.greenLight, .dark)
    | .adminPrefix _ _ | .modeFirst _ _ | .modeSecond _ _ _ => (.dark, s.phaseCtl.grant.greenLight, .steady)
    | .purgeConfirm _ => (.blink, s.phaseCtl.grant.greenLight, .blink)
    | .entry | .pending _ _ _ => (.dark, s.phaseCtl.grant.greenLight, .dark)

/-- What the indicators show: dark without a keypad, unpowered or dormant; the transient pattern while one is shown; else the base pattern with the hold's amber blink and the cell flash (Section 8.1, R178, R179). The keypad strap alone says whether the station carries a keypad, so one that is HALTED because the record does not name it shows the pattern of HALTED (log entry 69). -/
def State.lights (s : State) : Lights :=
  if !s.awake || !s.roster.kpd then ⟨.dark, .dark, .dark, false⟩
  else
    match s.scanner.transient with
    | some (.amber, _) => ⟨.dark, .dark, .fast, false⟩
    | some (.red, _) => ⟨.fast, .dark, .dark, false⟩
    | some (.green, _) => ⟨.dark, .fast, .dark, false⟩
    | none =>
      let (r, g, a) := s.baseLights
      ⟨r, g, if s.holdActive && s.phase.takesEntry then .blink else a, s.cellLow⟩

/-- The levels of the indicator outputs now (Section 8.1). -/
def State.indicators (s : State) : Bool × Bool × Bool := s.lights.levels s.clock

/-! ### The output pins -/

/-- The levels that a station with a supply drives: DENY, which is active low, the key port, the indicators, and both sides of the channel. -/
structure Outputs where
  deny : Bool
  kvalid : Bool
  kdat : Bool
  kclk : Bool
  indicators : Bool × Bool × Bool
  channelEnable : Bool
  ready : Bool
  data : Byte
  deriving DecidableEq, Repr

/-- The outputs now, by the controller's chip enable and the flash's ready line and read data. Without a supply the outputs have stopped driving, and none has a level of its own (R181); while dormant they stand as R192 states. -/
def State.outputs (s : State) (controllerEnable flashReady : Bool) (flashData : Byte) : Option Outputs :=
  if s.supervisor.supplyValid then
    some
      { deny := !s.denyLow, kvalid := s.kvalid, kdat := s.kdat, kclk := s.kclk, indicators := s.indicators
        channelEnable := s.channelEnable controllerEnable, ready := s.shownReady flashReady, data := s.shownData flashData }
  else none

end Sys2Proof.Machine
end

