-- ==== Sys2Proof/Machine/Flags.lean ====
section
/-! DEFINITION. The latched events and standing conditions (Section 10.3, Table 11-5): their masks, and what CLEAR clears. -/

namespace Sys2Proof.Machine

/-- A mask bit: 2 to the power n for a set flag. -/
def maskBit (b : Bool) (n : Nat) : Nat := if b then 2 ^ n else 0

/-- The latched events mask (Table 11-5). -/
def State.eventsMask (s : State) : Nat :=
  maskBit s.line.headerParity 15 + maskBit s.line.checkFail 14 + maskBit s.line.rxMissed 13 + maskBit s.line.txPartial 12
    + maskBit s.line.txDropped 11 + maskBit s.gate.gateDenied 10 + maskBit s.gate.stepTimeout 9
    + maskBit s.slotTable.slotDiverged 8 + maskBit s.supervisor.tampered 7

/-- The standing conditions mask (Table 11-5). -/
def State.conditionsMask (s : State) : Nat :=
  maskBit s.supervisor.attached 7 + maskBit s.cellLow 6 + maskBit s.belowFloor 5 + maskBit s.supervisor.tamperAsserted 4
    + maskBit s.memberMissing 3 + maskBit s.holdActive 2 + maskBit s.gate.channelFault 1

/-- Clears, in the blocks that own them, the latched events that a mask names; TAMPERED is not cleared (R203). -/
def State.clearEvents (s : State) (mask : Nat) : State :=
  let keep := fun (old : Bool) (n : Nat) => old && !mask.testBit n
  ((s.setLine
      { s.line with
        headerParity := keep s.line.headerParity 15
        checkFail := keep s.line.checkFail 14
        rxMissed := keep s.line.rxMissed 13
        txPartial := keep s.line.txPartial 12
        txDropped := keep s.line.txDropped 11 }).setGate
      { s.gate with gateDenied := keep s.gate.gateDenied 10, stepTimeout := keep s.gate.stepTimeout 9 }).setSlotTable
      { s.slotTable with slotDiverged := keep s.slotTable.slotDiverged 8 }

end Sys2Proof.Machine
end

