-- ==== Sys2Proof/Machine/Ops.lean ====
section
/-! DEFINITION. The shared operations of the station: its timers, the two queues of the line, the record store with its arbiter, the sets of changed records, and the payloads of its reports. -/

namespace Sys2Proof.Machine

/-! ### Time -/

/-- The moment a timer is carried out: the clock stands at its due time or later (log entry 2). -/
def State.runTo (s : State) (due : Micros) : State := s.setClock (max s.clock due)

/-! ### Queues of the line (R17 to R20) -/

/-- An own broadcast frame joins the tail of the receive queue with its outcome; a directed frame is not returned (R18). -/
def State.returnOwn (s : State) (f : TxFrame) (o : SendOutcome) : State :=
  if f.directed then s
  else s.setLine { s.line with rx := s.line.rx ++ [⟨f.kind, s.sn, false, f.payload, some o⟩] }

/-- The frames of the receive queue that take one of its four places: those that are not own returned frames (R17, R18). -/
def State.placesTaken (s : State) : Nat := (s.line.rx.filter fun f => f.own.isNone).length

/-- The frame that an offer forms, with the flipped alternation bit of its class (R4). -/
def State.formFrame (s : State) (kind : Kind) (target : Option StationNo) (payload : List Byte) : TxFrame :=
  { kind := kind, directed := target.isSome, target := target.getD 0, payload := payload,
    alt := if kind.urgent then !s.line.altUrgent else !s.line.altOther, attempt := 0 }

/-- The line interface with the alternation bit of a class flipped (R4). -/
def LineInterface.flipAlternation (l : LineInterface) (urgent : Bool) : LineInterface :=
  if urgent then { l with altUrgent := !l.altUrgent } else { l with altOther := !l.altOther }

/-- A refused or displaced frame: TX_DROPPED, and a broadcast frame returns with outcome DROPPED (R19, R20). -/
def State.dropFrame (s : State) (f : TxFrame) : State :=
  (s.setLine { s.line with txDropped := true }).returnOwn f .dropped

/-- The place of an urgent frame: behind the frame on the line and behind the urgent frames, ahead of the others (R20). -/
def placeUrgent (onLine : Bool) (tx : List TxFrame) (f : TxFrame) : List TxFrame :=
  let fixed := if onLine then tx.take 1 else []
  let rest := if onLine then tx.drop 1 else tx
  fixed ++ rest.takeWhile (·.kind.urgent) ++ f :: rest.dropWhile (·.kind.urgent)

/-- The youngest queued frame that is neither urgent nor on the line, with the queue before it (R20): frames that are not urgent stand at the tail. -/
def displaceable (onLine : Bool) (tx : List TxFrame) : Option (TxFrame × List TxFrame) :=
  match tx.getLast? with
  | none => none
  | some f => if f.kind.urgent || (onLine && tx.length = 1) then none else some (f, tx.dropLast)

/-- The number of places of the transmit queue (R19). -/
def txPlaces : Nat := 4

/-- An offer that finds a free place (R19, R20). -/
def State.takeOffer (s : State) (f : TxFrame) : State :=
  let tx := if f.kind.urgent then placeUrgent s.line.onLine.isSome s.line.tx f else s.line.tx ++ [f]
  s.setLine { s.line.flipAlternation f.kind.urgent with tx := tx }

/-- An offer to a full queue: refused, or for an urgent frame placed after a displacement (R19, R20). -/
def State.offerToFull (s : State) (f : TxFrame) : State :=
  if f.kind.urgent then
    match displaceable s.line.onLine.isSome s.line.tx with
    | some (out, left) => ((s.setLine { s.line with tx := left }).dropFrame out).takeOffer f
    | none => s.dropFrame f
  else s.dropFrame f

/-- A block offers a frame at the moment it forms it; no target means a broadcast frame (R19, R20). -/
def State.offer (s : State) (kind : Kind) (target : Option StationNo) (payload : List Byte) : State :=
  let f := s.formFrame kind target payload
  if s.line.tx.length < txPlaces then s.takeOffer f else s.offerToFull f

/-- Urgent frames pass a head frame that waits between attempts (R20; log entry 49). -/
def urgentFirst (tx : List TxFrame) : List TxFrame :=
  tx.filter (·.kind.urgent) ++ tx.filter fun f => !f.kind.urgent

/-- A directed ANSWER (Table 11-15). -/
def State.answer (s : State) (replyTo : StationNo) (request : Kind) (result : AnswerResult) (byte2 : Nat) (bytes34 : Nat) : State :=
  s.offer .answer (some replyTo) (byte request.code :: byte result.code :: byte byte2 :: bytes2 bytes34)

/-! ### ROLL (R37, Table 11-11) -/

/-- The payload of this station's ROLL as it now stands. The role is that of R33, also for a HALTED station strapped at the controller's number, of which R32 says that an RV26 never takes the role CONTROLLER; this is the model's choice (log entry 70). -/
def State.rollPayload (s : State) : List Byte :=
  let sum := fun i => (s.slotAt i).summary.bytes
  byte ((s.roleOf s.sn).code * 64 + s.roster.startCause.code * 16 + bit s.supervisor.tampered * 8 + stageCode s.progressStage)
    :: bytes2 s.rollEpoch ++ bytes4 s.verifier.held.serial
    ++ [byte s.verifier.held.count, byte (s.phase.code * 16 + bit (s.purge.suspended) * 8), byte s.progressPercent]
    ++ bytes2 s.digest.toNat ++ sum 0 ++ sum 1 ++ sum 2 ++ sum 3 ++ sum 4 ++ sum 5

/-- The station offers its ROLL, unless an own ROLL is in its transmit queue: then the offer counts as made (R37). -/
def State.offerRoll (s : State) : State := if s.ownRollQueued then s else s.offer .roll none s.rollPayload

/-- TAMPERED has been latched or cleared: outside UNCOMMISSIONED and HALTED a ROLL is owed once the event has been handled (R37). -/
def State.oweRoll (s : State) : State :=
  if s.phase = .uncommissioned ∨ s.phase = .halted then s else s.setRoster { s.roster with rollOwed := true }

/-- The owed ROLL is offered as soon as no own ROLL is in the queue (R37). -/
def State.payRoll (s : State) : State :=
  if !s.roster.rollOwed then s
  else if s.phase = .uncommissioned ∨ s.phase = .halted then s.setRoster { s.roster with rollOwed := false }
  else if s.ownRollQueued then s
  else (s.setRoster { s.roster with rollOwed := false }).offerRoll

/-- The end of an event: what was owed until the event is handled is paid, and the station goes on. -/
def State.done (s : State) : Host.Outcome State Fault Refusal := .next s.payRoll

/-- An event of the running station: it has its effect while the station is awake; a station without supply or asleep takes no part in it (R181, R192). -/
def State.whileAwake (s : State) (body : State → State) : Host.Outcome State Fault Refusal :=
  if s.awake then (body s).done else .next s

/-! ### Record store (R205 to R207) -/

/-- The pending request of a requester. -/
def Requests.get (q : Requests) : Requester → Option RecordId
  | .purge => q.purge | .supervisor => q.supervisor | .verifier => q.verifier | .slotTable => q.slotTable
  | .gate => q.gate | .roster => q.roster | .setup => q.setup

/-- The pending requests with that of one requester replaced. -/
def Requests.put (q : Requests) (r : Requester) (v : Option RecordId) : Requests :=
  match r with
  | .purge => { q with purge := v } | .supervisor => { q with supervisor := v } | .verifier => { q with verifier := v }
  | .slotTable => { q with slotTable := v } | .gate => { q with gate := v } | .roster => { q with roster := v }
  | .setup => { q with setup := v }

/-- The requesters, highest first (Table 10-7). -/
def arbiterOrder : List Requester := [.purge, .supervisor, .verifier, .slotTable, .gate, .roster, .setup]

/-- The journal as a write takes it: in stage ERASE with the engine's own count as next block, whatever called for the write (log entry 54), and CLOSED once the close has been requested (R124, R127, R132). -/
def State.journalAsWritten (s : State) : Journal :=
  { s.purge.journal with
    isOpen := s.purge.journal.isOpen && !s.purge.closing
    nextBlock := if s.purge.journal.stage = some .erase then s.purge.nextBlock else s.purge.journal.nextBlock }

/-- The held contents of a record, as the block that owns it keeps them (R206). -/
def State.heldContents (s : State) : RecordId → Contents
  | .setup => .setup s.setup.held
  | .salt => .salt s.slotTable.salt
  | .attempt => .attempt s.verifier.held
  | .slot i => .slot i s.slotTable.slots[i]
  | .blankKey => .blankKey s.slotTable.blankKey
  | .range i => .range i s.gate.ranges[i]
  | .journal => .journal s.journalAsWritten
  | .badBlocks => .badBlocks s.purge.badBlocks
  | .tamper => .tamper s.supervisor.tampered

/-- The record that contents belong to. -/
def Contents.record : Contents → RecordId
  | .setup _ => .setup
  | .salt _ => .salt
  | .attempt _ => .attempt
  | .slot i _ => .slot i
  | .blankKey _ => .blankKey
  | .range i _ => .range i
  | .journal _ => .journal
  | .badBlocks _ => .badBlocks
  | .tamper _ => .tamper

/-- The store with one record replaced (R205). -/
def Stored.put (t : Stored) : Contents → Stored
  | .setup r => { t with setup := r }
  | .salt v => { t with salt := v }
  | .attempt r => { t with attempt := r }
  | .slot i r => { t with slots := t.slots.set i r }
  | .blankKey k => { t with blankKey := k }
  | .range i e => { t with ranges := t.ranges.set i e }
  | .journal j => { t with journal := j }
  | .badBlocks l => { t with badBlocks := l }
  | .tamper b => { t with tamper := b }

/-- The store grants a request: the write takes the held contents as they stand, and the request leaves the pending set (R206). -/
def State.grantWrite (s : State) (r : Requester) (rec : RecordId) : State :=
  s.setStore
    { s.store with
      inFlight := some ⟨r, s.heldContents rec, s.store.grants + 1⟩
      grants := s.store.grants + 1
      requests := s.store.requests.put r none }

/-- A block places a request: none when one of its own is pending; granted at once when the store is idle; else pending (R206, R207). -/
def State.request (s : State) (r : Requester) (rec : RecordId) : State :=
  if (s.store.requests.get r).isSome then s
  else if s.store.inFlight.isNone && !s.store.deciding then s.grantWrite r rec
  else s.setStore { s.store with requests := s.store.requests.put r (some rec) }

/-- The write in flight, when it is a given requester's. -/
def State.writeOf (s : State) (r : Requester) : Option InFlight :=
  match s.store.inFlight with
  | some w => if w.requester = r then some w else none
  | none => none

/-- The first pending request in the order of a list of requesters. -/
def Requests.first (q : Requests) : List Requester → Option (Requester × RecordId)
  | [] => .none
  | r :: rest =>
    match q.get r with
    | .some rec => .some (r, rec)
    | .none => q.first rest

/-- The arbiter's choice after a completion event has been handed on (R207). -/
def State.arbitrate (s : State) : State :=
  let s := s.setStore { s.store with deciding := false }
  match s.store.requests.first arbiterOrder with
  | some (r, rec) => s.grantWrite r rec
  | none => s

/-- A write completes: its contents are stored, its requester acts on the completion event, then the arbiter chooses (R206, R207). -/
def State.completeWrite (s : State) (w : InFlight) (event : State → State) : State :=
  (event (s.setStore
    { s.store with stored := s.store.stored.put w.contents, inFlight := none, deciding := true })).arbitrate

/-! ### Sets of changed records (R74, R112, R155) -/

/-- The set of changed records of a requester that keeps one. -/
def State.writeSet (s : State) : Requester → WriteSet
  | .purge => s.purge.writes
  | .slotTable => s.slotTable.writes
  | .gate => s.gate.writes
  | .supervisor | .verifier | .roster | .setup => WriteSet.none

/-- The state with the set of a requester replaced. -/
def State.setWriteSet (s : State) (r : Requester) (v : WriteSet) : State :=
  match r with
  | .purge => s.setPurge { s.purge with writes := v }
  | .slotTable => s.setSlotTable { s.slotTable with writes := v }
  | .gate => s.setGate { s.gate with writes := v }
  | .supervisor | .verifier | .roster | .setup => s

/-- While the set is not empty, the requester keeps one request pending for its oldest record, unless that record's write is in flight. -/
def State.kickWrites (s : State) (r : Requester) : State :=
  match (s.writeSet r).changed with
  | [] => s
  | rec :: _ => if (s.writeOf r).isSome then s else s.request r rec

/-- A changed record joins the set, unless it is there; a record whose write is in flight is marked to join again (R74). -/
def State.noteWrite (s : State) (r : Requester) (rec : RecordId) : State :=
  let ws := s.writeSet r
  let inFlight := match s.writeOf r with
    | some w => decide (w.contents.record = rec)
    | none => false
  let ws' : WriteSet :=
    if inFlight then { ws with rechanged := true }
    else if rec ∈ ws.changed then ws
    else { ws with changed := ws.changed ++ [rec] }
  (s.setWriteSet r ws').kickWrites r

/-- At the completion event the record leaves the set, or joins it again at the tail when it was changed after the grant (R74). -/
def State.closeWrite (s : State) (r : Requester) (rec : RecordId) : State :=
  let ws := s.writeSet r
  let left := ws.changed.erase rec
  (s.setWriteSet r ⟨if ws.rechanged then left ++ [rec] else left, false⟩).kickWrites r

/-! ### Small moves of single blocks -/

/-- The held attempt record takes a pair (R46, R64). -/
def State.setPair (s : State) (serial count : Nat) : State :=
  s.setVerifier { s.verifier with held := { s.verifier.held with serial := serial, count := count } }

/-- The hold restarts from the held failure count (R71). -/
def State.restartHold (s : State) : State :=
  s.setVerifier { s.verifier with hold := (holdDuration s.verifier.held.count).map (s.clock + ·) }

/-- The hold stops (R65, R132). -/
def State.stopHold (s : State) : State := s.setVerifier { s.verifier with hold := none }

/-- A transient pattern is shown for its full time (R179). -/
def State.showTransient (s : State) (t : Transient) : State :=
  s.setScanner { s.scanner with transient := some (t, s.clock + transientTime) }

/-- The staged part of a slot is discarded, at a count of grants: an answer to its STAGE that still waits is marked (R79). -/
def SlotWait.discard (w : SlotWait) (i : SlotNo) (grants : Nat) : SlotWait :=
  if w.slot = i ∧ w.change = .stage ∧ w.discardedAt = none then { w with discardedAt := some grants } else w

/-- A slot of the held table is replaced and joins the slot table's set. A change that discards its staged part, without making it the ACTIVE record, tells the answer that waits for the part (R74, R79). -/
def State.changeSlot (s : State) (i : SlotNo) (v : Slot) (discards : Bool) : State :=
  (s.setSlotTable
    { s.slotTable with
      slots := s.slotTable.slots.set i v
      waits :=
        if discards && (s.slotAt i).staged.isSome then s.slotTable.waits.map (·.discard i s.store.grants)
        else s.slotTable.waits }).noteWrite .slotTable (.slot i)

/-- The blank key record is to be deleted (R84, R91). -/
def State.deleteBlankKey (s : State) : State :=
  if s.slotTable.blankKey.isSome then
    (s.setSlotTable { s.slotTable with blankKey := none }).noteWrite .slotTable .blankKey
  else s

/-- TAMPERED is set or cleared in the held state, and a ROLL is owed when it changed (R37, R187, R189). -/
def State.setTampered (s : State) (b : Bool) : State :=
  let changed := s.supervisor.tampered ≠ b
  let s := s.setSupervisor { s.supervisor with tampered := b }
  if changed then s.oweRoll else s

/-! ### Key port (R107, R108) -/

/-- The key shift begins from the unlocked key as it stands (R107). -/
def State.beginKeyShift (s : State) : State :=
  s.setKeyPort
    { state := .shiftingKey, presented := s.slotTable.unlockedKey.getD 0, shiftDue := some (s.clock + shiftTime)
      waiting := false, lastBit := none, sent := 0 }

/-- The phase controller tells the key port to present (R107). -/
def State.presentKey (s : State) : State :=
  match s.keyPort.state with
  | .clear => s.beginKeyShift
  | .shiftingZero => s.setKeyPort { s.keyPort with waiting := true }
  | .shiftingKey | .presented => s

/-- The key port stopped in a key shift: the bit being shifted goes to its end, and the zero bits follow it (R108). After the last bit nothing is left to finish. -/
def KeyPort.stopKeyShift (p : KeyPort) (now : Micros) : KeyPort :=
  if p.inShift now then
    { state := .shiftingZero, presented := 0
      shiftDue := some (p.shiftStart + bitTime * (p.bitsOver now + 1) + shiftTime), waiting := false
      lastBit := some (p.presented.getMsbD (p.bitsOver now)), sent := p.bitsOver now + 1 }
  else
    { state := .shiftingZero, presented := 0, shiftDue := some (now + shiftTime), waiting := false
      lastBit := none, sent := keyBits }

/-- The key port told to clear (R108); a present request that still waits goes with the unlock it belonged to (log entry 31). -/
def KeyPort.cleared (p : KeyPort) (now : Micros) : KeyPort :=
  match p.state with
  | .presented => { p with state := .shiftingZero, presented := 0, shiftDue := some (now + shiftTime), waiting := false }
  | .shiftingKey => p.stopKeyShift now
  | .shiftingZero => { p with waiting := false }
  | .clear => p

/-- The phase controller tells the key port to clear (R108). -/
def State.clearKeyPort (s : State) : State := s.setKeyPort (s.keyPort.cleared s.clock)

end Sys2Proof.Machine
end

