-- ==== Sys2Proof/Machine/Channel.lean ====
section
/-! DEFINITION. The shared operations of the channel: LOCK offers, owner and hand-over, the pass rule, recovery resets and the fault, and the progress of ERASE. -/

namespace Sys2Proof.Machine

/-! ### LOCK offers (R98) -/

/-- The phase controller offers a LOCK, unless an own LOCK is on its way: then the request counts as made (R98). -/
def State.offerLock (s : State) (cause : LockCause) : State :=
  if s.ownOutstanding .lock then s else s.offer .lock none [byte cause.code]

/-! ### Commands in flight (R144, R145) -/

/-- A controller command is in flight: passed and not ended, or ended with its flash operation not seen ready (R144). -/
def Gate.commandInFlight (g : Gate) : Bool :=
  match g.command with
  | .passed _ _ => true
  | .idle | .takingAddress _ _ _ | .denied => g.flashBusy

/-- The command is denied: DENY low until it ends, and GATE_DENIED latched (R145, R160). -/
def State.denyCommand (s : State) : State := s.setGate { s.gate with command := .denied, gateDenied := true }

/-! ### Hand-over (R147 to R149) -/

/-- The settle begins (R149). -/
def State.beginSettle (s : State) : State := s.setGate { s.gate with handOver := .settling (s.clock + handOverSettle) }

/-- A command whose address is still being taken is denied as a hand-over from the controller begins (R148). -/
def State.denyTaking (s : State) : State :=
  match s.gate.command with
  | .takingAddress _ _ _ => s.denyCommand
  | .idle | .passed _ _ | .denied => s

/-- A hand-over begins: a drain when the holder has work in flight, else the settle (R147, R148). -/
def State.beginHandOver (s : State) : State :=
  match s.gate.holder with
  | .controller =>
    let s := s.denyTaking
    if s.gate.commandInFlight then s.setGate { s.gate with handOver := .draining (some (s.clock + readyWait)) }
    else s.beginSettle
  | .guard | .none =>
    if s.gate.op.isSome then s.setGate { s.gate with handOver := .draining none } else s.beginSettle

/-- The owner that Table 7-2 gives now. -/
def State.ownerNow (s : State) : Side := ownerFor s.phase s.purge.journal.isOpen s.gate.channelFault

/-- The gate recomputes its owner; a change begins a hand-over when none is under way (R140, R147). -/
def State.recomputeOwner (s : State) : State :=
  let changed := s.setGate { s.gate with owner := s.ownerNow }
  if s.ownerNow = s.gate.owner then s
  else if s.gate.handOver = .steady then changed.beginHandOver
  else changed

/-- A drain of a controller holder ends when the command has ended and ready is high; the fault count returns to 0 (R148, R152). -/
def State.drainCheck (s : State) : State :=
  match s.gate.handOver with
  | .draining (some _) =>
    if s.gate.commandInFlight then s
    else (s.setGate { s.gate with faultCount := if s.gate.channelFault then s.gate.faultCount else 0 }).beginSettle
  | .draining none | .steady | .resetting | .settling _ => s

/-! ### The pass rule (R143) -/

/-- The classes that a grant admits in an entry of a visibility (Table 7-3). -/
def Grant.admits : Grant → Visibility → CommandClass → Bool
  | .none, _, _ => false
  | .pub, v, c => v = .pub && c = .read
  | .user _ ro, v, c => v ≠ .admin && (c = .read || !ro)
  | .admin _ ro, _, c => c = .read || !ro

/-- The classes that a range entry permits: read for READ, write for PROGRAM and ERASE (R143). -/
def RangeEntry.permits (e : RangeEntry) : CommandClass → Bool
  | .read => e.read
  | .program | .erase => e.write
  | .control => false

/-- A block lies in an enabled entry, from base to limit inclusive. -/
def RangeEntry.covers (e : RangeEntry) (block : Nat) : Bool := e.enabled && e.base ≤ block && block ≤ e.limit

/-- A READ, PROGRAM or ERASE of a block is admitted by some entry under the grant in force (R143). -/
def Gate.admits (g : Gate) (c : CommandClass) (block : Nat) : Bool :=
  rangeNumbers.any fun i => g.ranges[i].covers block && g.ranges[i].permits c && g.grant.admits g.ranges[i].visibility c

/-- The controller's commands can reach the channel at all (R143). -/
def Gate.controllerHolds (g : Gate) : Bool := g.holder = .controller && g.handOver = .steady

/-- The decision on a command, taken once; a passed command's cycles go to the channel side in their order (R143 to R145). -/
def State.decideCommand (s : State) (c : CommandClass) (block : Nat) (cycles : List Byte) : State :=
  if s.gate.controllerHolds && (c = .control || s.gate.admits c block) then
    s.setGate { s.gate with command := .passed cycles false }
  else s.denyCommand

/-- The block of a row address (R142). -/
def State.blockOf (s : State) (row : Nat) : Nat := row / s.pagesPerBlock

/-- A READ, PROGRAM or ERASE opening code ends what came before it: a command whose address was not taken is denied, a passed one is waited for until ready is seen (R141, R142, R144). -/
def State.endByOpening (s : State) (ready : Bool) : State :=
  let s := s.denyTaking
  (s.setGate { s.gate with command := .idle, flashBusy := s.gate.commandInFlight && !ready }).drainCheck

/-- The ready line is seen while a held command goes on. -/
def State.seeReady (s : State) (ready : Bool) : State :=
  (s.setGate { s.gate with flashBusy := s.gate.flashBusy && !ready }).drainCheck

/-- The drain of a CONTROLLER holder lasts (R148). -/
def Gate.controllerDrains (g : Gate) : Bool :=
  match g.handOver with
  | .draining (some _) => true
  | .draining none | .steady | .resetting | .settling _ => false

/-- The opening code of a READ, PROGRAM or ERASE alone: the gate holds it and takes the address (R142). After a command that was denied, at the latest by this opening code, DENY stays low through the boundary (R145), until this command is decided (log entry 52). One that begins during the drain of a CONTROLLER holder is marked for its denial (R148). -/
def State.openCommand (s : State) (code : Byte) (ready : Bool) : State :=
  let held := s.denyTaking.denyLow
  let inDrain := s.gate.controllerDrains
  let s := s.endByOpening ready
  s.setGate { s.gate with command := .takingAddress code held inDrain }

/-- The gate holds the opening cycle of a code (R142). -/
def Gate.holdsOpening (g : Gate) (code : Byte) : Bool :=
  match g.command with
  | .takingAddress c _ _ => c = code
  | .idle | .passed _ _ | .denied => false

/-- The command whose address is being taken began during the drain of a CONTROLLER holder (R148). -/
def Gate.begunInDrain (g : Gate) : Bool :=
  match g.command with
  | .takingAddress _ _ inDrain => inDrain
  | .idle | .passed _ _ | .denied => false

/-- The last row cycle of a command: the command held under that code is decided, or a whole new one (R142, R143; log entry 27). One that began during the drain of a CONTROLLER holder is denied, also when the hand-over is over by now (R148; log entry 65). -/
def State.addressCommand (s : State) (code : Byte) (ready : Bool) (row : Nat) (cycles : List Byte) : State :=
  let inDrain := if s.gate.holdsOpening code then s.gate.begunInDrain else s.gate.controllerDrains
  let s := if s.gate.holdsOpening code then s.seeReady ready else s.endByOpening ready
  if inDrain then s.denyCommand else s.decideCommand (classOf code) (s.blockOf row) (code :: cycles)

/-- A READ or PROGRAM command as far as the gate has read it (R142, R143). -/
def State.columnCommand (s : State) (code : Byte) (cycles : FlashCycles) (ready : Bool) : State :=
  match cycles with
  | .opening => s.openCommand code ready
  | .address c0 c1 r0 r1 r2 => s.addressCommand code ready (rowAddress r0 r1 r2) [c0, c1, r0, r1, r2]

/-- An ERASE command as far as the gate has read it (R142, R143). -/
def State.rowCommand (s : State) (code : Byte) (cycles : RowCycles) (ready : Bool) : State :=
  match cycles with
  | .opening => s.openCommand code ready
  | .address r0 r1 r2 => s.addressCommand code ready (rowAddress r0 r1 r2) [r0, r1, r2]

/-! ### The gate's own work: erase steps and recovery resets (R150, R151) -/

/-- The gate issues a recovery reset: one cycle, and the wait for ready (R150). -/
def State.issueReset (s : State) (reason : ResetReason) : State :=
  s.setGate { s.gate with op := some (.recoveryReset reason (s.clock + readyWait)), driven := resetCycles }

/-- The gate issues the erase step on the engine's next block: the erase at the row of its first page (R125, R151). -/
def State.issueErase (s : State) : State :=
  s.setGate
    { s.gate with
      op := some (.eraseStep s.purge.nextBlock (s.clock + readyWait))
      driven := eraseCycles s.purge.nextBlock s.pagesPerBlock }

/-- An erase step is in flight: its erase, or the recovery reset that ends it (R125, R151). -/
def Gate.stepInFlight (g : Gate) : Bool :=
  match g.op with
  | some (.eraseStep _ _) => true
  | some (.recoveryReset (.erase _) _) => true
  | some (.recoveryReset .drain _) => false
  | some (.recoveryReset .periodic _) => false
  | none => false

/-! ### Progress of ERASE (R124 to R130) -/

/-- Stage ERASE is stored and under way (R121, R124). -/
def State.erasing (s : State) : Bool :=
  s.purge.journal.isOpen && s.purge.journal.stage = some .erase && s.purge.begun

/-- The held next block is checkpointed in the journal (R127). -/
def State.checkpoint (s : State) : State :=
  (s.setPurge { s.purge with journal := { s.purge.journal with nextBlock := s.purge.nextBlock } }).noteWrite .purge .journal

/-- ERASE ends: stage REKEY with the held next block, and after an early end with the erase-incomplete flag (R128, R130). -/
def State.endErase (s : State) (early : Bool) : State :=
  (s.setPurge
    { s.purge with
      journal :=
        { s.purge.journal with
          stage := some .rekey, nextBlock := s.purge.nextBlock
          eraseIncomplete := s.purge.journal.eraseIncomplete || early }
      begun := false, suspended := false }).noteWrite .purge .journal

/-- ERASE suspends with a checkpoint, or resumes, as the cell condition holds (R129). -/
def State.suspendOrResume (s : State) : State :=
  if s.eraseCellOk then s.setPurge { s.purge with suspended := false }
  else if s.purge.suspended then s
  else (s.setPurge { s.purge with suspended := true }).checkpoint

/-- The conditions of R124 hold for the next erase step: the channel is handed over and free, and ERASE is not suspended. -/
def State.mayErase (s : State) : Bool :=
  !s.purge.suspended && s.gate.op.isNone && s.gate.holder = .guard && s.gate.handOver = .steady && !s.gate.periodicDue

/-- ERASE goes on as far as it can: it waits for a step in flight, ends, suspends, or issues its next step (R124, R128 to R130). -/
def State.eraseAdvance (s : State) : State :=
  if !s.erasing then s
  else if s.gate.stepInFlight then s.suspendOrResume
  else if s.blocks ≤ s.purge.nextBlock then s.endErase false
  else if s.gate.channelFault then s.endErase true
  else
    let s := s.suspendOrResume
    if s.mayErase then s.issueErase else s

/-- The most entries of the bad-block list (R111). -/
def badBlockPlaces : Nat := 32

/-- A block that ended FAIL or EXPIRED joins the bad-block list, or sets the list-full flag (R126). -/
def State.addBadBlock (s : State) (n : Nat) : State :=
  if n ∈ s.purge.badBlocks then s
  else if s.purge.badBlocks.length < badBlockPlaces then
    (s.setPurge { s.purge with badBlocks := s.purge.badBlocks ++ [n] }).noteWrite .purge .badBlocks
  else (s.setPurge { s.purge with journal := { s.purge.journal with listFull := true } }).noteWrite .purge .journal

/-- A step on block n has ended: the held next block rises, with a checkpoint at each multiple of 64 below B (R125 to R127, R130). -/
def State.blockDone (s : State) (n : Nat) (bad : Bool) : State :=
  let s := if bad then s.addBadBlock n else s
  let s := s.setPurge { s.purge with nextBlock := s.purge.nextBlock + 1 }
  if s.purge.nextBlock % 64 = 0 ∧ s.purge.nextBlock < s.blocks then s.checkpoint else s

/-! ### Work finished, and the channel fault (R152, R153) -/

/-- A hand-over that waited for the gate's own work, or for the reset of a drain, goes on to its settle (R147, R148). -/
def State.settleAfterWork (s : State) : State :=
  match s.gate.handOver with
  | .draining none | .resetting => s.beginSettle
  | .draining (some _) | .steady | .settling _ => s

/-- A periodic reset that fell due while the channel was busy is issued once the hand-over is STEADY and nothing is in flight (R153). -/
def State.issueDuePeriodic (s : State) : State :=
  if s.gate.periodicDue && s.gate.channelFault && s.gate.op.isNone && s.gate.handOver = .steady then
    (s.setGate { s.gate with periodicDue := false }).issueReset .periodic
  else s

/-- The channel is free again: the hand-over, a periodic reset that is due, and ERASE go on in that order. -/
def State.channelFree (s : State) : State := s.settleAfterWork.issueDuePeriodic.eraseAdvance

/-- The purge engine learns of a channel fault: ERASE ends early, at once unless a step is in flight (R128, R152). -/
def State.tellEngine (s : State) : State := if s.gate.stepInFlight then s else s.eraseAdvance

/-- CHANNEL_FAULT becomes true: owner recomputed, the purge engine told, fault period started, and under policy ALL a LOCK with cause FAULT (R152, R154). -/
def State.beginFault (s : State) : State :=
  let s := (s.setGate
    { s.gate with channelFault := true, faultPeriod := some (s.clock + faultPeriodTime) }).recomputeOwner.tellEngine
  if s.faultPolicyAll then s.offerLock .fault else s

/-- The consecutive expired waits that make a channel fault (R152). -/
def faultLimit : Nat := 3

/-- An expired wait: STEP_TIMEOUT, the fault count one higher, and at the third the fault (R148, R151, R152). -/
def State.countExpiry (s : State) : State :=
  if s.gate.channelFault then s.setGate { s.gate with stepTimeout := true }
  else
    let s := s.setGate { s.gate with stepTimeout := true, faultCount := s.gate.faultCount + 1 }
    if faultLimit ≤ s.gate.faultCount then s.beginFault else s

/-- A periodic reset that completes clears the fault (R153). -/
def State.clearFault (s : State) : State :=
  (s.setGate
    { s.gate with channelFault := false, faultCount := 0, faultPeriod := none, periodicDue := false }).recomputeOwner

/-- A recovery reset has finished, completed or expired: what waited on it goes on (R150). -/
def State.finishReset (s : State) (reason : ResetReason) (completed : Bool) : State :=
  let s := s.setGate { s.gate with op := none }
  let s := match reason with
    | .drain => s
    | .erase n => s.blockDone n true
    | .periodic => if completed then s.clearFault else s
  s.channelFree

end Sys2Proof.Machine
end

