-- ==== Sys2Proof/Machine/Moves.lean ====
section
/-! DEFINITION. The shared moves of a station: the scanner told of a phase, phase changes with their grant, the revoke and the void of a verification, changes of presence, and the opening, raising and stages of a purge. -/

namespace Sys2Proof.Machine

/-! ### Keypad scanner (R167, R168, R177) -/

/-- The scanner offers an ENTRY: the entry sequence rises by one, from 255 to 0 (R168, Table 11-10). -/
def State.offerEntry (s : State) (token : Token) (readOnly : Bool) : State :=
  let seq := (s.scanner.entrySeq + 1) % 256
  (s.setScanner { s.scanner with entrySeq := seq }).offer .entry none
    (byte seq :: bytes2 s.epoch ++ [byte (bit readOnly * 128)] ++ tokenBytes token)

/-- A pending entry goes out once the station is LOCKED with no own ENTRY outstanding, or is discarded under a hold (R167). -/
def State.testPending (s : State) : State :=
  match s.scanner.seq with
  | .pending token readOnly _ =>
    if s.phase = .locked ∧ s.ownOutstanding .entry = false then
      let s := s.setScanner { s.scanner with seq := .entry }
      if s.holdActive then s else s.offerEntry token readOnly
    else s
  | .entry | .lockTiming _ | .adminPrefix _ _ | .modeFirst _ _ | .modeSecond _ _ _ | .purgeConfirm _ => s

/-- The entry buffer emptied, with its idle timer stopped (R164). -/
def Scanner.emptied (k : Scanner) : Scanner := { k with digits := [], overlong := false, readOnly := false, idle := none }

/-- The scanner at rest: every sequence ended and the buffer empty; the key state, entry sequence and transient stay (R177). -/
def State.restScanner (s : State) : State := s.setScanner { s.scanner.emptied with seq := .entry }

/-- The scanner is told of a phase change: buffer and pending entry stay among the four phases of R164, and end otherwise (R164, R167, R177). -/
def State.tellScanner (s : State) (old : Phase) : State :=
  if old.takesEntry && s.phase.takesEntry then s.testPending else s.restScanner

/-! ### Re-announcement (R40) -/

/-- A run of re-announcements begins with its first 2 s from now (R40). -/
def State.beginAnnounce (s : State) : State :=
  s.setRoster { s.roster with announce := some (s.clock + announcePeriod), announced := 0 }

/-- The re-announcement timer stops (R40). -/
def State.stopAnnounce (s : State) : State := s.setRoster { s.roster with announce := none, announced := 0 }

/-- The re-announcement timer at the entry to a phase (R40). -/
def State.announceAtEntry (s : State) : State :=
  match s.phase with
  | .incomplete | .purgeWait => s.beginAnnounce
  | .blank | .unlocked => if s.memberMissing then s.beginAnnounce else s.stopAnnounce
  | .uncommissioned | .halted | .assembling | .locked | .verifying | .purging => s.stopAnnounce

/-- A new run at a change of a member's presence; a timer that runs goes on (R40). -/
def State.renewAnnounce (s : State) : State :=
  if s.roster.announce.isSome then s.setRoster { s.roster with announced := 0 } else s.beginAnnounce

/-! ### Phase changes (R93 to R96) -/

/-- A phase change: phase and grant are set and handed to the gate, which recomputes its owner; the assembly window, the re-announcement and the scanner follow (R93 to R95). -/
def State.movePhase (s : State) (p : Phase) (g : Grant) (attachWindow : Option Micros) : State :=
  let old := s.phase
  let s := s.setPhaseCtl ⟨p, g, attachWindow⟩
  let s := (s.setGate { s.gate with grant := g }).recomputeOwner
  let s := s.setRoster { s.roster with window := if p = .assembling then some ⟨s.clock, 0⟩ else none }
  s.announceAtEntry.tellScanner old

/-- The phase that a move names: a move to LOCKED with a member missing goes on to INCOMPLETE (R36). -/
def State.carriedOn (s : State) (p : Phase) : Phase := if p = .locked ∧ s.memberMissing then .incomplete else p

/-- The move to a phase other than UNLOCKED, with the grant of Table 5-1 (R94). -/
def State.enterPhase (s : State) (p : Phase) : State := s.movePhase (s.carriedOn p) (grantFor (s.carriedOn p)) none

/-- The grant of an unlock: ADMIN for slot 0, USER for slots 1 to 5 (R65). -/
def unlockGrant (slot : SlotNo) (readOnly : Bool) : Grant := if slot = 0 then .admin slot readOnly else .user slot readOnly

/-- The entry to UNLOCKED: the key becomes the unlocked key and is presented, and a detached station starts its attach window (R65, R76, R84, R103, R107). -/
def State.enterUnlocked (s : State) (g : Grant) (key : ChannelKey) : State :=
  let s := s.setSlotTable { s.slotTable with unlockedKey := some key }
  (s.movePhase .unlocked g (if s.supervisor.attached then none else some (s.clock + attachWindowTime))).presentKey

/-! ### Merge of pairs (R46, R64) -/

/-- The larger of a pair and a reported pair (Section 2.6). -/
def largerPair (held reported : Nat × Nat) : Nat × Nat :=
  if pairLess held.1 held.2 reported.1 reported.2 then reported else held

/-- The held pair. -/
def State.pair (s : State) : Nat × Nat := (s.verifier.held.serial, s.verifier.held.count)

/-- The held pair is raised to a larger pair, and the requester places its write (R46, R50). -/
def State.raisePair (s : State) (r : Requester) (p : Nat × Nat) : State :=
  if pairLess s.pair.1 s.pair.2 p.1 p.2 then (s.setPair p.1 p.2).request r .attempt else s

/-- A member's filed verdict counts for the merge when its last record shows the station's own epoch (R64, R70). -/
def State.sameEpoch (s : State) (n : StationNo) : Bool :=
  match s.lastGuard n with
  | some r => r.epoch = s.epoch
  | none => false

/-- The largest of the held pair and the filed pairs of some stations. -/
def State.bestFiled (s : State) (filed : Vector (Option Filed) 8) (from_ : List StationNo) : Nat × Nat :=
  from_.foldl (fun best n =>
    match filed[n] with
    | some f => largerPair best (f.serial, f.count)
    | none => best) s.pair

/-! ### Leaving a phase (R70, R96) -/

/-- A verification is void: the filed verdicts of the other members are merged, and the attempt goes with its held key (R70). -/
def State.voidAttempt (s : State) : State :=
  match s.verifier.attempt with
  | none => s
  | some a =>
    let s := s.raisePair .roster (s.bestFiled a.filed (s.others.filter s.sameEpoch))
    s.setVerifier { s.verifier with attempt := none }

/-- The enrollment record ends without a frame (R87). -/
def State.dropEnrollment (s : State) : State := s.setSlotTable { s.slotTable with enrollment := none }

/-- What a station gives up as it leaves its phase: the key port first, then the unlocked key, the attach window and the enrollment record of UNLOCKED; the attempt of VERIFYING; the first enrollment of BLANK (R70, R84, R87, R96). -/
def State.leavePhase (s : State) : State :=
  match s.phase with
  | .unlocked =>
    let s := s.clearKeyPort
    let s := s.setSlotTable { s.slotTable with unlockedKey := none, enrollment := none }
    s.setPhaseCtl { s.phaseCtl with attachWindow := none }
  | .verifying => s.voidAttempt
  | .blank => s.setSlotTable { s.slotTable with unlockedKey := none, enrollment := none }
  | .uncommissioned | .halted | .assembling | .incomplete | .locked | .purging | .purgeWait => s

/-! ### Purge: opening, raising, offers (R113 to R120) -/

/-- The engine offers a PURGE with the cause and target of its journal, unless an own PURGE is on its way (R116, Table 11-6). -/
def State.offerPurge (s : State) : State :=
  if s.ownOutstanding .purge then s
  else s.offer .purge none
    (byte ((s.purge.journal.cause.map (·.code)).getD 0) :: bytes2 (s.purge.journal.target.getD 0))

/-- Every other member guard is in the heard set (R117). -/
def State.allHeard (s : State) : Bool := s.others.all fun n => s.purge.heard[n]

/-- The heard set is emptied (R117). -/
def State.emptyHeard (s : State) : State := s.setPurge { s.purge with heard := Vector.replicate 8 false }

/-- The heard set is emptied and a run of re-offers begins; with no other member there is none to make (R117). -/
def State.beginOffers (s : State) : State :=
  s.setPurge
    { s.purge with
      heard := Vector.replicate 8 false, reoffered := 0
      reoffer := if s.others.isEmpty then none else some (s.clock + announcePeriod) }

/-- A member joins the heard set when what it reports is at or above the journal's target; when all are heard the re-offers stop (R117). -/
def State.hear (s : State) (n : StationNo) (epoch : Nat) : State :=
  if s.purge.journal.isOpen && (s.purge.journal.target.getD 0 ≤ epoch) && n ≠ s.sn && s.isMember n then
    let s := s.setPurge { s.purge with heard := s.purge.heard.set n true }
    if s.allHeard then s.setPurge { s.purge with reoffer := none } else s
  else s

/-- The journal at an opening (R114). -/
def Journal.opened (target : Nat) (cause : PurgeCause) : Journal := ⟨true, some target, some cause, some .destroy, 0, false, false⟩

/-- A purge opens: the phase is left, the journal opens and its write is requested, the phase becomes PURGING, and PURGE is offered with a new run (R114). -/
def State.openPurge (s : State) (cause : PurgeCause) (target : Nat) : State :=
  let s := s.leavePhase
  let s := (s.setPurge
    { s.purge with
      journal := Journal.opened target cause, nextBlock := 0, plan := [], begun := false, closing := false
      suspended := false, pendingTarget := none }).noteWrite .purge .journal
  let s := s.enterPhase .purging
  s.beginOffers.offerPurge

/-- The last epoch, at which a station can form no target of its own (R113). -/
def lastEpoch : Nat := 65535

/-- A purge toward the own epoch plus one can open: the journal is CLOSED, the phase acts on causes, and the epoch is not the last (R113). -/
def State.canOpenOwn (s : State) : Bool :=
  !s.purge.journal.isOpen && s.phase ≠ .uncommissioned && s.phase ≠ .halted && s.epoch ≠ lastEpoch

/-- A LIMIT, TAMPER or keypad REQUEST cause toward the own epoch plus one; at the last epoch it opens nothing (R113). -/
def State.openOwn (s : State) (cause : PurgeCause) : State := if s.canOpenOwn then s.openPurge cause (s.epoch + 1) else s

/-- The verification ends in LOCKED: at the failure limit a purge opens with cause LIMIT instead; else the hold restarts (R67 to R70). -/
def State.endVerification (s : State) : State :=
  if s.failureLimit ≤ s.verifier.held.count && s.canOpenOwn then s.openOwn .limit
  else s.restartHold.enterPhase .locked

/-- A station ends an unlock or a verification into LOCKED (R100, R102, R188): the revoke, or the void. -/
def State.lockDown (s : State) : State :=
  if s.phase = .unlocked then s.leavePhase.enterPhase .locked
  else if s.phase = .verifying then s.leavePhase.endVerification
  else s

/-! ### Stages (R121 to R132) -/

/-- The held copies that DESTROY clears, and its eight writes in order (R123). -/
def destroyPlan : List RecordId := .badBlocks :: slotNumbers.map .slot ++ [.blankKey]

/-- The eleven writes of CLOSE in order (R132). -/
def closePlan : List RecordId := .attempt :: rangeNumbers.map .range ++ [.tamper, .journal]

/-- The default range table of a channel of B blocks (R155). -/
def defaultRanges (blocks : Nat) : Vector RangeEntry 8 :=
  #v[⟨true, 0, blocks - 1, true, true, .user, false⟩, .disabled, .disabled, .disabled, .disabled, .disabled, .disabled, .disabled]

/-- The first record of the plan is requested; at the tamper flag TAMPERED is cleared, at the journal the close is requested (R132). -/
def State.writePlanHead (s : State) : State :=
  match s.purge.plan with
  | [] => s
  | .tamper :: _ => (s.setTampered false).noteWrite .purge .tamper
  | .journal :: _ => (s.setPurge { s.purge with closing := true }).noteWrite .purge .journal
  | rec :: _ => s.noteWrite .purge rec

/-- DESTROY begins: all held copies are cleared at once (R123). -/
def State.beginDestroy (s : State) : State :=
  let s := s.setSlotTable
    { s.slotTable with slots := Vector.replicate 6 Slot.cleared, blankKey := none, waits := [] }
  (s.setPurge { s.purge with badBlocks := [], plan := destroyPlan, begun := true }).writePlanHead

/-- REKEY begins: a new channel key from the random source becomes the held blank key record (R131; log entry 3). -/
def State.beginRekey (s : State) : State :=
  let s := (s.setSlotTable { s.slotTable with blankKey := some (Config.freeKey s.draws) }).setDraws (s.draws + 1)
  (s.setPurge { s.purge with plan := [.blankKey], begun := true }).writePlanHead

/-- CLOSE begins, or begins again at a raised target: attempt record and range table take their values of the new epoch, and the hold stops (R120, R132). -/
def State.beginClose (s : State) : State :=
  let s := s.setVerifier { s.verifier with held := ⟨s.purge.journal.target.getD 0, 0, 0⟩, hold := none }
  let s := s.setGate { s.gate with ranges := defaultRanges s.blocks, waits := [] }
  (s.setPurge { s.purge with plan := closePlan, begun := true }).writePlanHead

/-- ERASE begins at the journal's next block (R124). -/
def State.beginErase (s : State) : State :=
  (s.setPurge { s.purge with nextBlock := s.purge.journal.nextBlock, begun := true }).eraseAdvance

/-- The stored stage begins its work (R121). -/
def State.beginStage (s : State) : State :=
  match s.purge.journal.stage with
  | some .destroy => s.beginDestroy
  | some .erase => s.beginErase
  | some .rekey => s.beginRekey
  | some .close => s.beginClose
  | none => s

/-- The stage in hand has made its last write: the journal takes the next stage and is written (R121, R123, R131). -/
def State.nextStage (s : State) (stage : PurgeStage) : State :=
  (s.setPurge { s.purge with journal := { s.purge.journal with stage := some stage }, begun := false }).noteWrite .purge .journal

/-- A new target while the journal is OPEN (R120): nothing at or below the journal's; kept as pending target during the close, the largest of several (log entry 55); else the journal is raised, written and offered, and CLOSE starts again. -/
def State.raiseTarget (s : State) (target : Nat) : State :=
  if target ≤ s.purge.journal.target.getD 0 then s
  else if s.purge.closing then s.setPurge { s.purge with pendingTarget := some (max target (s.purge.pendingTarget.getD 0)) }
  else
    let s := (s.setPurge { s.purge with journal := { s.purge.journal with target := some target } }).noteWrite .purge .journal
    let s := s.beginOffers.offerPurge
    if s.purge.journal.stage = some .close && s.purge.begun then s.beginClose else s

/-- A target toward which the drive moves: it opens a purge above the own epoch, or raises an open one (R48, R118). -/
def State.takeTarget (s : State) (cause : PurgeCause) (target : Nat) : State :=
  if s.purge.journal.isOpen then s.raiseTarget target
  else if s.epoch < target then s.openPurge cause target
  else s

/-! ### Presence (R34, R36) -/

/-- A member's entry has become PRESENT or has left it: LOCKED goes to INCOMPLETE when a member has left, and re-announcement follows (R36, R40). -/
def State.presenceMoved (s : State) (left : Bool) : State :=
  let s := if left && s.phase = .locked then s.enterPhase .incomplete else s
  match s.phase with
  | .incomplete => s.renewAnnounce
  | .blank | .unlocked => if s.memberMissing then s.renewAnnounce else s.stopAnnounce
  | .uncommissioned | .halted | .assembling | .locked | .verifying | .purging | .purgeWait => s

/-- The entry of a station takes a presence and a last record (R34, R35). -/
def State.setEntry (s : State) (n : StationNo) (e : RosterEntry) : State :=
  s.setRoster { s.roster with entries := s.roster.entries.set n e }

/-- A ROLL of a station is handled: its entry is PRESENT with the record (R34). -/
def State.markPresent (s : State) (n : StationNo) (r : LastRecord) : State :=
  let was := s.roster.entries[n].presence
  let s := s.setEntry n ⟨.present, some r⟩
  if was ≠ .present && s.isMember n then s.presenceMoved false else s

/-- A PRESENT station that was missing from a last attempt becomes SILENT and keeps its last record (R34). -/
def State.silence (s : State) (n : StationNo) : State :=
  if s.roster.entries[n].presence = .present then s.setEntry n { s.roster.entries[n] with presence := .silent } else s

/-- The missing stations of a last attempt are handed to the roster unit (R21, R34, R36). -/
def State.markSilent (s : State) (missing : List StationNo) : State :=
  let lost := missing.any fun n => s.isMember n && s.roster.entries[n].presence = .present
  let s := missing.foldl State.silence s
  if lost then s.presenceMoved true else s

end Sys2Proof.Machine
end

