-- ==== Sys2Proof/Machine/Agree.lean ====
section
/-! DEFINITION. The agreements of the stations: reconciliation of the slots, completion of assembly, the digest conflict, the PURGE_WAIT test, the decision on an entry, and the enrollment at its origin. -/

namespace Sys2Proof.Machine

/-! ### Credentials (R56, R75 to R77) -/

/-- The check value of a token at this station (R75). -/
def State.checkValue (s : State) (t : Token) : CheckValue := ⟨s.slotTable.salt, t⟩

/-- The wrapping value of a token at this station (R75). -/
def State.wrapValue (s : State) (t : Token) : WrapValue := ⟨s.slotTable.salt, t⟩

/-- Unwrapping yields the key with the right wrapping value, and fails the tag test with any other (R76). -/
def WrappedKey.unwrap (w : WrappedKey) (v : WrapValue) : Option ChannelKey := if w.sealedUnder = v then some w.key else none

/-- The verifiers that a slot brings to the test of R77: that of its ACTIVE record unless it is the slot concerned, and that of its staged part. -/
def Slot.verifiers (sl : Slot) : List CheckValue :=
  (match sl.body with
    | .active c => [c.verifier]
    | .empty | .diverged => []) ++ (sl.staged.map (·.cred.verifier)).toList

/-- Another slot already holds a verifier, in its ACTIVE record or its staged part (R77). -/
def State.duplicate (s : State) (i : SlotNo) (v : CheckValue) : Bool :=
  slotNumbers.any fun j => j ≠ i && (s.slotAt j).verifiers.contains v

/-- The slot that a token matches, with its unwrapped key: an ACTIVE slot with that verifier whose wrap passes its test (R56). -/
def State.matchSlot (s : State) (t : Token) (i : SlotNo) : Option (SlotNo × ChannelKey) :=
  match (s.slotAt i).body with
  | .active c => if c.verifier = s.checkValue t then (c.wrapped.unwrap (s.wrapValue t)).map (i, ·) else none
  | .empty | .diverged => none

/-- The check against the slots (R56). -/
def State.checkToken (s : State) (t : Token) : Option (SlotNo × ChannelKey) := slotNumbers.findSome? (s.matchSlot t)

/-- A slot made ACTIVE from its staged part (R82). -/
def Staged.adopted (st : Staged) : Slot := ⟨st.gen, .active st.cred, none⟩

/-! ### Reconciliation (R89 to R91) -/

/-- The content of a slot at its largest generation (R89). -/
inductive Content where
  | emptied | active | disagreed
  deriving DecidableEq, Repr

/-- The largest generation among the summaries (R89). -/
def largestGen (sums : List Summary) : Nat := sums.foldl (fun g m => max g m.gen) 0

/-- The content at a generation (R89). -/
def contentAt (g : Nat) (sums : List Summary) : Content :=
  let top := sums.filter fun m => m.gen = g
  if top.all fun m => m.state = .empty then .emptied
  else if (top.any fun m => m.state = .active) && !(top.any fun m => m.state = .empty) then .active
  else .disagreed

/-- What Table 4-5 does to a record. -/
inductive Repair where
  | keep | clear | promote | diverge
  deriving DecidableEq, Repr

/-- Table 4-5, applied to a summary. -/
def repairOf (g : Nat) (c : Content) (m : Summary) : Repair :=
  if m.gen = g then
    match c with
    | .emptied | .active => .keep
    | .disagreed => if m.state = .diverged then .keep else .diverge
  else
    match c with
    | .emptied => .clear
    | .active => if m.gen + 1 = g && m.staged then .promote else .diverge
    | .disagreed => .diverge

/-- Table 4-5 makes or keeps a record DIVERGED (R91). -/
def showsDiverged (g : Nat) (c : Content) (m : Summary) : Bool :=
  match repairOf g c m with
  | .diverge => true
  | .keep => m.state = .diverged
  | .clear | .promote => false

/-- The smallest uses that an ACTIVE summary at g shows, from a start (R91). -/
def leastUses (g start : Nat) (sums : List Summary) : Nat :=
  sums.foldl (fun u m =>
    match m.uses with
    | some v => if m.gen = g && m.state = .active then min u v else u
    | none => u) start

/-- An ACTIVE slot at g takes the smallest uses shown (R91). -/
def Slot.withLeastUses (sl : Slot) (g : Nat) (sums : List Summary) : Slot :=
  match sl.body with
  | .active c =>
    match c.uses with
    | some u => if sl.gen = g then { sl with body := .active { c with uses := some (leastUses g u sums) } } else sl
    | none => sl
  | .empty | .diverged => sl

/-- The own slot after Table 4-5, with the stale staged part of a kept record discarded and the promotion test made (R90, R91). -/
def State.repairSlot (s : State) (i : SlotNo) (g : Nat) : Repair → Slot
  | .keep => { s.slotAt i with staged := none }
  | .clear => ⟨g, .empty, none⟩
  | .diverge => ⟨g, .diverged, none⟩
  | .promote =>
    match (s.slotAt i).staged with
    | some st => if s.duplicate i st.cred.verifier then ⟨g, .diverged, none⟩ else st.adopted
    | none => ⟨g, .diverged, none⟩

/-- The summaries of one slot: those of every member guard's last record, with the station's own current one in place of its own (R43). -/
def State.slotSummaries (s : State) (i : SlotNo) : List Summary :=
  s.members.filterMap fun n => (s.lastGuard n).map fun r => r.slots[i]

/-- One slot is reconciled, against the summaries of that slot; a changed record joins the set (R90, R91). -/
def State.reconcileSlot (s : State) (i : SlotNo) : State :=
  let sums := s.slotSummaries i
  let g := largestGen sums
  let c := contentAt g sums
  let s := if sums.any (showsDiverged g c) then s.setSlotTable { s.slotTable with slotDiverged := true } else s
  let repair := repairOf g c (s.slotAt i).summary
  let sl := (s.repairSlot i g repair).withLeastUses g sums
  if sl = s.slotAt i then s else s.changeSlot i sl !(repair = .promote && sl.isActive)

/-- Reconciliation: slots 0 to 5 in turn, then the deletion of a blank key record that stands beside an ACTIVE slot 0 (R90, R91). -/
def State.reconcile (s : State) : State :=
  let s := slotNumbers.foldl State.reconcileSlot s
  if (s.slotAt 0).isActive then s.deleteBlankKey else s

/-! ### Completion of assembly (R42 to R45) -/

/-- A PRESENT member's last record shows another setup digest (R42, R44). -/
def State.digestConflict (s : State) : Bool :=
  s.members.any fun n => s.presence n = .present && (match s.lastGuard n with
    | some r => r.digest ≠ s.digest
    | none => false)

/-- A member guard meets conditions 1 to 4 of R42. -/
def State.memberAgrees (s : State) (n : StationNo) : Bool :=
  s.presence n = .present && (match s.lastGuard n with
    | some r => r.epoch = s.epoch && r.phase ≠ .purging && r.phase ≠ .halted && r.digest = s.digest
    | none => false)

/-- Assembly is complete (R42). -/
def State.assembled (s : State) : Bool := s.members.all s.memberAgrees

/-- The station enters HALTED on a digest conflict: halt mark, and one line reset after a power-up or a wake, or one ROLL after a reseat (R44, R24). -/
def State.haltOnConflict (s : State) : State :=
  let s := (s.setSupervisor { s.supervisor with haltMark := true }).enterPhase .halted
  match s.roster.startCause with
  | .power | .wake => s.setLine { s.line with sendingReset := true, onLine := none, state := .lost, lastDominant := s.clock }
  | .reseat => s.offerRoll

/-- The largest pair among the member guards' last records, from the held pair on (R43). -/
def State.bestReported (s : State) : Nat × Nat :=
  s.members.foldl (fun best n =>
    match s.lastGuard n with
    | some r => largerPair best (r.serial, r.count)
    | none => best) s.pair

/-- The window timer and the re-announcement timer stop (R43). -/
def State.stopAssemblyTimers (s : State) : State :=
  s.setRoster { s.roster with window := none, announce := none, announced := 0 }

/-- The merge of completion: the pair is raised to the largest reported, and a pair that it changes restarts the hold (R43, R46, R71). -/
def State.mergeReported (s : State) : State :=
  if pairLess s.pair.1 s.pair.2 s.bestReported.1 s.bestReported.2 then (s.raisePair .roster s.bestReported).restartHold
  else s

/-- The five steps of completion, with its timers stopped (R43). At the failure limit steps 3 to 5 are skipped also where no purge can open, at the last epoch, and the phase stays (log entry 56); a merge that changed nothing restarts no hold there (log entry 57). -/
def State.completeAssembly (s : State) : State :=
  let s := s.mergeReported.stopAssemblyTimers
  if s.failureLimit ≤ s.verifier.held.count then s.openOwn .limit
  else
    let s := s.reconcile.restartHold
    s.enterPhase (if (s.slotAt 0).body = .empty then .blank else .locked)

/-- The completion test with its digest condition, in ASSEMBLING and INCOMPLETE (R42, R44). -/
def State.completionTest (s : State) : State :=
  if s.phase = .assembling ∨ s.phase = .incomplete then
    if s.digestConflict then s.haltOnConflict
    else if s.assembled then s.completeAssembly
    else s
  else s

/-- The entry to ASSEMBLING with its window: the first ROLL, then the completion test (R38, R42; log entry 22). -/
def State.beginAssembly (s : State) : State := s.offerRoll.completionTest

/-- A member's last record lets PURGE_WAIT go on to BLANK (R136). -/
def State.memberArrived (s : State) (n : StationNo) : Bool :=
  match s.lastGuard n with
  | some r => s.epoch ≤ r.epoch && r.phase ≠ .purging
  | none => false

/-- The PURGE_WAIT test (R136). -/
def State.purgeWaitTest (s : State) : State :=
  if s.phase = .purgeWait && s.others.all s.memberArrived then s.enterPhase .blank else s

/-! ### Reports of members (R35, R46 to R48) -/

/-- The merge takes place in this phase (R46). -/
def Phase.merges : Phase → Bool
  | .uncommissioned | .halted | .purging => false
  | .assembling | .incomplete | .blank | .locked | .verifying | .unlocked | .purgeWait => true

/-- A member's reported pair is merged; outside VERIFYING a raised pair restarts the hold and at the limit opens a purge (R46, R47, R71). -/
def State.mergePair (s : State) (p : Nat × Nat) : State :=
  if s.phase.merges && pairLess s.pair.1 s.pair.2 p.1 p.2 then
    let s := s.raisePair .roster p
    if s.phase = .verifying then s
    else
      let s := s.restartHold
      if s.failureLimit ≤ s.verifier.held.count then s.openOwn .limit else s
  else s

/-- The epoch test of a report (R48). -/
def State.epochTest (s : State) (epoch : Nat) : State :=
  if s.phase = .uncommissioned ∨ s.phase = .halted ∨ epoch ≤ s.epoch then s else s.takeTarget .epoch epoch

/-- The last record of a sender other than this station is updated, when it is a guard's (R35). -/
def State.updateRecord (s : State) (n : StationNo) (change : GuardRecord → GuardRecord) : State :=
  if n = s.sn then s
  else
    match s.roster.entries[n].last with
    | some (.guard r) => s.setEntry n { s.roster.entries[n] with last := some (.guard (change r)) }
    | some .controller => s
    | none => s

/-! ### The decision (R64 to R69) -/

/-- A VERDICT as a station sends it (R60, Table 11-9). -/
def State.offerVerdict (s : State) (origin : StationNo) (seq : Nat) (result : VerdictResult) (slot : Nat) (p : Nat × Nat) : State :=
  s.offer .verdict none
    (byte origin.val :: byte seq :: byte result.code :: byte slot :: byte p.2 :: bytes4 p.1)

/-- The verdicts filed, of the member guards. -/
def State.filedVerdicts (s : State) (a : Attempt) : List Filed := s.members.filterMap fun n => a.filed[n]

/-- Every member guard has a verdict filed (R63). -/
def State.fullSet (s : State) (a : Attempt) : Bool := s.members.all fun n => a.filed[n].isSome

/-- The outcomes of Table 3-5. -/
inductive Outcome where
  | unlock | failure | void
  deriving DecidableEq, Repr

/-- The slots that the MATCH verdicts name. -/
def matchedSlots (l : List Filed) : List Nat := (l.filter fun f => f.result = .matched).map (·.slot)

/-- The MATCH verdicts name one slot at most. -/
def oneSlot (l : List Filed) : Bool :=
  match matchedSlots l with
  | [] => true
  | i :: rest => rest.all (· = i)

/-- The outcome of the held verdicts, the rows of Table 3-5 in order. -/
def outcomeOf (full : Bool) (l : List Filed) : Outcome :=
  if full && l.any (fun f => f.result = .mismatch) then .failure
  else if full && !oneSlot l then .failure
  else if full && l.all (fun f => f.result = .matched) then .unlock
  else .void

/-- The hand-over of an unlock: UNLOCKED with its grant, the held key presented (R65). -/
def State.handOver (s : State) (slot : SlotNo) (readOnly : Bool) (key : ChannelKey) : State :=
  (s.setVerifier { s.verifier with attempt := none }).enterUnlocked (unlockGrant slot readOnly) key

/-- The pair of an unlock: the open serial plus one and no failures; past the greatest serial the sum is a free value (R65; log entry 5). -/
def unlockSerial (serial draws : Nat) : Nat :=
  if serial < 4294967295 then serial + 1 else (Config.freeSerial draws).toNat

/-- The held pair of an unlock, its write requested, and the hold stopped (R65). -/
def State.countUnlock (s : State) : State :=
  let serial := unlockSerial s.verifier.held.serial s.draws
  let s := if s.verifier.held.serial < 4294967295 then s else s.setDraws (s.draws + 1)
  ((s.setPair serial 0).request .verifier .attempt).stopHold

/-- A slot with one use spent: lowered, or retired at its last use (R66). -/
def Slot.spent (sl : Slot) (c : Credential) (uses : Nat) : Slot :=
  if uses ≤ 1 then ⟨sl.gen + 1, .empty, none⟩ else { sl with body := .active { c with uses := some (uses - 1) } }

/-- The uses and read-only flag of an ACTIVE slot. -/
def Slot.credential (sl : Slot) : Option Credential :=
  match sl.body with
  | .active c => some c
  | .empty | .diverged => none

/-- The hand-over of the matched slot: at once, or after the write that spends one of its uses (R65, R66). -/
def State.spendOrHandOver (s : State) (a : Attempt) (slot : SlotNo) (key : ChannelKey) : State :=
  match (s.slotAt slot).credential with
  | none => s.handOver slot a.readOnly key
  | some c =>
    match c.uses with
    | none => s.handOver slot (c.readOnly || a.readOnly) key
    | some u =>
      let wait : HandOverWait := ⟨slot, c.readOnly || a.readOnly, s.store.grants⟩
      (s.setVerifier { s.verifier with attempt := some { a with window := none, waiting := some wait } }).changeSlot slot
        ((s.slotAt slot).spent c u) (u ≤ 1)

/-- An admin unlock clears TAMPERED and requests its write (R65, R189). -/
def State.clearTamper (s : State) : State :=
  if s.supervisor.tampered then (s.setTampered false).request .supervisor .tamper else s

/-- The unlock outcome (R65, R66). A station whose own result is MISMATCH has no held key to present, and ends the attempt as at a failure; this is the model's choice (log entry 71). -/
def State.unlockOutcome (s : State) (a : Attempt) : State :=
  match a.own with
  | .matched slot key =>
    let s := s.countUnlock.spendOrHandOver a slot key
    if slot = 0 then s.clearTamper else s
  | .mismatched _ _ => (s.setVerifier { s.verifier with attempt := none }).endVerification

/-- The filed verdicts that count for the merge: the station's own, and those of members whose last record shows the own epoch (R64). -/
def State.mergers (s : State) : List StationNo := s.members.filter fun n => n = s.sn || s.sameEpoch n

/-- The decision: the pairs are merged, then the outcome of Table 3-5 is applied (R63, R64). -/
def State.takeDecision (s : State) (a : Attempt) : State :=
  let s := s.raisePair .verifier (s.bestFiled a.filed s.mergers)
  match outcomeOf (s.fullSet a) (s.filedVerdicts a) with
  | .unlock => s.unlockOutcome a
  | .failure | .void => (s.setVerifier { s.verifier with attempt := none }).endVerification

/-! ### The enrollment at its origin (R86, R87) -/

/-- The enrollment ends with its ADOPT, abandon flag clear or set, and its transient (R87, R174, Table 11-14). -/
def State.endEnrollment (s : State) (e : Enrollment) (abandon : Bool) : State :=
  let s := s.dropEnrollment.offer .adopt none (byte e.slot :: bytes2 e.gen ++ [byte (bit abandon * 128)])
  s.showTransient (if abandon then .red else .green)

/-- Every member's place holds DONE. -/
def State.allDone (s : State) (e : Enrollment) : Bool := s.members.all fun n => e.places[n] = some (byte AnswerResult.done.code)

/-- An answer to the STAGE is filed in its sender's empty place; the record ends at an answer other than DONE, or with every place DONE (R86, R87). -/
def State.fileAnswer (s : State) (sender : StationNo) (slot gen : Nat) (result : Byte) : State :=
  match s.slotTable.enrollment with
  | none => s
  | some e =>
    if s.isMember sender && e.slot = slot && e.gen = gen && e.places[sender].isNone then
      let e := { e with places := e.places.set sender (some result) }
      let s := s.setSlotTable { s.slotTable with enrollment := some e }
      if result ≠ byte AnswerResult.done.code then s.endEnrollment e true
      else if s.allDone e then s.endEnrollment e false
      else s
    else s

/-- The answer to a STAGE, ADOPT or RETIRE: a directed ANSWER, or for the station's own request the result straight to its enrollment record (R79). -/
def State.answerSlot (s : State) (replyTo : StationNo) (request : Kind) (result : AnswerResult) (slot gen : Nat) : State :=
  if replyTo = s.sn then (if request = .stage then s.fileAnswer s.sn slot gen (byte result.code) else s)
  else s.answer replyTo request result slot gen

/-- The station offers a STAGE as origin and opens its enrollment record (R86, R174, Table 11-13). -/
def State.offerStage (s : State) (slot : SlotNo) (token : Token) : State :=
  let gen := (s.slotAt slot).gen + 1
  let s := s.offer .stage none (byte slot.val :: bytes2 gen ++ [0, 0] ++ tokenBytes token)
  s.setSlotTable
    { s.slotTable with enrollment := some ⟨slot.val, gen, s.phase = .blank, none, Vector.replicate 8 none⟩ }

end Sys2Proof.Machine
end

