-- ==== Sys2Proof/Machine/Handling.lean ====
section
/-! DEFINITION. Frame handling: the oldest frame of the receive queue leaves it and is handed to the block that owns its kind (R17, R33, R196, R210). -/

namespace Sys2Proof.Machine

/-- The kinds that a station in UNCOMMISSIONED serves (R196). -/
def Kind.servedUncommissioned : Kind → Bool
  | .setup | .setupLock | .query | .clear => true
  | .purge | .lock | .purged | .verdict | .entry | .roll | .stage | .adopt | .retire | .answer | .range | .status => false

/-- Handling goes on with a frame: in UNCOMMISSIONED for the four kinds served there; else its sender has a role; and its directed flag fits its kind (R33, R196, R210). -/
def State.handles (s : State) (f : RxFrame) : Bool :=
  (if s.phase = .uncommissioned then f.kind.servedUncommissioned else s.roleOf f.sender ≠ .none) && f.directed = f.kind.directed

/-- The oldest frame leaves the receive queue, when it is of the row's kind, and its block serves it (R17; log entry 36). -/
def State.takeFrame (s : State) (isMine : RxFrame → Bool) (serve : State → RxFrame → State) : State :=
  match s.line.rx with
  | [] => s
  | f :: rest =>
    if isMine f then
      let s := s.setLine { s.line with rx := rest }
      if s.handles f then serve s f else s
    else s

/-- A frame row: taken while the station is awake. -/
def State.frameRow (s : State) (isMine : RxFrame → Bool) (serve : State → RxFrame → State) : Host.Outcome State Fault Refusal :=
  s.whileAwake fun s => s.takeFrame isMine serve

/-- The phases in which admin requests, LOCK and PURGE are receipted and ignored (R78, R99, R118). -/
def State.asleepToRequests (s : State) : Bool := s.phase = .uncommissioned || s.phase = .halted

/-- The sender may act as admin: the keypad guard, or the controller where setup allows host administration (R78, R156). -/
def State.adminSender (s : State) (n : StationNo) : Bool :=
  s.roleOf n = .keypadGuard || (s.roleOf n = .controller && s.hostAdmin)

end Sys2Proof.Machine
end

