-- ==== Sys2Proof/Machine/Assembly.lean ====
section
/-! DEFINITION. The meanings of the roster's commands (Chapter 2): ROLL handled, the sends and the end of the assembly window, and re-announcement. -/

namespace Sys2Proof.Machine

/-- A ROLL calls for an answer: its sender was not PRESENT before, or it shows a phase that waits for the others (R39). -/
def callsForAnswer (wasPresent : Bool) : RollFields → Bool
  | .guard _ r => !wasPresent || r.phase = .assembling || r.phase = .incomplete || r.phase = .purgeWait
  | .controller => !wasPresent

/-- The 500 ms answer limit allows an answer (R39). -/
def State.mayAnswer (s : State) : Bool :=
  match s.roster.answeredAt with
  | some t => t + answerLimit ≤ s.clock
  | none => true

/-- The answer to a ROLL (R39). -/
def State.answerRoll (s : State) (calls : Bool) : State :=
  if calls && s.mayAnswer && !s.ownRollQueued then
    (s.setRoster { s.roster with answeredAt := some s.clock }).offerRoll
  else s

/-- The move of LOCKED on a member's report of HALTED or of a lower epoch (R36, R48). -/
def State.leaveLockedOn (s : State) (halted : Bool) (epoch : Nat) : State :=
  if s.phase = .locked ∧ (halted = true ∨ epoch < s.epoch) then s.enterPhase .incomplete else s

/-- The merge of a ROLL: a ROLL that does not show PURGING, of the station's own epoch (R46). -/
def State.mergeRoll (s : State) (r : GuardRecord) : State :=
  if r.phase ≠ .purging ∧ r.epoch = s.epoch then s.mergePair (r.serial, r.count) else s

/-- The tests that follow each ROLL and PURGED handled (R42, R136). -/
def State.testsAfterReport (s : State) : State := s.completionTest.purgeWaitTest

/-- A ROLL of another member guard: presence and record, heard set, merge, epoch test, completion, the move of LOCKED, and the answer (R34 to R39, R46, R48, R117; log entry 23). -/
def State.handleGuardRoll (s : State) (n : StationNo) (role : Role) (r : GuardRecord) : State :=
  let calls := callsForAnswer (s.roster.entries[n].presence = .present) (.guard role r)
  let s := ((s.markPresent n (.guard r)).hear n r.epoch).mergeRoll r
  ((s.epochTest r.epoch).testsAfterReport.leaveLockedOn (r.phase = .halted) r.epoch).answerRoll calls

/-- The controller's ROLL: presence, the tests that follow each ROLL, and answer (R34, R37, R39, R42, R136). -/
def State.handleControllerRoll (s : State) (n : StationNo) : State :=
  let calls := callsForAnswer (s.roster.entries[n].presence = .present) .controller
  (s.markPresent n .controller).testsAfterReport.answerRoll calls

/-- A ROLL is handled; one whose role is not the sender's, or whose fields are outside their codes, is ignored (R33, R210). -/
def State.handleRoll (s : State) (f : RxFrame) : State :=
  match readRoll f.payload with
  | none => s
  | some .controller => if s.roleOf f.sender = .controller then s.handleControllerRoll f.sender else s
  | some (.guard role r) =>
    if s.roleOf f.sender ≠ role then s
    else if f.sender = s.sn then s.testsAfterReport
    else s.handleGuardRoll f.sender role r

/-- ROLL (R34). -/
def execRoll (s : State) : Host.Outcome State Fault Refusal :=
  s.frameRow (fun f => f.kind = .roll) State.handleRoll

/-- ASSEMBLY_SEND: at 100 ms and 200 ms of the window, while some member guard is not PRESENT (R38). -/
def execAssemblySend (s : State) : Host.Outcome State Fault Refusal :=
  s.whileAwake fun s =>
    match s.roster.window with
    | some w =>
      if w.sends < 2 then
        let s := (s.runTo (w.start + (w.sends + 1) * windowSend)).setRoster
          { s.roster with window := some { w with sends := w.sends + 1 } }
        if s.memberMissing then s.offerRoll else s
      else s
    | none => s

/-- ASSEMBLY_WINDOW_END: a last completion test, then INCOMPLETE (R42, R45; log entry 56). -/
def execAssemblyWindowEnd (s : State) : Host.Outcome State Fault Refusal :=
  s.whileAwake fun s =>
    match s.roster.window with
    | some w =>
      let s := ((s.runTo (w.start + assemblyWindow)).setRoster { s.roster with window := none }).completionTest
      if s.phase = .assembling then s.enterPhase .incomplete else s
    | none => s

/-- The phases whose re-announcements come in runs of at most 15 (R40). -/
def State.announceEnds (s : State) : Bool := s.phase ≠ .purgeWait && runLength ≤ s.roster.announced + 1

/-- REANNOUNCE: the ROLL again, and the next in 2 s until the run has made 15; in PURGE_WAIT without limit (R40). -/
def execReannounce (s : State) : Host.Outcome State Fault Refusal :=
  s.whileAwake fun s =>
    match s.roster.announce with
    | some due =>
      ((s.runTo due).setRoster
        { s.roster with
          announce := if s.announceEnds then none else some (due + announcePeriod)
          announced := s.roster.announced + 1 }).offerRoll
    | none => s

end Sys2Proof.Machine
end

