-- ==== Sys2Proof/Machine/Gate.lean ====
section
/-! DEFINITION. The meanings of the channel gate's commands (Chapter 7): recovery resets, hand-over, the controller's flash commands, and RANGE with its write. -/

namespace Sys2Proof.Machine

/-! ### Recovery resets and hand-over (R147 to R153) -/

/-- RECOVERY_RESET_READY: the reset completes (R150, R153). -/
def execRecoveryResetReady (s : State) : Host.Outcome State Fault Refusal :=
  s.whileAwake fun s =>
    match s.gate.op with
    | some (.recoveryReset reason _) => s.finishReset reason true
    | some (.eraseStep _ _) => s
    | none => s

/-- RECOVERY_RESET_TIMEOUT: the reset expires and latches STEP_TIMEOUT (R150). -/
def execRecoveryResetTimeout (s : State) : Host.Outcome State Fault Refusal :=
  s.whileAwake fun s =>
    match s.gate.op with
    | some (.recoveryReset reason due) =>
      ((s.runTo due).setGate { s.gate with stepTimeout := true }).finishReset reason false
    | some (.eraseStep _ _) => s
    | none => s

/-- FAULT_PERIOD: a periodic reset, at once or when the work in hand has finished; the next falls due 1 s later (R153). -/
def execFaultPeriod (s : State) : Host.Outcome State Fault Refusal :=
  s.whileAwake fun s =>
    match s.gate.faultPeriod with
    | some due =>
      ((s.runTo due).setGate
        { s.gate with faultPeriod := some (due + faultPeriodTime), periodicDue := true }).issueDuePeriodic
    | none => s

/-- What is left of the controller's command at an expired drain is denied; one that had ended is over (R148; log entry 26). -/
def State.cutCommand (s : State) : State :=
  match s.gate.command with
  | .passed _ false => s.denyCommand
  | .passed _ true => s.setGate { s.gate with command := .idle }
  | .idle | .takingAddress _ _ _ | .denied => s

/-- The expired drain: RESETTING with a recovery reset, and the expiry counted (R148, R150). -/
def State.expireDrain (s : State) : State :=
  let s := s.cutCommand
  ((s.setGate { s.gate with handOver := .resetting, flashBusy := false }).issueReset .drain).countExpiry

/-- DRAIN_EXPIRE (R148). -/
def execDrainExpire (s : State) : Host.Outcome State Fault Refusal :=
  s.whileAwake fun s =>
    match s.gate.handOver with
    | .draining (some due) => (s.runTo due).expireDrain
    | .draining none => s
    | .steady => s
    | .resetting => s
    | .settling _ => s

/-- SETTLE_END: the owner in force takes the channel, and the gate's own work may begin (R149). -/
def execSettleEnd (s : State) : Host.Outcome State Fault Refusal :=
  s.whileAwake fun s =>
    match s.gate.handOver with
    | .settling due =>
      ((s.runTo due).setGate { s.gate with holder := s.gate.owner, handOver := .steady }).channelFree
    | .draining _ => s
    | .steady => s
    | .resetting => s

/-! ### The controller's flash commands (R141 to R145) -/

/-- READ_00H (R143). -/
def execRead00h (cycles : FlashCycles) (ready : Bool) (s : State) : Host.Outcome State Fault Refusal :=
  s.whileAwake fun s => s.columnCommand 0x00 cycles ready

/-- READ_05H (R143). -/
def execRead05h (cycles : FlashCycles) (ready : Bool) (s : State) : Host.Outcome State Fault Refusal :=
  s.whileAwake fun s => s.columnCommand 0x05 cycles ready

/-- PROGRAM_80H (R143). -/
def execProgram80h (cycles : FlashCycles) (ready : Bool) (s : State) : Host.Outcome State Fault Refusal :=
  s.whileAwake fun s => s.columnCommand 0x80 cycles ready

/-- PROGRAM_85H (R143). -/
def execProgram85h (cycles : FlashCycles) (ready : Bool) (s : State) : Host.Outcome State Fault Refusal :=
  s.whileAwake fun s => s.columnCommand 0x85 cycles ready

/-- ERASE_60H (R143). -/
def execErase60h (cycles : RowCycles) (ready : Bool) (s : State) : Host.Outcome State Fault Refusal :=
  s.whileAwake fun s => s.rowCommand 0x60 cycles ready

/-- The first command cycle after chip enable, of class CONTROL: a command of its own, decided at once; within a command it belongs to it: forwarded in a passed one, suppressed in a denied one, and breaking off an address (R141 to R144). -/
def State.controlCycle (s : State) (code : Byte) : State :=
  match s.gate.command with
  | .idle => s.decideCommand .control 0 [code]
  | .passed _ true => (s.setGate { s.gate with command := .idle, flashBusy := true }).decideCommand .control 0 [code]
  | .passed cycles false => s.setGate { s.gate with command := .passed (cycles ++ [code]) false }
  | .takingAddress _ _ _ => s.denyCommand
  | .denied => s

/-- CONTROL_COMMAND (R143). -/
def execControlCommand (code : Byte) (s : State) : Host.Outcome State Fault Refusal :=
  s.whileAwake fun s => if classOf code = .control then s.controlCycle code else s

/-- The controller releases chip enable: a command whose address was not taken is denied and over, a denied one is over, a passed one is over once ready is seen (R141, R142, R144, R145). -/
def State.endCommand (s : State) (ready : Bool) : State :=
  match s.gate.command with
  | .passed cycles _ =>
    if ready then (s.setGate { s.gate with command := .idle, flashBusy := false }).drainCheck
    else s.setGate { s.gate with command := .passed cycles true }
  | .takingAddress _ _ _ => (s.denyCommand.setGate { s.denyCommand.gate with command := .idle }).seeReady ready
  | .denied => (s.setGate { s.gate with command := .idle }).seeReady ready
  | .idle => s.seeReady ready

/-- COMMAND_END (R141). -/
def execCommandEnd (ready : Bool) (s : State) : Host.Outcome State Fault Refusal :=
  s.whileAwake fun s => s.endCommand ready

/-- The flash ready line rises: an ended passed command is no longer in flight (R144, R148). -/
def State.flashIsReady (s : State) : State :=
  match s.gate.command with
  | .passed _ true => (s.setGate { s.gate with command := .idle, flashBusy := false }).drainCheck
  | .passed _ false | .idle | .takingAddress _ _ _ | .denied => (s.setGate { s.gate with flashBusy := false }).drainCheck

/-- FLASH_READY (R148). -/
def execFlashReady (s : State) : Host.Outcome State Fault Refusal :=
  s.whileAwake State.flashIsReady

/-- ADDRESS_TAKING_BROKEN (R142). -/
def execAddressTakingBroken (s : State) : Host.Outcome State Fault Refusal :=
  s.whileAwake State.denyTaking

/-! ### RANGE (R156 to R158) -/

/-- The answer to a RANGE (R156, Table 11-15). -/
def State.answerRange (s : State) (n : StationNo) (r : AnswerResult) (index : Nat) : State := s.answer n .range r index 0

/-- A range shares a block with another enabled entry (R157, check 4). -/
def Gate.overlaps (g : Gate) (i : RangeNo) (base limit : Nat) : Bool :=
  rangeNumbers.any fun j => j ≠ i && g.ranges[j].enabled && base ≤ g.ranges[j].limit && g.ranges[j].base ≤ limit

/-- The checks of Table 7-6 on an entry of the table, in order: the answer of the first that holds. -/
def State.rangeRefusal (s : State) (i : RangeNo) (e : RangeFields) : Option AnswerResult :=
  if e.limit < e.base ∨ s.blocks ≤ e.limit ∨ e.visibility.isNone then some .invalid
  else if s.gate.ranges[i].lock then some .lockedEntry
  else if e.write && !e.read then some .illegal
  else if e.read && s.gate.overlaps i e.base e.limit then some .overlap
  else none

/-- The entry that a RANGE makes: enabled with read, and locked only when it becomes enabled (R158). -/
def RangeFields.entry (e : RangeFields) : RangeEntry :=
  ⟨e.read, e.base, e.limit, e.read, e.write, e.visibility.getD .user, e.lock && e.read⟩

/-- The held entry changes at once; DONE waits for its write (R155, R158). -/
def State.changeRange (s : State) (n : StationNo) (i : RangeNo) (v : RangeEntry) : State :=
  (s.setGate
    { s.gate with ranges := s.gate.ranges.set i v, waits := s.gate.waits ++ [⟨i, n, s.store.grants⟩] }).noteWrite
    .gate (.range i)

/-- A RANGE that has passed R156 (R157, R158). -/
def State.takeRange (s : State) (n : StationNo) (e : RangeFields) : State :=
  match rangeNo? e.index with
  | none => s.answerRange n .invalid e.index
  | some i =>
    match s.rangeRefusal i e with
    | some r => s.answerRange n r e.index
    | none => s.changeRange n i e.entry

/-- A RANGE is handled: ignored in UNCOMMISSIONED and HALTED, REFUSED without the rights of R156 (R156). -/
def State.handleRange (s : State) (f : RxFrame) : State :=
  let e := readRange f.payload
  if s.asleepToRequests then s
  else if s.adminSender f.sender && s.phaseCtl.grant.isAdmin && !s.supervisor.tampered then s.takeRange f.sender e
  else s.answerRange f.sender .refused e.index

/-- RANGE (R157). -/
def execRange (s : State) : Host.Outcome State Fault Refusal :=
  s.frameRow (fun f => f.kind = .range) State.handleRange

/-- The answers that a write of an entry settles: those of changes made before its grant. -/
def RangeWait.settledBy (w : RangeWait) (i : RangeNo) (serial : Nat) : Bool := w.index = i && w.changedAt < serial

/-- The completion event of a range write: every RANGE whose change of the entry came before the grant is answered DONE, also one that a later RANGE overwrote (R155, R158; log entry 59). -/
def State.rangeStored (s : State) (w : InFlight) : State :=
  let s := s.closeWrite .gate w.contents.record
  match w.contents with
  | .range i _ =>
    let due := s.gate.waits.filter fun x => x.settledBy i w.serial
    let s := s.setGate { s.gate with waits := s.gate.waits.filter fun x => !x.settledBy i w.serial }
    due.foldl (fun s x => s.answerRange x.replyTo .done x.index.val) s
  | .setup _ | .salt _ | .attempt _ | .slot _ _ | .blankKey _ | .journal _ | .badBlocks _ | .tamper _ => s

/-- RANGE_WRITE_COMPLETE (R158, R206). -/
def execRangeWriteComplete (s : State) : Host.Outcome State Fault Refusal :=
  s.whileAwake fun s =>
    match s.writeOf .gate with
    | some w => s.completeWrite w fun s => s.rangeStored w
    | none => s

end Sys2Proof.Machine
end

