-- ==== Sys2Proof/Machine/Keypad.lean ====
section
/-! DEFINITION. The meanings of the keypad scanner's commands (Chapter 8): keys seen, taken and released, and the scanner's timers. -/

namespace Sys2Proof.Machine

/-! ### Keys (R162, R163) -/

/-- The key state after a key is seen down: the first settles, a second one within its 20 ms blocks, and while a key is held any other is ignored (R162, R163). -/
def KeyState.down (k : KeyState) (key : Key) (due : Micros) : KeyState :=
  match k with
  | .idle => .settling key due
  | .settling k' d => if k' = key then .settling k' d else .blocked
  | .held k' => .held k'
  | .blocked => .blocked

/-- KEY_SEEN_DOWN (R162, R163): on the keypad station. -/
def execKeySeenDown (key : Key) (s : State) : Host.Outcome State Fault Refusal :=
  s.whileAwake fun s =>
    if s.roster.kpd then s.setScanner { s.scanner with key := s.scanner.key.down key (s.clock + keyDebounce) } else s

/-- KEY_SEEN_UP_SETTLING (R162): nothing is taken. -/
def execKeySeenUpSettling (s : State) : Host.Outcome State Fault Refusal :=
  s.whileAwake fun s =>
    match s.scanner.key with
    | .settling _ _ => s.setScanner { s.scanner with key := .idle }
    | .idle => s
    | .held _ => s
    | .blocked => s

/-- The key state after the held key, or every key in BLOCKED, has been up for 20 ms: IDLE, or BLOCKED while another key is still down (R162, R163). -/
def KeyState.released (k : KeyState) (otherDown : Bool) : KeyState :=
  match k with
  | .held _ => if otherDown then .blocked else .idle
  | .blocked => if otherDown then .blocked else .idle
  | .idle => .idle
  | .settling key due => .settling key due

/-- KEY_RELEASE (R162, R163). -/
def execKeyRelease (s : State) (otherDown : Bool := false) : Host.Outcome State Fault Refusal :=
  s.whileAwake fun s => s.setScanner { s.scanner with key := s.scanner.key.released otherDown }

/-- A key is taken once its 20 ms have passed in SETTLING for that key, and is then HELD; from IDLE it is seen down now and settles first (R162; log entry 28). -/
def State.takeKey (s : State) (key : Key) (act : State → State) : State :=
  let held := fun (s : State) => s.setScanner { s.scanner with key := .held key }
  if !s.roster.kpd then s
  else
    match s.scanner.key with
    | .idle => act (held (s.runTo (s.clock + keyDebounce)))
    | .settling k due => if k = key then act (held (s.runTo due)) else s
    | .held _ | .blocked => s

/-! ### The entry buffer and failing sequences (R164, R172, R173) -/

/-- The most digits of the entry buffer (R161). -/
def bufferDigits : Nat := 16

/-- A digit into the entry buffer, or OVERLONG (R164). -/
def Scanner.addDigit (k : Scanner) (d : Fin 10) : Scanner :=
  if k.overlong then k
  else if k.digits.length < bufferDigits then { k with digits := k.digits ++ [d] }
  else { k with overlong := true }

/-- The idle timer runs for 10 s from a key taken into the buffer (R164). -/
def State.restartIdle (s : State) : State := s.setScanner { s.scanner with idle := some (s.clock + idleTime) }

/-- The buffer is emptied and its idle timer stops (R164). -/
def State.emptyBuffer (s : State) : State := s.setScanner s.scanner.emptied

/-- The sequence state is set. -/
def State.setSeq (s : State) (q : SeqState) : State := s.setScanner { s.scanner with seq := q }

/-- A sequence fails: the buffer empties, ENTRY, and the red transient (R172, R173, R176). -/
def State.failSequence (s : State) : State := (s.emptyBuffer.setSeq .entry).showTransient .red

/-! ### Digit (R164, R167, R171 to R173, R175, R176) -/

/-- A digit in the sequence state ENTRY, by phase (R164, R171, R175). A digit that is not added, with the buffer full or OVERLONG set, restarts the idle timer too (log entry 29). -/
def State.digitInEntry (s : State) (d : Fin 10) : State :=
  if s.phase.takesEntry ∨ s.phase = .blank then (s.setScanner (s.scanner.addDigit d)).restartIdle else s

/-- A digit by sequence state. In the admin prefix any digit becomes the selector, 0 too (R172; log entry 60). -/
def State.digitKey (s : State) (d : Fin 10) : State :=
  match s.scanner.seq with
  | .entry => s.digitInEntry d
  | .pending _ _ _ => s
  | .lockTiming _ => s.failSequence
  | .adminPrefix none _ => s.setSeq (.adminPrefix (some d) (s.clock + prefixTime))
  | .adminPrefix (some _) _ => s.failSequence
  | .modeFirst _ _ | .modeSecond _ _ _ => s.setScanner (s.scanner.addDigit d)
  | .purgeConfirm _ => s.failSequence

/-- KEY_DIGIT (R164). -/
def execKeyDigit (d : Fin 10) (s : State) : Host.Outcome State Fault Refusal :=
  s.whileAwake fun s => s.takeKey (.digit d) fun s => s.digitKey d

/-! ### LOCK (R164, R167, R171 to R173, R175, R176) -/

/-- LOCK in the sequence state ENTRY, by phase (R164, R171, R175). -/
def State.lockInEntry (s : State) : State :=
  if s.phase.takesEntry then
    if s.scanner.digits.isEmpty && !s.scanner.readOnly then
      (s.setScanner { s.scanner with readOnly := true }).restartIdle
    else s.emptyBuffer
  else if s.phase = .blank then s.emptyBuffer
  else if s.phase = .unlocked then s.setSeq (.lockTiming (s.clock + lockTime))
  else s

/-- LOCK by sequence state. -/
def State.lockKey (s : State) : State :=
  match s.scanner.seq with
  | .entry => s.lockInEntry
  | .pending _ _ _ => s.setSeq .entry
  | .lockTiming _ => if s.phaseCtl.grant.isAdmin then s.setSeq (.adminPrefix none (s.clock + prefixTime)) else s.failSequence
  | .adminPrefix _ _ | .modeFirst _ _ | .modeSecond _ _ _ | .purgeConfirm _ => s.failSequence

/-- KEY_LOCK (R171). -/
def execKeyLock (s : State) : Host.Outcome State Fault Refusal :=
  s.whileAwake fun s => s.takeKey .lock State.lockKey

/-! ### ENTER (R165, R166, R172 to R176) -/

/-- The entry in the buffer is short or overlong (R165). -/
def State.entryRejected (s : State) : Bool := s.scanner.digits.length < s.minDigits || s.scanner.overlong

/-- A short or overlong entry is discarded with the amber transient (R165, R173). -/
def State.discardEntry (s : State) : State := s.emptyBuffer.showTransient .amber

/-- The code of a digit string, its length taken in: the decimal number that the digits form behind a leading 1. Up to 16 digits it is below 2 to the power 64, and strings that differ have codes that differ. -/
def entryCode (digits : List (Fin 10)) : Nat := digits.foldl (fun n d => n * 10 + d.val) 1

/-- The token of a digit string: equal strings give equal tokens, and strings of up to 16 digits that differ give tokens that differ (R168; log entry 4). -/
def tokenOf (digits : List (Fin 10)) : Token := Config.tokenCipher (BitVec.ofNat 64 (entryCode digits))

/-- The token of the entry in the buffer (R168). -/
def State.keyedToken (s : State) : Token := tokenOf s.scanner.digits

/-- An entry accepted locally is offered, discarded under the hold, or waits (R166; log entry 30). -/
def State.placeEntry (s : State) (token : Token) (readOnly : Bool) : State :=
  if s.phase = .locked ∧ s.holdActive then s
  else if s.phase = .locked ∧ s.ownOutstanding .entry = false then s.offerEntry token readOnly
  else s.setSeq (.pending token readOnly (s.clock + pendingTime))

/-- ENTER in the sequence state ENTRY, by phase (R165, R171, R175). In BLANK no double entry begins while an enrollment record is open (R86): an accepted entry fails in red (log entry 29). -/
def State.enterInEntry (s : State) : State :=
  if s.phase.takesEntry then
    if s.entryRejected then s.discardEntry else s.emptyBuffer.placeEntry s.keyedToken s.scanner.readOnly
  else if s.phase = .blank then
    if s.entryRejected then s.discardEntry
    else if s.slotTable.enrollment.isSome then s.failSequence
    else s.emptyBuffer.setSeq (.modeSecond .blank s.keyedToken (s.clock + modeTime))
  else s

/-- A slot can take a new enrollment: no staged part, and below the last generation (R172, R174). -/
def Slot.stageable (sl : Slot) : Bool := sl.staged.isNone && sl.gen < 65535

/-- The lowest free user slot: EMPTY, and able to take an enrollment (R174). -/
def State.freeUserSlot (s : State) : Option SlotNo :=
  [1, 2, 3, 4, 5].find? fun i => (s.slotAt i).body = .empty && (s.slotAt i).stageable

/-- The slot that a mode kind enrolls, when one can be chosen (R172, R174, R175). -/
def State.enrollSlot (s : State) : ModeKind → Option SlotNo
  | .user => s.freeUserSlot
  | .adminPin => if (s.slotAt 0).stageable then some 0 else none
  | .blank => if (s.slotAt 0).stageable && !s.memberMissing then some 0 else none

/-- ENTER in the admin prefix (R172). -/
def State.enterInPrefix (s : State) (selector : Option (Fin 10)) : State :=
  let begin_ := fun (kind : ModeKind) =>
    if s.slotTable.enrollment.isSome || (s.enrollSlot kind).isNone then s.failSequence
    else s.setSeq (.modeFirst kind (s.clock + modeTime))
  match selector with
  | some 1 => begin_ .user
  | some 2 => begin_ .adminPin
  | some 9 => s.setSeq (.purgeConfirm (s.clock + confirmTime))
  | _ => s.failSequence

/-- The accepted second entry: the STAGE of the chosen slot, or red when none can be chosen or an enrollment is open (R174, R175; log entry 29). -/
def State.enroll (s : State) (kind : ModeKind) (token : Token) : State :=
  if s.slotTable.enrollment.isSome then s.failSequence
  else
    match s.enrollSlot kind with
    | some slot => (s.emptyBuffer.setSeq .entry).offerStage slot token
    | none => s.failSequence

/-- ENTER in the second step of a mode (R173, R174). -/
def State.enterInSecond (s : State) (kind : ModeKind) (first : Token) : State :=
  if s.entryRejected then s.discardEntry
  else if s.keyedToken = first then s.enroll kind first
  else s.failSequence

/-- ENTER in the purge confirm: cause REQUEST, or red where no purge can open (R176). -/
def State.confirmPurge (s : State) : State :=
  let s := s.setSeq .entry
  if s.canOpenOwn then s.openOwn .request else s.showTransient .red

/-- ENTER by sequence state. -/
def State.enterKey (s : State) : State :=
  match s.scanner.seq with
  | .entry => s.enterInEntry
  | .pending _ _ _ => s
  | .lockTiming _ => s.failSequence
  | .adminPrefix selector _ => s.enterInPrefix selector
  | .modeFirst kind due =>
    if s.entryRejected then s.discardEntry else s.emptyBuffer.setSeq (.modeSecond kind s.keyedToken due)
  | .modeSecond kind first _ => s.enterInSecond kind first
  | .purgeConfirm _ => s.confirmPurge

/-- KEY_ENTER (R165). -/
def execKeyEnter (s : State) : Host.Outcome State Fault Refusal :=
  s.whileAwake fun s => s.takeKey .enter State.enterKey

/-! ### The scanner's timers -/

/-- IDLE_TIMER_EXPIRE: the buffer is emptied with no indicator change (R164). -/
def execIdleTimerExpire (s : State) : Host.Outcome State Fault Refusal :=
  s.whileAwake fun s =>
    match s.scanner.idle with
    | some due => (s.runTo due).emptyBuffer
    | none => s

/-- PENDING_TIMER_EXPIRE: the pending entry is discarded with the amber transient (R167). -/
def execPendingTimerExpire (s : State) : Host.Outcome State Fault Refusal :=
  s.whileAwake fun s =>
    match s.scanner.seq with
    | .pending _ _ due => ((s.runTo due).setSeq .entry).showTransient .amber
    | _ => s

/-- LOCK_TIMER_EXPIRE: a LOCK with cause KEY is requested (R171). -/
def execLockTimerExpire (s : State) : Host.Outcome State Fault Refusal :=
  s.whileAwake fun s =>
    match s.scanner.seq with
    | .lockTiming due => ((s.runTo due).setSeq .entry).offerLock .key
    | _ => s

/-- PREFIX_TIMER_EXPIRE: the prefix fails (R172). -/
def execPrefixTimerExpire (s : State) : Host.Outcome State Fault Refusal :=
  s.whileAwake fun s =>
    match s.scanner.seq with
    | .adminPrefix _ due => (s.runTo due).failSequence
    | _ => s

/-- MODE_TIMER_EXPIRE: the mode fails (R173). -/
def execModeTimerExpire (s : State) : Host.Outcome State Fault Refusal :=
  s.whileAwake fun s =>
    match s.scanner.seq with
    | .modeFirst _ due => (s.runTo due).failSequence
    | .modeSecond _ _ due => (s.runTo due).failSequence
    | _ => s

/-- CONFIRM_TIMER_EXPIRE: the purge sequence fails (R176). -/
def execConfirmTimerExpire (s : State) : Host.Outcome State Fault Refusal :=
  s.whileAwake fun s =>
    match s.scanner.seq with
    | .purgeConfirm due => (s.runTo due).failSequence
    | _ => s

/-- TRANSIENT_END: the pattern in force shows again (R179). -/
def execTransientEnd (s : State) : Host.Outcome State Fault Refusal :=
  s.whileAwake fun s =>
    match s.scanner.transient with
    | some (_, due) => (s.runTo due).setScanner { s.scanner with transient := none }
    | none => s

end Sys2Proof.Machine
end

