-- ==== Sys2Proof/Machine/Line.lean ====
section
/-! DEFINITION. The meanings of the line's commands (Chapter 1): the end of the start settle, attempts of own frames, frames received, line reset and the moves of the line state. -/

namespace Sys2Proof.Machine

/-- START_SETTLE_END (R30). -/
def execStartSettleEnd (s : State) : Host.Outcome State Fault Refusal :=
  s.whileAwake fun s =>
    match s.line.settle with
    | some due => (s.runTo due).setLine { s.line with settle := none }
    | none => s

/-! ### Own attempts (R6 to R11, R21, R22) -/

/-- An own broadcast frame waits in the receive queue to be handled (R18). -/
def State.ownReturned (s : State) : Bool := s.line.rx.any fun f => f.own.isSome

/-- The head frame may start (R6). -/
def State.mayStart (s : State) : Bool :=
  s.line.state = .idle && s.line.settle.isNone && !s.line.sendingReset && !s.line.inReset && !s.ownReturned && s.line.onLine.isNone

/-- Arbitration over header character 0: the lower value wins (R8). -/
def losesTo (own : Byte) : Option Byte → Bool
  | some rival => rival.toNat < own.toNat
  | none => false

/-- The start of the head frame: the station wins character 0 and has its attempt on the line, or loses it and follows the winner (R7, R8). -/
def State.startAttempt (s : State) (f : TxFrame) (rival : Option Byte) : State :=
  let lost := losesTo (headChar0 f.kind s.sn) rival
  s.setLine
    { s.line with
      state := .tracking, lastDominant := s.clock, receipt := false
      onLine := if lost then none else some (f.characters s.sn) }

/-- FRAME_ATTEMPT_START (R6 to R8). -/
def execFrameAttemptStart (rival : Option Byte) (s : State) : Host.Outcome State Fault Refusal :=
  s.whileAwake fun s =>
    match s.line.tx with
    | f :: _ => if s.mayStart then s.startAttempt f rival else s
    | [] => s

/-- The end of the station's own attempt: GAP, nothing on the line. -/
def State.endAttempt (s : State) : State :=
  s.setLine { s.line with state := .gap, onLine := none, lastDominant := s.clock }

/-- The sender drives its own slot of the receipt character dominant (R10). -/
def State.driveOwnSlot (s : State) : State := s.setLine { s.line with receipt := true }

/-- The head frame stays for another attempt: its attempt number rises by one, and urgent frames that wait behind it pass it (R20, R21; log entry 49). -/
def State.retryHead (s : State) (f : TxFrame) (rest : List TxFrame) : State :=
  s.setLine { s.line with tx := urgentFirst ({ f with attempt := f.attempt + 1 } :: rest) }

/-- The head frame leaves the queue, and a broadcast frame is returned with its outcome (R18, R21). -/
def State.releaseHead (s : State) (f : TxFrame) (rest : List TxFrame) (o : SendOutcome) : State :=
  (s.setLine { s.line with tx := rest }).returnOwn f o

/-- Attempts are left for a frame: it is no ROLL, and fewer than the retry limit plus one have been made (R21, R22). -/
def State.attemptsLeft (s : State) (f : TxFrame) : Bool := f.kind ≠ .roll && f.attempt < s.retryLimit

/-- An own attempt is on the line (R19). -/
def State.attempting (s : State) : Bool := s.line.onLine.isSome && s.line.state = .tracking

/-- The attempt failed by bit error (R9, R21, R22). -/
def State.failAttempt (s : State) (f : TxFrame) (rest : List TxFrame) : State :=
  let s := s.endAttempt
  if s.attemptsLeft f then s.retryHead f rest
  else (s.setLine { s.line with txDropped := true }).releaseHead f rest .dropped

/-- BIT_ERROR (R9, R21). -/
def execBitError (s : State) : Host.Outcome State Fault Refusal :=
  s.whileAwake fun s =>
    match s.line.tx with
    | f :: rest => if s.attempting then s.failAttempt f rest else s
    | [] => s

/-- The required set of an attempt, formed at its receipt character (R11). -/
def State.requiredSet (s : State) (f : TxFrame) : List StationNo := if f.directed then [f.target] else s.presentOthers

/-- Slot n of the receipt character was driven dominant: bit 7 - n reads 0 (R10). -/
def driven (slots : Byte) (n : StationNo) : Bool := !slots.getLsbD (7 - n.val)

/-- The missing stations of an attempt: those of its required set whose slots stayed recessive (R11). -/
def State.missing (s : State) (f : TxFrame) (slots : Byte) : List StationNo := (s.requiredSet f).filter fun n => !driven slots n

/-- A partial attempt (R21, R22): the frame stays for another, or leaves; but for a ROLL, TX_PARTIAL is latched and the missing stations become SILENT. -/
def State.partialAttempt (s : State) (f : TxFrame) (rest : List TxFrame) (missing : List StationNo) : State :=
  if s.attemptsLeft f then s.retryHead f rest
  else if f.kind = .roll then s.releaseHead f rest .partially
  else ((s.setLine { s.line with txPartial := true }).releaseHead f rest .partially).markSilent missing

/-- The attempt reached the end of its receipt character (R10, R11, R21). -/
def State.finishAttempt (s : State) (f : TxFrame) (rest : List TxFrame) (slots : Byte) : State :=
  let missing := s.missing f slots
  let s := s.endAttempt.driveOwnSlot
  if missing.isEmpty then s.releaseHead f rest .delivered else s.partialAttempt f rest missing

/-- ATTEMPT_COMPLETE (R10, R11, R21). -/
def execAttemptComplete (slots : Byte) (s : State) : Host.Outcome State Fault Refusal :=
  s.whileAwake fun s =>
    match s.line.tx with
    | f :: rest => if s.attempting then s.finishAttempt f rest slots else s
    | [] => s

/-! ### Frames received (R12 to R16) -/

/-- The sender number in header character 0 (Table 11-2). -/
def senderOf (f : LineFrame) : StationNo := stationOf f.head0

/-- The kind code in header character 0 (Table 11-2). -/
def kindCodeOf (f : LineFrame) : Nat := f.head0.toNat / 8

/-- The directed flag, target number and attempt number in header character 1 (Table 11-2). -/
def directedOf (f : LineFrame) : Bool := f.head1.getLsbD 7
def targetOf (f : LineFrame) : StationNo := (f.head1.extractLsb' 4 3).toFin
def attemptOf (f : LineFrame) : Nat := (f.head1.extractLsb' 2 2).toNat

/-- A frame that fails a check of R14 or the sender test of R15 latches CHECK_FAIL. -/
def State.latchCheckFail (s : State) : State := s.setLine { s.line with checkFail := true }

/-- The repeat memory's entry of a sender for a class (R16). -/
def State.repeatEntry (s : State) (urgent : Bool) (n : StationNo) : Option RepeatEntry :=
  if urgent then s.line.repeatUrgent[n] else s.line.repeatOther[n]

/-- The line interface with a repeat entry written (R16). -/
def LineInterface.remember (l : LineInterface) (urgent : Bool) (n : StationNo) (e : RepeatEntry) : LineInterface :=
  if urgent then { l with repeatUrgent := l.repeatUrgent.set n (some e) } else { l with repeatOther := l.repeatOther.set n (some e) }

/-- The number of places of the receive queue (R17). -/
def rxPlaces : Nat := 4

/-- The last check: a repeat is receipted, a new frame is queued and receipted, or missed for want of a place (R16). -/
def State.acceptFrame (s : State) (f : LineFrame) (k : Kind) : State :=
  let n := senderOf f
  let e : RepeatEntry := ⟨k, f.check⟩
  if 1 ≤ attemptOf f ∧ s.repeatEntry k.urgent n = some e then s.setLine { s.line with receipt := true }
  else if s.placesTaken < rxPlaces then
    s.setLine
      { s.line.remember k.urgent n e with
        rx := s.line.rx ++ [⟨k, n, directedOf f, f.payload, none⟩], receipt := true }
  else s.setLine { s.line with rxMissed := true }

/-- Addressing, after the check value (R15; log entry 15). -/
def State.addressFrame (s : State) (f : LineFrame) (k : Kind) : State :=
  if directedOf f ∧ targetOf f ≠ s.sn then s
  else if senderOf f = s.sn then s.latchCheckFail
  else s.acceptFrame f k

/-- Kind and length, then the check value (R14, R209). -/
def State.checkFrame (s : State) (f : LineFrame) : State :=
  match Kind.ofCode (kindCodeOf f) with
  | none => s.latchCheckFail
  | some k =>
    if k.lengths.contains f.payload.length && f.check = checkOf f.head0 f.head1 f.head2 f.payload then s.addressFrame f k
    else s.latchCheckFail

/-- The three header characters of a frame were read: its framing did not fail before (R12, R13). -/
def headerRead : Framing → Bool
  | .correct => true
  | .abandonMark afterHeader => afterHeader
  | .broken afterHeader => afterHeader

/-- The line state after a frame that the station does not read to its end: GAP when an abandon mark ended it, LOST otherwise (Table 1-3, R12). -/
def stateAfter : Framing → LineState
  | .abandonMark _ => .gap
  | .correct => .lost
  | .broken _ => .lost

/-- A frame followed from its lead, with its checks in order: framing as far as the header, header parity, the rest of the framing, then the checks of R14 to R16 (R12 to R16). -/
def State.followFrame (s : State) (f : LineFrame) : State :=
  if headerRead f.framing && oddHeader f.head0 f.head1 f.head2 then
    s.setLine { s.line with state := stateAfter f.framing, headerParity := true }
  else if f.framing = .correct && f.payload.length = f.lengthField then (s.setLine { s.line with state := .gap }).checkFrame f
  else s.setLine { s.line with state := stateAfter f.framing }

/-- The station can follow a frame from its lead: the line was IDLE, or it lost arbitration to the frame (R5, R8). -/
def State.canFollow (s : State) : Bool :=
  s.line.onLine.isNone && (s.line.state = .idle || s.line.state = .tracking)

/-- A frame passes on the line: followed from its lead, or passing a station that does not know its place, which its abandon mark alone brings to GAP (R5). -/
def State.passFrame (s : State) (f : LineFrame) : State :=
  if s.line.onLine.isSome then s
  else
    let s' := s.setLine { s.line with lastDominant := s.clock, receipt := false }
    if s.canFollow then s'.followFrame f else s'.setLine { s'.line with state := stateAfter f.framing }

/-- FRAME_RECEIVE (R12 to R16). -/
def execFrameReceive (frame : LineFrame) (s : State) : Host.Outcome State Fault Refusal :=
  s.whileAwake fun s => s.passFrame frame

/-! ### Line reset (R23, R41, R104, R105, R138) -/

/-- The line interface at the recognition of a line reset (R23). -/
def State.resetLine (s : State) : State :=
  s.setLine
    { s.line with
      state := .lost, rx := [], tx := [], onLine := none, repeatUrgent := Vector.replicate 8 none
      repeatOther := Vector.replicate 8 none, inReset := true, lastDominant := s.clock, receipt := false }

/-- The roster unit at a line reset (R41). -/
def State.resetRoster (s : State) : State :=
  s.setRoster
    { s.roster with
      entries := Vector.replicate 8 RosterEntry.absent, startCause := .reseat, answeredAt := none, rollOwed := false }

/-- The phase at a line reset, with the ROLLs it calls for (Table 5-5, R41). In PURGE_WAIT the new re-announcement run begins with a full 2 s from the reset (log entry 18). -/
def State.resetPhase (s : State) : State :=
  match s.phase with
  | .unlocked | .verifying | .locked | .incomplete | .blank | .assembling => (s.leavePhase.enterPhase .assembling).beginAssembly
  | .purging => s.beginOffers.offerRoll
  | .purgeWait => s.beginAnnounce.offerRoll
  | .halted => s.offerRoll
  | .uncommissioned => s

/-- LINE_RESET (R23): one dominant run is one line reset. -/
def execLineReset (s : State) : Host.Outcome State Fault Refusal :=
  s.whileAwake fun s => if s.line.inReset then s else s.resetLine.resetRoster.restScanner.emptyHeard.resetPhase

/-! ### Line state outside a frame (R3, R5) -/

/-- LINE_IDLE_REACHED: 3 recessive bit times in GAP, or 11 in LOST (R5). -/
def execLineIdleReached (s : State) : Host.Outcome State Fault Refusal :=
  s.whileAwake fun s =>
    if (s.line.state = .gap ∨ s.line.state = .lost) ∧ s.line.inReset = false ∧ s.line.sendingReset = false then
      s.setLine { s.line with state := .idle }
    else s

/-- The state after a dominant run outside a followed frame (Table 1-3; log entry 14). -/
def afterRun (state : LineState) (bits : Nat) : LineState :=
  match state with
  | .tracking => if 12 ≤ bits then .gap else if 10 ≤ bits then .lost else .tracking
  | .gap | .idle | .lost => if 12 ≤ bits then .gap else .lost

/-- DOMINANT_RUN_OUTSIDE_FRAME (R3, R5): the end of a line reset run gives GAP from any state. -/
def execDominantRunOutsideFrame (bits : Nat) (s : State) : Host.Outcome State Fault Refusal :=
  s.whileAwake fun s =>
    if s.line.onLine.isSome then s
    else if s.line.inReset ∨ 40 ≤ bits then
      s.setLine { s.line with state := .gap, inReset := false, sendingReset := false, lastDominant := s.clock }
    else s.setLine { s.line with state := afterRun s.line.state bits, lastDominant := s.clock }

end Sys2Proof.Machine
end

