-- ==== Sys2Proof/Machine/Phases.lean ====
section
/-! DEFINITION. The meanings of the phase controller's and the key port's commands (Chapter 5): LOCK handled, the end of the attach window, and the ends of the key port's shifts. -/

namespace Sys2Proof.Machine

/-- The causes that a sender's role may give (Table 5-3). -/
def lockFits : Role → LockCause → Bool
  | .keypadGuard, .key => true
  | .keypadGuard, .request => false
  | .keypadGuard, .fault => true
  | .guard, c => c = .fault
  | .controller, c => c = .request
  | .none, _ => false

/-- A LOCK is handled: when its cause fits its sender it revokes an unlock or voids a verification (R99 to R101). -/
def State.handleLock (s : State) (f : RxFrame) : State :=
  match LockCause.ofCode (u8 f.payload 0) with
  | some cause => if !s.asleepToRequests && lockFits (s.roleOf f.sender) cause then s.lockDown else s
  | none => s

/-- LOCK (R100). -/
def execLock (s : State) : Host.Outcome State Fault Refusal :=
  s.frameRow (fun f => f.kind = .lock) State.handleLock

/-- ATTACH_WINDOW_EXPIRE: the revoke into LOCKED (R103). -/
def execAttachWindowExpire (s : State) : Host.Outcome State Fault Refusal :=
  s.whileAwake fun s =>
    match s.phaseCtl.attachWindow with
    | some due => (s.runTo due).lockDown
    | none => s

/-- KEY_SHIFT_END: the cipher has the whole key, PRESENTED, and KVALID rises (R107). -/
def execKeyShiftEnd (s : State) : Host.Outcome State Fault Refusal :=
  s.whileAwake fun s =>
    match s.keyPort.state, s.keyPort.shiftDue with
    | .shiftingKey, some due =>
      (s.runTo due).setKeyPort { s.keyPort with state := .presented, shiftDue := none, sent := keyBits }
    | _, _ => s

/-- ZERO_SHIFT_END: CLEAR, or a waiting key shift begins at once (R107, R108). -/
def execZeroShiftEnd (s : State) : Host.Outcome State Fault Refusal :=
  s.whileAwake fun s =>
    match s.keyPort.state, s.keyPort.shiftDue with
    | .shiftingZero, some due =>
      let waiting := s.keyPort.waiting
      let s := (s.runTo due).setKeyPort ⟨.clear, 0, none, false, none, 0⟩
      if waiting then s.beginKeyShift else s
    | _, _ => s

end Sys2Proof.Machine
end

