-- ==== Sys2Proof/Machine/Purge.lean ====
section
/-! DEFINITION. The meanings of the purge engine's commands (Chapter 6): PURGE and PURGED handled, re-offers, the completion of its writes, and the ends of erase steps. -/

namespace Sys2Proof.Machine

/-! ### PURGE frames (R117 to R120) -/

/-- The cause with which a member's PURGE opens a purge here (R118). -/
def State.causeOf (s : State) (n : StationNo) (cause : PurgeCause) : PurgeCause :=
  if cause = .request ∧ s.roleOf n = .keypadGuard ∧ s.phaseCtl.grant.isAdmin then .request else .epoch

/-- A member guard's PURGE is handled; in HALTED, or with an unnamed cause, it is ignored (R117, R118, R210). A sender that raises or opens the purge is not in the heard set of the new target (log entry 23). -/
def State.handlePurge (s : State) (f : RxFrame) : State :=
  let target := u16 f.payload 1
  match PurgeCause.ofCode (u8 f.payload 0) with
  | some cause =>
    if s.asleepToRequests then s else (s.hear f.sender target).takeTarget (s.causeOf f.sender cause) target
  | none => s

/-- PURGE from a member guard, or from a station with no role (R118). -/
def execPurge (s : State) : Host.Outcome State Fault Refusal :=
  s.frameRow (fun f => f.kind = .purge && s.roleOf f.sender ≠ .controller) State.handlePurge

/-- The answer to the controller's PURGE (Table 11-15). -/
def State.answerPurge (s : State) (n : StationNo) (r : AnswerResult) (target : Nat) : State := s.answer n .purge r 0 target

/-- The controller waits for DONE at the journal write that stores its target (R119). -/
def State.awaitPurge (s : State) (n : StationNo) (target : Nat) : State :=
  s.setPurge { s.purge with waits := s.purge.waits ++ [⟨n, target⟩] }

/-- The controller's PURGE, by the rows of Table 6-3 in order (R119). -/
def State.handleControllerPurge (s : State) (f : RxFrame) : State :=
  let n := f.sender
  let target := u16 f.payload 1
  if s.asleepToRequests then s
  else if !s.hostAdmin then s.answerPurge n .refused target
  else if PurgeCause.ofCode (u8 f.payload 0) ≠ some .request then s.answerPurge n .refused target
  else if !s.purge.journal.isOpen then
    if s.epoch = lastEpoch ∨ target ≤ s.epoch then s.answerPurge n .invalid target
    else (s.openPurge .request target).awaitPurge n target
  else if s.purge.journal.target.getD 0 < target then (s.raiseTarget target).awaitPurge n target
  else s

/-- CONTROLLER_PURGE (R119). -/
def execControllerPurge (s : State) : Host.Outcome State Fault Refusal :=
  s.frameRow (fun f => f.kind = .purge && s.roleOf f.sender = .controller) State.handleControllerPurge

/-- PURGE_REOFFER: the PURGE again, and the next in 2 s until the run has made 15 (R117). -/
def execPurgeReoffer (s : State) : Host.Outcome State Fault Refusal :=
  s.whileAwake fun s =>
    match s.purge.reoffer with
    | some due =>
      ((s.runTo due).setPurge
        { s.purge with
          reoffer := if runLength ≤ s.purge.reoffered + 1 then none else some (due + announcePeriod)
          reoffered := s.purge.reoffered + 1 }).offerPurge
    | none => s

/-! ### PURGED (R35, R42, R48, R117, R136) -/

/-- The last record of a sender of PURGED (R35). -/
def purgedRecord (epoch : Nat) (r : GuardRecord) : GuardRecord := { r with epoch := epoch, serial := 0, count := 0, phase := .purgeWait }

/-- A member guard's PURGED is handled: last record, heard set, epoch test, the tests of R42 and R136, and the move of LOCKED at a lower epoch (R35, R36, R42, R48, R117, R136). A bad-block count above 32 is not among the values that R210 turns away (log entry 58). A PURGED of a station that is no member guard, the controller's too, is ignored whole (log entry 64). -/
def State.handlePurged (s : State) (f : RxFrame) : State :=
  let epoch := u16 f.payload 0
  if !s.isMember f.sender then s
  else if f.sender = s.sn then s.testsAfterReport
  else
    (((s.updateRecord f.sender (purgedRecord epoch)).hear f.sender epoch).epochTest epoch).testsAfterReport.leaveLockedOn
      false epoch

/-- PURGED (R35). -/
def execPurged (s : State) : Host.Outcome State Fault Refusal :=
  s.frameRow (fun f => f.kind = .purged) State.handlePurged

/-! ### The engine's writes (R112, R121, R133) -/

/-- PURGED as the station offers it at the close (R133, Table 11-8). -/
def State.offerPurged (s : State) : State :=
  s.offer .purged none
    (bytes2 s.epoch
      ++ [byte (bit s.purge.journal.eraseIncomplete * 128 + bit s.purge.journal.listFull * 64), byte s.purge.badBlocks.length])

/-- A pending target opens the next purge (R120, R133). -/
def State.openPending (s : State) : State :=
  match s.purge.pendingTarget with
  | some t => (s.setPurge { s.purge with pendingTarget := none }).openPurge .epoch t
  | none => s

/-- The close: the journal is CLOSED, then PURGE_WAIT, PURGED, the PURGE_WAIT test and a pending target in that order (R133). -/
def State.closePurge (s : State) : State :=
  let s := s.setPurge
    { s.purge with
      journal := { s.purge.journal with isOpen := false }, closing := false, begun := false, plan := []
      suspended := false, reoffer := none }
  (s.enterPhase .purgeWait).offerPurged.purgeWaitTest.openPending

/-- The controllers whose target a journal write has stored are answered DONE (R119); a target that a higher one overtook before its write was granted is answered at the write of the higher one (log entry 68). -/
def State.answerStored (s : State) (target : Nat) : State :=
  let due := s.purge.waits.filter fun w => w.target ≤ target
  let s := s.setPurge { s.purge with waits := s.purge.waits.filter fun w => target < w.target }
  due.foldl (fun s w => s.answerPurge w.replyTo .done w.target) s

/-- A journal write has completed: waiting controllers are answered, then the close follows, or the stored stage begins (R119, R121, R133). -/
def State.journalStored (s : State) (j : Journal) : State :=
  let s := s.answerStored (j.target.getD 0)
  if s.purge.closing && !j.isOpen then s.closePurge
  else if s.purge.journal.isOpen && !s.purge.begun && j.isOpen && j.stage = s.purge.journal.stage then s.beginStage
  else s

/-- The record in hand of a stage's own sequence is written: the next follows, or after the last the next stage (R121, R123, R131). -/
def State.planStored (s : State) (rec : RecordId) : State :=
  match s.purge.plan with
  | [] => s
  | head :: rest =>
    if head = rec then
      let s := s.setPurge { s.purge with plan := rest }
      if rest ≠ [] then s.writePlanHead
      else if s.purge.journal.stage = some .destroy then s.nextStage .erase
      else if s.purge.journal.stage = some .rekey then s.nextStage .close
      else s
    else s

/-- The engine goes on from a record it has written: from the journal, or along the sequence of the stage in hand (R112, R121). -/
def State.purgeGoesOn (s : State) (again : Bool) (c : Contents) : State :=
  match c with
  | .journal j => s.journalStored j
  | .setup _ | .salt _ | .attempt _ | .slot _ _ | .blankKey _ | .range _ _ | .badBlocks _ | .tamper _ =>
    if again then s else s.planStored c.record

/-- The completion event of a purge engine write; the stages run in PURGING only (Table 5-1, R112). -/
def State.purgeStored (s : State) (w : InFlight) : State :=
  let again := s.purge.writes.rechanged
  let s := s.closeWrite .purge w.contents.record
  if s.phase = .purging then s.purgeGoesOn again w.contents else s

/-- PURGE_WRITE_COMPLETE (R112, R206). -/
def execPurgeWriteComplete (s : State) : Host.Outcome State Fault Refusal :=
  s.whileAwake fun s =>
    match s.writeOf .purge with
    | some w => s.completeWrite w fun s => s.purgeStored w
    | none => s

/-! ### Erase steps (R125, R151) -/

/-- The end of an erase step with ready: the status read, then PASS or FAIL by bit 0 of the status (R125, R151, Table 11-20). -/
def State.finishErase (s : State) (n : Nat) (failed : Bool) : State :=
  let s := s.setGate
    { s.gate with
      op := none, driven := s.gate.driven ++ statusCycles
      faultCount := if s.gate.channelFault then s.gate.faultCount else 0 }
  (s.blockDone n failed).channelFree

/-- ERASE_STEP_READY (R151). -/
def execEraseStepReady (status : Byte) (s : State) : Host.Outcome State Fault Refusal :=
  s.whileAwake fun s =>
    match s.gate.op with
    | some (.eraseStep n _) => s.finishErase n (status.getLsbD 0)
    | some (.recoveryReset _ _) => s
    | none => s

/-- ERASE_STEP_TIMEOUT: the expiry is counted and a recovery reset issued; the step ends with that reset (R125, R151). -/
def execEraseStepTimeout (s : State) : Host.Outcome State Fault Refusal :=
  s.whileAwake fun s =>
    match s.gate.op with
    | some (.eraseStep n due) => ((s.runTo due).issueReset (.erase n)).countExpiry
    | some (.recoveryReset _ _) => s
    | none => s

end Sys2Proof.Machine
end

