-- ==== Sys2Proof/Machine/Setup.lean ====
section
/-! DEFINITION. The meanings of the setup and status logic's commands (Chapter 10): SETUP, SETUP_LOCK with initial keying, QUERY, STATUS and CLEAR. -/

namespace Sys2Proof.Machine

/-- An answer with the setup state and digest as detail (Table 11-15). -/
def State.answerSetup (s : State) (n : StationNo) (request : Kind) (r : AnswerResult) : State :=
  s.answer n request r s.setup.state.code s.digest.toNat

/-- A SETUP or SETUP_LOCK by phase: served in UNCOMMISSIONED, ignored in HALTED, REFUSED in any other (R196). -/
def State.serveSetup (s : State) (f : RxFrame) (serve : State → State) : State :=
  if s.phase = .uncommissioned then serve s
  else if s.phase = .halted then s
  else s.answerSetup f.sender f.kind .refused

/-- A setup write is pending or in flight, or initial keying runs (R197, R198). -/
def State.setupBusy (s : State) : Bool :=
  s.setup.state = .keying || s.store.requests.setup.isSome || (s.writeOf .setup).isSome

/-! ### SETUP (R197) -/

/-- The number of members of a member set. -/
def memberCount (members : Byte) : Nat :=
  bit (members.getLsbD 0) + bit (members.getLsbD 1) + bit (members.getLsbD 2) + bit (members.getLsbD 3)
    + bit (members.getLsbD 4) + bit (members.getLsbD 5) + bit (members.getLsbD 6) + bit (members.getLsbD 7)

/-- The setup record that a SETUP names, unlocked; none for an unnamed pages code (Table 11-17). -/
def readSetup (p : List Byte) : Option SetupRecord :=
  match pagesOfCode (u8 p 9) with
  | none => none
  | some pages =>
    some
      { members := byteAt p 0, controller := if bitAt p 1 7 then some (stationOf (byteAt p 1)) else none
        keypad := stationOf (byteAt p 2), failureLimit := u8 p 3, retryLimit := u8 p 4, minDigits := u8 p 5
        hostEntry := bitAt p 6 7, hostAdmin := bitAt p 6 6
        tamperPolicy := if bitAt p 6 5 then .purge else .lock, faultPolicy := if bitAt p 6 4 then .all else .self
        blocks := u16 p 7 + 1, pagesPerBlock := pages, locked := false }

/-- The controller is named and is in the member set (R197, check 4). -/
def SetupRecord.controllerIsMember (r : SetupRecord) : Bool :=
  match r.controller with
  | some n => r.member n
  | none => false

/-- Checks 2 to 5 of Table 10-3 hold no fault. -/
def SetupRecord.valid (r : SetupRecord) : Bool :=
  1 ≤ memberCount r.members && memberCount r.members ≤ 7 && r.member r.keypad && !r.controllerIsMember
    && 4 ≤ r.failureLimit && r.failureLimit ≤ 30 && r.retryLimit ≤ 3 && 6 ≤ r.minDigits && r.minDigits ≤ 16
    && 1024 ≤ r.blocks && r.blocks ≤ 65536

/-- A SETUP that passes: held at once, and its write requested (R197). -/
def State.storeSetup (s : State) (n : StationNo) (r : SetupRecord) : State :=
  (s.setSetup { s.setup with state := .stored, held := some r, replyTo := n }).request .setup .setup

/-- The checks of Table 10-3 in order (R197). -/
def State.checkSetup (s : State) (f : RxFrame) : State :=
  if s.setupBusy then s.answerSetup f.sender .setup .busy
  else
    match readSetup f.payload with
    | none => s.answerSetup f.sender .setup .invalid
    | some r =>
      if r.valid && !strapConflict s.roster.sn s.roster.kpd r then s.storeSetup f.sender r
      else s.answerSetup f.sender .setup .invalid

/-- SETUP (R197). -/
def execSetup (s : State) : Host.Outcome State Fault Refusal :=
  s.frameRow (fun f => f.kind = .setup) fun s f => s.serveSetup f fun s => s.checkSetup f

/-- The setup write in flight, and whether the record it stores is locked. -/
def State.setupWrite (s : State) (locked : Bool) : Option InFlight :=
  match s.writeOf .setup with
  | some w =>
    match w.contents with
    | .setup (some r) => if r.locked = locked then some w else none
    | _ => none
  | none => none

/-- SETUP_WRITE_COMPLETE: DONE with the new digest (R197). -/
def execSetupWriteComplete (s : State) : Host.Outcome State Fault Refusal :=
  s.whileAwake fun s =>
    match s.setupWrite false with
    | some w => s.completeWrite w fun s => s.answerSetup s.setup.replyTo .setup .done
    | none => s

/-! ### SETUP_LOCK and initial keying (R198, R199) -/

/-- The nineteen writes of initial keying in order (R198). -/
def keyingPlan : List RecordId :=
  .salt :: .blankKey :: .attempt :: slotNumbers.map .slot ++ rangeNumbers.map .range ++ [.journal, .badBlocks]

/-- The blocks of the channel in the held record. -/
def State.heldBlocks (s : State) : Nat := (s.setup.held.map (·.blocks)).getD 0

/-- Initial keying begins: salt and channel key from the random source, and every held copy in its starting form (R198; log entry 3). -/
def State.keyBlocks (s : State) : State :=
  let s := s.setSlotTable
    { s.slotTable with
      slots := Vector.replicate 6 Slot.cleared, salt := Config.freeSalt s.draws, blankKey := some (Config.freeKey s.draws) }
  let s := s.setVerifier { s.verifier with held := ⟨1, 0, 0⟩ }
  let s := s.setGate { s.gate with ranges := defaultRanges s.heldBlocks }
  let s := (s.setPurge { s.purge with journal := Journal.closed, badBlocks := [], nextBlock := 0 }).recomputeOwner
  s.setDraws (s.draws + 1)

/-- The first record still to be keyed is requested. -/
def State.requestKeying (s : State) : State :=
  match s.setup.keyingLeft with
  | rec :: _ => s.request .setup rec
  | [] => s

/-- A SETUP_LOCK that is served (R198). -/
def State.beginKeying (s : State) (n : StationNo) : State :=
  (s.keyBlocks.setSetup { s.setup with state := .keying, keyingLeft := keyingPlan, replyTo := n }).requestKeying

/-- The checks of a SETUP_LOCK (R198). -/
def State.checkSetupLock (s : State) (f : RxFrame) : State :=
  if s.setupBusy then s.answerSetup f.sender .setupLock .busy
  else if s.setup.state = .absent then s.answerSetup f.sender .setupLock .refused
  else s.beginKeying f.sender

/-- SETUP_LOCK (R198). -/
def execSetupLock (s : State) : Host.Outcome State Fault Refusal :=
  s.frameRow (fun f => f.kind = .setupLock) fun s f => s.serveSetup f fun s => s.checkSetupLock f

/-- One keying write has completed: the next is requested, or after the nineteenth the setup record with its locked flag set (R198). -/
def State.keyed (s : State) (rec : RecordId) : State :=
  match s.setup.keyingLeft with
  | head :: rest =>
    if head ≠ rec then s
    else if rest ≠ [] then (s.setSetup { s.setup with keyingLeft := rest }).requestKeying
    else
      (s.setSetup
        { s.setup with keyingLeft := [], held := s.setup.held.map fun r => { r with locked := true } }).request .setup .setup
  | [] => s

/-- KEYING_WRITE_COMPLETE (R198). -/
def execKeyingWriteComplete (s : State) : Host.Outcome State Fault Refusal :=
  s.whileAwake fun s =>
    match s.writeOf .setup with
    | some w => if w.contents.record = .setup then s else s.completeWrite w fun s => s.keyed w.contents.record
    | none => s

/-- The setup record is stored locked: roles, the move from UNCOMMISSIONED to ASSEMBLING, answer and assembly in that order (R199). -/
def State.lockedStored (s : State) : State :=
  if s.phase = .uncommissioned then
    let s := (s.setSetup { s.setup with state := .locked }).enterPhase .assembling
    (s.answerSetup s.setup.replyTo .setupLock .done).beginAssembly
  else s

/-- SETUP_LOCK_COMPLETE (R199). -/
def execSetupLockComplete (s : State) : Host.Outcome State Fault Refusal :=
  s.whileAwake fun s =>
    match s.setupWrite true with
    | some w => s.completeWrite w State.lockedStored
    | none => s

/-! ### QUERY, STATUS and CLEAR (R196, R201 to R203) -/

/-- The hold remaining in whole seconds, rounded up (R72). -/
def State.holdSeconds (s : State) : Nat := (s.holdRemaining + 999999) / 1000000

/-- The slot and read-only flag of a grant as STATUS shows them (R201). -/
def Grant.shown : Grant → Nat × Bool
  | .user i ro | .admin i ro => (i.val, ro)
  | .none | .pub => (0, false)

/-- The journal cause as STATUS shows it (Table 11-18). -/
def causeShown : Option PurgeCause → Nat
  | none => 0
  | some c => c.code + 1

/-- A STATUS payload of a station with a locked record (Tables 10-4 and 11-18). -/
def State.statusPayload (s : State) : List Byte :=
  let g := s.phaseCtl.grant
  let j := s.purge.journal
  byte (s.setup.state.code * 64 + s.roster.startCause.code * 16 + s.phase.code)
    :: byte (g.kindCode * 64 + g.shown.1 * 8 + bit g.shown.2 * 4 + bit j.isOpen * 2 + bit s.purge.suspended)
    :: bytes2 s.digest.toNat ++ bytes2 s.epoch ++ bytes4 s.verifier.held.serial
    ++ [byte s.verifier.held.count] ++ bytes2 s.holdSeconds ++ [byte s.conditionsMask] ++ bytes2 s.eventsMask
    ++ [byte (stageCode s.progressStage * 32 + causeShown j.cause * 4 + bit j.eraseIncomplete * 2 + bit j.listFull),
        byte s.progressPercent]
    ++ bytes2 (j.target.getD 0) ++ [byte s.purge.badBlocks.length]

/-- A STATUS payload of a station that holds no locked record: only the setup state, digest, start cause, phase, conditions and events are its own (R202). -/
def State.unlockedStatus (s : State) : List Byte :=
  byte (s.setup.state.code * 64 + s.roster.startCause.code * 16 + s.phase.code) :: 0
    :: bytes2 s.digest.toNat ++ bytes2 0 ++ bytes4 0 ++ [0] ++ bytes2 0 ++ [byte s.conditionsMask] ++ bytes2 s.eventsMask
    ++ [0, 0] ++ bytes2 0 ++ [0]

/-- The owner by the last sentence of R202, NONE in HALTED, else that of the gate. It is a view that no command and no byte of Table 11-18 reads; with an OPEN journal in HALTED it differs from the owner that the gate acts on, `ownerFor` (log entry 63). -/
def State.reportedOwner (s : State) : Side := if s.phase = .halted then .none else s.gate.owner

/-- A QUERY is answered with a directed STATUS to its sender (R201, R202). -/
def State.answerQuery (s : State) (f : RxFrame) : State :=
  s.offer .status (some f.sender) (if s.setup.state = .locked then s.statusPayload else s.unlockedStatus)

/-- QUERY (R201). -/
def execQuery (s : State) : Host.Outcome State Fault Refusal :=
  s.frameRow (fun f => f.kind = .query) State.answerQuery

/-- STATUS: receipted and ignored (R196). -/
def execStatus (s : State) : Host.Outcome State Fault Refusal :=
  s.frameRow (fun f => f.kind = .status) fun s _ => s

/-- The answer to a CLEAR, with the latched events that remain set (R203, Table 11-15). -/
def State.answerClear (s : State) (n : StationNo) (r : AnswerResult) : State := s.answer n .clear r 0 s.eventsMask

/-- A CLEAR by phase and sender (R196, R203). -/
def State.handleClear (s : State) (f : RxFrame) : State :=
  if s.phase = .halted then s
  else if s.phase = .uncommissioned ∨ s.roleOf f.sender = .controller then
    (s.clearEvents (u16 f.payload 0)).answerClear f.sender .done
  else s.answerClear f.sender .refused

/-- CLEAR (R203). -/
def execClear (s : State) : Host.Outcome State Fault Refusal :=
  s.frameRow (fun f => f.kind = .clear) State.handleClear

end Sys2Proof.Machine
end

