-- ==== Sys2Proof/Machine/Slots.lean ====
section
/-! DEFINITION. The meanings of the slot table's commands (Chapter 4): STAGE, ADOPT, ADOPT with abandon, RETIRE and ANSWER handled, the collection timer, and the completion of a slot table write. -/

namespace Sys2Proof.Machine

/-! ### Acceptance (R78, R79) -/

/-- Checks 1 and 2 of Table 4-3; `blankCase` marks a STAGE or ADOPT of slot 0. -/
def State.adminAllowed (s : State) (n : StationNo) (blankCase : Bool) : Bool :=
  s.adminSender n && (s.phaseCtl.grant.isAdmin || (s.phase = .blank && blankCase))

/-- An answer DONE waits for the next slot write granted (R79). -/
def State.awaitSlot (s : State) (w : SlotWait) : State :=
  s.setSlotTable { s.slotTable with waits := s.slotTable.waits ++ [{ w with changedAt := s.store.grants }] }

/-- The change of a held slot, with the answer DONE that waits for its write (R74, R79). -/
def State.changeAndWait (s : State) (i : SlotNo) (v : Slot) (discards : Bool) (w : SlotWait) : State :=
  (s.awaitSlot w).changeSlot i v discards

/-- A request of this kind taken from a frame: in UNCOMMISSIONED and HALTED it is ignored, and an own request that was DROPPED is no request (R78, R79). -/
def State.isRequest (s : State) (f : RxFrame) : Bool := !s.asleepToRequests && f.own ≠ some .dropped

/-! ### STAGE (R80, R86, R87) -/

/-- The key that a STAGE seals: the blank key record's in BLANK, else the unlocked key (R80; log entry 32). -/
def State.sealingKey (s : State) : ChannelKey :=
  (if s.phase = .blank then s.slotTable.blankKey else s.slotTable.unlockedKey).getD 0

/-- The credential of a STAGE at this station (R75, R76, R80). -/
def State.sealToken (s : State) (e : StageFields) : Credential :=
  ⟨s.checkValue e.token, ⟨s.wrapValue e.token, s.sealingKey⟩, e.readOnly, e.uses⟩

/-- The uses of a STAGE are present and not 1 to 99 (R80, check 3). -/
def StageFields.badUses (e : StageFields) : Bool :=
  match e.uses with
  | some u => u < 1 || 99 < u
  | none => false

/-- The last generation (R73). -/
def lastGen : Nat := 65535

/-- The checks of Table 4-4 on a slot of the table, in order: the answer of the first that holds. -/
def State.stageRefusal (s : State) (i : SlotNo) (e : StageFields) : Option AnswerResult :=
  if i = 0 ∧ (e.readOnly = true ∨ e.uses.isSome) then some .invalid
  else if e.badUses then some .invalid
  else if (s.slotAt i).gen = lastGen ∨ e.gen ≠ (s.slotAt i).gen + 1 then some .invalid
  else if e.uses.isSome ∧ e.gen = lastGen then some .invalid
  else if (s.slotAt i).staged.isSome then some .busy
  else if s.duplicate i (s.checkValue e.token) then some .duplicate
  else none

/-- A STAGE that has passed R78 (R80). -/
def State.stageSlot (s : State) (n : StationNo) (e : StageFields) : State :=
  match slotNo? e.slot with
  | none => s.answerSlot n .stage .invalid e.slot e.gen
  | some i =>
    match s.stageRefusal i e with
    | some r => s.answerSlot n .stage r e.slot e.gen
    | none =>
      s.changeAndWait i { s.slotAt i with staged := some ⟨e.gen, s.sealToken e⟩ } false
        ⟨i, e.gen, .stage, false, n, 0, none⟩

/-- The checks of R78 for a STAGE. -/
def State.takeStage (s : State) (f : RxFrame) : State :=
  let e := readStage f.payload
  if s.adminAllowed f.sender (e.slot = 0) && !(!s.phaseCtl.grant.isAdmin && s.memberMissing) then s.stageSlot f.sender e
  else s.answerSlot f.sender .stage .refused e.slot e.gen

/-- The own STAGE on return: the collection timer starts, or after a DROPPED one the enrollment ends with an abandon (R86, R87). -/
def State.ownStage (s : State) (f : RxFrame) : State :=
  match s.slotTable.enrollment with
  | some e =>
    if f.own.isSome && e.slot = u8 f.payload 0 && e.gen = u16 f.payload 1 then
      if f.own = some .dropped then s.endEnrollment e true
      else s.setSlotTable { s.slotTable with enrollment := some { e with timer := some (s.clock + collectionTime) } }
    else s
  | none => s

/-- A STAGE is handled (R78 to R80, R86). -/
def State.handleStage (s : State) (f : RxFrame) : State :=
  let s := s.ownStage f
  if s.isRequest f then s.takeStage f else s

/-- STAGE (R80). -/
def execStage (s : State) : Host.Outcome State Fault Refusal :=
  s.frameRow (fun f => f.kind = .stage) State.handleStage

/-! ### ADOPT (R82 to R84) -/

/-- The staged part of a slot, when it has a generation. -/
def Slot.stagedAt (sl : Slot) (gen : Nat) : Option Staged :=
  match sl.staged with
  | some st => if st.gen = gen then some st else none
  | none => none

/-- The ADOPT of slot 0 in BLANK takes the key of the blank key record as the unlocked key (R84). -/
def State.takeBlankKey (s : State) (first : Bool) : State :=
  if first then s.setSlotTable { s.slotTable with unlockedKey := s.slotTable.blankKey } else s

/-- An ADOPT that has passed R78: REFUSED without its staged part, DUPLICATE with the part discarded, else ACTIVE with DONE at completion (R82, R84). -/
def State.adoptSlot (s : State) (n : StationNo) (slot gen : Nat) : State :=
  match slotNo? slot with
  | none => s.answerSlot n .adopt .refused slot gen
  | some i =>
    match (s.slotAt i).stagedAt gen with
    | none => s.answerSlot n .adopt .refused slot gen
    | some st =>
      if s.duplicate i st.cred.verifier then
        (s.changeSlot i { s.slotAt i with staged := none } true).answerSlot n .adopt .duplicate slot gen
      else
        let first := i = 0 && s.phase = .blank
        (s.takeBlankKey first).changeAndWait i st.adopted false ⟨i, gen, .adopt, first, n, 0, none⟩

/-- An ADOPT with abandon that has passed R78 (R83). -/
def State.abandonSlot (s : State) (n : StationNo) (slot gen : Nat) : State :=
  match slotNo? slot with
  | none => s.answerSlot n .adopt .refused slot gen
  | some i =>
    match (s.slotAt i).stagedAt gen with
    | none => s.answerSlot n .adopt .refused slot gen
    | some _ => s.changeAndWait i { s.slotAt i with staged := none } true ⟨i, gen, .abandon, false, n, 0, none⟩

/-- An ADOPT taken through R78 to its effect. -/
def State.takeAdopt (s : State) (f : RxFrame) (effect : State → StationNo → Nat → Nat → State) : State :=
  let slot := u8 f.payload 0
  let gen := u16 f.payload 1
  if !s.isRequest f then s
  else if s.adminAllowed f.sender (slot = 0) then effect s f.sender slot gen
  else s.answerSlot f.sender .adopt .refused slot gen

/-- ADOPT, abandon flag clear (R82, R84). -/
def execAdopt (s : State) : Host.Outcome State Fault Refusal :=
  s.frameRow (fun f => f.kind = .adopt && !abandonFlag f.payload) fun s f => s.takeAdopt f State.adoptSlot

/-- ADOPT_ABANDON (R83). -/
def execAdoptAbandon (s : State) : Host.Outcome State Fault Refusal :=
  s.frameRow (fun f => f.kind = .adopt && abandonFlag f.payload) fun s f => s.takeAdopt f State.abandonSlot

/-! ### RETIRE (R85) -/

/-- A RETIRE that has passed R78 (R85). -/
def State.retireSlot (s : State) (n : StationNo) (slot gen : Nat) : State :=
  match slotNo? slot with
  | none => s.answerSlot n .retire .invalid slot gen
  | some i =>
    if i = 0 ∨ (s.slotAt i).gen = lastGen ∨ gen ≠ (s.slotAt i).gen + 1 then s.answerSlot n .retire .invalid slot gen
    else s.changeAndWait i ⟨gen, .empty, none⟩ true ⟨i, gen, .retire, false, n, 0, none⟩

/-- A RETIRE is handled (R78, R85). -/
def State.handleRetire (s : State) (f : RxFrame) : State :=
  let slot := u8 f.payload 0
  let gen := u16 f.payload 1
  if !s.isRequest f then s
  else if s.adminAllowed f.sender false && !s.supervisor.tampered then s.retireSlot f.sender slot gen
  else s.answerSlot f.sender .retire .refused slot gen

/-- RETIRE (R85). -/
def execRetire (s : State) : Host.Outcome State Fault Refusal :=
  s.frameRow (fun f => f.kind = .retire) State.handleRetire

/-! ### ANSWER and the collection timer (R86, R87, R196) -/

/-- An ANSWER to a STAGE is filed in the open enrollment record; any other is ignored (R86, R196, Table 11-15). -/
def State.handleAnswer (s : State) (f : RxFrame) : State :=
  if u8 f.payload 0 % 32 = Kind.stage.code then
    s.fileAnswer f.sender (u8 f.payload 2) (u16 f.payload 3) (byteAt f.payload 1)
  else s

/-- ANSWER (R86). -/
def execAnswer (s : State) : Host.Outcome State Fault Refusal :=
  s.frameRow (fun f => f.kind = .answer) State.handleAnswer

/-- ENROLLMENT_TIMEOUT: ADOPT with abandon (R87). -/
def execEnrollmentTimeout (s : State) : Host.Outcome State Fault Refusal :=
  s.whileAwake fun s =>
    match s.slotTable.enrollment with
    | some e =>
      match e.timer with
      | some due => (s.runTo due).endEnrollment e true
      | none => s
    | none => s

/-! ### The slot table's writes (R66, R74, R79, R84) -/

/-- The write of a grant stored the change that an answer waits for: its staged part had not been discarded by then (R79; log entry 33). -/
def SlotWait.storedBy (w : SlotWait) (serial : Nat) : Bool :=
  match w.discardedAt with
  | none => true
  | some discarded => serial ≤ discarded

/-- The kind of the request that an answer waits for. -/
def SlotChange.request : SlotChange → Kind
  | .stage => .stage | .adopt => .adopt | .abandon => .adopt | .retire => .retire

/-- The first adoption of slot 0 is stored: the blank key record is to be deleted, and a station still in BLANK moves to UNLOCKED as ADMIN (R84). -/
def State.firstAdoption (s : State) : State :=
  let s := s.deleteBlankKey
  match s.slotTable.unlockedKey with
  | some key => if s.phase = .blank then s.leavePhase.enterUnlocked (.admin 0 false) key else s
  | none => s

/-- An answer whose write has completed: DONE when the write stored the change (R79). -/
def State.settleWait (s : State) (serial : Nat) (sl : Slot) (w : SlotWait) : State :=
  if w.storedBy serial then
    let s := if w.first && sl.activeAt w.gen then s.firstAdoption else s
    s.answerSlot w.replyTo w.change.request .done w.slot.val w.gen
  else s

/-- The unlock that waited for its slot write is handed over (R66). -/
def State.settleHandOver (s : State) (i : SlotNo) (serial : Nat) : State :=
  match s.verifier.attempt with
  | some a =>
    match a.waiting, a.own with
    | some h, .matched _ key => if h.slot = i ∧ h.changedAt < serial then s.handOver h.slot h.readOnly key else s
    | some _, .mismatched _ _ => s
    | none, _ => s
  | none => s

/-- The answers that a write of a slot settles: those of changes made before its grant. -/
def SlotWait.settledBy (w : SlotWait) (i : SlotNo) (serial : Nat) : Bool := w.slot = i && w.changedAt < serial

/-- The completion event of a slot table write (R66, R74, R79). -/
def State.slotStored (s : State) (w : InFlight) : State :=
  let s := s.closeWrite .slotTable w.contents.record
  match w.contents with
  | .slot i sl =>
    let due := s.slotTable.waits.filter fun x => x.settledBy i w.serial
    let s := s.setSlotTable { s.slotTable with waits := s.slotTable.waits.filter fun x => !x.settledBy i w.serial }
    due.foldl (fun s x => s.settleWait w.serial sl x) (s.settleHandOver i w.serial)
  | .setup _ | .salt _ | .attempt _ | .blankKey _ | .range _ _ | .journal _ | .badBlocks _ | .tamper _ => s

/-- SLOT_WRITE_COMPLETE (R74, R206). -/
def execSlotWriteComplete (s : State) : Host.Outcome State Fault Refusal :=
  s.whileAwake fun s =>
    match s.writeOf .slotTable with
    | some w => s.completeWrite w fun s => s.slotStored w
    | none => s

end Sys2Proof.Machine
end

