-- ==== Sys2Proof/Machine/Supply.lean ====
section
/-! DEFINITION. The meanings of the supply supervisor's commands (Chapter 9): starts, loss of supply, dormancy, attach and detach, the cell, and the tamper input. -/

namespace Sys2Proof.Machine

/-! ### The start (R28 to R32, R93, R134, R181, R193, Table 9-4) -/

/-- The station number of the straps, SN2 most significant (R28). -/
def strappedNumber (i : StartInputs) : StationNo :=
  (BitVec.ofBool i.sn2 ++ BitVec.ofBool i.sn1 ++ BitVec.ofBool i.sn0).toFin

/-- The attach sense at a start (R182). -/
def senseAttached (i : StartInputs) : Bool := attachAfter false i.attachMv

/-- The supply is valid with these senses: ATTACHED, or the band above CUTOFF (R181). -/
def givesSupply (i : StartInputs) : Bool := senseAttached i || bandOf i.cellMv ≠ .cutoff

/-- The setup state that a stored setup record shows (R194). -/
def setupStateOf : Option SetupRecord → SetupState
  | none => .absent
  | some r => if r.locked then .locked else .stored

/-- Every block stopped: what is volatile is lost, and the clock, the store and the supervisor stay (R181, R192; log entry 9). -/
def State.stopBlocks (s : State) : State :=
  { State.reset with
    pending := s.pending, clock := s.clock, draws := s.draws, supervisor := s.supervisor, store := s.store }

/-- The held copies that a start reads from the store (R194, R205, Table 9-4). -/
def State.readStore (s : State) : State :=
  let t := s.store.stored
  let s := s.setVerifier { s.verifier with held := t.attempt }
  let s := s.setSlotTable { s.slotTable with slots := t.slots, salt := t.salt, blankKey := t.blankKey }
  let s := s.setPurge { s.purge with journal := t.journal, badBlocks := t.badBlocks, nextBlock := t.journal.nextBlock }
  let s := s.setGate { s.gate with ranges := t.ranges }
  s.setSetup { s.setup with state := setupStateOf t.setup, held := t.setup }

/-- The blocks at a start, before the phase is chosen: pins and store read, the line settling, the gate in its 1 ms settle (R28 to R30, R139, R182, R184, R186). -/
def State.startBlocks (s : State) (i : StartInputs) (cause : StartCause) : State :=
  let s := s.stopBlocks.readStore
  let s := s.setLine { s.line with settle := some (s.clock + startSettle), lastDominant := s.clock }
  let s := s.setRoster { s.roster with sn := strappedNumber i, kpd := i.kpd, startCause := cause }
  let s := s.setGate { s.gate with handOver := .settling (s.clock + handOverSettle) }
  s.setSupervisor
    { supplyValid := true, dormant := false, attached := senseAttached i, band := bandOf i.cellMv
      tamperAsserted := if cause = .wake then s.supervisor.tamperAsserted else s.store.stored.tamper
      tampered := s.store.stored.tamper
      haltMark := if cause = .wake then s.supervisor.haltMark else false }

/-- HALTED at a start, with its ROLL (R31, R32). -/
def State.startHalted (s : State) : State :=
  ((s.setSupervisor { s.supervisor with haltMark := true }).enterPhase .halted).offerRoll

/-- A purge resumed at its stored stage, with a re-offer run and the start ROLL (R31, R134). The ROLL is formed after the stage has taken up its work, so it shows what the stage has set by then (log entry 67). -/
def State.resumePurge (s : State) : State := (s.enterPhase .purging).beginOffers.beginStage.offerRoll

/-- The straps conflict with the held record (R32). -/
def State.strapsConflict (s : State) : Bool :=
  match s.setup.held with
  | some r => strapConflict s.roster.sn s.roster.kpd r
  | none => false

/-- The starting phase, the first row of Table 2-1 whose condition holds, with its ROLL (R31). -/
def State.choosePhase (s : State) (cause : StartCause) : State :=
  if cause = .wake ∧ s.supervisor.haltMark then s.startHalted
  else if s.setup.state ≠ .locked then s.enterPhase .uncommissioned
  else if s.strapsConflict then s.startHalted
  else if s.purge.journal.isOpen then s.resumePurge
  else if s.failureLimit ≤ s.verifier.held.count ∧ s.epoch ≠ lastEpoch then (s.openPurge .limit (s.epoch + 1)).offerRoll
  else (s.enterPhase .assembling).beginAssembly

/-- The start of a station (R31). -/
def State.start (s : State) (i : StartInputs) (cause : StartCause) : State := (s.startBlocks i cause).choosePhase cause

/-! ### Loss of supply (R181, R185, R206) -/

/-- The store at a loss of supply: a write in flight had reached the store or not; requests are lost (R206). -/
def Store.cutOff (t : Store) (landed : Bool) : Store :=
  { t with
    stored := match t.inFlight with
      | some w => if landed then t.stored.put w.contents else t.stored
      | none => t.stored
    inFlight := none, requests := Requests.none, deciding := false }

/-- The supply is lost: every block stops at once, and the halt mark and tamper level go (R181, R185, R192). -/
def State.loseSupply (s : State) (landed : Bool) : State :=
  let s := (s.setStore (s.store.cutOff landed)).stopBlocks
  s.setSupervisor { s.supervisor with supplyValid := false, dormant := false, tamperAsserted := false, haltMark := false }

/-- POWER_UP: the supply becomes valid, and the station makes a start with cause POWER (R181). -/
def execPowerUp (inputs : StartInputs) (s : State) : Host.Outcome State Fault Refusal :=
  if !s.supervisor.supplyValid && givesSupply inputs then (s.start inputs .power).done else .next s

/-- SUPPLY_LOST: taken whatever the senses last read; the command says that the supply is gone (R181, R206; log entry 61). -/
def execSupplyLost (landed : Bool) (s : State) : Host.Outcome State Fault Refusal :=
  if s.supervisor.supplyValid then .next (s.loseSupply landed) else .next s

/-! ### Dormancy and wake (R170, R190 to R193) -/

/-- The key state at a start: the waking key settles, several keys block, and no key is IDLE (R170). -/
def wakingKeys : List Key → Micros → KeyState
  | [], _ => .idle
  | [k], due => .settling k due
  | _ :: _ :: _, _ => .blocked

/-- The scanner starts with the keys that woke the keypad station (R170). -/
def State.settleWakingKey (s : State) : WakeCause → State
  | .key down =>
    if s.roster.kpd then s.setScanner { s.scanner with key := wakingKeys down (s.clock + keyDebounce) } else s
  | .line => s
  | .attach => s
  | .tamper => s

/-- A cause wakes this station: a key wakes the keypad station only (R193), by the keypad strap as the pin shows it at the wake (log entry 66). -/
def wakesStation (cause : WakeCause) (i : StartInputs) : Bool :=
  match cause with
  | .key _ => i.kpd
  | .line => true
  | .attach => true
  | .tamper => true

/-- WAKE: a start with cause WAKE; senses that give no supply are a loss of supply (R185, R193). -/
def execWake (cause : WakeCause) (inputs : StartInputs) (s : State) : Host.Outcome State Fault Refusal :=
  if s.supervisor.supplyValid && s.supervisor.dormant && wakesStation cause inputs then
    if givesSupply inputs then ((s.start inputs .wake).settleWakingKey cause).done
    else .next (s.loseSupply false)
  else .next s

/-- The phases of part 3 of the dormancy condition (R190). -/
def State.phaseMaySleep (s : State) : Bool :=
  match s.phase with
  | .locked | .blank | .incomplete | .halted | .uncommissioned => true
  | .purging => s.purge.suspended
  | .assembling | .verifying | .unlocked | .purgeWait => false

/-- The store is idle: no write in flight and no request pending (R208). -/
def Store.idle (t : Store) : Bool := t.inFlight.isNone && (t.requests.first arbiterOrder).isNone

/-- Parts 1 to 7 of the dormancy condition, and of part 8 the wake cause that the state shows: a key seen down on the keypad station (R190, R191). Key state HELD or BLOCKED counts as a key seen down also while the key is already up but not yet for 20 ms; this is the model's choice (log entry 34). A shift of zeros under way does not hold off the sleep, which cuts it off; this too is the model's choice (log entry 72). -/
def State.maySleep (s : State) : Bool :=
  !s.supervisor.attached && lineSilence ≤ s.sinceDominant && s.phaseMaySleep
    && (!s.roster.kpd || (s.scannerAtRest && s.slotTable.enrollment.isNone && s.scanner.key = .idle)) && s.store.idle
    && s.line.tx.isEmpty && s.line.rx.isEmpty && s.gate.handOver = .steady && s.gate.op.isNone

/-- The blocks stop; the store, the halt mark and the tamper level are kept (R192). -/
def State.sleep (s : State) : State := s.stopBlocks.setSupervisor { s.supervisor with dormant := true }

/-- DORMANCY_ENTRY: with any other wake cause pending at either test the entry is abandoned (R190 to R192; log entry 34). -/
def execDormancyEntry (atTest : Bool) (atRetest : Bool) (s : State) : Host.Outcome State Fault Refusal :=
  s.whileAwake fun s => if s.maySleep && !atTest && !atRetest then s.sleep else s

/-! ### Attach sense (R102, R103, R129, R182, R183) -/

/-- The detach: a loss of supply at CUTOFF, else the revoke or the void, and ERASE may suspend (R102, R183, R185). -/
def State.detachNow (s : State) (landed : Bool) : State :=
  let s := s.setSupervisor { s.supervisor with attached := false }
  if s.supervisor.band = .cutoff then s.loseSupply landed else s.lockDown.eraseAdvance

/-- DETACH: the sense has stood below 4.2 V (R102, R182, R183). -/
def execDetach (landed : Bool) (s : State) (sense : Nat := 4199) : Host.Outcome State Fault Refusal :=
  s.whileAwake fun s => if s.supervisor.attached && !attachAfter true sense then s.detachNow landed else s

/-- The attach: the attach window stops, and a suspended ERASE resumes (R103, R129, R183). -/
def State.attachNow (s : State) : State :=
  let s := s.setSupervisor { s.supervisor with attached := true }
  (s.setPhaseCtl { s.phaseCtl with attachWindow := none }).eraseAdvance

/-- ATTACH: the sense has stood at or above 4.4 V (R182, R183). -/
def execAttach (s : State) (sense : Nat := 4400) : Host.Outcome State Fault Refusal :=
  s.whileAwake fun s => if !s.supervisor.attached && attachAfter false sense then s.attachNow else s

/-! ### The cell (R184, R185, R192) -/

/-- The band that samples give; CUTOFF while DETACHED is a loss of supply, any other change goes to the purge engine (R184, R185). -/
def State.takeBand (s : State) (b : Band) (landed : Bool) : State :=
  let s := s.setSupervisor { s.supervisor with band := b }
  if b = .cutoff && !s.supervisor.attached then s.loseSupply landed else s.eraseAdvance

/-- Three samples in a row lie in CUTOFF (R184). -/
def cutoffSamples (samples : List Nat) : Bool := bandDown .floor samples.reverse = some .cutoff

/-- CELL_BAND_CHANGE: an awake station takes the band; a dormant one detects CUTOFF only (R184, R185, R192). -/
def execCellBandChange (samples : List Nat) (landed : Bool) (s : State) : Host.Outcome State Fault Refusal :=
  if s.awake then
    let b := bandAfter s.supervisor.band samples
    if b = s.supervisor.band then .next s else (s.takeBand b landed).done
  else if s.supervisor.supplyValid && cutoffSamples samples then .next (s.loseSupply landed)
  else .next s

/-! ### Tamper (R186 to R189) -/

/-- The phase at a tamper assertion, by policy (R188, Table 9-3). -/
def State.actOnTamper (s : State) : State := if s.purgesOnTamper && s.canOpenOwn then s.openOwn .tamper else s.lockDown

/-- A tamper assertion: TAMPERED latched and its write requested, then the phase (R186 to R188). -/
def State.assertTamper (s : State) : State :=
  let s := s.setSupervisor { s.supervisor with tamperAsserted := true }
  ((s.setTampered true).request .supervisor .tamper).actOnTamper

/-- TAMPER_ASSERTION (R186 to R188). -/
def execTamperAssertion (s : State) : Host.Outcome State Fault Refusal :=
  s.whileAwake fun s => if s.supervisor.tamperAsserted then s else s.assertTamper

/-- TAMPER_RELEASE: TAMPER_INPUT becomes false (R186). -/
def execTamperRelease (s : State) : Host.Outcome State Fault Refusal :=
  s.whileAwake fun s => s.setSupervisor { s.supervisor with tamperAsserted := false }

/-- TAMPER_WRITE_COMPLETE (R180, R206). -/
def execTamperWriteComplete (s : State) : Host.Outcome State Fault Refusal :=
  s.whileAwake fun s =>
    match s.writeOf .supervisor with
    | some w => s.completeWrite w fun s => s
    | none => s

end Sys2Proof.Machine
end

