-- ==== Sys2Proof/Machine/Verification.lean ====
section
/-! DEFINITION. The meanings of the verifier's commands (Chapter 3): ENTRY and VERDICT handled, the end of the verdict window and of the hold, and the completion of an attempt-record write. -/

namespace Sys2Proof.Machine

/-! ### ENTRY (R52 to R59) -/

/-- What the acceptance checks and the check against the slots make of an ENTRY: turned away with a result, a match, or no match (R53, R56). -/
inductive EntryFinding where
  | turnedAway (result : VerdictResult)
  | matched (slot : SlotNo) (key : ChannelKey)
  | mismatched
  deriving DecidableEq, Repr

/-- The sender may originate an entry (R53, check 1). -/
def State.entrySender (s : State) (n : StationNo) : Bool :=
  s.roleOf n = .keypadGuard || (s.roleOf n = .controller && s.hostEntry)

/-- The result of check 2 in a phase other than LOCKED (R53). -/
def Phase.turnsAway : Phase → VerdictResult
  | .verifying | .purging | .purgeWait => .busy
  | .uncommissioned | .halted | .assembling | .incomplete | .blank | .locked | .unlocked => .refused

/-- Check 5: the station is ATTACHED, or its cell band is not FLOOR (R53). -/
def State.cellAllowsEntry (s : State) : Bool := s.supervisor.attached || s.supervisor.band ≠ .floor

/-- The greatest open serial (R49). -/
def maxSerial : Nat := 4294967295

/-- The seven acceptance checks in their order: the result of the first that fails (R53, Table 3-3). -/
def State.entryRefusal (s : State) (n : StationNo) (e : EntryFields) : Option VerdictResult :=
  if !s.entrySender n then some .refused
  else if s.phase ≠ .locked then some s.phase.turnsAway
  else if e.epoch ≠ s.epoch then some .refused
  else if s.holdActive then some .hold
  else if !s.cellAllowsEntry then some .refused
  else if maxSerial ≤ s.verifier.held.serial then some .refused
  else if s.failureLimit ≤ s.verifier.held.count then some .refused
  else none

/-- The checks of R53, then the check against the slots with its refusal for tamper (R53, R56, R57). -/
def State.findEntry (s : State) (n : StationNo) (e : EntryFields) : EntryFinding :=
  match s.entryRefusal n e with
  | some r => .turnedAway r
  | none =>
    match s.checkToken e.token with
    | some (slot, key) => if slot ≠ 0 ∧ s.showsTamper then .turnedAway .refused else .matched slot key
    | none => .mismatched

/-- VERIFYING begins with an attempt and its window (R58, R59, R61). -/
def State.beginAttempt (s : State) (n : StationNo) (e : EntryFields) (own : OwnResult) : State :=
  (s.setVerifier
    { s.verifier with
      attempt := some ⟨n, e.seq, e.readOnly, own, some (s.clock + verdictWindow), Vector.replicate 8 none, none⟩ }).enterPhase
    .verifying

/-- No match: the held failure count rises and its write is requested before VERIFYING begins; no VERDICT yet (R59). -/
def State.countFailure (s : State) (n : StationNo) (e : EntryFields) : State :=
  let stamp := s.store.grants
  let s := (s.setPair s.verifier.held.serial (s.verifier.held.count + 1)).request .verifier .attempt
  s.beginAttempt n e (.mismatched false stamp)

/-- What the station does with its finding (R54, R57 to R59). -/
def State.actOnEntry (s : State) (n : StationNo) (e : EntryFields) : EntryFinding → State
  | .turnedAway r => s.offerVerdict n e.seq r 0 s.pair
  | .matched slot key => (s.beginAttempt n e (.matched slot key)).offerVerdict n e.seq .matched slot.val s.pair
  | .mismatched => s.countFailure n e

/-- The ENTRY names the origin and sequence of the current attempt (R55). -/
def State.repeatsEntry (s : State) (n : StationNo) (e : EntryFields) : Bool :=
  match s.verifier.attempt with
  | some a => a.origin = n && a.seq = e.seq
  | none => false

/-- The keypad station's scanner learns how its own ENTRY was handled (R169). -/
def EntryFinding.transient : EntryFinding → Option Transient
  | .turnedAway .busy | .turnedAway .refused => some .amber
  | .turnedAway .hold | .turnedAway .matched | .turnedAway .mismatch | .matched _ _ | .mismatched => none

/-- The transient of an own ENTRY handled on return (R169). -/
def State.showFinding (s : State) (own : Bool) (finding : EntryFinding) : State :=
  match own, finding.transient with
  | true, some t => s.showTransient t
  | true, none => s
  | false, _ => s

/-- An ENTRY taken by a member guard: ignored when it repeats the current attempt's, else found and acted on (R53 to R59). -/
def State.takeEntry (s : State) (f : RxFrame) : State :=
  let e := readEntry f.payload
  if s.repeatsEntry f.sender e then s
  else
    let finding := s.findEntry f.sender e
    (s.actOnEntry f.sender e finding).showFinding f.own.isSome finding

/-- An ENTRY is handled; in HALTED it is ignored, and an own ENTRY that was DROPPED is not checked (R52, R167, R169). One that comes back DROPPED in HALTED is ignored too and shows no amber; this is the model's choice (log entry 73). -/
def State.handleEntry (s : State) (f : RxFrame) : State :=
  let s :=
    if s.phase = .halted then s
    else if f.own = some .dropped then s.showTransient .amber
    else s.takeEntry f
  if f.own.isSome then s.testPending else s

/-- ENTRY (R53). -/
def execEntry (s : State) : Host.Outcome State Fault Refusal :=
  s.frameRow (fun f => f.kind = .entry) State.handleEntry

/-! ### VERDICT (R35, R46, R62, R63) -/

/-- The VERDICT belongs to the entry this station is now verifying: before its decision, with that origin and sequence (R46, R62). -/
def Attempt.isFor (a : Attempt) (v : VerdictFields) : Bool := a.waiting.isNone && a.origin = v.origin && a.seq = v.seq

/-- A verdict is filed in its sender's empty place, and the full set is decided on (R62, R63). -/
def State.fileVerdict (s : State) (a : Attempt) (n : StationNo) (v : Filed) : State :=
  if a.filed[n].isSome then s
  else
    let a := { a with filed := a.filed.set n (some v) }
    let s := s.setVerifier { s.verifier with attempt := some a }
    if s.fullSet a then s.takeDecision a else s

/-- The last record of the sender takes the pair, and VERIFYING with a MATCH or MISMATCH (R35). -/
def verdictRecord (v : Filed) (r : GuardRecord) : GuardRecord :=
  { r with
    serial := v.serial, count := v.count
    phase := if v.result = .matched ∨ v.result = .mismatch then .verifying else r.phase }

/-- A VERDICT of another entry is merged, when its sender's last record shows the own epoch (R46). The station's own VERDICT on return is never merged: its pair was the held one when it was offered, so in the same epoch it raises nothing. One of an older epoch that is handled after the close of a purge meets the conditions of R46, since the own entry shows the new epoch, and is kept out by R48, which merges no records of different epochs; this is the model's choice (log entry 74). -/
def State.mergeVerdict (s : State) (n : StationNo) (v : Filed) : State :=
  if n ≠ s.sn && s.sameEpoch n then s.mergePair (v.serial, v.count) else s

/-- A member guard's VERDICT: the roster record, then the collection or the merge (R35, R46, R62). -/
def State.takeVerdict (s : State) (n : StationNo) (v : VerdictFields) : State :=
  let s := s.updateRecord n (verdictRecord v.filed)
  match s.verifier.attempt with
  | some a => if a.isFor v then s.fileVerdict a n v.filed else s.mergeVerdict n v.filed
  | none => s.mergeVerdict n v.filed

/-- A VERDICT is handled; one from the controller, or with an unnamed result or slot, is ignored (R60, R210). -/
def State.handleVerdict (s : State) (f : RxFrame) : State :=
  match readVerdict f.payload with
  | some v => if s.isMember f.sender then s.takeVerdict f.sender v else s
  | none => s

/-- VERDICT (R62). -/
def execVerdict (s : State) : Host.Outcome State Fault Refusal :=
  s.frameRow (fun f => f.kind = .verdict) State.handleVerdict

/-- VERDICT_WINDOW_EXPIRE: the decision is taken at once (R63). -/
def execVerdictWindowExpire (s : State) : Host.Outcome State Fault Refusal :=
  s.whileAwake fun s =>
    match s.verifier.attempt with
    | some a =>
      match a.window with
      | some due => (s.runTo due).takeDecision a
      | none => s
    | none => s

/-- HOLD_EXPIRE: the hold has no time remaining (R71, R72). -/
def execHoldExpire (s : State) : Host.Outcome State Fault Refusal :=
  s.whileAwake fun s =>
    match s.verifier.hold with
    | some due => (s.runTo due).stopHold
    | none => s

/-! ### The attempt record's writes (R50, R59) -/

/-- The completion event at the verifier: a WAITING increment that the write carried is STORED, and its MISMATCH is offered with the stored pair (R59). -/
def State.storeIncrement (s : State) (serial : Nat) (stored : AttemptRecord) : State :=
  match s.verifier.attempt with
  | some a =>
    match a.own with
    | .mismatched false raisedAt =>
      if raisedAt < serial then
        (s.setVerifier { s.verifier with attempt := some { a with own := .mismatched true raisedAt } }).offerVerdict
          a.origin a.seq .mismatch 0 (stored.serial, stored.count)
      else s
    | .mismatched true _ => s
    | .matched _ _ => s
  | none => s

/-- What the completion of an attempt-record write does: at the verifier the increment, at the roster unit nothing. -/
def State.attemptStored (s : State) (w : InFlight) : State :=
  match w.contents with
  | .attempt r => if w.requester = .verifier then s.storeIncrement w.serial r else s
  | .setup _ | .salt _ | .slot _ _ | .blankKey _ | .range _ _ | .journal _ | .badBlocks _ | .tamper _ => s

/-- ATTEMPT_WRITE_COMPLETE: a write of the verifier or of the roster unit completes (R59, R206). -/
def execAttemptWriteComplete (s : State) : Host.Outcome State Fault Refusal :=
  s.whileAwake fun s =>
    match s.store.inFlight with
    | some w =>
      if w.requester = .verifier ∨ w.requester = .roster then s.completeWrite w fun s => s.attemptStored w else s
    | none => s

end Sys2Proof.Machine
end

