-- ==== Sys2Proof/Machine/Dispatch.lean ====
section
/-! DEFINITION. The effect of each command: one arm per constructor of Instr. -/

namespace Sys2Proof.Machine

def exec (i : Instr) (s : State) : Host.Outcome State Fault Refusal :=
  match i with
  | .powerUp inputs => Sys2Proof.Machine.execPowerUp inputs s
  | .supplyLost landed => Sys2Proof.Machine.execSupplyLost landed s
  | .wake cause inputs => Sys2Proof.Machine.execWake cause inputs s
  | .dormancyEntry atTest atRetest => Sys2Proof.Machine.execDormancyEntry atTest atRetest s
  | .startSettleEnd => Sys2Proof.Machine.execStartSettleEnd s
  | .frameAttemptStart rival => Sys2Proof.Machine.execFrameAttemptStart rival s
  | .bitError => Sys2Proof.Machine.execBitError s
  | .attemptComplete slots => Sys2Proof.Machine.execAttemptComplete slots s
  | .frameReceive frame => Sys2Proof.Machine.execFrameReceive frame s
  | .lineReset => Sys2Proof.Machine.execLineReset s
  | .roll => Sys2Proof.Machine.execRoll s
  | .assemblySend => Sys2Proof.Machine.execAssemblySend s
  | .assemblyWindowEnd => Sys2Proof.Machine.execAssemblyWindowEnd s
  | .reannounce => Sys2Proof.Machine.execReannounce s
  | .entry => Sys2Proof.Machine.execEntry s
  | .verdict => Sys2Proof.Machine.execVerdict s
  | .verdictWindowExpire => Sys2Proof.Machine.execVerdictWindowExpire s
  | .holdExpire => Sys2Proof.Machine.execHoldExpire s
  | .stage => Sys2Proof.Machine.execStage s
  | .adopt => Sys2Proof.Machine.execAdopt s
  | .adoptAbandon => Sys2Proof.Machine.execAdoptAbandon s
  | .retire => Sys2Proof.Machine.execRetire s
  | .answer => Sys2Proof.Machine.execAnswer s
  | .enrollmentTimeout => Sys2Proof.Machine.execEnrollmentTimeout s
  | .lock => Sys2Proof.Machine.execLock s
  | .detach landed sense => Sys2Proof.Machine.execDetach landed s sense
  | .attach sense => Sys2Proof.Machine.execAttach s sense
  | .attachWindowExpire => Sys2Proof.Machine.execAttachWindowExpire s
  | .keyShiftEnd => Sys2Proof.Machine.execKeyShiftEnd s
  | .zeroShiftEnd => Sys2Proof.Machine.execZeroShiftEnd s
  | .purge => Sys2Proof.Machine.execPurge s
  | .controllerPurge => Sys2Proof.Machine.execControllerPurge s
  | .purgeReoffer => Sys2Proof.Machine.execPurgeReoffer s
  | .purged => Sys2Proof.Machine.execPurged s
  | .purgeWriteComplete => Sys2Proof.Machine.execPurgeWriteComplete s
  | .eraseStepReady status => Sys2Proof.Machine.execEraseStepReady status s
  | .eraseStepTimeout => Sys2Proof.Machine.execEraseStepTimeout s
  | .recoveryResetReady => Sys2Proof.Machine.execRecoveryResetReady s
  | .recoveryResetTimeout => Sys2Proof.Machine.execRecoveryResetTimeout s
  | .faultPeriod => Sys2Proof.Machine.execFaultPeriod s
  | .drainExpire => Sys2Proof.Machine.execDrainExpire s
  | .settleEnd => Sys2Proof.Machine.execSettleEnd s
  | .read00h cycles ready => Sys2Proof.Machine.execRead00h cycles ready s
  | .read05h cycles ready => Sys2Proof.Machine.execRead05h cycles ready s
  | .program80h cycles ready => Sys2Proof.Machine.execProgram80h cycles ready s
  | .program85h cycles ready => Sys2Proof.Machine.execProgram85h cycles ready s
  | .erase60h cycles ready => Sys2Proof.Machine.execErase60h cycles ready s
  | .controlCommand code => Sys2Proof.Machine.execControlCommand code s
  | .commandEnd ready => Sys2Proof.Machine.execCommandEnd ready s
  | .flashReady => Sys2Proof.Machine.execFlashReady s
  | .range => Sys2Proof.Machine.execRange s
  | .rangeWriteComplete => Sys2Proof.Machine.execRangeWriteComplete s
  | .slotWriteComplete => Sys2Proof.Machine.execSlotWriteComplete s
  | .attemptWriteComplete => Sys2Proof.Machine.execAttemptWriteComplete s
  | .tamperWriteComplete => Sys2Proof.Machine.execTamperWriteComplete s
  | .setup => Sys2Proof.Machine.execSetup s
  | .setupWriteComplete => Sys2Proof.Machine.execSetupWriteComplete s
  | .setupLock => Sys2Proof.Machine.execSetupLock s
  | .keyingWriteComplete => Sys2Proof.Machine.execKeyingWriteComplete s
  | .setupLockComplete => Sys2Proof.Machine.execSetupLockComplete s
  | .query => Sys2Proof.Machine.execQuery s
  | .status => Sys2Proof.Machine.execStatus s
  | .clear => Sys2Proof.Machine.execClear s
  | .keyDigit d => Sys2Proof.Machine.execKeyDigit d s
  | .keyLock => Sys2Proof.Machine.execKeyLock s
  | .keyEnter => Sys2Proof.Machine.execKeyEnter s
  | .keyRelease otherDown => Sys2Proof.Machine.execKeyRelease s otherDown
  | .idleTimerExpire => Sys2Proof.Machine.execIdleTimerExpire s
  | .pendingTimerExpire => Sys2Proof.Machine.execPendingTimerExpire s
  | .lockTimerExpire => Sys2Proof.Machine.execLockTimerExpire s
  | .prefixTimerExpire => Sys2Proof.Machine.execPrefixTimerExpire s
  | .modeTimerExpire => Sys2Proof.Machine.execModeTimerExpire s
  | .confirmTimerExpire => Sys2Proof.Machine.execConfirmTimerExpire s
  | .transientEnd => Sys2Proof.Machine.execTransientEnd s
  | .cellBandChange samples landed => Sys2Proof.Machine.execCellBandChange samples landed s
  | .tamperAssertion => Sys2Proof.Machine.execTamperAssertion s
  | .tamperRelease => Sys2Proof.Machine.execTamperRelease s
  | .lineIdleReached => Sys2Proof.Machine.execLineIdleReached s
  | .dominantRunOutsideFrame bits => Sys2Proof.Machine.execDominantRunOutsideFrame bits s
  | .keySeenDown key => Sys2Proof.Machine.execKeySeenDown key s
  | .keySeenUpSettling => Sys2Proof.Machine.execKeySeenUpSettling s
  | .addressTakingBroken => Sys2Proof.Machine.execAddressTakingBroken s

end Sys2Proof.Machine
end

