-- ==== Sys2Proof/Machine/Step.lean ====
section
/-! DEFINITION. One step: the command at the front of the queue, or one microsecond on an empty queue (log entry 1). -/

namespace Sys2Proof.Machine

/-- On an empty queue one microsecond passes (log entry 1). -/
def State.tick (s : State) : State := s.setClock (s.clock + 1)

/-- Take the command at the front of the queue and run it on the rest; on an empty queue one microsecond passes. -/
def step (s : State) : Host.Outcome State Fault Refusal :=
  match s.pending with
  | [] => .next s.tick
  | c :: rest => exec c (s.setPending rest)

/-- The state with the command that a word spells at the front of its queue; no word spells one, since the table gives no bits. -/
def State.withFetchWord (s : State) (nbits w : Nat) : State :=
  match decodeTableWord nbits w with
  | some c => s.setPending (c :: s.pending)
  | none => s

end Sys2Proof.Machine
end

