-- ==== Sys2Proof/Safety.lean ====
section
/-! DEFINITION. What a run may show: the states reached from reset by steps, and what it means for a property to hold at all of them. -/

namespace Sys2Proof.Machine

/-- A step goes from one state to the next. -/
def Steps (s t : State) : Prop := step s = .next t

/-- The states a run reaches from reset with any commands sent. -/
inductive Reached : State → Prop where
  /-- Reset, with commands waiting. -/
  | reset (commands : List Instr) : Reached (State.reset.setPending commands)
  /-- One step further. -/
  | step {s t : State} (earlier : Reached s) (goes : Steps s t) : Reached t

/-- A property that every step keeps. -/
def Kept (P : State → Prop) : Prop := ∀ s t : State, P s → Steps s t → P t

end Sys2Proof.Machine
end

