-- ==== Sys2Proof/Certificates/Slice0/Obligations.lean ====
section
/-! DEFINITION. The statements for the provers. A result is written as the whole next state, `.next (….payRoll)`, wherever the rule fixes it: what the equation does not name is then unchanged. `payRoll` is the one thing that the end of any event may add, and OwedRollIsPaid says what it does. -/

open Sys2Proof Sys2Proof.Machine

/-! ### Words of the statements -/

namespace Sys2Proof.Machine

/-- A frame is the oldest of the receive queue of an awake station, and handling goes on with it (R17, R33, R210). -/
abbrev State.isFront (s : State) (f : RxFrame) (rest : List RxFrame) : Prop :=
  s.awake = true ∧ s.line.rx = f :: rest ∧ s.handles f = true

/-- The station with the oldest frame taken from its receive queue. -/
def State.taken (s : State) (rest : List RxFrame) : State := s.setLine { s.line with rx := rest }

/-- The head frame of an awake station has its attempt on the line. -/
abbrev State.isOnLine (s : State) (f : TxFrame) (rest : List TxFrame) : Prop :=
  s.awake = true ∧ s.line.tx = f :: rest ∧ s.line.onLine.isSome = true ∧ s.line.state = .tracking

/-- A key is down long enough to be taken: on the keypad station, settled for that key (R162). -/
abbrev State.keyReady (s : State) (key : Key) (due : Micros) : Prop :=
  s.awake = true ∧ s.roster.kpd = true ∧ s.scanner.key = .settling key due

/-- The station as a settled key is handed to the sequence rules: the key HELD, its 20 ms past (R162). -/
def State.withHeld (s : State) (key : Key) (due : Micros) : State :=
  (s.setClock (max s.clock due)).setScanner { s.scanner with key := .held key }

/-- The write in flight is a given requester's, with given contents. -/
abbrev State.writing (s : State) (r : Requester) (c : Contents) (serial : Nat) : Prop :=
  s.awake = true ∧ s.store.inFlight = some ⟨r, c, serial⟩

/-- The station with a write stored, before its requester acts on the completion event (R206). -/
def State.stores (s : State) (c : Contents) : State :=
  s.setStore { s.store with stored := s.store.stored.put c, inFlight := none, deciding := true }

/-- The stored records, the range table and the setup logic stay as they are. -/
def State.keepsRecords (s t : State) : Prop :=
  t.store.stored = s.store.stored ∧ t.gate.ranges = s.gate.ranges ∧ t.setup = s.setup

/-- An admin request of another station gets as far as its answer: the station is neither UNCOMMISSIONED nor HALTED (R78). -/
abbrev State.isAsked (s : State) (f : RxFrame) (rest : List RxFrame) (k : Kind) : Prop :=
  s.isFront f rest ∧ f.kind = k ∧ f.own = none ∧ f.sender ≠ s.sn ∧ s.phase ≠ .uncommissioned ∧ s.phase ≠ .halted

/-- The sender may act as admin: the keypad guard, or the controller where setup allows host administration (Table 4-3, check 1). -/
abbrev State.mayAdminister (s : State) (n : StationNo) : Prop :=
  s.roleOf n = .keypadGuard ∨ (s.roleOf n = .controller ∧ s.hostAdmin = true)

/-- The station with a directed ANSWER offered (Table 11-15). -/
def State.answers (s : State) (n : StationNo) (request : Kind) (result : AnswerResult) (byte2 bytes34 : Nat) : State :=
  s.offer .answer (some n) (byte request.code :: byte result.code :: byte byte2 :: bytes2 bytes34)

/-- What a clear makes of the key port (R108): a presented key gives way to zeros, a key shift ends with the bit being shifted and zeros follow it, and a request that waits behind zeros is gone. -/
def KeyPort.clearedTo (p q : KeyPort) (now : Micros) : Prop :=
  (p.state = .clear → q = p)
    ∧ (p.state = .shiftingZero → q = { p with waiting := false })
    ∧ (p.state = .presented →
        q = { p with state := .shiftingZero, presented := 0, shiftDue := some (now + 512), waiting := false })
    ∧ (p.state = .shiftingKey → ∀ due, p.shiftDue = some due →
        (512 ≤ due → due ≤ now + 512 → now < due →
          let gone := (now + 512 - due) / 2
          q = ⟨.shiftingZero, 0, some (due + 2 * (gone + 1)), false, some (p.presented.getMsbD gone), gone + 1⟩)
        ∧ (due ≤ now → q = ⟨.shiftingZero, 0, some (now + 512), false, none, 256⟩))

/-- An unlock has ended: the key port clears, the unlocked key, attach window and enrollment are gone, and the phase is LOCKED or INCOMPLETE with grant PUBLIC; attempt record, hold, slots and journal stay (R96). -/
def State.revokedTo (s t : State) : Prop :=
  t.phase = (if s.memberMissing = true then .incomplete else .locked)
    ∧ t.phaseCtl.grant = .pub ∧ t.gate.grant = .pub
    ∧ s.keyPort.clearedTo t.keyPort t.clock
    ∧ t.slotTable.unlockedKey = none ∧ t.slotTable.enrollment = none ∧ t.phaseCtl.attachWindow = none
    ∧ t.verifier = s.verifier ∧ t.slotTable.slots = s.slotTable.slots ∧ t.purge.journal = s.purge.journal
    ∧ s.keepsRecords t

/-- What a report of a member changes in no case: the stored records, the setup logic, and the range table unless a purge is in its CLOSE (R120). -/
def State.keepsStore (s t : State) : Prop :=
  t.store.stored = s.store.stored ∧ t.setup = s.setup ∧ (s.purge.journal.isOpen = false → t.gate.ranges = s.gate.ranges)

/-- The change of a slot has joined the slot table's set, and its write is requested: granted at once by an idle store, pending behind the write of another block (R74, R206). -/
def State.slotWriteRequested (s t : State) (i : SlotNo) (v : Slot) : Prop :=
  (.slot i ∈ t.slotTable.writes.changed ∨ t.slotTable.writes.rechanged = true)
    ∧ (s.store.requests.slotTable = none → s.slotTable.writes.changed = [] →
        (s.store.inFlight = none → s.store.deciding = false →
          t.store.inFlight = some ⟨.slotTable, .slot i v, s.store.grants + 1⟩)
        ∧ (∀ w, s.store.inFlight = some w → w.requester ≠ .slotTable → t.store.requests.slotTable = some (.slot i)))

/-- A pair of open serial and failure count is larger than the held pair (Section 2.6). -/
abbrev State.raises (s : State) (serial count : Nat) : Prop :=
  s.verifier.held.serial < serial ∨ (s.verifier.held.serial = serial ∧ s.verifier.held.count < count)

/-- A purge has opened with a cause and a target: journal, phase, grant and owner, the request of the journal's write, an empty heard set with a run of re-offers, and the PURGE offered (R112, R114, R116, R117). -/
def State.purgeOpened (s t : State) (cause : PurgeCause) (target : Nat) : Prop :=
  t.phase = .purging ∧ t.phaseCtl.grant = .none ∧ t.gate.grant = .none ∧ t.gate.owner = .guard
    ∧ t.purge.journal = ⟨true, some target, some cause, some .destroy, 0, false, false⟩
    ∧ (.journal ∈ t.purge.writes.changed ∨ t.purge.writes.rechanged = true)
    ∧ (s.store.requests.purge = none → s.purge.writes.changed = [] →
        (∀ w, s.store.inFlight = some w → w.requester ≠ .purge) →
        t.store.requests.purge = some .journal
          ∨ ∃ serial, t.store.inFlight = some ⟨.purge, .journal t.purge.journal, serial⟩)
    ∧ t.purge.heard = Vector.replicate 8 false ∧ t.purge.reoffered = 0
    ∧ t.purge.reoffer = (if s.others = [] then none else some (t.clock + 2000000))
    ∧ (s.ownOutstanding .purge = false → s.line.tx.length < 4 →
        ∃ f ∈ t.line.tx, f.kind = .purge ∧ f.directed = false ∧ f.attempt = 0
          ∧ f.payload = byte cause.code :: bytes2 target)

/-- The target of an OPEN journal is raised, its write requested and a PURGE offered with a new run; the stage goes on, and a CLOSE starts again (R116, R117, R120). -/
def State.raisedTo (s t : State) (target : Nat) : Prop :=
  t.purge.journal = { s.purge.journal with target := some target }
    ∧ t.purge.heard = Vector.replicate 8 false ∧ t.purge.reoffered = 0
    ∧ t.purge.reoffer = (if s.others = [] then none else some (s.clock + 2000000))
    ∧ (.journal ∈ t.purge.writes.changed ∨ t.purge.writes.rechanged = true)
    ∧ (s.purge.journal.stage = some .close → s.purge.begun = true →
        t.verifier = { s.verifier with held := ⟨target, 0, 0⟩, hold := none } ∧ t.purge.plan = closePlan)
    ∧ (¬ (s.purge.journal.stage = some .close ∧ s.purge.begun = true) →
        t.verifier = s.verifier ∧ t.purge.plan = s.purge.plan ∧ t.gate.ranges = s.gate.ranges)
    ∧ (∀ cause, s.purge.journal.cause = some cause → s.ownOutstanding .purge = false → s.line.tx.length < 4 →
        ∃ f ∈ t.line.tx, f.kind = .purge ∧ f.payload = byte cause.code :: bytes2 target)
    ∧ t.phaseCtl = s.phaseCtl ∧ t.slotTable.slots = s.slotTable.slots ∧ t.keyPort = s.keyPort
    ∧ t.store.stored = s.store.stored

/-- A verification has been voided: the filed pairs of the other members are merged, and the phase is LOCKED with its hold restarted, or INCOMPLETE with a member missing, or at the failure limit a purge opens, but at the last epoch, where none can (R36, R69, R70, R71, R113). -/
def State.voidedTo (s t : State) (a : Attempt) : Prop :=
  let merged := s.bestFiled a.filed (s.others.filter s.sameEpoch)
  t.verifier.attempt = none ∧ t.keyPort = s.keyPort ∧ t.slotTable = s.slotTable
    ∧ t.verifier.held = ⟨s.epoch, merged.1, merged.2⟩
    ∧ (merged.2 < s.failureLimit ∨ s.epoch = 65535 →
        t.phase = (if s.memberMissing = true then .incomplete else .locked) ∧ t.phaseCtl.grant = .pub
        ∧ t.verifier.hold = (holdDuration merged.2).map (s.clock + ·) ∧ s.keepsRecords t)
    ∧ (s.failureLimit ≤ merged.2 → s.purge.journal.isOpen = false → s.epoch ≠ 65535 →
        s.purgeOpened t .limit (s.epoch + 1))

/-- The gate after its owner has changed: a hand-over under way goes on; else one begins, with the denial of a command whose address is being taken and a drain of 20 ms for a command in flight, with a drain for the gate's own work in flight, or at once with the settle of 1 ms (R147, R148). -/
def Gate.handsOverTo (g after : Gate) (owner : Side) (now : Micros) : Prop :=
  let changed := { g with owner := owner }
  (g.handOver ≠ .steady → after = changed)
    ∧ (g.handOver = .steady → g.holder = .controller →
        (∀ cycles ended, g.command = .passed cycles ended →
          after = { changed with handOver := .draining (some (now + 20000)) })
        ∧ (∀ code held inDrain, g.command = .takingAddress code held inDrain →
          after = { changed with
            command := .denied, gateDenied := true
            handOver := if g.flashBusy = true then .draining (some (now + 20000)) else .settling (now + 1000) })
        ∧ (g.command = .idle ∨ g.command = .denied →
          after = { changed with
            handOver := if g.flashBusy = true then .draining (some (now + 20000)) else .settling (now + 1000) }))
    ∧ (g.handOver = .steady → g.holder ≠ .controller →
        after = { changed with handOver := if g.op.isSome = true then .draining none else .settling (now + 1000) })

/-- The uses of a record as reconciliation leaves them: of an ACTIVE record at the largest generation the smallest that an ACTIVE summary there shows (R91). -/
def usesSettled (g : Nat) (l : List Summary) (before after : Slot) : Prop :=
  (∀ c u, before.body = .active c → c.uses = some u → before.gen = g →
    ∃ v, after = { before with body := .active { c with uses := some v } } ∧ v ≤ u
      ∧ (∀ m ∈ l, m.gen = g → m.state = .active → ∀ w, m.uses = some w → v ≤ w)
      ∧ (v = u ∨ ∃ m ∈ l, m.gen = g ∧ m.state = .active ∧ m.uses = some v))
    ∧ ((∀ c, before.body = .active c → c.uses = none ∨ before.gen ≠ g) → after = before)

/-- The key reaches the cipher only from an UNLOCKED station, a present request waits only behind a shift of zeros, and an attempt stands exactly while VERIFYING (R51, R107, R109). -/
def State.keyFenced (s : State) : Prop :=
  ((s.keyPort.state = .shiftingKey ∨ s.keyPort.state = .presented ∨ s.keyPort.waiting = true) → s.phase = .unlocked)
    ∧ (s.keyPort.waiting = true → s.keyPort.state = .shiftingZero)
    ∧ (s.verifier.attempt.isSome = true ↔ s.phase = .verifying)

/-- The gate holds the grant of the phase controller and the owner of Table 7-2, and the grant is that of Table 5-1 (R94, R95, R140). The owner in HALTED with an OPEN journal is GUARD, by the first row; R202 has NONE there (log entry 63). -/
def State.gateFollows (s : State) : Prop :=
  s.gate.grant = s.phaseCtl.grant
    ∧ s.gate.owner = ownerFor s.phase s.purge.journal.isOpen s.gate.channelFault
    ∧ (s.phase ≠ .unlocked → s.phaseCtl.grant = grantFor s.phase)
    ∧ (s.phase = .unlocked → ∃ slot ro, s.phaseCtl.grant = .user slot ro ∨ s.phaseCtl.grant = .admin slot ro)

/-- Each queue of the line holds four frames at most, own returned frames not counted (R17, R18, R19). -/
abbrev State.queuesBounded (s : State) : Prop := s.line.tx.length ≤ 4 ∧ s.placesTaken ≤ 4

/-- A station in UNCOMMISSIONED holds no locked setup record (R31, R199). -/
abbrev State.lockedIsCommissioned (s : State) : Prop := s.phase = .uncommissioned → s.setup.state ≠ .locked

/-- A token opens a slot with a key: the slot is ACTIVE, its verifier is the check value of the token and the station's salt, and its wrapped key was sealed under their wrapping value (R56, R75, R76). -/
def State.tokenOpens (s : State) (token : Token) (i : SlotNo) (key : ChannelKey) : Prop :=
  ∃ c, (s.slotAt i).body = .active c ∧ c.verifier = ⟨s.slotTable.salt, token⟩
    ∧ c.wrapped = ⟨⟨s.slotTable.salt, token⟩, key⟩

/-- The key port told to present: CLEAR begins the key shift, SHIFTING_ZERO keeps its zeros and has the request wait (R107). -/
def State.presents (s t : State) (key : ChannelKey) : Prop :=
  (s.keyPort.state = .clear → t.keyPort = ⟨.shiftingKey, key, some (s.clock + 512), false, none, 0⟩)
    ∧ (s.keyPort.state = .shiftingZero → t.keyPort = { s.keyPort with waiting := true })

/-- Every other member guard is PRESENT with a last record that agrees with this station (conditions 1 to 4 of R42). -/
def State.othersAgree (s : State) : Prop :=
  ∀ n, s.isMember n = true → n ≠ s.sn → ∃ r, s.roster.entries[n] = ⟨.present, some (.guard r)⟩
    ∧ r.epoch = s.epoch ∧ r.phase ≠ .purging ∧ r.phase ≠ .halted ∧ r.digest = s.digest

/-- Assembly has completed from the roster that u shows: the largest reported pair held, the slots reconciled, the timers stopped, the hold restarted, and BLANK or LOCKED; or at the failure limit a purge opened (R42, R43). -/
def State.assemblyCompleted (u t : State) : Prop :=
  let best := u.bestReported
  t.verifier.held = ⟨u.epoch, best.1, best.2⟩
    ∧ (best.2 < u.failureLimit →
        t.slotTable.slots = u.reconcile.slotTable.slots
        ∧ t.phase = (if (t.slotAt 0).body = .empty then .blank else .locked)
        ∧ t.phaseCtl.grant = (if (t.slotAt 0).body = .empty then .none else .pub)
        ∧ t.verifier.hold = (holdDuration best.2).map (t.clock + ·)
        ∧ t.roster.window = none ∧ t.roster.announce = none)
    ∧ (u.failureLimit ≤ best.2 → u.epoch ≠ 65535 → u.purgeOpened t .limit (u.epoch + 1))

/-- A running ERASE after a look at the cell condition: where it fails, ERASE is suspended and its next block checkpointed, the gate untouched; where it holds, ERASE is not suspended, and its next step is issued if the channel is handed over and free (R124, R127, R129, R151). -/
def State.eraseFollows (s t : State) (cellOk : Prop) : Prop :=
  let row := s.purge.nextBlock * s.pagesPerBlock
  let free := s.gate.op = none ∧ s.gate.holder = .guard ∧ s.gate.handOver = .steady ∧ s.gate.periodicDue = false
  (¬ cellOk → s.purge.suspended = false →
      t.purge.suspended = true ∧ t.purge.journal = { s.purge.journal with nextBlock := s.purge.nextBlock }
      ∧ t.purge.nextBlock = s.purge.nextBlock ∧ (.journal ∈ t.purge.writes.changed ∨ t.purge.writes.rechanged = true)
      ∧ t.gate = s.gate)
    ∧ (¬ cellOk → s.purge.suspended = true → t.purge = s.purge ∧ t.gate = s.gate)
    ∧ (cellOk → t.purge = { s.purge with suspended := false }
        ∧ (¬ free → t.gate = s.gate)
        ∧ (free →
          t.gate
            = { s.gate with
                op := some (.eraseStep s.purge.nextBlock (s.clock + 20000))
                driven := [0x60, byte row, byte (row / 256), byte (row / 65536), 0xD0] }))

/-- The gate after an expired drain has cut its command off: the rest of a passed one is denied, one that had ended is over, and any other command stays as it is, with nothing latched for it (R148; log entry 26). -/
def Gate.cutOffTo (g after : Gate) : Prop :=
  (∀ cycles, g.command = .passed cycles false → after = { g with command := .denied, gateDenied := true })
    ∧ (∀ cycles, g.command = .passed cycles true → after = { g with command := .idle })
    ∧ ((∀ cycles ended, g.command ≠ .passed cycles ended) → after = g)

/-- No two enabled entries of a range table share a block (R157). -/
abbrev disjointRanges (v : Vector RangeEntry 8) : Prop :=
  ∀ i j : RangeNo, i ≠ j → v[i].enabled = true → v[j].enabled = true → v[i].limit < v[j].base ∨ v[j].limit < v[i].base

end Sys2Proof.Machine

/-! ### Steps, reset, sleep -/

/-- Every step takes the command at the front of the queue and is that command's effect on the rest. On an empty queue one microsecond passes and nothing else changes (the model's choice, log entry 1). -/
def Obligations.StepRunsFrontCommand : Prop :=
  (∀ (c : Instr) (rest : List Instr) (s : State), step (s.setPending (c :: rest)) = exec c (s.setPending rest))
  ∧ (∀ s : State, s.pending = [] → step s = .next (s.setClock (s.clock + 1)))

/-- No command but a start, a loss of supply or the cell watch touches a station without supply or asleep. What of it is the model's and not the spec's: log entry 7. -/
def Obligations.AsleepStationTakesNoPart : Prop :=
  ∀ (c : Instr) (s : State), s.awake = false →
    (∀ i, c ≠ .powerUp i) → (∀ b, c ≠ .supplyLost b) → (∀ w i, c ≠ .wake w i) → (∀ l b, c ≠ .cellBandChange l b) →
    exec c s = .next s

/-- What an offer does. PURGE and LOCK are urgent. A frame taken into the transmit queue carries the flipped alternation bit of its class, and that bit alone flips: one that is not urgent joins the tail, an urgent one stands behind the head on the line and the urgent frames, ahead of the others. With no place free a frame that is not urgent is refused: TX_DROPPED, and a broadcast frame returns DROPPED. An urgent one displaces the youngest frame, unless that is urgent, with the same event and return for the displaced frame; with none to displace it is refused. A ROLL owed for TAMPERED is offered at the end of the event once no own ROLL is queued, and not at all in UNCOMMISSIONED and HALTED. -/
def Obligations.OwedRollIsPaid : Prop :=
  (∀ kind : Kind, kind.urgent = true ↔ kind = .purge ∨ kind = .lock)
  ∧ (∀ (s : State) (kind : Kind) (target : Option StationNo) (payload : List Byte),
    let alternation := if kind.urgent = true then !s.line.altUrgent else !s.line.altOther
    let f : TxFrame := ⟨kind, target.isSome, target.getD 0, payload, alternation, 0⟩
    let takenInto := fun (u : State) (tx : List TxFrame) =>
      u.setLine
        (if kind.urgent = true then { u.line with altUrgent := alternation, tx := tx }
         else { u.line with altOther := alternation, tx := tx })
    let dropped := fun (g : TxFrame) (left : List TxFrame) =>
      s.setLine
        { s.line with
          tx := left, txDropped := true
          rx := if g.directed = true then s.line.rx else s.line.rx ++ [⟨g.kind, s.sn, false, g.payload, some .dropped⟩] }
    let placedIn := fun (u : State) =>
      ∀ head ahead behind, u.line.tx = head ++ ahead ++ behind →
        head = u.line.tx.take (if s.line.onLine.isSome = true then 1 else 0) →
        (∀ g ∈ ahead, g.kind.urgent = true) → (∀ g, behind.head? = some g → g.kind.urgent = false) →
        s.offer kind target payload = takenInto u (head ++ ahead ++ f :: behind)
    (s.line.tx.length < 4 → kind.urgent = false → s.offer kind target payload = takenInto s (s.line.tx ++ [f]))
    ∧ (s.line.tx.length < 4 → kind.urgent = true → placedIn s)
    ∧ (4 ≤ s.line.tx.length → kind.urgent = false → s.offer kind target payload = dropped f s.line.tx)
    ∧ (∀ left g, 4 ≤ s.line.tx.length → kind.urgent = true → s.line.tx = left ++ [g] →
        (g.kind.urgent = true → s.offer kind target payload = dropped f s.line.tx)
        ∧ (g.kind.urgent = false → placedIn (dropped g left))))
  ∧ ∀ s : State,
    (s.roster.rollOwed = false → s.payRoll = s)
    ∧ (s.roster.rollOwed = true → s.phase = .uncommissioned ∨ s.phase = .halted →
        s.payRoll = s.setRoster { s.roster with rollOwed := false })
    ∧ (s.roster.rollOwed = true → s.phase ≠ .uncommissioned → s.phase ≠ .halted →
        (∃ f ∈ s.line.tx, f.kind = .roll) → s.payRoll = s)
    ∧ (s.roster.rollOwed = true → s.phase ≠ .uncommissioned → s.phase ≠ .halted →
        (∀ f ∈ s.line.tx, f.kind ≠ .roll) →
        s.payRoll = (s.setRoster { s.roster with rollOwed := false }).offer .roll none s.rollPayload)

/-- The values that the spec gives a new part at its first power-up. -/
def Obligations.ResetIsTheNewPart : Prop :=
  let s := State.reset
  (s.line.rx = [] ∧ s.line.tx = [] ∧ s.line.state = .lost ∧ s.line.repeatUrgent = Vector.replicate 8 none
    ∧ s.line.repeatOther = Vector.replicate 8 none)
  ∧ (s.line.headerParity = false ∧ s.line.checkFail = false ∧ s.line.rxMissed = false ∧ s.line.txPartial = false
    ∧ s.line.txDropped = false ∧ s.gate.gateDenied = false ∧ s.gate.stepTimeout = false
    ∧ s.slotTable.slotDiverged = false ∧ s.supervisor.tampered = false)
  ∧ s.line.settle = some 20000
  ∧ (s.roster.startCause = .power ∧ s.roster.entries = Vector.replicate 8 RosterEntry.absent)
  ∧ (s.phase = .uncommissioned ∧ s.phaseCtl.grant = .none)
  ∧ (s.verifier.attempt = none ∧ s.verifier.hold = none)
  ∧ (s.slotTable.unlockedKey = none ∧ s.slotTable.enrollment = none)
  ∧ (s.keyPort.state = .clear ∧ s.keyPort.presented = 0)
  ∧ (s.gate.holder = .none ∧ s.gate.handOver = .settling 1000 ∧ s.gate.command = .idle ∧ s.gate.faultCount = 0
    ∧ s.gate.channelFault = false)
  ∧ (s.scanner.key = .idle ∧ s.scanner.digits = [] ∧ s.scanner.overlong = false ∧ s.scanner.readOnly = false
    ∧ s.scanner.seq = .entry ∧ s.scanner.entrySeq = 0 ∧ s.scanner.idle = none ∧ s.scanner.transient = none)
  ∧ (s.supervisor.supplyValid = true ∧ s.supervisor.haltMark = false)
  ∧ (s.setup.state = .absent ∧ s.setup.held = none)
  ∧ (s.store.stored.setup = none ∧ s.store.stored.tamper = false ∧ s.store.inFlight = none
    ∧ s.store.requests = Requests.none)

/-! ### Invariants -/

/-- Every step keeps the key behind the phase: presented only while UNLOCKED, an attempt exactly while VERIFYING, and a present request that waits behind zeros only while UNLOCKED. What of it is the model's and not the spec's: log entry 31, by which a clear also cancels the waiting request. -/
def Obligations.KeyStaysBehindThePhase : Prop :=
  Kept State.keyFenced

/-- Every step keeps the gate at the grant of the phase controller and the owner that Table 7-2 gives for the phase, the journal and the fault. What of it is the model's and not the spec's: log entry 63 (in HALTED with an OPEN journal the gate's owner is GUARD, by the first row of Table 7-2, where R202 has NONE). -/
def Obligations.GateFollowsThePhase : Prop :=
  Kept State.gateFollows

/-- Every step keeps both queues within their four places. -/
def Obligations.QueuesStayBounded : Prop :=
  Kept State.queuesBounded

/-- Every step keeps a station with a locked setup record out of UNCOMMISSIONED. -/
def Obligations.LockedStationStaysCommissioned : Prop :=
  Kept State.lockedIsCommissioned

/-- Every step keeps the enabled range entries apart; the stored table is what a start reads. -/
def Obligations.EnabledRangesStayApart : Prop :=
  ∀ s t : State, disjointRanges s.gate.ranges → disjointRanges s.store.stored.ranges → Steps s t →
    disjointRanges t.gate.ranges

/-- Reset meets every invariant. -/
def Obligations.ResetMeetsTheInvariants : Prop :=
  State.reset.keyFenced ∧ State.reset.gateFollows ∧ State.reset.queuesBounded ∧ State.reset.lockedIsCommissioned
    ∧ disjointRanges State.reset.gate.ranges ∧ disjointRanges State.reset.store.stored.ranges

/-! ### The guard line (Chapter 1) -/

/-- The start settle ends. The moves of the line state outside a frame: 12 to 39 bit times give GAP, fewer give LOST, but a station in TRACKING reads up to 9 as part of its frame, and the end of a line reset run gives GAP. What of it is the model's and not the spec's: log entries 2 and 14. -/
def Obligations.LineMovesOutsideFrames : Prop :=
  (∀ (s : State) (due : Micros), s.awake = true → s.line.settle = some due →
    exec .startSettleEnd s
      = .next ((s.setClock (max s.clock due)).setLine { s.line with settle := none }).payRoll)
  ∧ (∀ (s : State) (bits : Nat), s.awake = true →
    (s.line.state = .gap ∨ s.line.state = .lost → s.line.inReset = false → s.line.sendingReset = false →
        exec .lineIdleReached s = .next (s.setLine { s.line with state := .idle }).payRoll)
    ∧ (s.line.onLine = none → s.line.inReset = true ∨ 40 ≤ bits →
        exec (.dominantRunOutsideFrame bits) s
          = .next (s.setLine
              { s.line with state := .gap, inReset := false, sendingReset := false, lastDominant := s.clock }).payRoll)
    ∧ (s.line.onLine = none → s.line.inReset = false → 12 ≤ bits → bits < 40 →
        exec (.dominantRunOutsideFrame bits) s
          = .next (s.setLine { s.line with state := .gap, lastDominant := s.clock }).payRoll)
    ∧ (s.line.onLine = none → s.line.inReset = false → bits < 12 → s.line.state ≠ .tracking ∨ 10 ≤ bits →
        exec (.dominantRunOutsideFrame bits) s
          = .next (s.setLine { s.line with state := .lost, lastDominant := s.clock }).payRoll)
    ∧ (s.line.onLine = none → s.line.inReset = false → bits < 10 → s.line.state = .tracking →
        exec (.dominantRunOutsideFrame bits) s
          = .next (s.setLine { s.line with lastDominant := s.clock }).payRoll)
    ∧ (s.line.onLine.isSome = true → exec (.dominantRunOutsideFrame bits) s = .next s.payRoll))

/-- The head frame starts at IDLE and keeps the line unless a rival of the same bit time has the lower character 0; otherwise nothing starts. What of it is the model's and not the spec's: log entry 12. -/
def Obligations.HeadFrameStartsAndArbitrates : Prop :=
  ∀ (s : State) (f : TxFrame) (rest : List TxFrame) (rival : Option Byte),
    s.awake = true → s.line.tx = f :: rest →
    let starts := s.line.state = .idle ∧ s.line.settle = none ∧ s.line.sendingReset = false ∧ s.line.inReset = false
      ∧ (∀ g ∈ s.line.rx, g.own = none) ∧ s.line.onLine = none
    let lead := fun (on : Option (List Byte)) =>
      s.setLine { s.line with state := .tracking, lastDominant := s.clock, receipt := false, onLine := on }
    (starts → (∀ r, rival = some r → ¬ r.toNat < (headChar0 f.kind s.sn).toNat) →
        exec (.frameAttemptStart rival) s = .next (lead (some (f.characters s.sn))).payRoll)
    ∧ (starts → ∀ r, rival = some r → r.toNat < (headChar0 f.kind s.sn).toNat →
        exec (.frameAttemptStart rival) s = .next (lead none).payRoll)
    ∧ (¬ starts → exec (.frameAttemptStart rival) s = .next s.payRoll)

/-- A bit error ends the attempt in GAP: the frame stays for another attempt, or leaves with TX_DROPPED and is returned DROPPED when broadcast. A ROLL has one attempt. Urgent frames pass a frame that waits (the model's reading, log entry 49). An attempt that reaches its receipt character has the own slot driven dominant. One whose required set drove every slot delivers the frame: it leaves the queue, and a broadcast frame is returned DELIVERED. A partial attempt with attempts left keeps the frame; a partial ROLL leaves with outcome PARTIAL, with no event and nobody SILENT. -/
def Obligations.AttemptsEndByTheirOutcome : Prop :=
  (∀ (s : State) (f : TxFrame) (rest : List TxFrame), s.isOnLine f rest →
    let ended := { s.line with state := .gap, onLine := none, lastDominant := s.clock }
    (f.kind ≠ .roll → f.attempt < s.retryLimit →
        exec .bitError s
          = .next (s.setLine { ended with tx := urgentFirst ({ f with attempt := f.attempt + 1 } :: rest) }).payRoll)
    ∧ (f.kind = .roll ∨ s.retryLimit ≤ f.attempt → f.directed = false →
        exec .bitError s
          = .next (s.setLine
              { ended with
                tx := rest, txDropped := true
                rx := s.line.rx ++ [⟨f.kind, s.sn, false, f.payload, some .dropped⟩] }).payRoll)
    ∧ (f.kind = .roll ∨ s.retryLimit ≤ f.attempt → f.directed = true →
        exec .bitError s = .next (s.setLine { ended with tx := rest, txDropped := true }).payRoll))
  ∧ (∀ (s : State) (f : TxFrame) (rest : List TxFrame) (slots : Byte), s.isOnLine f rest →
    let ended := { s.line with state := .gap, onLine := none, lastDominant := s.clock, receipt := true, tx := rest }
    (f.directed = true → slots.getLsbD (7 - f.target.val) = false →
        exec (.attemptComplete slots) s = .next (s.setLine ended).payRoll)
    ∧ (f.directed = false →
        (∀ n : StationNo, n ≠ s.sn → s.roster.entries[n].presence = .present → slots.getLsbD (7 - n.val) = false) →
        exec (.attemptComplete slots) s
          = .next (s.setLine
              { ended with rx := s.line.rx ++ [⟨f.kind, s.sn, false, f.payload, some .delivered⟩] }).payRoll))
  ∧ (∀ (s : State) (f : TxFrame) (rest : List TxFrame) (slots : Byte), s.isOnLine f rest → s.missing f slots ≠ [] →
    let ended := { s.line with state := .gap, onLine := none, lastDominant := s.clock, receipt := true }
    (f.kind ≠ .roll → f.attempt < s.retryLimit →
        exec (.attemptComplete slots) s
          = .next (s.setLine { ended with tx := urgentFirst ({ f with attempt := f.attempt + 1 } :: rest) }).payRoll)
    ∧ (f.kind = .roll → f.directed = false →
        exec (.attemptComplete slots) s
          = .next (s.setLine
              { ended with
                tx := rest, rx := s.line.rx ++ [⟨f.kind, s.sn, false, f.payload, some .partially⟩] }).payRoll))

/-- The last partial attempt latches TX_PARTIAL, has the own slot driven, takes the frame out of the transmit queue, returns a broadcast frame with outcome PARTIAL, and makes every PRESENT missing station SILENT with its last record kept; LOCKED goes to INCOMPLETE when one of them is a member. -/
def Obligations.LastPartialAttemptSilences : Prop :=
  ∀ (s : State) (f : TxFrame) (rest : List TxFrame) (slots : Byte), s.isOnLine f rest → s.missing f slots ≠ [] →
    f.kind ≠ .roll → s.retryLimit ≤ f.attempt →
    ∃ t, exec (.attemptComplete slots) s = .next t
      ∧ t.line.txPartial = true
      ∧ (s.roster.rollOwed = false →
          t.line
            = { s.line with
                state := .gap, onLine := none, lastDominant := s.clock, receipt := true, txPartial := true, tx := rest
                rx := if f.directed = true then s.line.rx
                  else s.line.rx ++ [⟨f.kind, s.sn, false, f.payload, some .partially⟩] })
      ∧ (∀ n : StationNo, n ∈ s.missing f slots → s.roster.entries[n].presence = .present →
          t.roster.entries[n] = ⟨.silent, s.roster.entries[n].last⟩)
      ∧ (∀ n : StationNo, n ∉ s.missing f slots ∨ s.roster.entries[n].presence ≠ .present →
          t.roster.entries[n] = s.roster.entries[n])
      ∧ t.phase
          = (if s.phase = .locked ∧ (∃ n ∈ s.missing f slots, s.isMember n = true ∧ s.roster.entries[n].presence = .present)
             then .incomplete else s.phase)
      ∧ s.keepsRecords t ∧ t.verifier = s.verifier ∧ t.slotTable = s.slotTable ∧ t.keyPort = s.keyPort ∧ t.purge = s.purge

/-- When the three header characters have been read and their parity is odd, the station latches HEADER_PARITY and moves to LOST with no receipt, whatever the frame is after its header. A frame that an abandon mark then ends latches HEADER_PARITY too and gets no receipt; RefusedFramesGetNoReceipt says where the mark leaves the line. -/
def Obligations.OddHeaderLosesTheLine : Prop :=
  ∀ (s : State) (f : LineFrame), s.awake = true → s.line.onLine = none →
    s.line.state = .idle ∨ s.line.state = .tracking → oddHeader f.head0 f.head1 f.head2 = true →
    (f.framing = .correct ∨ f.framing = .broken true →
      exec (.frameReceive f) s
        = .next (s.setLine
            { s.line with state := .lost, headerParity := true, receipt := false, lastDominant := s.clock }).payRoll)
    ∧ (f.framing = .abandonMark true →
      ∃ t, exec (.frameReceive f) s = .next t ∧ t.line.headerParity = true ∧ t.line.receipt = false)

/-- A framing failure drops the frame and latches nothing but an odd header read before it: GAP after an abandon mark, LOST otherwise. A frame that passes a station that does not know its place leaves it in LOST, or in GAP when an abandon mark ended it. The checks after the header: kind, length and check value, then addressing, each with what it latches; the frame gets no receipt. What of it is the model's and not the spec's: log entries 15 and 16. -/
def Obligations.RefusedFramesGetNoReceipt : Prop :=
  (∀ (s : State) (f : LineFrame), s.awake = true → s.line.onLine = none →
    let seen := { s.line with receipt := false, lastDominant := s.clock }
    let follows := s.line.state = .idle ∨ s.line.state = .tracking
    let odd := oddHeader f.head0 f.head1 f.head2 = true
    (∀ after, follows → f.framing = .abandonMark after → ¬ (after = true ∧ odd) →
        exec (.frameReceive f) s = .next (s.setLine { seen with state := .gap }).payRoll)
    ∧ (follows → f.framing = .abandonMark true → odd →
        exec (.frameReceive f) s = .next (s.setLine { seen with state := .gap, headerParity := true }).payRoll)
    ∧ (∀ after, follows → f.framing = .broken after → ¬ (after = true ∧ odd) →
        exec (.frameReceive f) s = .next (s.setLine { seen with state := .lost }).payRoll)
    ∧ (∀ after, ¬ follows → f.framing = .abandonMark after →
        exec (.frameReceive f) s = .next (s.setLine { seen with state := .gap }).payRoll)
    ∧ (¬ follows → (∀ after, f.framing ≠ .abandonMark after) →
        exec (.frameReceive f) s = .next (s.setLine { seen with state := .lost }).payRoll))
  ∧ (∀ (s : State) (f : LineFrame), s.awake = true → s.line.onLine = none →
    s.line.state = .idle ∨ s.line.state = .tracking →
    f.framing = .correct → f.wellFormed = true → oddHeader f.head0 f.head1 f.head2 = false →
    let seen := { s.line with state := .gap, receipt := false, lastDominant := s.clock }
    let failed := .next (s.setLine { seen with checkFail := true }).payRoll
    (Kind.ofCode (f.head0.toNat / 8) = none → exec (.frameReceive f) s = failed)
    ∧ (∀ k, Kind.ofCode (f.head0.toNat / 8) = some k → f.payload.length ∉ k.lengths → exec (.frameReceive f) s = failed)
    ∧ (∀ k, Kind.ofCode (f.head0.toNat / 8) = some k → f.payload.length ∈ k.lengths →
        f.check ≠ checkOf f.head0 f.head1 f.head2 f.payload → exec (.frameReceive f) s = failed)
    ∧ (∀ k, Kind.ofCode (f.head0.toNat / 8) = some k → f.payload.length ∈ k.lengths →
        f.check = checkOf f.head0 f.head1 f.head2 f.payload → directedOf f = true → targetOf f ≠ s.sn →
        exec (.frameReceive f) s = .next (s.setLine seen).payRoll)
    ∧ (∀ k, Kind.ofCode (f.head0.toNat / 8) = some k → f.payload.length ∈ k.lengths →
        f.check = checkOf f.head0 f.head1 f.head2 f.payload → ¬ (directedOf f = true ∧ targetOf f ≠ s.sn) →
        senderOf f = s.sn → exec (.frameReceive f) s = failed))

/-- A frame that passes every check is receipted as a repeat, queued as new, or missed for want of a place. -/
def Obligations.AcceptedFrameIsQueuedOrRepeat : Prop :=
  ∀ (s : State) (f : LineFrame) (k : Kind), s.awake = true → s.line.onLine = none →
    s.line.state = .idle ∨ s.line.state = .tracking →
    f.framing = .correct → f.wellFormed = true → oddHeader f.head0 f.head1 f.head2 = false →
    Kind.ofCode (f.head0.toNat / 8) = some k → f.payload.length ∈ k.lengths →
    f.check = checkOf f.head0 f.head1 f.head2 f.payload → (directedOf f = true → targetOf f = s.sn) →
    senderOf f ≠ s.sn →
    let seen := { s.line with state := .gap, receipt := false, lastDominant := s.clock }
    let known := 1 ≤ attemptOf f ∧ s.repeatEntry k.urgent (senderOf f) = some ⟨k, f.check⟩
    (known → exec (.frameReceive f) s = .next (s.setLine { seen with receipt := true }).payRoll)
    ∧ (¬ known → s.placesTaken < 4 →
        exec (.frameReceive f) s
          = .next (s.setLine
              { seen.remember k.urgent (senderOf f) ⟨k, f.check⟩ with
                rx := s.line.rx ++ [⟨k, senderOf f, directedOf f, f.payload, none⟩], receipt := true }).payRoll)
    ∧ (¬ known → 4 ≤ s.placesTaken → exec (.frameReceive f) s = .next (s.setLine { seen with rxMissed := true }).payRoll)

/-- A line reset empties both queues, the repeat memory, the roster and the heard set, keeps the latched line events, sets RESEAT, rests the scanner and keeps the stored records; the phase follows Table 5-5, and the transmit queue then holds only what is offered after the recognition: one ROLL that shows the station as it then stands in a drive with other members, nothing in UNCOMMISSIONED. With the entry to ASSEMBLING a new assembly window opens, from the moment of the reset and with none of its sends made, and no re-announcement is due; in a drive of one member, with no purge open, the assembly completes at once and no window is left. The 500 ms answer limit is cleared. What is kept: the attempt record and the hold that runs, slots with their staged parts and waiting answers, the blank key record, TAMPERED, the journal and the progress of the purge, the requests at the store, and the gate but for its grant; the unlocked key goes with UNLOCKED and BLANK. A guard's ROLL is read back as epoch, pair, phase, digest, tamper flag and slot summaries. The time since the line was dominant stays zero while the run lasts. One run is one reset. What of it is the model's and not the spec's: log entries 13 and 14 (the line state LOST while the run lasts, that of its sender too), 18, 19, 56 (a drive of one member at the failure limit of the last epoch stays in ASSEMBLING without a window) and 31 (a present request that waits behind the zeros goes with the unlock). -/
def Obligations.LineResetStartsAssemblyAgain : Prop :=
  (∀ s : State, s.awake = true →
    (s.line.inReset = true → exec .lineReset s = .next s.payRoll)
    ∧ (s.line.inReset = false →
        ∃ t, exec .lineReset s = .next t
          ∧ t.line.state = .lost ∧ t.line.onLine = none
          ∧ t.line.repeatUrgent = Vector.replicate 8 none ∧ t.line.repeatOther = Vector.replicate 8 none
          ∧ t.line.headerParity = s.line.headerParity ∧ t.line.checkFail = s.line.checkFail
          ∧ t.line.rxMissed = s.line.rxMissed ∧ t.line.txPartial = s.line.txPartial ∧ t.line.txDropped = s.line.txDropped
          ∧ t.line.rx = [] ∧ (∀ f ∈ t.line.tx, f.attempt = 0 ∧ (f.kind = .roll ∨ f.kind = .purge))
          ∧ (s.phase = .uncommissioned → t.line.tx = [])
          ∧ (s.phase ≠ .uncommissioned → s.others ≠ [] →
              t.line.tx = [⟨.roll, false, 0, t.rollPayload, !s.line.altOther, 0⟩])
          ∧ (s.phase ≠ .uncommissioned → ∃ payload, t.line.tx = [⟨.roll, false, 0, payload, !s.line.altOther, 0⟩]
              ∨ ∃ purge, purge.kind = .purge ∧ t.line.tx = [purge, ⟨.roll, false, 0, payload, !s.line.altOther, 0⟩])
          ∧ t.line.inReset = true ∧ t.sinceDominant = 0 ∧ t.purge.heard = Vector.replicate 8 false
          ∧ t.roster.entries = Vector.replicate 8 RosterEntry.absent ∧ t.roster.startCause = .reseat
          ∧ t.scanner.seq = .entry ∧ t.scanner.digits = []
          ∧ (s.keyFenced → t.keyPort.state ≠ .presented ∧ t.verifier.attempt = none)
          ∧ (s.phase = .unlocked → s.keyPort.clearedTo t.keyPort s.clock)
          ∧ (s.phase = .purging → s.others ≠ [] → t.purge.reoffer = some (s.clock + 2000000))
          ∧ (s.phase = .purgeWait → t.roster.announce = some (s.clock + 2000000))
          ∧ (s.phase = .purging ∨ s.phase = .purgeWait ∨ s.phase = .halted ∨ s.phase = .uncommissioned →
              t.phase = s.phase)
          ∧ (s.phase ≠ .purging → s.phase ≠ .purgeWait → s.phase ≠ .halted → s.phase ≠ .uncommissioned → s.others ≠ [] →
              t.phase = .assembling ∧ t.roster.window = some ⟨s.clock, 0⟩
              ∧ t.roster.announce = none ∧ t.roster.announced = 0)
          ∧ (s.phase ≠ .purging → s.phase ≠ .purgeWait → s.phase ≠ .halted → s.phase ≠ .uncommissioned → s.others = [] →
              s.purge.journal.isOpen = false → t.roster.window = none ∧ (s.epoch ≠ 65535 → t.phase ≠ .assembling))
          ∧ t.roster.answeredAt = none ∧ t.clock = s.clock
          ∧ s.keepsRecords t ∧ t.supervisor = s.supervisor
          ∧ (s.others ≠ [] ∨ s.phase = .purging ∨ s.phase = .purgeWait ∨ s.phase = .halted ∨ s.phase = .uncommissioned →
              t.verifier.held = s.verifier.held ∧ t.verifier.hold = s.verifier.hold
              ∧ t.slotTable.slots = s.slotTable.slots ∧ t.slotTable.salt = s.slotTable.salt
              ∧ t.slotTable.blankKey = s.slotTable.blankKey ∧ t.slotTable.waits = s.slotTable.waits
              ∧ t.slotTable.writes = s.slotTable.writes
              ∧ t.purge.journal = s.purge.journal ∧ t.purge.badBlocks = s.purge.badBlocks
              ∧ t.purge.nextBlock = s.purge.nextBlock ∧ t.purge.plan = s.purge.plan ∧ t.purge.begun = s.purge.begun
              ∧ t.store = s.store
              ∧ (s.gateFollows → t.gate = { s.gate with grant := t.phaseCtl.grant }))
          ∧ (s.phase ≠ .unlocked → t.keyPort = s.keyPort)
          ∧ (s.phase = .unlocked ∨ s.phase = .blank →
              t.slotTable.unlockedKey = none ∧ t.slotTable.enrollment = none ∧ t.phaseCtl.attachWindow = none)))
  ∧ (∀ (s : State) (role : Role), s.roleOf s.sn = role → role = .guard ∨ role = .keypadGuard →
    s.rollEpoch < 65536 → s.verifier.held.serial < 4294967296 → s.verifier.held.count < 256 → s.progressPercent ≤ 100 →
    (∀ i : SlotNo, (s.slotAt i).gen < 65536 ∧ ∀ u, (s.slotAt i).uses = some u → 1 ≤ u ∧ u ≤ 99) →
    readRoll s.rollPayload
      = some (.guard role ⟨s.rollEpoch, s.verifier.held.serial, s.verifier.held.count, s.phase, s.digest,
          s.supervisor.tampered,
          #v[(s.slotAt 0).summary, (s.slotAt 1).summary, (s.slotAt 2).summary, (s.slotAt 3).summary, (s.slotAt 4).summary,
            (s.slotAt 5).summary]⟩))

/-! ### Assembly and the roster (Chapter 2) -/

/-- A ROLL of another member guard makes its entry PRESENT with the ROLL's record, a PURGED moves its last record into the new epoch; no other entry changes. A larger pair of the own epoch is merged: the write requested, the hold restarted, at the failure limit a purge opened; in VERIFYING only the pair rises. A higher epoch opens a purge with cause EPOCH, a lower one takes LOCKED to INCOMPLETE, and so does a report of HALTED. A setup digest other than the own one, in ASSEMBLING and INCOMPLETE, gives HALTED with the halt mark, and a line reset unless the start cause is RESEAT. The controller's ROLL changes its own entry only, but for the tests that follow every ROLL. The window of an assembly that is not complete ends in INCOMPLETE with grant PUBLIC, the first re-announcement 2 s later; an assembly that is complete at a ROLL, at a PURGED or at the end of the window merges the largest reported pair, reconciles the slots, stops its timers, restarts the hold and goes to BLANK or LOCKED, or at the failure limit opens a purge, at the window's end with the hold restarted by a merge that changed the pair. What of it is the model's and not the spec's: log entries 2, 23 and 57. -/
def Obligations.ReportsAndWindowMoveTheRoster : Prop :=
  (∀ (s : State) (f : RxFrame) (rest : List RxFrame), s.isFront f rest → f.kind = .roll →
    (∀ role r, readRoll f.payload = some (.guard role r) → s.roleOf f.sender = role → f.sender ≠ s.sn →
      ∃ t, exec .roll s = .next t
        ∧ t.roster.entries = s.roster.entries.set f.sender ⟨.present, some (.guard r)⟩
        ∧ s.keepsStore t ∧ t.supervisor.tampered = s.supervisor.tampered)
    ∧ (readRoll f.payload = some .controller → s.roleOf f.sender = .controller →
      ∃ t, exec .roll s = .next t
        ∧ t.roster.entries = s.roster.entries.set f.sender ⟨.present, some .controller⟩
        ∧ s.keepsStore t ∧ t.supervisor.tampered = s.supervisor.tampered
        ∧ (s.phase ≠ .assembling → s.phase ≠ .incomplete → s.phase ≠ .purgeWait →
            t.phase = s.phase ∧ s.keepsRecords t ∧ t.verifier = s.verifier ∧ t.slotTable = s.slotTable
            ∧ t.purge = s.purge ∧ t.keyPort = s.keyPort ∧ t.supervisor = s.supervisor)
        ∧ (s.phase = .assembling ∨ s.phase = .incomplete → s.purge.journal.isOpen = false →
            let u := (s.taken rest).setRoster
              { s.roster with entries := s.roster.entries.set f.sender ⟨.present, some .controller⟩ }
            u.othersAgree → u.assemblyCompleted t))
    ∧ (readRoll f.payload = none → exec .roll s = .next (s.taken rest).payRoll)
    ∧ (∀ role r, readRoll f.payload = some (.guard role r) → s.roleOf f.sender ≠ role →
      exec .roll s = .next (s.taken rest).payRoll)
    ∧ (∀ role r, readRoll f.payload = some (.guard role r) → s.roleOf f.sender = role → f.sender ≠ s.sn →
      let waits := (s.phase = .assembling ∨ s.phase = .incomplete)
        ∧ ∃ n, s.isMember n = true ∧ n ≠ f.sender ∧ n ≠ s.sn ∧ s.roster.entries[n].presence ≠ .present
      let calm := s.phase = .locked ∨ s.phase = .blank ∨ s.phase = .unlocked ∨ s.phase = .purgeWait ∨ waits
      let merged := r.phase ≠ .purging ∧ r.epoch = s.epoch ∧ s.raises r.serial r.count
      let raised : AttemptRecord := ⟨s.epoch, r.serial, r.count⟩
      ∃ t, exec .roll s = .next t
        ∧ (calm → merged → r.count < s.failureLimit →
            t.verifier
              = { s.verifier with held := raised, hold := (holdDuration r.count).map (s.clock + ·) }
            ∧ (s.store.requests.roster = none → s.store.inFlight = none → s.store.deciding = false →
                t.store.inFlight = some ⟨.roster, .attempt raised, s.store.grants + 1⟩))
        ∧ (calm → merged → s.failureLimit ≤ r.count → s.purge.journal.isOpen = false → s.epoch ≠ 65535 →
            s.purgeOpened t .limit (s.epoch + 1) ∧ t.verifier.held = raised)
        ∧ (s.phase = .verifying → merged → t.verifier = { s.verifier with held := raised } ∧ t.phase = .verifying)
        ∧ (calm → r.epoch ≤ s.epoch → ¬ merged → t.verifier = s.verifier)
        ∧ (s.epoch < r.epoch → s.phase ≠ .uncommissioned → s.phase ≠ .halted → s.purge.journal.isOpen = false →
            s.purgeOpened t .epoch r.epoch)
        ∧ (s.phase = .locked → r.epoch < s.epoch ∨ (r.phase = .halted ∧ r.epoch = s.epoch ∧ ¬ merged) →
            t.phase = .incomplete ∧ t.phaseCtl.grant = .pub)
        ∧ (s.phase = .assembling ∨ s.phase = .incomplete → r.digest ≠ s.digest → r.epoch ≤ s.epoch →
            ¬ merged ∨ r.count < s.failureLimit →
            t.phase = .halted ∧ t.phaseCtl.grant = .none ∧ t.supervisor = { s.supervisor with haltMark := true }
            ∧ t.roster.window = none ∧ t.roster.announce = none
            ∧ (s.roster.startCause ≠ .reseat → t.line.sendingReset = true)
            ∧ (s.roster.startCause = .reseat → t.line.sendingReset = s.line.sendingReset))
        ∧ (s.phase = .assembling ∨ s.phase = .incomplete → s.isMember f.sender = true → s.purge.journal.isOpen = false →
            let u := (s.taken rest).setRoster
              { s.roster with entries := s.roster.entries.set f.sender ⟨.present, some (.guard r)⟩ }
            u.othersAgree →
            (¬ s.raises r.serial r.count ∨ r.count < s.failureLimit → u.assemblyCompleted t)
            ∧ (s.raises r.serial r.count → s.failureLimit ≤ r.count → s.epoch ≠ 65535 →
              s.purgeOpened t .limit (s.epoch + 1))))
    ∧ (∀ role r, readRoll f.payload = some (.guard role r) → s.roleOf f.sender = role → f.sender = s.sn →
      s.phase = .assembling ∨ s.phase = .incomplete → s.purge.journal.isOpen = false → s.othersAgree →
      ∃ t, exec .roll s = .next t ∧ (s.taken rest).assemblyCompleted t))
  ∧ (∀ (s : State) (f : RxFrame) (rest : List RxFrame), s.isFront f rest → f.kind = .purged →
    s.isMember f.sender = true → f.sender ≠ s.sn →
    ∃ t, exec .purged s = .next t
      ∧ (∀ r, s.roster.entries[f.sender].last = some (.guard r) →
          t.roster.entries
            = s.roster.entries.set f.sender
                ⟨s.roster.entries[f.sender].presence,
                  some (.guard { r with epoch := u16 f.payload 0, serial := 0, count := 0, phase := .purgeWait })⟩)
      ∧ (s.roster.entries[f.sender].last = none → t.roster.entries = s.roster.entries)
      ∧ s.keepsStore t ∧ t.supervisor.tampered = s.supervisor.tampered
      ∧ (s.epoch < u16 f.payload 0 → s.phase ≠ .uncommissioned → s.phase ≠ .halted → s.purge.journal.isOpen = false →
          s.purgeOpened t .epoch (u16 f.payload 0))
      ∧ (s.phase = .locked → u16 f.payload 0 < s.epoch → t.phase = .incomplete ∧ t.phaseCtl.grant = .pub)
      ∧ (∀ r, s.roster.entries[f.sender].last = some (.guard r) → s.phase = .assembling ∨ s.phase = .incomplete →
          s.purge.journal.isOpen = false →
          let u := (s.taken rest).setRoster
            { s.roster with
              entries := s.roster.entries.set f.sender
                ⟨s.roster.entries[f.sender].presence,
                  some (.guard { r with epoch := u16 f.payload 0, serial := 0, count := 0, phase := .purgeWait })⟩ }
          u.othersAgree → u.assemblyCompleted t))
  ∧ (∀ (s : State) (w : Window), s.awake = true → s.roster.window = some w → s.phase = .assembling →
    s.memberMissing = true → s.digestConflict = false →
    ∃ t, exec .assemblyWindowEnd s = .next t
      ∧ t.phase = .incomplete ∧ t.phaseCtl.grant = .pub ∧ t.gate.grant = .pub
      ∧ t.clock = max s.clock (w.start + 300000)
      ∧ t.roster.window = none ∧ t.roster.announce = some (t.clock + 2000000)
      ∧ s.keepsRecords t ∧ t.verifier = s.verifier ∧ t.slotTable = s.slotTable ∧ t.keyPort = s.keyPort ∧ t.purge = s.purge)
  ∧ (∀ s : State,
    let best := s.bestReported
    (¬ s.raises best.1 best.2 → best = s.pair)
    ∧ (∀ n r, s.isMember n = true → n ≠ s.sn → s.roster.entries[n].last = some (.guard r) →
        pairLess best.1 best.2 r.serial r.count = false)
    ∧ (best = s.pair ∨ ∃ n r, s.isMember n = true ∧ s.roster.entries[n].last = some (.guard r)
        ∧ best = (r.serial, r.count)))
  ∧ (∀ (s : State) (w : Window), s.awake = true → s.roster.window = some w → s.phase = .assembling →
    s.purge.journal.isOpen = false → s.othersAgree →
    let best := s.bestReported
    ∃ t, exec .assemblyWindowEnd s = .next t ∧ s.assemblyCompleted t ∧ t.clock = max s.clock (w.start + 300000)
      ∧ (s.failureLimit ≤ best.2 → s.epoch ≠ 65535 →
          t.verifier.hold
              = (if s.raises best.1 best.2 then (holdDuration best.2).map (t.clock + ·) else s.verifier.hold)))

/-- The scheduled ROLLs of the window at 100 ms and 200 ms, and the re-announcements every 2 s in runs of 15, endless in PURGE_WAIT. A member guard that becomes PRESENT by its ROLL, or leaves PRESENT at a last partial attempt, begins a new run in INCOMPLETE, and in BLANK and UNLOCKED while a member is missing: the count is zero, and a timer that does not run starts with 2 s; with no member missing any more the timer stops in BLANK and UNLOCKED. A ROLL of a member that was PRESENT leaves the run as it is. The answer to a ROLL: when its sender was not PRESENT or it shows ASSEMBLING, INCOMPLETE or PURGE_WAIT, the station offers its own ROLL as it stands after the handling, unless it answered within the last 500 ms or has a ROLL queued; to the controller's ROLL only when it was not PRESENT; to its own returned ROLL never. What of it is the model's and not the spec's: log entries 2, 18 and 23. -/
def Obligations.ScheduledRollsGoOut : Prop :=
  (∀ s : State, s.awake = true →
    (∀ w, s.roster.window = some w → w.sends < 2 →
      let late := (s.setClock (max s.clock (w.start + (w.sends + 1) * 100000))).setRoster
        { s.roster with window := some ⟨w.start, w.sends + 1⟩ }
      exec .assemblySend s = .next (if s.memberMissing = true then late.offerRoll else late).payRoll)
    ∧ (∀ due, s.roster.announce = some due →
      exec .reannounce s
        = .next ((s.setClock (max s.clock due)).setRoster
            { s.roster with
              announce := if s.phase ≠ .purgeWait ∧ 15 ≤ s.roster.announced + 1 then none else some (due + 2000000)
              announced := s.roster.announced + 1 }).offerRoll.payRoll))
  ∧ (∀ (s : State) (f : RxFrame) (rest : List RxFrame), s.isFront f rest → f.kind = .roll → s.phase ≠ .uncommissioned →
    s.roster.rollOwed = false → s.line.tx.length < 4 →
    let due := (∀ t, s.roster.answeredAt = some t → t + 500000 ≤ s.clock) ∧ (∀ g ∈ s.line.tx, g.kind ≠ .roll)
    let answered := fun (calls : Prop) (t : State) =>
      (calls → due →
        t.line.tx = s.line.tx ++ [⟨.roll, false, 0, t.rollPayload, !s.line.altOther, 0⟩]
        ∧ t.roster.answeredAt = some s.clock)
      ∧ (¬ (calls ∧ due) → t.line.tx = s.line.tx ∧ t.roster.answeredAt = s.roster.answeredAt)
    let waits := (s.phase = .assembling ∨ s.phase = .incomplete) ∧ s.digestConflict = false
      ∧ ∃ n, s.isMember n = true ∧ n ≠ f.sender ∧ n ≠ s.sn ∧ s.roster.entries[n].presence ≠ .present
    let calm := s.phase = .halted ∨ s.phase = .purging ∨ s.phase = .locked ∨ s.phase = .unlocked ∨ s.phase = .blank
      ∨ s.phase = .verifying ∨ s.phase = .purgeWait
    (∀ role r, readRoll f.payload = some (.guard role r) → s.roleOf f.sender = role → f.sender ≠ s.sn → r.epoch ≤ s.epoch →
      calm ∨ (waits ∧ r.digest = s.digest) →
      s.phase = .halted ∨ s.phase = .purging ∨ s.phase = .verifying ∨ r.phase = .purging ∨ r.epoch < s.epoch
        ∨ ¬ s.raises r.serial r.count ∨ r.count < s.failureLimit →
      ∃ t, exec .roll s = .next t
        ∧ answered (s.roster.entries[f.sender].presence ≠ .present ∨ r.phase = .assembling ∨ r.phase = .incomplete
            ∨ r.phase = .purgeWait) t)
    ∧ (readRoll f.payload = some .controller → s.roleOf f.sender = .controller → calm ∨ waits →
      ∃ t, exec .roll s = .next t ∧ answered (s.roster.entries[f.sender].presence ≠ .present) t)
    ∧ (∀ role r, readRoll f.payload = some (.guard role r) → s.roleOf f.sender = role → f.sender = s.sn → calm ∨ waits →
      ∃ t, exec .roll s = .next t ∧ answered False t))
  ∧ (∀ (s : State) (f : RxFrame) (rest : List RxFrame) (role : Role) (r : GuardRecord), s.isFront f rest → f.kind = .roll →
    readRoll f.payload = some (.guard role r) → s.roleOf f.sender = role → f.sender ≠ s.sn → r.epoch ≤ s.epoch →
    r.phase = .purging ∨ r.epoch < s.epoch ∨ ¬ s.raises r.serial r.count ∨ r.count < s.failureLimit →
    let missing := ∃ n, s.isMember n = true ∧ n ≠ f.sender ∧ n ≠ s.sn ∧ s.roster.entries[n].presence ≠ .present
    let waits := s.phase = .incomplete ∧ s.digestConflict = false ∧ r.digest = s.digest ∧ missing
    let open_ := s.phase = .blank ∨ s.phase = .unlocked
    ∃ t, exec .roll s = .next t
      ∧ (s.roster.entries[f.sender].presence ≠ .present →
          (waits ∨ (open_ ∧ missing) →
            t.roster.announced = 0
            ∧ t.roster.announce = (if s.roster.announce = none then some (s.clock + 2000000) else s.roster.announce))
          ∧ (open_ → ¬ missing → t.roster.announced = 0 ∧ t.roster.announce = none))
      ∧ (s.roster.entries[f.sender].presence = .present → waits ∨ open_ →
          t.roster.announced = s.roster.announced ∧ t.roster.announce = s.roster.announce))
  ∧ (∀ (s : State) (f : TxFrame) (rest : List TxFrame) (slots : Byte), s.isOnLine f rest → s.missing f slots ≠ [] →
    f.kind ≠ .roll → s.retryLimit ≤ f.attempt →
    let leaves := ∃ n ∈ s.missing f slots, n ≠ s.sn ∧ s.isMember n = true ∧ s.roster.entries[n].presence = .present
    ∃ t, exec (.attemptComplete slots) s = .next t
      ∧ (leaves → s.phase = .incomplete ∨ s.phase = .blank ∨ s.phase = .unlocked →
          t.roster.announced = 0
          ∧ t.roster.announce = (if s.roster.announce = none then some (s.clock + 2000000) else s.roster.announce))
      ∧ (leaves → s.phase = .locked → t.roster.announced = 0 ∧ t.roster.announce = some (s.clock + 2000000))
      ∧ (s.phase ≠ .incomplete → s.phase ≠ .blank → s.phase ≠ .unlocked → s.phase ≠ .locked →
          t.roster.announced = s.roster.announced ∧ t.roster.announce = s.roster.announce))

/-- Reconciliation's classes: the largest generation, and the content that stands at it. Table 4-5 on the own record, with the stale staged part discarded, the promotion test and the smallest uses shown; SLOT_DIVERGED when the table makes or keeps any member's record DIVERGED. A changed record joins the set of changed records, the other slots stay. After the slots, the blank key record goes when slot 0 is ACTIVE. What of it is the model's and not the spec's: log entry 48. -/
def Obligations.ContentAtTheLargestGeneration : Prop :=
  (∀ l : List Summary, l ≠ [] →
    (∀ m ∈ l, m.gen ≤ largestGen l) ∧ (∃ m ∈ l, m.gen = largestGen l)
    ∧ (contentAt (largestGen l) l = .emptied ↔ ∀ m ∈ l, m.gen = largestGen l → m.state = .empty)
    ∧ (contentAt (largestGen l) l = .active ↔
        (∃ m ∈ l, m.gen = largestGen l ∧ m.state = .active) ∧ ∀ m ∈ l, m.gen = largestGen l → m.state ≠ .empty)
    ∧ (contentAt (largestGen l) l = .disagreed ↔
        ¬ (∀ m ∈ l, m.gen = largestGen l → m.state = .empty)
          ∧ ¬ ((∃ m ∈ l, m.gen = largestGen l ∧ m.state = .active) ∧ ∀ m ∈ l, m.gen = largestGen l → m.state ≠ .empty)))
  ∧ (∀ (s : State) (i : SlotNo), s.isMember s.sn = true →
    let l := s.slotSummaries i
    let g := largestGen l
    let own := s.slotAt i
    let t := s.reconcileSlot i
    let ends := fun (sl : Slot) => usesSettled g l sl (t.slotAt i)
    (own.gen = g → contentAt g l ≠ .disagreed → ends { own with staged := none })
    ∧ (own.gen = g → contentAt g l = .disagreed → t.slotAt i = ⟨g, .diverged, none⟩)
    ∧ (own.gen < g → contentAt g l = .emptied → t.slotAt i = ⟨g, .empty, none⟩)
    ∧ (own.gen < g → contentAt g l = .disagreed → t.slotAt i = ⟨g, .diverged, none⟩)
    ∧ (own.gen < g → contentAt g l = .active → own.gen + 1 ≠ g ∨ own.staged = none → t.slotAt i = ⟨g, .diverged, none⟩)
    ∧ (∀ st, own.gen + 1 = g → contentAt g l = .active → own.staged = some st →
        (s.duplicate i st.cred.verifier = true → t.slotAt i = ⟨g, .diverged, none⟩)
        ∧ (s.duplicate i st.cred.verifier = false → ends ⟨st.gen, .active st.cred, none⟩))
    ∧ (t.slotTable.slotDiverged = true ↔ s.slotTable.slotDiverged = true
        ∨ ∃ m ∈ l, contentAt g l = .disagreed ∨ (m.gen = g ∧ m.state = .diverged)
            ∨ (contentAt g l = .active ∧ m.gen ≠ g ∧ ¬ (m.gen + 1 = g ∧ m.staged = true)))
    ∧ (∀ j, j ≠ i → t.slotAt j = s.slotAt j)
    ∧ (t.slotAt i = own → t.slotTable.writes = s.slotTable.writes ∧ t.store = s.store)
    ∧ (t.slotAt i ≠ own → s.slotWriteRequested t i (t.slotAt i)))
  ∧ (∀ s : State,
    (s.reconcile).slotTable.slots = (([0, 1, 2, 3, 4, 5] : List SlotNo).foldl State.reconcileSlot s).slotTable.slots
    ∧ (∀ c, (s.reconcile.slotAt 0).body = .active c → s.reconcile.slotTable.blankKey = none))

/-! ### Verification (Chapter 3) -/

/-- The seven checks on an ENTRY, in their order: the first that fails gives the result. A received ENTRY that fails a check is answered at once with its result and the held pair, and nothing else happens; one that repeats the current attempt's is ignored. The keypad station's own ENTRY, handled on return, is checked in the same way unless it was DROPPED; a DROPPED, BUSY or REFUSED one shows amber, one under a hold shows nothing; a pending entry is then tested: it goes out once the station is LOCKED with no own ENTRY outstanding, or is discarded under a hold. -/
def Obligations.EntriesAreCheckedInOrder : Prop :=
  (∀ (s : State) (n : StationNo) (e : EntryFields),
    let sender := s.roleOf n = .keypadGuard ∨ (s.roleOf n = .controller ∧ s.hostEntry = true)
    let cell := s.supervisor.attached = true ∨ s.supervisor.band ≠ .floor
    (¬ sender → s.entryRefusal n e = some .refused)
    ∧ (sender → s.phase = .verifying ∨ s.phase = .purging ∨ s.phase = .purgeWait → s.entryRefusal n e = some .busy)
    ∧ (sender → s.phase ≠ .locked → s.phase ≠ .verifying → s.phase ≠ .purging → s.phase ≠ .purgeWait →
        s.entryRefusal n e = some .refused)
    ∧ (sender → s.phase = .locked → e.epoch ≠ s.verifier.held.epoch → s.entryRefusal n e = some .refused)
    ∧ (sender → s.phase = .locked → e.epoch = s.verifier.held.epoch → s.holdActive = true → s.entryRefusal n e = some .hold)
    ∧ (sender → s.phase = .locked → e.epoch = s.verifier.held.epoch → s.holdActive = false →
        ¬ (cell ∧ s.verifier.held.serial < 4294967295 ∧ s.verifier.held.count < s.failureLimit) →
        s.entryRefusal n e = some .refused)
    ∧ (sender → s.phase = .locked → e.epoch = s.verifier.held.epoch → s.holdActive = false → cell →
        s.verifier.held.serial < 4294967295 → s.verifier.held.count < s.failureLimit → s.entryRefusal n e = none))
  ∧ (∀ (s : State) (f : RxFrame) (rest : List RxFrame), s.isFront f rest → f.kind = .entry → f.own = none →
    s.phase ≠ .halted →
    let e := readEntry f.payload
    (s.repeatsEntry f.sender e = true → exec .entry s = .next (s.taken rest).payRoll)
    ∧ (∀ r, s.repeatsEntry f.sender e = false → s.entryRefusal f.sender e = some r →
        exec .entry s
          = .next ((s.taken rest).offer .verdict none
              (byte f.sender.val :: byte e.seq :: byte r.code :: byte 0 :: byte s.verifier.held.count
                :: bytes4 s.verifier.held.serial)).payRoll))
  ∧ (∀ (s : State) (f : RxFrame) (rest : List RxFrame) (o : SendOutcome), s.isFront f rest → f.kind = .entry →
    f.own = some o → s.phase ≠ .halted →
    let e := readEntry f.payload
    let amber := fun (u : State) => u.setScanner { u.scanner with transient := some (.amber, u.clock + 2000000) }
    let sent := fun (r : VerdictResult) => (s.taken rest).offer .verdict none
      (byte f.sender.val :: byte e.seq :: byte r.code :: byte 0 :: byte s.verifier.held.count
        :: bytes4 s.verifier.held.serial)
    (o = .dropped → exec .entry s = .next (amber (s.taken rest)).testPending.payRoll)
    ∧ (o ≠ .dropped → s.repeatsEntry f.sender e = true → exec .entry s = .next (s.taken rest).testPending.payRoll)
    ∧ (∀ r, o ≠ .dropped → s.repeatsEntry f.sender e = false → s.entryRefusal f.sender e = some r →
        (r = .hold → exec .entry s = .next (sent r).testPending.payRoll)
        ∧ (r = .busy ∨ r = .refused → exec .entry s = .next (amber (sent r)).testPending.payRoll)))
  ∧ (∀ (s : State),
    ((∀ token readOnly due, s.scanner.seq ≠ .pending token readOnly due) → s.testPending = s)
    ∧ (∀ token readOnly due, s.scanner.seq = .pending token readOnly due →
        let resting := s.setScanner { s.scanner with seq := .entry }
        (s.phase ≠ .locked ∨ s.ownOutstanding .entry = true → s.testPending = s)
        ∧ (s.phase = .locked → s.ownOutstanding .entry = false → s.holdActive = true → s.testPending = resting)
        ∧ (s.phase = .locked → s.ownOutstanding .entry = false → s.holdActive = false →
            s.testPending = resting.offerEntry token readOnly)))

/-- A match that is not refused begins VERIFYING with an attempt of 250 ms and offers MATCH at once; a user match under tamper is refused and nothing counts. No match raises the failure count by one, requests its write (granted at once by an idle store, pending behind another, carried by a request that is pending already) and begins VERIFYING with a WAITING increment and no VERDICT yet. The own ENTRY on return is taken as a received one. A token matches an ACTIVE slot whose verifier is its check value and whose wrap opens under its wrapping value, and hands back that slot and its key; with no such slot there is no match. What of it is the model's and not the spec's: log entries 6 (check value and wrapping value as the pair of salt and token) and 42. -/
def Obligations.AcceptedEntryBeginsVerifying : Prop :=
  (∀ (s : State) (f : RxFrame) (rest : List RxFrame) (slot : SlotNo) (key : ChannelKey),
    s.isFront f rest → f.kind = .entry → f.own ≠ some .dropped → s.verifier.attempt = none →
    let e := readEntry f.payload
    s.entryRefusal f.sender e = none → s.checkToken e.token = some (slot, key) →
    let verdict := fun (result : VerdictResult) (named : Nat) =>
      byte f.sender.val :: byte e.seq :: byte result.code :: byte named :: byte s.verifier.held.count
        :: bytes4 s.verifier.held.serial
    (slot = 0 ∨ s.showsTamper = false →
      ∃ u, exec .entry s = .next (u.offer .verdict none (verdict .matched slot.val)).payRoll
        ∧ u.phase = .verifying ∧ u.phaseCtl.grant = .pub ∧ u.gate.grant = .pub
        ∧ u.verifier
            = { s.verifier with
                attempt := some ⟨f.sender, e.seq, e.readOnly, .matched slot key, some (s.clock + 250000),
                  Vector.replicate 8 none, none⟩ }
        ∧ u.store = s.store ∧ u.slotTable = s.slotTable ∧ u.keyPort = s.keyPort ∧ u.purge = s.purge
        ∧ u.line = (s.taken rest).line ∧ s.keepsRecords u)
    ∧ (slot ≠ 0 → s.showsTamper = true →
      let sent := (s.taken rest).offer .verdict none (verdict .refused 0)
      (f.own = none → exec .entry s = .next sent.payRoll)
      ∧ (f.own.isSome = true →
        exec .entry s
          = .next (sent.setScanner
              { sent.scanner with transient := some (.amber, s.clock + 2000000) }).testPending.payRoll)))
  ∧ (∀ (s : State) (f : RxFrame) (rest : List RxFrame),
    s.isFront f rest → f.kind = .entry → f.own ≠ some .dropped → s.verifier.attempt = none →
    let e := readEntry f.payload
    s.entryRefusal f.sender e = none → s.checkToken e.token = none →
    ∃ t, exec .entry s = .next t
      ∧ t.phase = .verifying ∧ t.phaseCtl.grant = .pub
      ∧ t.verifier
          = ⟨{ s.verifier.held with count := s.verifier.held.count + 1 },
              some ⟨f.sender, e.seq, e.readOnly, .mismatched false s.store.grants, some (s.clock + 250000),
                Vector.replicate 8 none, none⟩, s.verifier.hold⟩
      ∧ (s.store.requests.verifier = none → s.store.inFlight = none → s.store.deciding = false →
          t.store.inFlight
            = some ⟨.verifier, .attempt { s.verifier.held with count := s.verifier.held.count + 1 }, s.store.grants + 1⟩)
      ∧ (s.store.requests.verifier = none → s.store.inFlight.isSome = true ∨ s.store.deciding = true →
          t.store.requests.verifier = some .attempt ∧ t.store.inFlight = s.store.inFlight)
      ∧ (s.store.requests.verifier.isSome = true → t.store = s.store)
      ∧ (s.roster.rollOwed = false → t.line = (s.taken rest).line)
      ∧ t.slotTable = s.slotTable ∧ t.keyPort = s.keyPort ∧ t.purge = s.purge ∧ s.keepsRecords t)
  ∧ (∀ (s : State) (token : Token),
    (∀ i key, s.checkToken token = some (i, key) ↔
      s.tokenOpens token i key ∧ ∀ j : SlotNo, j < i → ∀ k, ¬ s.tokenOpens token j k)
    ∧ (s.checkToken token = none ↔ ∀ i key, ¬ s.tokenOpens token i key))

/-- The write that carries the raise makes the increment STORED and offers MISMATCH with the pair it stored; the arbiter then chooses. The arbiter grants the pending request of the highest requester in the order of Table 10-7, and the write takes the held contents of that moment. A request to an idle store is granted at once, one to a busy store waits, and a requester with a request pending adds none. What of it is the model's and not the spec's: log entry 42. -/
def Obligations.StoredIncrementIsReported : Prop :=
  (∀ (s : State) (r : AttemptRecord) (serial raisedAt : Nat) (a : Attempt),
    s.writing .verifier (.attempt r) serial →
    let stored := s.stores (.attempt r)
    (s.verifier.attempt = none → exec .attemptWriteComplete s = .next stored.arbitrate.payRoll)
    ∧ (s.verifier.attempt = some a → a.own = .mismatched false raisedAt → raisedAt < serial →
      exec .attemptWriteComplete s
        = .next ((stored.setVerifier { s.verifier with attempt := some { a with own := .mismatched true raisedAt } }).offer
            .verdict none
            (byte a.origin.val :: byte a.seq :: byte 1 :: byte 0 :: byte r.count :: bytes4 r.serial)).arbitrate.payRoll))
  ∧ (∀ (s : State) (before after : List Requester) (r : Requester) (rec : RecordId),
    [Requester.purge, .supervisor, .verifier, .slotTable, .gate, .roster, .setup] = before ++ r :: after →
    (∀ q ∈ before, s.store.requests.get q = none) → s.store.requests.get r = some rec →
    s.arbitrate
      = s.setStore
          { s.store with
            inFlight := some ⟨r, s.heldContents rec, s.store.grants + 1⟩, grants := s.store.grants + 1
            deciding := false, requests := s.store.requests.put r none })
  ∧ (∀ s : State, s.store.requests = Requests.none → s.arbitrate = s.setStore { s.store with deciding := false })
  ∧ (∀ (s : State) (r : Requester) (rec : RecordId),
    ((s.store.requests.get r).isSome = true → s.request r rec = s)
    ∧ (s.store.requests.get r = none → s.store.inFlight = none → s.store.deciding = false →
      s.request r rec
        = s.setStore
            { s.store with
              inFlight := some ⟨r, s.heldContents rec, s.store.grants + 1⟩, grants := s.store.grants + 1
              requests := s.store.requests.put r none })
    ∧ (s.store.requests.get r = none → s.store.inFlight.isSome = true ∨ s.store.deciding = true →
      s.request r rec = s.setStore { s.store with requests := s.store.requests.put r (some rec) }))

/-- A VERDICT for the current attempt is filed in its sender's empty place; while a place stays empty nothing is decided. A VERDICT of another entry updates its sender's last record, and a larger pair of the own epoch is merged: outside VERIFYING the hold restarts, and at the failure limit a purge opens. A VERDICT of a station that is no member guard, or with an unnamed result or a slot above 5, is ignored. The own VERDICT on return, of an entry that the station is not verifying, changes nothing. What of it is the model's and not the spec's: log entries 62 (the slot of a VERDICT that is no MATCH) and 74 (an own VERDICT that comes back after the close of a purge is not merged). -/
def Obligations.VerdictIsFiledOnce : Prop :=
  (∀ (s : State) (f : RxFrame) (rest : List RxFrame) (v : VerdictFields) (a : Attempt),
    s.isFront f rest → f.kind = .verdict → readVerdict f.payload = some v → s.isMember f.sender = true →
    s.verifier.attempt = some a → a.waiting = none → a.origin = v.origin → a.seq = v.seq →
    (a.filed[f.sender] = none → (∃ n, s.isMember n = true ∧ n ≠ f.sender ∧ a.filed[n] = none) →
      ∃ t, exec .verdict s = .next t
        ∧ t.verifier = { s.verifier with attempt := some { a with filed := a.filed.set f.sender (some v.filed) } }
        ∧ t.phase = s.phase ∧ t.store = s.store ∧ t.slotTable = s.slotTable ∧ t.keyPort = s.keyPort ∧ t.gate = s.gate)
    ∧ (∀ filed, a.filed[f.sender] = some filed →
      ∃ t, exec .verdict s = .next t
        ∧ t.verifier = s.verifier ∧ t.phase = s.phase ∧ t.store = s.store ∧ t.slotTable = s.slotTable
        ∧ t.keyPort = s.keyPort ∧ t.gate = s.gate))
  ∧ (∀ (s : State) (f : RxFrame) (rest : List RxFrame) (v : VerdictFields) (r : GuardRecord),
    s.isFront f rest → f.kind = .verdict → readVerdict f.payload = some v → s.isMember f.sender = true →
    f.sender ≠ s.sn → s.roster.entries[f.sender].last = some (.guard r) →
    (∀ a, s.verifier.attempt = some a → a.origin ≠ v.origin ∨ a.seq ≠ v.seq) →
    s.phase ≠ .uncommissioned → s.phase ≠ .halted → s.phase ≠ .purging →
    let raised : AttemptRecord := ⟨s.epoch, v.filed.serial, v.filed.count⟩
    let merged := r.epoch = s.epoch ∧ s.raises v.filed.serial v.filed.count
    ∃ t, exec .verdict s = .next t
      ∧ t.roster.entries
          = s.roster.entries.set f.sender
              ⟨s.roster.entries[f.sender].presence,
                some (.guard
                  { r with
                    serial := v.filed.serial, count := v.filed.count
                    phase := if v.filed.result = .matched ∨ v.filed.result = .mismatch then .verifying else r.phase })⟩
      ∧ (¬ merged → t.verifier = s.verifier ∧ t.phase = s.phase ∧ t.store = s.store)
      ∧ (merged → s.phase = .verifying → t.verifier = { s.verifier with held := raised } ∧ t.phase = .verifying)
      ∧ (merged → s.phase ≠ .verifying → v.filed.count < s.failureLimit →
          t.verifier
            = { s.verifier with held := raised, hold := (holdDuration v.filed.count).map (s.clock + ·) }
          ∧ t.phase = s.phase)
      ∧ (merged → s.phase ≠ .verifying → s.failureLimit ≤ v.filed.count → s.purge.journal.isOpen = false →
          s.epoch ≠ 65535 → s.purgeOpened t .limit (s.epoch + 1)))
  ∧ (∀ (s : State) (f : RxFrame) (rest : List RxFrame), s.isFront f rest → f.kind = .verdict →
    readVerdict f.payload = none ∨ s.isMember f.sender = false → exec .verdict s = .next (s.taken rest).payRoll)
  ∧ (∀ (s : State) (f : RxFrame) (rest : List RxFrame) (v : VerdictFields), s.isFront f rest → f.kind = .verdict →
    readVerdict f.payload = some v → f.sender = s.sn →
    (∀ a, s.verifier.attempt = some a → a.waiting.isSome = true ∨ a.origin ≠ v.origin ∨ a.seq ≠ v.seq) →
    exec .verdict s = .next (s.taken rest).payRoll)

/-- The outcomes of Table 3-5, its rows in order. The hold by failure count, and its end. The pair that a decision merges: the largest of the held pair and the filed pairs of the station itself and of the members whose last record shows the own epoch. What of it is the model's and not the spec's: log entry 2. -/
def Obligations.OutcomeAndHoldFollowTheirTables : Prop :=
  (∀ (l : List Filed),
    let mismatch := ∃ f ∈ l, f.result = .mismatch
    let twoSlots := ∃ f ∈ l, ∃ g ∈ l, f.result = .matched ∧ g.result = .matched ∧ f.slot ≠ g.slot
    let allMatched := ∀ f ∈ l, f.result = .matched
    (mismatch → outcomeOf true l = .failure)
    ∧ (¬ mismatch → twoSlots → outcomeOf true l = .failure)
    ∧ (¬ twoSlots → allMatched → outcomeOf true l = .unlock)
    ∧ (¬ mismatch → ¬ twoSlots → ¬ allMatched → outcomeOf true l = .void)
    ∧ outcomeOf false l = .void)
  ∧ ((∀ n, n ≤ 2 → holdDuration n = none)
  ∧ holdDuration 3 = some 5000000 ∧ holdDuration 4 = some 10000000 ∧ holdDuration 5 = some 20000000
  ∧ holdDuration 6 = some 40000000 ∧ holdDuration 7 = some 80000000 ∧ holdDuration 8 = some 160000000
  ∧ (∀ n, 9 ≤ n → holdDuration n = some 320000000)
  ∧ (∀ (s : State) (due : Micros), s.awake = true → s.verifier.hold = some due →
      exec .holdExpire s = .next ((s.setClock (max s.clock due)).setVerifier { s.verifier with hold := none }).payRoll))
  ∧ (∀ (s : State) (filed : Vector (Option Filed) 8) (l : List StationNo),
    let best := s.bestFiled filed l
    (best = s.pair ∨ s.raises best.1 best.2)
    ∧ (best = s.pair ∨ ∃ n ∈ l, ∃ w, filed[n] = some w ∧ best = (w.serial, w.count))
    ∧ (∀ n ∈ l, ∀ w, filed[n] = some w → pairLess best.1 best.2 w.serial w.count = false)
    ∧ (∀ n, n ∈ s.mergers ↔ s.isMember n = true ∧ (n = s.sn ∨ s.sameEpoch n = true)))

/-- The VERDICT that completes a set of MATCH verdicts on one slot sets the merged serial plus one and no failures, with no hold; past the greatest serial the sum is a free value. The write of the attempt record is requested: an idle store takes the new pair at once, or behind the write of a merge that raised the pair; behind the write of another block it waits. At an admin unlock with TAMPERED latched the flag is cleared and its write waits behind it; any other unlock requests none. With no uses count it unlocks: UNLOCKED with its grant, the held key on its way to the cipher, or waiting behind a shift of zeros. With one, a use is spent or the slot retired, its write requested, and the station stays VERIFYING with its window stopped; the completion of that write unlocks. What of it is the model's and not the spec's: log entries 5 and 42. -/
def Obligations.FullSetOfMatchesUnlocks : Prop :=
  (∀ (s : State) (f : RxFrame) (rest : List RxFrame) (v : VerdictFields) (a : Attempt) (slot : SlotNo) (key : ChannelKey)
    (c : Credential),
    s.isFront f rest → f.kind = .verdict → readVerdict f.payload = some v → s.isMember f.sender = true →
    s.verifier.attempt = some a → a.waiting = none → a.origin = v.origin → a.seq = v.seq → a.filed[f.sender] = none →
    let filed := a.filed.set f.sender (some v.filed)
    (∀ n, s.isMember n = true → ∃ w, filed[n] = some w ∧ w.result = .matched ∧ w.slot = slot.val) →
    a.own = .matched slot key → (s.slotAt slot).body = .active c →
    let readOnly := c.readOnly || a.readOnly
    let merged := s.bestFiled filed s.mergers
    let grant := if slot = 0 then Grant.admin slot readOnly else .user slot readOnly
    ∃ t, exec .verdict s = .next t
      ∧ t.verifier.hold = none
      ∧ (s.verifier.held.serial ≤ merged.1
        ∧ (∀ n w, s.isMember n = true → n = s.sn ∨ s.sameEpoch n = true → filed[n] = some w → w.serial ≤ merged.1))
      ∧ (merged.1 < 4294967295 → t.verifier.held = ⟨s.epoch, merged.1 + 1, 0⟩ ∧ t.draws = s.draws)
      ∧ (4294967295 ≤ merged.1 →
          t.verifier.held = ⟨s.epoch, (Config.freeSerial s.draws).toNat, 0⟩ ∧ t.draws = s.draws + 1)
      ∧ (slot = 0 → t.supervisor.tampered = false) ∧ (slot ≠ 0 → t.supervisor = s.supervisor) ∧ s.keepsRecords t
      ∧ (s.store.requests.verifier = none →
          (s.store.inFlight = none → s.store.deciding = false → merged = s.pair →
            t.store.inFlight = some ⟨.verifier, .attempt t.verifier.held, s.store.grants + 1⟩)
          ∧ (s.store.inFlight = none → s.store.deciding = false → merged ≠ s.pair →
            t.store.inFlight = some ⟨.verifier, .attempt ⟨s.epoch, merged.1, merged.2⟩, s.store.grants + 1⟩
            ∧ t.store.requests.verifier = some .attempt)
          ∧ (∀ w, s.store.inFlight = some w → t.store.inFlight = some w ∧ t.store.requests.verifier = some .attempt)
          ∧ (slot = 0 → s.supervisor.tampered = true → s.store.requests.supervisor = none →
            t.store.requests.supervisor = some .tamper)
          ∧ (slot ≠ 0 ∨ s.supervisor.tampered = false →
            t.store.requests.supervisor = s.store.requests.supervisor))
      ∧ (c.uses = none →
          t.phase = .unlocked ∧ t.phaseCtl.grant = grant ∧ t.gate.grant = grant
          ∧ s.presents t key ∧ t.slotTable.unlockedKey = some key
          ∧ t.phaseCtl.attachWindow = (if s.supervisor.attached = true then none else some (s.clock + 30000000))
          ∧ t.verifier.attempt = none ∧ t.slotTable.slots = s.slotTable.slots)
      ∧ (∀ u, c.uses = some u →
          t.phaseCtl = s.phaseCtl ∧ t.keyPort = s.keyPort ∧ t.slotTable.unlockedKey = s.slotTable.unlockedKey
          ∧ (∃ changedAt, t.verifier.attempt
              = some { a with filed := filed, window := none, waiting := some ⟨slot, readOnly, changedAt⟩ })
          ∧ t.slotTable.slots
              = s.slotTable.slots.set slot
                  (if u ≤ 1 then ⟨(s.slotAt slot).gen + 1, .empty, none⟩
                   else { s.slotAt slot with body := .active { c with uses := some (u - 1) } })
          ∧ (.slot slot ∈ t.slotTable.writes.changed ∨ t.slotTable.writes.rechanged = true)))
  ∧ (∀ (s : State) (sl : Slot) (serial : Nat) (a : Attempt) (h : HandOverWait) (key : ChannelKey) (matched : SlotNo),
    s.writing .slotTable (.slot h.slot sl) serial → s.verifier.attempt = some a → a.waiting = some h →
    a.own = .matched matched key → h.changedAt < serial → s.slotTable.waits = [] →
    let grant := if h.slot = 0 then Grant.admin h.slot h.readOnly else .user h.slot h.readOnly
    ∃ t, exec .slotWriteComplete s = .next t
      ∧ t.phase = .unlocked ∧ t.phaseCtl.grant = grant ∧ t.gate.grant = grant
      ∧ s.presents t key ∧ t.slotTable.unlockedKey = some key
      ∧ t.phaseCtl.attachWindow = (if s.supervisor.attached = true then none else some (s.clock + 30000000))
      ∧ t.verifier = { s.verifier with attempt := none } ∧ t.slotTable.slots = s.slotTable.slots
      ∧ t.store.stored = { s.store.stored with slots := s.store.stored.slots.set h.slot sl })

/-- A window that runs out before a full set voids the attempt: the largest counted pair is held, and the phase is LOCKED, or INCOMPLETE with a member missing, with the hold of the merged count, or the limit opens a purge; the key port stays as it was. A full set that does not unlock, be it a failure or a void, ends the attempt in the same way. What of it is the model's and not the spec's: log entries 2 and 20. -/
def Obligations.ExpiredWindowVoids : Prop :=
  (∀ (s : State) (a : Attempt) (due : Micros),
    s.awake = true → s.phase = .verifying → s.verifier.attempt = some a → a.window = some due →
    s.fullSet a = false →
    ∃ t, exec .verdictWindowExpire s = .next t
      ∧ t.verifier.attempt = none ∧ t.keyPort = s.keyPort ∧ t.clock = max s.clock due
      ∧ t.verifier.held = ⟨s.epoch, (s.bestFiled a.filed s.mergers).1, (s.bestFiled a.filed s.mergers).2⟩
      ∧ (t.verifier.held.count < s.failureLimit ∨ s.epoch = 65535 → s.purge.journal.isOpen = false →
          t.phase = (if s.memberMissing = true then .incomplete else .locked)
          ∧ t.verifier.hold = (holdDuration t.verifier.held.count).map (t.clock + ·))
      ∧ (s.failureLimit ≤ t.verifier.held.count → s.purge.journal.isOpen = false → s.epoch ≠ 65535 →
          t.phase = .purging ∧ t.purge.journal = ⟨true, some (s.epoch + 1), some .limit, some .destroy, 0, false, false⟩)
      ∧ t.slotTable.slots = s.slotTable.slots ∧ s.keepsRecords t)
  ∧ (∀ (s : State) (f : RxFrame) (rest : List RxFrame) (v : VerdictFields) (a : Attempt),
    s.isFront f rest → f.kind = .verdict → readVerdict f.payload = some v → s.isMember f.sender = true →
    s.phase = .verifying →
    s.verifier.attempt = some a → a.waiting = none → a.origin = v.origin → a.seq = v.seq → a.filed[f.sender] = none →
    let filed := a.filed.set f.sender (some v.filed)
    (∀ n, s.isMember n = true → filed[n] ≠ none) →
    (¬ ∃ slot, ∀ n w, s.isMember n = true → filed[n] = some w → w.result = .matched ∧ w.slot = slot) →
    let merged := s.bestFiled filed s.mergers
    ∃ t, exec .verdict s = .next t
      ∧ t.verifier.attempt = none ∧ t.keyPort = s.keyPort ∧ t.verifier.held = ⟨s.epoch, merged.1, merged.2⟩
      ∧ (merged.2 < s.failureLimit ∨ s.epoch = 65535 →
          t.phase = (if s.memberMissing = true then .incomplete else .locked) ∧ t.phaseCtl.grant = .pub
          ∧ t.verifier.hold = (holdDuration merged.2).map (s.clock + ·))
      ∧ (s.failureLimit ≤ merged.2 → s.purge.journal.isOpen = false → s.epoch ≠ 65535 →
          s.purgeOpened t .limit (s.epoch + 1) ∧ t.verifier.hold = s.verifier.hold)
      ∧ t.slotTable.slots = s.slotTable.slots ∧ s.keepsRecords t)

/-! ### Slots and enrollment (Chapter 4) -/

/-- A STAGE, ADOPT or RETIRE goes through the checks of Table 4-3. Without its rights it is answered REFUSED at once and changes nothing else; an own one on return leaves the slots and the store as they were (EnrollmentEndsWithAdopt says what its enrollment record makes of the result). With its rights, a STAGE whatever TAMPERED shows, it goes on to the checks of its own kind. In UNCOMMISSIONED and HALTED it is ignored without an answer. A station whose grant follows its phase has grant ADMIN in UNLOCKED only. -/
def Obligations.AdminRequestsNeedTheirRights : Prop :=
  (∀ (s : State) (f : RxFrame) (rest : List RxFrame),
    let slot := u8 f.payload 0
    let gen := u16 f.payload 1
    let refused := fun (k : Kind) => Host.Outcome.next ((s.taken rest).answers f.sender k .refused slot gen).payRoll
    let own := fun (k : Kind) => s.isFront f rest ∧ f.kind = k ∧ f.sender = s.sn ∧ f.own ≠ none ∧ f.own ≠ some .dropped
      ∧ s.phase ≠ .uncommissioned ∧ s.phase ≠ .halted
    let slotRights := s.mayAdminister f.sender ∧ (s.phaseCtl.grant.isAdmin = true ∨ (s.phase = .blank ∧ slot = 0))
    let stageRights := slotRights ∧ (s.phaseCtl.grant.isAdmin = true ∨ s.memberMissing = false)
    let retireRights := s.mayAdminister f.sender ∧ s.phaseCtl.grant.isAdmin = true ∧ s.supervisor.tampered = false
    let unchanged := fun (c : Instr) => ∃ t, exec c s = .next t
      ∧ t.slotTable.slots = s.slotTable.slots ∧ t.slotTable.waits = s.slotTable.waits
      ∧ t.slotTable.unlockedKey = s.slotTable.unlockedKey ∧ t.store = s.store
    (s.isAsked f rest .stage → ¬ stageRights → exec .stage s = refused .stage)
    ∧ (s.isAsked f rest .adopt → abandonFlag f.payload = false → ¬ slotRights → exec .adopt s = refused .adopt)
    ∧ (s.isAsked f rest .adopt → abandonFlag f.payload = true → ¬ slotRights → exec .adoptAbandon s = refused .adopt)
    ∧ (s.isAsked f rest .retire → ¬ retireRights → exec .retire s = refused .retire)
    ∧ (own .stage → ¬ stageRights → unchanged .stage)
    ∧ (own .adopt → abandonFlag f.payload = false → ¬ slotRights → unchanged .adopt)
    ∧ (own .adopt → abandonFlag f.payload = true → ¬ slotRights → unchanged .adoptAbandon)
    ∧ (own .retire → ¬ retireRights → unchanged .retire)
    ∧ (s.isAsked f rest .stage ∨ own .stage → stageRights →
        exec .stage s = .next (((s.taken rest).ownStage f).stageSlot f.sender (readStage f.payload)).payRoll)
    ∧ (s.isAsked f rest .adopt ∨ own .adopt → abandonFlag f.payload = false → slotRights →
        exec .adopt s = .next ((s.taken rest).adoptSlot f.sender slot gen).payRoll)
    ∧ (s.isAsked f rest .adopt ∨ own .adopt → abandonFlag f.payload = true → slotRights →
        exec .adoptAbandon s = .next ((s.taken rest).abandonSlot f.sender slot gen).payRoll)
    ∧ (s.isAsked f rest .retire ∨ own .retire → retireRights →
        exec .retire s = .next ((s.taken rest).retireSlot f.sender slot gen).payRoll)
    ∧ (s.awake = true → s.line.rx = f :: rest → f.own = none → s.phase = .uncommissioned ∨ s.phase = .halted →
        let ignored := Host.Outcome.next (s.taken rest).payRoll
        (f.kind = .stage → exec .stage s = ignored)
        ∧ (f.kind = .adopt → abandonFlag f.payload = false → exec .adopt s = ignored)
        ∧ (f.kind = .adopt → abandonFlag f.payload = true → exec .adoptAbandon s = ignored)
        ∧ (f.kind = .retire → exec .retire s = ignored)))
  ∧ (∀ s : State, s.gateFollows → s.phase ≠ .unlocked → s.phaseCtl.grant.isAdmin = false)

/-- What the test for an equal verifier compares: the ACTIVE record and the staged part of every other slot, nothing of the slot concerned. The checks on a STAGE of a slot of the table, in their order. A STAGE that passes every check places its staged part in the held slot, sealed with the key of the epoch; the slot's write is requested, and the answer waits for it. One that fails a check is answered at once. What of it is the model's and not the spec's: log entries 6, 33 and 42. -/
def Obligations.StageIsCheckedAndHeld : Prop :=
  (∀ (s : State) (i : SlotNo) (v : CheckValue),
    s.duplicate i v = true ↔ ∃ j, j ≠ i
      ∧ ((∃ c, (s.slotAt j).body = .active c ∧ c.verifier = v) ∨ (∃ st, (s.slotAt j).staged = some st ∧ st.cred.verifier = v)))
  ∧ (∀ (s : State) (i : SlotNo) (e : StageFields),
    let adminFlags := i = 0 ∧ (e.readOnly = true ∨ e.uses.isSome = true)
    let badUses := ∃ u, e.uses = some u ∧ (u < 1 ∨ 99 < u)
    let badGen := (s.slotAt i).gen = 65535 ∨ e.gen ≠ (s.slotAt i).gen + 1
    let lastUses := e.uses.isSome = true ∧ e.gen = 65535
    (adminFlags ∨ badUses ∨ badGen ∨ lastUses → s.stageRefusal i e = some .invalid)
    ∧ (¬ adminFlags → ¬ badUses → ¬ badGen → ¬ lastUses → (s.slotAt i).staged.isSome = true → s.stageRefusal i e = some .busy)
    ∧ (¬ adminFlags → ¬ badUses → ¬ badGen → ¬ lastUses → (s.slotAt i).staged = none →
        s.duplicate i (s.checkValue e.token) = true → s.stageRefusal i e = some .duplicate)
    ∧ (¬ adminFlags → ¬ badUses → ¬ badGen → ¬ lastUses → (s.slotAt i).staged = none →
        s.duplicate i (s.checkValue e.token) = false → s.stageRefusal i e = none))
  ∧ (∀ (s : State) (f : RxFrame) (rest : List RxFrame), s.isAsked f rest .stage →
    let e := readStage f.payload
    s.mayAdminister f.sender → s.phaseCtl.grant.isAdmin = true ∨ (s.phase = .blank ∧ e.slot = 0) →
    s.phaseCtl.grant.isAdmin = true ∨ s.memberMissing = false →
    let reply := fun (r : AnswerResult) => Host.Outcome.next ((s.taken rest).answers f.sender .stage r e.slot e.gen).payRoll
    (5 < e.slot → exec .stage s = reply .invalid)
    ∧ (∀ (i : SlotNo) r, e.slot = i.val → s.stageRefusal i e = some r → exec .stage s = reply r)
    ∧ (∀ (i : SlotNo) key, e.slot = i.val → s.stageRefusal i e = none →
      (if s.phase = .blank then s.slotTable.blankKey else s.slotTable.unlockedKey) = some key →
      ∃ t, exec .stage s = .next t
        ∧ t.slotTable.slots
            = s.slotTable.slots.set i
                { s.slotAt i with
                  staged := some ⟨e.gen, ⟨⟨s.slotTable.salt, e.token⟩, ⟨⟨s.slotTable.salt, e.token⟩, key⟩, e.readOnly, e.uses⟩⟩ }
        ∧ t.slotTable.waits = s.slotTable.waits ++ [⟨i, e.gen, .stage, false, f.sender, s.store.grants, none⟩]
        ∧ s.slotWriteRequested t i (t.slotAt i)
        ∧ (s.roster.rollOwed = false → t.line = (s.taken rest).line)
        ∧ t.phaseCtl = s.phaseCtl ∧ t.keyPort = s.keyPort ∧ t.verifier = s.verifier ∧ t.purge = s.purge ∧ s.keepsRecords t))

/-- An ADOPT makes its staged part the ACTIVE record, or answers REFUSED without it and DUPLICATE, the part discarded, at an equal verifier; phase and grant stay. A RETIRE of a user slot at its generation plus one empties the slot; any other is INVALID. The slot's write is requested, an answer DONE waits for it, and one that waited for a discarded staged part learns of the discard. What of it is the model's and not the spec's: log entries 33 and 42. -/
def Obligations.AdoptAndRetireChangeTheSlot : Prop :=
  (∀ (s : State) (f : RxFrame) (rest : List RxFrame) (i : SlotNo),
    s.isAsked f rest .adopt → abandonFlag f.payload = false → u8 f.payload 0 = i.val → s.mayAdminister f.sender →
    s.phaseCtl.grant.isAdmin = true ∨ (s.phase = .blank ∧ i = 0) →
    let gen := u16 f.payload 1
    (∀ c, (s.slotAt i).staged = some ⟨gen, c⟩ → s.duplicate i c.verifier = false →
      ∃ t, exec .adopt s = .next t
        ∧ t.slotTable.slots = s.slotTable.slots.set i ⟨gen, .active c, none⟩
        ∧ t.slotTable.waits
            = s.slotTable.waits ++ [⟨i, gen, .adopt, i = 0 && s.phase = .blank, f.sender, s.store.grants, none⟩]
        ∧ s.slotWriteRequested t i ⟨gen, .active c, none⟩
        ∧ t.slotTable.unlockedKey
            = (if i = 0 ∧ s.phase = .blank then s.slotTable.blankKey else s.slotTable.unlockedKey)
        ∧ (s.roster.rollOwed = false → t.line = (s.taken rest).line)
        ∧ t.phaseCtl = s.phaseCtl ∧ t.keyPort = s.keyPort ∧ t.verifier = s.verifier ∧ t.purge = s.purge ∧ s.keepsRecords t)
    ∧ ((∀ c, (s.slotAt i).staged ≠ some ⟨gen, c⟩) →
      exec .adopt s = .next ((s.taken rest).answers f.sender .adopt .refused i.val gen).payRoll)
    ∧ (∀ c, (s.slotAt i).staged = some ⟨gen, c⟩ → s.duplicate i c.verifier = true →
      ∃ t, exec .adopt s = .next t
        ∧ t.slotTable.slots = s.slotTable.slots.set i { s.slotAt i with staged := none }
        ∧ t.slotTable.waits = s.slotTable.waits.map (·.discard i s.store.grants)
        ∧ s.slotWriteRequested t i { s.slotAt i with staged := none }
        ∧ (s.roster.rollOwed = false →
            t.line = ((s.taken rest).answers f.sender .adopt .duplicate i.val gen).line)
        ∧ t.phaseCtl = s.phaseCtl ∧ t.keyPort = s.keyPort ∧ t.verifier = s.verifier ∧ t.purge = s.purge ∧ s.keepsRecords t))
  ∧ (∀ (s : State) (f : RxFrame) (rest : List RxFrame),
    s.isAsked f rest .retire → s.mayAdminister f.sender → s.phaseCtl.grant.isAdmin = true →
    s.supervisor.tampered = false →
    let slot := u8 f.payload 0
    let gen := u16 f.payload 1
    (∀ i : SlotNo, slot = i.val → i ≠ 0 → (s.slotAt i).gen ≠ 65535 → gen = (s.slotAt i).gen + 1 →
      ∃ t, exec .retire s = .next t
        ∧ t.slotTable.slots = s.slotTable.slots.set i ⟨gen, .empty, none⟩
        ∧ t.slotTable.waits
            = (if (s.slotAt i).staged = none then s.slotTable.waits
               else s.slotTable.waits.map (·.discard i s.store.grants))
              ++ [⟨i, gen, .retire, false, f.sender, s.store.grants, none⟩]
        ∧ s.slotWriteRequested t i ⟨gen, .empty, none⟩
        ∧ (s.roster.rollOwed = false → t.line = (s.taken rest).line)
        ∧ t.phaseCtl = s.phaseCtl ∧ t.keyPort = s.keyPort ∧ t.verifier = s.verifier ∧ t.purge = s.purge ∧ s.keepsRecords t)
    ∧ (slot = 0 ∨ 5 < slot
        ∨ (∃ i : SlotNo, slot = i.val ∧ ((s.slotAt i).gen = 65535 ∨ gen ≠ (s.slotAt i).gen + 1)) →
      exec .retire s = .next ((s.taken rest).answers f.sender .retire .invalid slot gen).payRoll))

/-- An ADOPT with the abandon flag removes the staged part of its generation and leaves the slot's state, generation and active record; the slot's write is requested and DONE waits for it, while the answer to the STAGE of the part learns of the discard. Without that part it is REFUSED. What of it is the model's and not the spec's: log entries 33 and 42. -/
def Obligations.AbandonDiscardsTheStagedPart : Prop :=
  ∀ (s : State) (f : RxFrame) (rest : List RxFrame) (i : SlotNo),
    s.isAsked f rest .adopt → abandonFlag f.payload = true → u8 f.payload 0 = i.val → s.mayAdminister f.sender →
    s.phaseCtl.grant.isAdmin = true ∨ (s.phase = .blank ∧ i = 0) →
    let gen := u16 f.payload 1
    (∀ c, (s.slotAt i).staged = some ⟨gen, c⟩ →
      ∃ t, exec .adoptAbandon s = .next t
        ∧ t.slotTable.slots = s.slotTable.slots.set i { s.slotAt i with staged := none }
        ∧ t.slotTable.waits
            = s.slotTable.waits.map (·.discard i s.store.grants)
              ++ [⟨i, gen, .abandon, false, f.sender, s.store.grants, none⟩]
        ∧ s.slotWriteRequested t i { s.slotAt i with staged := none }
        ∧ (s.roster.rollOwed = false → t.line = (s.taken rest).line)
        ∧ t.phaseCtl = s.phaseCtl ∧ t.keyPort = s.keyPort ∧ t.verifier = s.verifier ∧ t.purge = s.purge ∧ s.keepsRecords t)
    ∧ ((∀ c, (s.slotAt i).staged ≠ some ⟨gen, c⟩) →
      exec .adoptAbandon s = .next ((s.taken rest).answers f.sender .adopt .refused i.val gen).payRoll)

/-- The completion of a slot write stores the record and answers DONE to the change that waited for it; a STAGE whose staged part had been discarded before the grant gets no answer. The stored first adoption of slot 0 in BLANK unlocks as ADMIN with the key of the blank key record, which is to be deleted; attempt record and hold stay. Its DONE is offered too, and the key waits behind a shift of zeros. A station that has left BLANK by then keeps its phase and answers DONE; the unlocked key is discarded as BLANK is left. What of it is the model's and not the spec's: log entries 33 and 42. -/
def Obligations.StoredSlotsAreAnswered : Prop :=
  (∀ (s : State) (i : SlotNo) (sl : Slot) (serial : Nat) (w : SlotWait),
    s.writing .slotTable (.slot i sl) serial → s.slotTable.waits = [w] → w.slot = i → w.changedAt < serial →
    w.first = false → w.replyTo ≠ s.sn → s.verifier.attempt = none →
    let kept := ∀ d, w.discardedAt = some d → serial ≤ d
    ∃ t, exec .slotWriteComplete s = .next t
      ∧ t.store.stored = { s.store.stored with slots := s.store.stored.slots.set i sl }
      ∧ t.slotTable.waits = [] ∧ t.slotTable.slots = s.slotTable.slots
      ∧ (s.roster.rollOwed = false → kept →
          t.line = (s.answers w.replyTo w.change.request .done w.slot.val w.gen).line)
      ∧ (s.roster.rollOwed = false → ¬ kept → t.line = s.line)
      ∧ t.phaseCtl = s.phaseCtl ∧ t.keyPort = s.keyPort ∧ t.verifier = s.verifier ∧ t.purge = s.purge ∧ t.gate = s.gate
      ∧ t.setup = s.setup)
  ∧ (∀ (s : State) (sl : Slot) (serial : Nat) (w : SlotWait) (key : ChannelKey),
    s.writing .slotTable (.slot 0 sl) serial → s.slotTable.waits = [w] → w.slot = 0 → w.changedAt < serial →
    w.discardedAt = none → w.first = true → sl.gen = w.gen → (∃ c, sl.body = .active c) →
    s.verifier.attempt = none → s.slotTable.unlockedKey = some key →
    ∃ t, exec .slotWriteComplete s = .next t
      ∧ t.slotTable.blankKey = none ∧ t.verifier = s.verifier
      ∧ t.store.stored = { s.store.stored with slots := s.store.stored.slots.set 0 sl } ∧ t.setup = s.setup
      ∧ (w.replyTo ≠ s.sn → s.roster.rollOwed = false →
          t.line = (s.answers w.replyTo w.change.request .done 0 w.gen).line)
      ∧ (w.replyTo = s.sn → w.change ≠ .stage → s.roster.rollOwed = false → t.line = s.line)
      ∧ (s.phase ≠ .blank → t.phaseCtl = s.phaseCtl ∧ t.keyPort = s.keyPort)
      ∧ (s.phase = .blank → t.phase = .unlocked ∧ t.phaseCtl.grant = .admin 0 false ∧ t.gate.grant = .admin 0 false
        ∧ s.presents t key ∧ t.slotTable.unlockedKey = some key
        ∧ t.phaseCtl.attachWindow = (if s.supervisor.attached = true then none else some (s.clock + 30000000))))
  ∧ (∀ (s : State) (sl : Slot) (serial : Nat) (w : SlotWait),
    s.writing .slotTable (.slot 0 sl) serial → s.slotTable.waits = [w] → w.slot = 0 → w.changedAt < serial →
    w.discardedAt = none → w.first = true → sl.gen = w.gen → (∃ c, sl.body = .active c) →
    s.verifier.attempt = none → s.slotTable.unlockedKey = none →
    ∃ t, exec .slotWriteComplete s = .next t
      ∧ t.slotTable.blankKey = none ∧ t.verifier = s.verifier ∧ t.phaseCtl = s.phaseCtl ∧ t.keyPort = s.keyPort
      ∧ t.store.stored = { s.store.stored with slots := s.store.stored.slots.set 0 sl } ∧ t.setup = s.setup
      ∧ (w.replyTo ≠ s.sn → s.roster.rollOwed = false →
          t.line = (s.answers w.replyTo w.change.request .done 0 w.gen).line))
  ∧ (∀ s : State, s.phase = .blank →
    s.leavePhase = s.setSlotTable { s.slotTable with unlockedKey := none, enrollment := none })

/-- The enrollment record files each member's answer once: the last DONE offers ADOPT, any other answer and the timeout offer ADOPT with abandon. The own STAGE on return starts the collection timer of 500 ms and is staged here as at any member; DROPPED, or refused here, it ends the enrollment with abandon; its own result DONE is filed when its slot write completes. The own ADOPT and RETIRE on return change the slot as at any member, and no ANSWER goes out; an ADOPT of a duplicate discards the staged part; DROPPED, not allowed, without a staged part of the generation, or with a slot above 5, they change nothing. What of it is the model's and not the spec's: log entries 2, 6 (the staged credential as terms of salt, token and key), 33, 42 and 45. -/
def Obligations.EnrollmentEndsWithAdopt : Prop :=
  (∀ (s : State) (e : Enrollment), s.awake = true → s.slotTable.enrollment = some e →
    let ending := fun (u : State) (abandon : Nat) (pattern : Transient) =>
      let sent := (u.setSlotTable { u.slotTable with enrollment := none }).offer .adopt none
        (byte e.slot :: bytes2 e.gen ++ [byte abandon])
      sent.setScanner { sent.scanner with transient := some (pattern, u.clock + 2000000) }
    (∀ f rest, s.isFront f rest → f.kind = .answer → u8 f.payload 0 % 32 = 10 → s.isMember f.sender = true →
      u8 f.payload 2 = e.slot → u16 f.payload 3 = e.gen → e.places[f.sender] = none →
      (byteAt f.payload 1 ≠ 0 → exec .answer s = .next (ending (s.taken rest) 128 .red).payRoll)
      ∧ (byteAt f.payload 1 = 0 → (∀ n, s.isMember n = true → n ≠ f.sender → e.places[n] = some 0) →
          exec .answer s = .next (ending (s.taken rest) 0 .green).payRoll)
      ∧ (byteAt f.payload 1 = 0 → (∃ n, s.isMember n = true ∧ n ≠ f.sender ∧ e.places[n] ≠ some 0) →
          exec .answer s
            = .next ((s.taken rest).setSlotTable
                { s.slotTable with
                  enrollment := some { e with places := e.places.set f.sender (some 0) } }).payRoll))
    ∧ (∀ due, e.timer = some due →
      exec .enrollmentTimeout s = .next (ending (s.setClock (max s.clock due)) 128 .red).payRoll)
    ∧ (∀ f rest o, s.isFront f rest → f.kind = .stage → f.own = some o → f.sender = s.sn → u8 f.payload 0 = e.slot →
      u16 f.payload 1 = e.gen →
      (o = .dropped → exec .stage s = .next (ending (s.taken rest) 128 .red).payRoll)
      ∧ (o ≠ .dropped → s.roleOf s.sn = .keypadGuard → s.phase ≠ .uncommissioned → s.phase ≠ .halted →
        let allowed := s.phaseCtl.grant.isAdmin = true ∨ (s.phase = .blank ∧ e.slot = 0 ∧ s.memberMissing = false)
        (¬ allowed ∨ 5 < e.slot → e.places[s.sn] = none →
          exec .stage s = .next (ending (s.taken rest) 128 .red).payRoll)
        ∧ ∀ i : SlotNo, allowed → e.slot = i.val →
        let fields := readStage f.payload
        (∀ r, s.stageRefusal i fields = some r → e.places[s.sn] = none →
          exec .stage s = .next (ending (s.taken rest) 128 .red).payRoll)
        ∧ (∀ key, s.stageRefusal i fields = none →
          (if s.phase = .blank then s.slotTable.blankKey else s.slotTable.unlockedKey) = some key →
          ∃ t, exec .stage s = .next t
            ∧ t.slotTable.enrollment = some { e with timer := some (s.clock + 500000) }
            ∧ t.slotTable.slots
                = s.slotTable.slots.set i
                    { s.slotAt i with
                      staged := some ⟨e.gen,
                        ⟨⟨s.slotTable.salt, fields.token⟩, ⟨⟨s.slotTable.salt, fields.token⟩, key⟩, fields.readOnly,
                          fields.uses⟩⟩ }
            ∧ t.slotTable.waits = s.slotTable.waits ++ [⟨i, e.gen, .stage, false, s.sn, s.store.grants, none⟩]
            ∧ s.slotWriteRequested t i (t.slotAt i)
            ∧ (s.roster.rollOwed = false → t.line = (s.taken rest).line)
            ∧ t.phaseCtl = s.phaseCtl ∧ t.keyPort = s.keyPort ∧ t.verifier = s.verifier ∧ s.keepsRecords t)))
    ∧ (∀ i sl serial w, s.writing .slotTable (.slot i sl) serial → s.slotTable.waits = [w] → w.slot = i →
      w.changedAt < serial → w.discardedAt = none → w.first = false → w.change = .stage → w.replyTo = s.sn →
      e.slot = i.val → e.gen = w.gen → s.isMember s.sn = true → e.places[s.sn] = none → s.verifier.attempt = none →
      ∃ t, exec .slotWriteComplete s = .next t
        ∧ t.slotTable.waits = [] ∧ t.slotTable.slots = s.slotTable.slots ∧ t.phaseCtl = s.phaseCtl
        ∧ t.store.stored = { s.store.stored with slots := s.store.stored.slots.set i sl }
        ∧ ((∃ n, s.isMember n = true ∧ n ≠ s.sn ∧ e.places[n] ≠ some 0) →
            t.slotTable.enrollment = some { e with places := e.places.set s.sn (some 0) }
            ∧ t.scanner = s.scanner ∧ (s.roster.rollOwed = false → t.line = s.line))
        ∧ ((∀ n, s.isMember n = true → n ≠ s.sn → e.places[n] = some 0) →
            t.slotTable.enrollment = none ∧ t.scanner = (ending s 0 .green).scanner
            ∧ (s.roster.rollOwed = false → t.line = (ending s 0 .green).line))))
  ∧ (∀ (s : State) (f : RxFrame) (rest : List RxFrame) (o : SendOutcome),
    s.isFront f rest → f.own = some o → f.sender = s.sn → s.phase ≠ .uncommissioned → s.phase ≠ .halted →
    let slot := u8 f.payload 0
    let gen := u16 f.payload 1
    let silent := Host.Outcome.next (s.taken rest).payRoll
    (o = .dropped →
      (f.kind = .adopt → abandonFlag f.payload = false → exec .adopt s = silent)
      ∧ (f.kind = .adopt → abandonFlag f.payload = true → exec .adoptAbandon s = silent)
      ∧ (f.kind = .retire → exec .retire s = silent))
    ∧ (o ≠ .dropped → s.roleOf s.sn = .keypadGuard →
      (5 < slot ∨ (s.phaseCtl.grant.isAdmin = false ∧ ¬ (s.phase = .blank ∧ slot = 0)) →
        (f.kind = .adopt → abandonFlag f.payload = false → exec .adopt s = silent)
        ∧ (f.kind = .adopt → abandonFlag f.payload = true → exec .adoptAbandon s = silent))
      ∧ (5 < slot ∨ s.phaseCtl.grant.isAdmin = false ∨ s.supervisor.tampered = true → f.kind = .retire →
        exec .retire s = silent)
      ∧ (∀ i : SlotNo, f.kind = .adopt → slot = i.val → s.phaseCtl.grant.isAdmin = true ∨ (s.phase = .blank ∧ i = 0) →
        ((∀ c, (s.slotAt i).staged ≠ some ⟨gen, c⟩) →
          (abandonFlag f.payload = false → exec .adopt s = silent)
          ∧ (abandonFlag f.payload = true → exec .adoptAbandon s = silent))
        ∧ (∀ c, (s.slotAt i).staged = some ⟨gen, c⟩ → s.duplicate i c.verifier = false → abandonFlag f.payload = false →
          ∃ t, exec .adopt s = .next t
            ∧ t.slotTable.slots = s.slotTable.slots.set i ⟨gen, .active c, none⟩
            ∧ t.slotTable.waits
                = s.slotTable.waits ++ [⟨i, gen, .adopt, i = 0 && s.phase = .blank, s.sn, s.store.grants, none⟩]
            ∧ s.slotWriteRequested t i ⟨gen, .active c, none⟩
            ∧ (s.roster.rollOwed = false → t.line = (s.taken rest).line) ∧ t.phaseCtl = s.phaseCtl ∧ s.keepsRecords t)
        ∧ (∀ c, (s.slotAt i).staged = some ⟨gen, c⟩ → s.duplicate i c.verifier = true → abandonFlag f.payload = false →
          ∃ t, exec .adopt s = .next t
            ∧ t.slotTable.slots = s.slotTable.slots.set i { s.slotAt i with staged := none }
            ∧ s.slotWriteRequested t i { s.slotAt i with staged := none }
            ∧ (s.roster.rollOwed = false → t.line = (s.taken rest).line) ∧ t.phaseCtl = s.phaseCtl ∧ s.keepsRecords t)
        ∧ (∀ c, (s.slotAt i).staged = some ⟨gen, c⟩ → abandonFlag f.payload = true →
          ∃ t, exec .adoptAbandon s = .next t
            ∧ t.slotTable.slots = s.slotTable.slots.set i { s.slotAt i with staged := none }
            ∧ s.slotWriteRequested t i { s.slotAt i with staged := none }
            ∧ (s.roster.rollOwed = false → t.line = (s.taken rest).line) ∧ t.phaseCtl = s.phaseCtl ∧ s.keepsRecords t))
      ∧ (∀ i : SlotNo, f.kind = .retire → slot = i.val → s.phaseCtl.grant.isAdmin = true → s.supervisor.tampered = false →
        (i = 0 ∨ (s.slotAt i).gen = 65535 ∨ gen ≠ (s.slotAt i).gen + 1 → exec .retire s = silent)
        ∧ (i ≠ 0 → (s.slotAt i).gen ≠ 65535 → gen = (s.slotAt i).gen + 1 →
          ∃ t, exec .retire s = .next t
            ∧ t.slotTable.slots = s.slotTable.slots.set i ⟨gen, .empty, none⟩
            ∧ s.slotWriteRequested t i ⟨gen, .empty, none⟩
            ∧ (s.roster.rollOwed = false → t.line = (s.taken rest).line) ∧ t.phaseCtl = s.phaseCtl ∧ s.keepsRecords t))))

/-! ### Phases and the key port (Chapter 5) -/

/-- A LOCK whose cause fits its sender ends an unlock, or voids a verification: the filed pairs of the other members are merged, and the phase is LOCKED with its hold restarted, or INCOMPLETE with a member missing, or at the failure limit a purge opens. One that does not fit, and any LOCK in another phase, is ignored. What of it is the model's and not the spec's: log entry 20 for a void at the failure limit of the last epoch, and log entry 31 for a clear of the key port in SHIFTING_ZERO. -/
def Obligations.LockEndsTheUnlock : Prop :=
  ∀ (s : State) (f : RxFrame) (rest : List RxFrame), s.awake = true → s.line.rx = f :: rest → f.kind = .lock →
    (s.phase = .uncommissioned ∨ s.phase = .halted → exec .lock s = .next (s.taken rest).payRoll)
    ∧ (s.roleOf f.sender = .none → exec .lock s = .next (s.taken rest).payRoll)
    ∧ (LockCause.ofCode (u8 f.payload 0) = none → exec .lock s = .next (s.taken rest).payRoll)
    ∧ (∀ cause, s.handles f = true → LockCause.ofCode (u8 f.payload 0) = some cause →
      let fits := (s.roleOf f.sender = .keypadGuard ∧ cause ≠ .request) ∨ (s.roleOf f.sender = .guard ∧ cause = .fault)
        ∨ (s.roleOf f.sender = .controller ∧ cause = .request)
      (fits → s.phase = .unlocked → ∃ t, exec .lock s = .next t ∧ s.revokedTo t ∧ t.clock = s.clock)
      ∧ (∀ a, fits → s.phase = .verifying → s.verifier.attempt = some a →
        let merged := s.bestFiled a.filed (s.others.filter s.sameEpoch)
        ∃ t, exec .lock s = .next t
          ∧ t.verifier.attempt = none ∧ t.keyPort = s.keyPort ∧ t.slotTable = s.slotTable
          ∧ t.verifier.held = ⟨s.epoch, merged.1, merged.2⟩
          ∧ (merged.2 < s.failureLimit ∨ s.epoch = 65535 →
              t.phase = (if s.memberMissing = true then .incomplete else .locked) ∧ t.phaseCtl.grant = .pub
              ∧ t.verifier.hold = (holdDuration merged.2).map (s.clock + ·) ∧ s.keepsRecords t)
          ∧ (s.failureLimit ≤ merged.2 → s.purge.journal.isOpen = false → s.epoch ≠ 65535 →
              s.purgeOpened t .limit (s.epoch + 1)))
      ∧ (¬ fits → exec .lock s = .next (s.taken rest).payRoll)
      ∧ (s.phase ≠ .unlocked → s.phase ≠ .verifying → exec .lock s = .next (s.taken rest).payRoll))

/-- The detach, the end of the attach window and a tamper assertion without policy PURGE, or at the last epoch, end an unlock in the same way, whatever the key port is doing. Under policy PURGE the assertion ends it into a purge: the key port cleared, the unlocked key, the attach window and the enrollment gone, the purge of the next epoch open. The detach and such an assertion void a verification: the filed pairs of the other members are merged, and the phase is LOCKED with its hold, or INCOMPLETE, or at the failure limit a purge opens. Under policy PURGE the assertion voids it with the same merge and opens the purge, but at the last epoch, where it acts as under policy LOCK. What of it is the model's and not the spec's: log entry 2, log entry 20 for a void at the failure limit of the last epoch, and log entry 31 for a clear of the key port in SHIFTING_ZERO. -/
def Obligations.DetachWindowAndTamperEndTheUnlock : Prop :=
  (∀ s : State, s.awake = true → s.phase = .unlocked →
    (∀ landed sense, s.supervisor.attached = true → sense < 4200 → s.supervisor.band ≠ .cutoff →
      s.purge.journal.isOpen = false →
      ∃ t, exec (.detach landed sense) s = .next t ∧ s.revokedTo t ∧ t.clock = s.clock ∧ t.supervisor.attached = false)
    ∧ (∀ due, s.phaseCtl.attachWindow = some due →
      ∃ t, exec .attachWindowExpire s = .next t ∧ s.revokedTo t ∧ t.clock = max s.clock due
        ∧ t.supervisor = s.supervisor)
    ∧ (s.supervisor.tamperAsserted = false → s.purgesOnTamper = false ∨ s.epoch = 65535 →
      ∃ t, exec .tamperAssertion s = .next t ∧ s.revokedTo t ∧ t.clock = s.clock
        ∧ t.supervisor = { s.supervisor with tamperAsserted := true, tampered := true })
    ∧ (s.supervisor.tamperAsserted = false → s.purgesOnTamper = true → s.purge.journal.isOpen = false → s.epoch ≠ 65535 →
      ∃ t, exec .tamperAssertion s = .next t ∧ s.purgeOpened t .tamper (s.epoch + 1) ∧ t.clock = s.clock
        ∧ s.keyPort.clearedTo t.keyPort s.clock ∧ t.phaseCtl.attachWindow = none
        ∧ t.slotTable = { s.slotTable with unlockedKey := none, enrollment := none }
        ∧ t.verifier = s.verifier ∧ s.keepsRecords t
        ∧ t.supervisor = { s.supervisor with tamperAsserted := true, tampered := true }))
  ∧ (∀ (s : State) (a : Attempt), s.awake = true → s.phase = .verifying → s.verifier.attempt = some a →
    s.purge.journal.isOpen = false →
    (∀ landed sense, s.supervisor.attached = true → sense < 4200 → s.supervisor.band ≠ .cutoff →
      ∃ t, exec (.detach landed sense) s = .next t ∧ s.voidedTo t a ∧ t.clock = s.clock
        ∧ t.supervisor = { s.supervisor with attached := false })
    ∧ (s.supervisor.tamperAsserted = false → s.purgesOnTamper = false ∨ s.epoch = 65535 →
      ∃ t, exec .tamperAssertion s = .next t ∧ s.voidedTo t a ∧ t.clock = s.clock
        ∧ t.supervisor = { s.supervisor with tamperAsserted := true, tampered := true })
    ∧ (s.supervisor.tamperAsserted = false → s.purgesOnTamper = true → s.epoch ≠ 65535 →
      let merged := s.bestFiled a.filed (s.others.filter s.sameEpoch)
      ∃ t, exec .tamperAssertion s = .next t ∧ s.purgeOpened t .tamper (s.epoch + 1)
        ∧ t.verifier = { s.verifier with attempt := none, held := ⟨s.epoch, merged.1, merged.2⟩ }
        ∧ t.keyPort = s.keyPort ∧ t.slotTable = s.slotTable ∧ s.keepsRecords t
        ∧ t.supervisor = { s.supervisor with tamperAsserted := true, tampered := true }))

/-- The ends of the key port's shifts: PRESENTED after the key, CLEAR after the zeros, or the waiting key shift from the unlocked key. The pins: KDAT shows the bits of the presented key, most significant first, 2 us each, KCLK is low in the first half of a bit and high in the second; before the zeros of a stopped key shift KDAT keeps the bit being shifted; outside a shift both are low, and KVALID is high in PRESENTED alone. What of it is the model's and not the spec's: log entries 2 and 32. -/
def Obligations.KeyPortShiftsEnd : Prop :=
  (∀ (s : State) (due : Micros), s.awake = true → s.keyPort.shiftDue = some due →
    let late := s.setClock (max s.clock due)
    (s.keyPort.state = .shiftingKey →
      exec .keyShiftEnd s = .next (late.setKeyPort { s.keyPort with state := .presented, shiftDue := none, sent := 256 }).payRoll)
    ∧ (s.keyPort.state = .shiftingZero → s.keyPort.waiting = false →
      exec .zeroShiftEnd s = .next (late.setKeyPort ⟨.clear, 0, none, false, none, 0⟩).payRoll)
    ∧ (s.keyPort.state = .shiftingZero → s.keyPort.waiting = true →
      exec .zeroShiftEnd s
        = .next (late.setKeyPort
            ⟨.shiftingKey, s.slotTable.unlockedKey.getD 0, some (max s.clock due + 512), false, none, 0⟩).payRoll))
  ∧ (∀ (p : KeyPort) (due n half : Nat), p.shiftDue = some due → 512 ≤ due → n < 256 → half < 2 →
    let now := due - 512 + 2 * n + half
    (p.state = .shiftingKey → p.kdat now = p.presented.getMsbD n ∧ p.kclk now = decide (half = 1))
    ∧ (p.state = .shiftingZero → p.kdat now = false ∧ p.kclk now = decide (half = 1)))
  ∧ (∀ (p : KeyPort) (due half : Nat), p.state = .shiftingZero → p.shiftDue = some due → 514 ≤ due → half < 2 →
    let now := due - 514 + half
    p.kdat now = p.lastBit.getD false ∧ p.kclk now = decide (half = 1))
  ∧ (∀ (p : KeyPort) (now : Micros), p.state = .clear ∨ p.state = .presented → p.kdat now = false ∧ p.kclk now = false)
  ∧ (∀ s : State, s.kvalid = decide (s.keyPort.state = .presented) ∧ s.kdat = s.keyPort.kdat s.clock
    ∧ s.kclk = s.keyPort.kclk s.clock
    ∧ ∀ enable ready data o, s.outputs enable ready data = some o → o.kvalid = s.kvalid ∧ o.kdat = s.kdat ∧ o.kclk = s.kclk)

/-! ### Purge (Chapter 6) -/

/-- A member's PURGE above the own epoch opens a purge: journal OPEN with its write requested, PURGING with grant NONE, owner GUARD, no attempt and no key presented, the heard set empty, the PURGE offered with the own cause and target unless one is on its way, and offered again every 2 s while there are other members; at or below the own epoch it is ignored. While the journal is OPEN, a target above the journal's is raised, or kept for the next purge once the close has been requested; at the journal's target the sender joins the heard set; below it nothing changes. In HALTED, or with an unnamed cause, it is ignored. What of it is the model's and not the spec's: log entries 23 (the sender of an opening or raising PURGE is not in the heard set) and 55 (the largest of several pending targets). -/
def Obligations.MemberPurgeOpensThePurge : Prop :=
  (∀ (s : State) (f : RxFrame) (rest : List RxFrame) (cause : PurgeCause), s.isFront f rest → f.kind = .purge →
    s.roleOf f.sender ≠ .controller → PurgeCause.ofCode (u8 f.payload 0) = some cause →
    s.phase ≠ .uncommissioned → s.phase ≠ .halted → s.purge.journal.isOpen = false →
    let target := u16 f.payload 1
    let opened := if cause = .request ∧ s.roleOf f.sender = .keypadGuard ∧ s.phaseCtl.grant.isAdmin = true
      then PurgeCause.request else .epoch
    (s.verifier.held.epoch < target →
      ∃ t, exec .purge s = .next t ∧ s.purgeOpened t opened target
        ∧ (s.phase ≠ .verifying → s.store.inFlight = none → s.store.deciding = false → s.store.requests.purge = none →
            s.purge.writes.changed = [] →
            t.store.inFlight
              = some ⟨.purge, .journal ⟨true, some target, some opened, some .destroy, 0, false, false⟩, s.store.grants + 1⟩)
        ∧ t.purge.nextBlock = 0 ∧ t.purge.begun = false ∧ t.purge.pendingTarget = none
        ∧ (s.phase = .blank ∨ s.phase = .unlocked →
            t.slotTable.unlockedKey = none ∧ t.slotTable.enrollment = none)
        ∧ t.verifier.held.epoch = s.verifier.held.epoch ∧ t.verifier.hold = s.verifier.hold
        ∧ (s.keyFenced → t.verifier.attempt = none ∧ t.keyPort.state ≠ .presented)
        ∧ t.slotTable.slots = s.slotTable.slots ∧ s.keepsRecords t)
    ∧ (target ≤ s.verifier.held.epoch → exec .purge s = .next (s.taken rest).payRoll))
  ∧ (∀ (s : State) (f : RxFrame) (rest : List RxFrame) (cause : PurgeCause) (held : Nat), s.isFront f rest →
    f.kind = .purge → s.isMember f.sender = true → PurgeCause.ofCode (u8 f.payload 0) = some cause →
    s.phase ≠ .uncommissioned → s.phase ≠ .halted → s.purge.journal.isOpen = true → s.purge.journal.target = some held →
    let target := u16 f.payload 1
    (held < target → s.purge.closing = false → ∃ t, exec .purge s = .next t ∧ s.raisedTo t target)
    ∧ (held < target → s.purge.closing = true →
      ∃ t, exec .purge s = .next t ∧ t.purge.pendingTarget = some (max target (s.purge.pendingTarget.getD 0))
        ∧ t.purge.journal = s.purge.journal ∧ t.phaseCtl = s.phaseCtl ∧ t.verifier = s.verifier)
    ∧ (target = held → f.sender ≠ s.sn →
      ∃ t, exec .purge s = .next t ∧ t.purge.heard = s.purge.heard.set f.sender true
        ∧ t.purge.journal = s.purge.journal ∧ t.purge.pendingTarget = s.purge.pendingTarget
        ∧ t.phaseCtl = s.phaseCtl ∧ t.verifier = s.verifier)
    ∧ (target < held → exec .purge s = .next (s.taken rest).payRoll))
  ∧ (∀ (s : State) (f : RxFrame) (rest : List RxFrame), s.isFront f rest → f.kind = .purge →
    s.roleOf f.sender ≠ .controller → s.phase = .halted ∨ PurgeCause.ofCode (u8 f.payload 0) = none →
    exec .purge s = .next (s.taken rest).payRoll)

/-- The controller's PURGE, by the rows of Table 6-3: refused, invalid, opened, raised, or ignored; a target above the journal's during the close is kept for the next purge. DONE follows the journal write that stores the target. The re-offer of the PURGE, 2 s apart in a run of at most 15. What of it is the model's and not the spec's: log entries 2, 42, 55 and 68 (a target that a higher one overtook is answered at the write of that one). -/
def Obligations.ControllerPurgeAndReoffers : Prop :=
  (∀ (s : State) (f : RxFrame) (rest : List RxFrame), s.isFront f rest → f.kind = .purge →
    s.roleOf f.sender = .controller → s.phase ≠ .uncommissioned → s.phase ≠ .halted →
    let target := u16 f.payload 1
    let reply := fun (r : AnswerResult) => Host.Outcome.next ((s.taken rest).answers f.sender .purge r 0 target).payRoll
    let request := s.hostAdmin = true ∧ u8 f.payload 0 = 1
    (¬ request → exec .controllerPurge s = reply .refused)
    ∧ (request → s.purge.journal.isOpen = false → s.verifier.held.epoch = 65535 ∨ target ≤ s.verifier.held.epoch →
        exec .controllerPurge s = reply .invalid)
    ∧ (request → s.purge.journal.isOpen = false → s.verifier.held.epoch < target →
        ∃ t, exec .controllerPurge s = .next t
          ∧ t.purge.journal = ⟨true, some target, some .request, some .destroy, 0, false, false⟩
          ∧ t.phase = .purging ∧ t.gate.owner = .guard ∧ t.purge.waits = s.purge.waits ++ [⟨f.sender, target⟩])
    ∧ (request → s.purge.journal.isOpen = true → s.purge.journal.target.getD 0 < target → s.purge.closing = false →
        ∃ t, exec .controllerPurge s = .next t
          ∧ s.raisedTo t target ∧ t.purge.waits = s.purge.waits ++ [⟨f.sender, target⟩])
    ∧ (request → s.purge.journal.isOpen = true → s.purge.journal.target.getD 0 < target → s.purge.closing = true →
        ∃ t, exec .controllerPurge s = .next t
          ∧ t.purge.pendingTarget = some (max target (s.purge.pendingTarget.getD 0))
          ∧ t.purge.journal = s.purge.journal ∧ t.purge.waits = s.purge.waits ++ [⟨f.sender, target⟩])
    ∧ (request → s.purge.journal.isOpen = true → target ≤ s.purge.journal.target.getD 0 →
        exec .controllerPurge s = .next (s.taken rest).payRoll))
  ∧ (∀ (s : State) (j : Journal) (serial stored : Nat) (w : PurgeReply),
    s.writing .purge (.journal j) serial → s.phase = .purging → j.isOpen = true → j.target = some stored →
    s.purge.waits = [w] →
    ∃ t, exec .purgeWriteComplete s = .next t ∧ t.store.stored = { s.store.stored with journal := j }
      ∧ t.phaseCtl = s.phaseCtl
      ∧ (w.target ≤ stored →
          t.purge.waits = []
          ∧ (s.roster.rollOwed = false → t.line = (s.answers w.replyTo .purge .done 0 w.target).line))
      ∧ (stored < w.target → t.purge.waits = [w] ∧ (s.roster.rollOwed = false → t.line = s.line)))
  ∧ (∀ (s : State) (due : Micros), s.awake = true → s.purge.reoffer = some due →
    let late := (s.setClock (max s.clock due)).setPurge
      { s.purge with
        reoffer := if 15 ≤ s.purge.reoffered + 1 then none else some (due + 2000000)
        reoffered := s.purge.reoffered + 1 }
    (s.ownOutstanding .purge = true → exec .purgeReoffer s = .next late.payRoll)
    ∧ (∀ cause target, s.ownOutstanding .purge = false → s.purge.journal.cause = some cause →
        s.purge.journal.target = some target →
        exec .purgeReoffer s = .next (late.offer .purge none (byte cause.code :: bytes2 target)).payRoll))

/-- The purge from write to write. A stored stage begins its work: DESTROY clears every held record of the old epoch and writes the bad-block list; ERASE takes up the journal's next block, and begins REKEY when none is left; REKEY draws a new channel key into the blank key record; CLOSE gives attempt record and range table their values of the new epoch, and the hold stops. A record of the sequence in hand leads to the next, in CLOSE with TAMPERED cleared at the tamper flag and the journal written CLOSED last; after the last record of DESTROY the journal is written with stage ERASE, after that of REKEY with CLOSE. The stored close ends the purge: PURGED is offered, the phase is PURGE_WAIT, or BLANK once every other member has arrived, grant NONE, and the channel goes back to the controller unless a fault stands; a pending target opens the next purge. In PURGE_WAIT each ROLL and PURGED handled makes the test. What of it is the model's and not the spec's: log entries 3, 24 (an ERASE with no block left ends as complete, a channel fault or not), 33 (CLOSE drops the waiting answers of RANGEs), 42 and 54. -/
def Obligations.StoredJournalMovesThePurge : Prop :=
  (∀ (s : State) (j : Journal) (serial : Nat),
    s.writing .purge (.journal j) serial → s.phase = .purging → s.purge.journal = j → j.isOpen = true →
    s.purge.begun = false → s.purge.closing = false → s.purge.waits = [] →
    s.purge.writes = ⟨[.journal], false⟩ → s.store.requests.purge = none →
    ∃ t, exec .purgeWriteComplete s = .next t
      ∧ t.store.stored = { s.store.stored with journal := j } ∧ t.phaseCtl = s.phaseCtl ∧ t.keyPort = s.keyPort
      ∧ (j.stage = some .destroy →
          t.slotTable.slots = Vector.replicate 6 ⟨0, .empty, none⟩ ∧ t.slotTable.blankKey = none
          ∧ t.slotTable.salt = s.slotTable.salt ∧ t.purge.badBlocks = [] ∧ t.purge.journal = j
          ∧ t.store.inFlight = some ⟨.purge, .badBlocks [], s.store.grants + 1⟩
          ∧ t.purge.plan = destroyPlan ∧ t.verifier = s.verifier ∧ t.gate = s.gate)
      ∧ (j.stage = some .erase → s.gate.stepInFlight = false → s.blocks ≤ j.nextBlock →
          t.purge.journal = { j with stage := some .rekey } ∧ t.purge.begun = false
          ∧ t.store.inFlight = some ⟨.purge, .journal { j with stage := some .rekey }, s.store.grants + 1⟩
          ∧ t.verifier = s.verifier ∧ t.slotTable = s.slotTable ∧ t.gate = s.gate)
      ∧ (j.stage = some .erase → j.nextBlock < s.blocks → s.gate.channelFault = false → s.eraseCellOk = true →
          s.gate.holder = .guard → s.gate.handOver = .steady → s.gate.op = none → s.gate.periodicDue = false →
          let row := j.nextBlock * s.pagesPerBlock
          t.purge = { s.purge with nextBlock := j.nextBlock, begun := true, suspended := false, writes := ⟨[], false⟩ }
          ∧ t.gate
              = { s.gate with
                  op := some (.eraseStep j.nextBlock (s.clock + 20000))
                  driven := [0x60, byte row, byte (row / 256), byte (row / 65536), 0xD0] }
          ∧ t.verifier = s.verifier ∧ t.slotTable = s.slotTable)
      ∧ (j.stage = some .rekey →
          t.slotTable = { s.slotTable with blankKey := some (Config.freeKey s.draws) } ∧ t.draws = s.draws + 1
          ∧ t.store.inFlight = some ⟨.purge, .blankKey (some (Config.freeKey s.draws)), s.store.grants + 1⟩
          ∧ t.purge.plan = [.blankKey] ∧ t.purge.journal = j ∧ t.verifier = s.verifier ∧ t.gate = s.gate)
      ∧ (∀ target, j.stage = some .close → j.target = some target →
          t.verifier = { s.verifier with held := ⟨target, 0, 0⟩, hold := none }
          ∧ t.gate
              = { s.gate with
                  waits := []
                  ranges := #v[⟨true, 0, s.blocks - 1, true, true, .user, false⟩, .disabled, .disabled, .disabled, .disabled,
                    .disabled, .disabled, .disabled] }
          ∧ t.store.inFlight = some ⟨.purge, .attempt ⟨target, 0, 0⟩, s.store.grants + 1⟩
          ∧ t.purge.plan = closePlan ∧ t.purge.journal = j ∧ t.slotTable = s.slotTable))
  ∧ (∀ (s : State) (c : Contents) (serial : Nat) (rest : List RecordId),
    s.writing .purge c serial → s.phase = .purging → c.record ≠ .journal → s.purge.plan = c.record :: rest →
    s.purge.journal.isOpen = true → s.purge.closing = false → s.purge.writes = ⟨[c.record], false⟩ →
    s.store.requests.purge = none →
    ∃ t, exec .purgeWriteComplete s = .next t
      ∧ t.store.stored = s.store.stored.put c ∧ t.purge.plan = rest
      ∧ t.phaseCtl = s.phaseCtl ∧ t.verifier = s.verifier ∧ t.slotTable = s.slotTable ∧ t.gate = s.gate ∧ t.keyPort = s.keyPort
      ∧ (∀ record more, rest = record :: more → record ≠ .tamper → record ≠ .journal →
          t.store.inFlight = some ⟨.purge, s.heldContents record, s.store.grants + 1⟩
          ∧ t.purge.journal = s.purge.journal ∧ t.supervisor = s.supervisor)
      ∧ (∀ more, rest = .tamper :: more →
          t.store.inFlight = some ⟨.purge, .tamper false, s.store.grants + 1⟩
          ∧ t.purge.journal = s.purge.journal ∧ t.supervisor = { s.supervisor with tampered := false })
      ∧ (∀ more, rest = .journal :: more → s.purge.journal.stage = some .close →
          t.store.inFlight = some ⟨.purge, .journal { s.purge.journal with isOpen := false }, s.store.grants + 1⟩
          ∧ t.purge.closing = true ∧ t.purge.journal = s.purge.journal ∧ t.supervisor = s.supervisor)
      ∧ (rest = [] → s.purge.journal.stage = some .destroy →
          t.purge.journal = { s.purge.journal with stage := some .erase } ∧ t.purge.begun = false
          ∧ t.store.inFlight
              = some ⟨.purge, .journal { s.purge.journal with stage := some .erase, nextBlock := s.purge.nextBlock },
                  s.store.grants + 1⟩)
      ∧ (rest = [] → s.purge.journal.stage = some .rekey →
          t.purge.journal = { s.purge.journal with stage := some .close } ∧ t.purge.begun = false
          ∧ t.store.inFlight
              = some ⟨.purge, .journal { s.purge.journal with stage := some .close }, s.store.grants + 1⟩))
  ∧ (∀ (s : State) (j : Journal) (serial : Nat),
    s.writing .purge (.journal j) serial → s.phase = .purging → j.isOpen = false → s.purge.closing = true →
    s.purge.journal.isOpen = true → s.purge.waits = [] → s.purge.writes = ⟨[.journal], false⟩ →
    let arrived := ∀ n ∈ s.others, ∃ r, s.roster.entries[n].last = some (.guard r) ∧ s.epoch ≤ r.epoch ∧ r.phase ≠ .purging
    ∃ t, exec .purgeWriteComplete s = .next t
      ∧ t.store.stored = { s.store.stored with journal := j }
      ∧ t.verifier = s.verifier ∧ t.keyPort = s.keyPort ∧ t.gate.ranges = s.gate.ranges
      ∧ (s.purge.pendingTarget = none →
          (arrived → t.phase = .blank) ∧ (¬ arrived → t.phase = .purgeWait)
          ∧ t.phaseCtl.grant = .none ∧ t.gate.grant = .none
          ∧ t.gate.owner = (if s.gate.channelFault = true then .none else .controller)
          ∧ t.purge.journal = { s.purge.journal with isOpen := false } ∧ t.slotTable = s.slotTable
          ∧ (s.line.tx.length < 4 → ∃ f ∈ t.line.tx, f.kind = .purged
              ∧ f.payload
                = bytes2 s.epoch
                  ++ [byte ((if s.purge.journal.eraseIncomplete = true then 128 else 0)
                      + (if s.purge.journal.listFull = true then 64 else 0)), byte s.purge.badBlocks.length]))
      ∧ (∀ target, s.purge.pendingTarget = some target →
          s.purgeOpened t .epoch target ∧ t.purge.pendingTarget = none))
  ∧ (∀ (s : State) (f : RxFrame) (rest : List RxFrame), s.isFront f rest → s.phase = .purgeWait →
    let tested := fun (t : State) =>
      let arrived := ∀ n ∈ s.others, ∃ r, t.roster.entries[n].last = some (.guard r) ∧ s.epoch ≤ r.epoch ∧ r.phase ≠ .purging
      (arrived → t.phase = .blank) ∧ (¬ arrived → t.phase = .purgeWait) ∧ s.keepsRecords t
    (∀ role r, f.kind = .roll → readRoll f.payload = some (.guard role r) → s.roleOf f.sender = role → r.epoch ≤ s.epoch →
      f.sender = s.sn ∨ r.phase = .purging ∨ r.epoch < s.epoch ∨ ¬ s.raises r.serial r.count ∨ r.count < s.failureLimit →
      ∃ t, exec .roll s = .next t ∧ tested t)
    ∧ (f.kind = .roll → readRoll f.payload = some .controller → s.roleOf f.sender = .controller →
      ∃ t, exec .roll s = .next t ∧ tested t)
    ∧ (f.kind = .purged → s.isMember f.sender = true → f.sender = s.sn ∨ u16 f.payload 0 ≤ s.epoch →
      ∃ t, exec .purged s = .next t ∧ tested t))

/-- The end of an erase step: the status is read with 70h, the held next block rises, a failed block joins the bad-block list once while it has room, and the fault count returns to 0; the step that follows drives 60h, the row of the block's first page and D0h. After the step on the last block the journal takes stage REKEY and its write is requested. A failed block that finds the list full sets the list-full flag. A next block at a multiple of 64 below the last is checkpointed in the journal, any other is not. An expiry is counted and starts a recovery reset, driven as FFh; the third in a row makes CHANNEL_FAULT with its fault period, and under policy ALL a LOCK with cause FAULT. The step in hand ends with its reset, and ERASE then ends early: stage REKEY with the erase-incomplete flag and the held next block. What of it is the model's and not the spec's: log entries 2 and 25. -/
def Obligations.EraseStepsEnd : Prop :=
  (∀ (s : State) (n : Nat) (due : Micros) (status : Byte), s.awake = true → s.gate.op = some (.eraseStep n due) →
    (∃ t, exec (.eraseStepReady status) s = .next t
      ∧ t.purge.nextBlock = s.purge.nextBlock + 1
      ∧ t.purge.badBlocks
          = (if status.getLsbD 0 = true ∧ n ∉ s.purge.badBlocks ∧ s.purge.badBlocks.length < 32
             then s.purge.badBlocks ++ [n] else s.purge.badBlocks)
      ∧ (status.getLsbD 0 = true → n ∉ s.purge.badBlocks → 32 ≤ s.purge.badBlocks.length →
          t.purge.journal.listFull = true ∧ (.journal ∈ t.purge.writes.changed ∨ t.purge.writes.rechanged = true))
      ∧ (status.getLsbD 0 = false ∨ n ∈ s.purge.badBlocks ∨ s.purge.badBlocks.length < 32 →
          t.purge.journal.listFull = s.purge.journal.listFull)
      ∧ (status.getLsbD 0 = true → n ∉ s.purge.badBlocks → s.purge.badBlocks.length < 32 →
          .badBlocks ∈ t.purge.writes.changed ∨ t.purge.writes.rechanged = true)
      ∧ (s.purge.nextBlock + 1 < s.blocks →
          ((s.purge.nextBlock + 1) % 64 = 0 →
            t.purge.journal.nextBlock = s.purge.nextBlock + 1
            ∧ (.journal ∈ t.purge.writes.changed ∨ t.purge.writes.rechanged = true))
          ∧ ((s.purge.nextBlock + 1) % 64 ≠ 0 → s.gate.channelFault = false → s.eraseCellOk = true →
            t.purge.journal.nextBlock = s.purge.journal.nextBlock))
      ∧ t.gate.faultCount = (if s.gate.channelFault = true then s.gate.faultCount else 0)
      ∧ t.gate.channelFault = s.gate.channelFault
      ∧ (t.gate.op = none → t.gate.driven = s.gate.driven ++ [0x70])
      ∧ (∀ m d, t.gate.op = some (.eraseStep m d) →
          let row := m * s.pagesPerBlock
          m = t.purge.nextBlock ∧ t.gate.driven = [0x60, byte row, byte (row / 256), byte (row / 65536), 0xD0])
      ∧ (s.erasing = true → s.blocks ≤ s.purge.nextBlock + 1 →
          t.purge.journal.stage = some .rekey ∧ t.purge.journal.nextBlock = s.purge.nextBlock + 1
          ∧ t.purge.journal.eraseIncomplete = s.purge.journal.eraseIncomplete ∧ t.purge.begun = false
          ∧ (.journal ∈ t.purge.writes.changed ∨ t.purge.writes.rechanged = true))
      ∧ t.phaseCtl = s.phaseCtl ∧ t.verifier = s.verifier ∧ t.slotTable = s.slotTable ∧ t.keyPort = s.keyPort
      ∧ s.keepsRecords t)
    ∧ (s.gate.channelFault = false → s.gate.faultCount < 2 →
      exec .eraseStepTimeout s
        = .next ((s.setClock (max s.clock due)).setGate
            { s.gate with
              op := some (.recoveryReset (.erase n) (max s.clock due + 20000)), driven := [0xFF]
              stepTimeout := true, faultCount := s.gate.faultCount + 1 }).payRoll)
    ∧ (s.gate.channelFault = false → s.gate.faultCount = 2 → s.purge.journal.isOpen = true → s.gate.owner = .guard →
      let faulty := (s.setClock (max s.clock due)).setGate
        { s.gate with
          op := some (.recoveryReset (.erase n) (max s.clock due + 20000)), driven := [0xFF]
          stepTimeout := true, faultCount := 3, channelFault := true, faultPeriod := some (max s.clock due + 1000000) }
      (s.faultPolicyAll = false ∨ s.ownOutstanding .lock = true → exec .eraseStepTimeout s = .next faulty.payRoll)
      ∧ (s.faultPolicyAll = true → s.ownOutstanding .lock = false →
        exec .eraseStepTimeout s = .next (faulty.offer .lock none [byte 2]).payRoll)))
  ∧ (∀ (s : State) (n : Nat) (due : Micros) (c : Instr), s.awake = true →
    s.gate.op = some (.recoveryReset (.erase n) due) → c = .recoveryResetReady ∨ c = .recoveryResetTimeout →
    s.gate.channelFault = true → s.erasing = true → s.purge.nextBlock + 1 < s.blocks →
    ∃ t, exec c s = .next t
      ∧ t.purge.journal.isOpen = true ∧ t.purge.journal.stage = some .rekey
      ∧ t.purge.journal.nextBlock = s.purge.nextBlock + 1
      ∧ t.purge.journal.eraseIncomplete = true ∧ t.purge.begun = false ∧ t.purge.suspended = false
      ∧ (.journal ∈ t.purge.writes.changed ∨ t.purge.writes.rechanged = true)
      ∧ t.gate.channelFault = true ∧ t.gate.faultCount = s.gate.faultCount
      ∧ (∀ m d, t.gate.op ≠ some (.eraseStep m d)) ∧ t.phaseCtl = s.phaseCtl)

/-- Purge progress: stage and percentage as the journal gives them; the suspended flag as ROLL and STATUS show it, set and cleared with the cell condition of ERASE, and clear at an opening and at the end of ERASE. The writes of DESTROY, of CLOSE and of initial keying, in their orders. The owner of Table 7-2, its rows in order. A block is admitted by an enabled entry that holds it, permits the class and is visible under the grant for that class. What of it is the model's and not the spec's: log entry 63 (the gate of a HALTED station whose journal is OPEN has owner GUARD by the first row, where R202 has NONE). -/
def Obligations.PurgeAndGateTables : Prop :=
  (∀ s : State,
    (s.purge.journal.isOpen = false → s.progressStage = none ∧ s.progressPercent = 100)
    ∧ (s.purge.journal.isOpen = true → s.progressStage = s.purge.journal.stage)
    ∧ (s.purge.journal.isOpen = true → s.purge.journal.stage = some .destroy → s.progressPercent = 0)
    ∧ (s.purge.journal.isOpen = true → s.purge.journal.stage = some .erase →
        s.progressPercent = s.purge.nextBlock * 100 / s.blocks)
    ∧ (s.purge.journal.isOpen = true → s.purge.journal.stage = some .rekey ∨ s.purge.journal.stage = some .close →
        s.progressPercent = 100)
    ∧ byteAt s.rollPayload 8 = byte (s.phase.code * 16 + (if s.purge.suspended = true then 8 else 0))
    ∧ byteAt s.rollPayload 9 = byte s.progressPercent
    ∧ byteAt s.statusPayload 1
        = byte (s.phaseCtl.grant.kindCode * 64 + s.phaseCtl.grant.shown.1 * 8
            + (if s.phaseCtl.grant.shown.2 = true then 4 else 0) + (if s.purge.journal.isOpen = true then 2 else 0)
            + (if s.purge.suspended = true then 1 else 0))
    ∧ s.suspendOrResume.purge.suspended = !s.eraseCellOk
    ∧ (∀ early, (s.endErase early).purge.suspended = false)
    ∧ (∀ cause target, (s.openPurge cause target).purge.suspended = false))
  ∧ (destroyPlan = [.badBlocks, .slot 0, .slot 1, .slot 2, .slot 3, .slot 4, .slot 5, .blankKey]
  ∧ closePlan = [.attempt, .range 0, .range 1, .range 2, .range 3, .range 4, .range 5, .range 6, .range 7, .tamper, .journal]
  ∧ keyingPlan = [.salt, .blankKey, .attempt, .slot 0, .slot 1, .slot 2, .slot 3, .slot 4, .slot 5, .range 0, .range 1,
      .range 2, .range 3, .range 4, .range 5, .range 6, .range 7, .journal, .badBlocks])
  ∧ (∀ (p : Phase) (journalOpen fault : Bool),
    (journalOpen = true → ownerFor p journalOpen fault = .guard)
    ∧ (journalOpen = false → p = .halted ∨ p = .uncommissioned → ownerFor p journalOpen fault = .none)
    ∧ (journalOpen = false → p ≠ .halted → p ≠ .uncommissioned → fault = true → ownerFor p journalOpen fault = .none)
    ∧ (journalOpen = false → p ≠ .halted → p ≠ .uncommissioned → fault = false →
        ownerFor p journalOpen fault = .controller))
  ∧ (∀ (g : Gate) (block : Nat),
    let visible := fun (e : RangeEntry) (c : CommandClass) =>
      match g.grant with
      | .none => False
      | .pub => e.visibility = .pub ∧ c = .read
      | .user _ readOnly => e.visibility ≠ .admin ∧ (readOnly = true → c = .read)
      | .admin _ readOnly => readOnly = true → c = .read
    let lies := fun (e : RangeEntry) => e.enabled = true ∧ e.base ≤ block ∧ block ≤ e.limit
    (g.admits .read block = true ↔ ∃ i : RangeNo, lies g.ranges[i] ∧ g.ranges[i].read = true ∧ visible g.ranges[i] .read)
    ∧ (g.admits .program block = true ↔
        ∃ i : RangeNo, lies g.ranges[i] ∧ g.ranges[i].write = true ∧ visible g.ranges[i] .program)
    ∧ (g.admits .erase block = true ↔
        ∃ i : RangeNo, lies g.ranges[i] ∧ g.ranges[i].write = true ∧ visible g.ranges[i] .erase))

/-! ### The channel gate (Chapter 7) -/

/-- A READ, PROGRAM or ERASE is held while its address is taken and decided once at its third row cycle: passed with its cycles in order, or denied with GATE_DENIED. A CONTROL command is decided at its opening cycle by holder and hand-over alone; a CONTROL cycle within a passed command is forwarded, within a denied one suppressed, and it breaks an address off. While a passed command lasts the channel side follows the controller's chip enable and flash data and ready go back; a denied command shows DENY low, ready, and all ones; DENY low stays low through the boundary to a command that follows on at once, until that command is decided; ready is shown whenever the flash's own is not; without a supply no output is driven. An opening code ends a passed command, which is waited for until ready, and makes a held one denied; a command that begins during the drain of the controller is denied when its address is taken, whatever holds by then, and a drain whose ready is seen goes on to the settle. What of it is the model's and not the spec's: log entries 27, 52, 53 and 65 (the denial of a command that begins in a drain falls at the moment its address is taken; one that began in another step of a hand-over is decided by what holds then). -/
def Obligations.FlashCommandsAreDecidedOnce : Prop :=
  (∀ (s : State) (c0 c1 r0 r1 r2 : Byte) (ready : Bool), s.awake = true → s.gate.flashBusy = false →
    (∀ due, s.gate.handOver ≠ .draining (some due)) →
    let block := (r0.toNat + r1.toNat * 256 + r2.toNat * 65536) / s.pagesPerBlock
    let decided := fun (c : CommandClass) (cycles : List Byte) =>
      Host.Outcome.next (s.setGate
        (if s.gate.holder = .controller ∧ s.gate.handOver = .steady ∧ s.gate.admits c block = true
         then { s.gate with command := .passed cycles false }
         else { s.gate with command := .denied, gateDenied := true })).payRoll
    let held := fun (code : Byte) =>
      Host.Outcome.next (s.setGate { s.gate with command := .takingAddress code s.denyLow false }).payRoll
    let free := fun (code : Byte) =>
      s.gate.command = .idle ∨ s.gate.command = .denied ∨ ∃ low, s.gate.command = .takingAddress code low false
    (free 0x00 → exec (.read00h (.address c0 c1 r0 r1 r2) ready) s = decided .read [0x00, c0, c1, r0, r1, r2])
    ∧ (free 0x05 → exec (.read05h (.address c0 c1 r0 r1 r2) ready) s = decided .read [0x05, c0, c1, r0, r1, r2])
    ∧ (free 0x80 → exec (.program80h (.address c0 c1 r0 r1 r2) ready) s = decided .program [0x80, c0, c1, r0, r1, r2])
    ∧ (free 0x85 → exec (.program85h (.address c0 c1 r0 r1 r2) ready) s = decided .program [0x85, c0, c1, r0, r1, r2])
    ∧ (free 0x60 → exec (.erase60h (.address r0 r1 r2) ready) s = decided .erase [0x60, r0, r1, r2])
    ∧ (s.gate.command = .idle ∨ s.gate.command = .denied →
        exec (.read00h .opening ready) s = held 0x00 ∧ exec (.read05h .opening ready) s = held 0x05
        ∧ exec (.program80h .opening ready) s = held 0x80 ∧ exec (.program85h .opening ready) s = held 0x85
        ∧ exec (.erase60h .opening ready) s = held 0x60))
  ∧ (∀ (s : State) (c0 c1 r0 r1 r2 : Byte) (ready : Bool), s.awake = true →
    let block := (r0.toNat + r1.toNat * 256 + r2.toNat * 65536) / s.pagesPerBlock
    let gate := fun (g : Gate) => Host.Outcome.next (s.setGate g).payRoll
    let decided := fun (g : Gate) (c : CommandClass) (cycles : List Byte) =>
      gate (if g.holder = .controller ∧ g.handOver = .steady ∧ g.admits c block = true
        then { g with command := .passed cycles false }
        else { g with command := .denied, gateDenied := true })
    let opens := fun (out : Byte → Host.Outcome State Fault Refusal) =>
      exec (.read00h .opening ready) s = out 0x00 ∧ exec (.read05h .opening ready) s = out 0x05
      ∧ exec (.program80h .opening ready) s = out 0x80 ∧ exec (.program85h .opening ready) s = out 0x85
      ∧ exec (.erase60h .opening ready) s = out 0x60
    let whole := fun (asked : Byte → Prop) (out : CommandClass → List Byte → Host.Outcome State Fault Refusal) =>
      (asked 0x00 → exec (.read00h (.address c0 c1 r0 r1 r2) ready) s = out .read [0x00, c0, c1, r0, r1, r2])
      ∧ (asked 0x05 → exec (.read05h (.address c0 c1 r0 r1 r2) ready) s = out .read [0x05, c0, c1, r0, r1, r2])
      ∧ (asked 0x80 → exec (.program80h (.address c0 c1 r0 r1 r2) ready) s = out .program [0x80, c0, c1, r0, r1, r2])
      ∧ (asked 0x85 → exec (.program85h (.address c0 c1 r0 r1 r2) ready) s = out .program [0x85, c0, c1, r0, r1, r2])
      ∧ (asked 0x60 → exec (.erase60h (.address r0 r1 r2) ready) s = out .erase [0x60, r0, r1, r2])
    (∀ cycles ended, s.gate.command = .passed cycles ended → (∀ due, s.gate.handOver ≠ .draining (some due)) →
      let waiting := { s.gate with flashBusy := !ready }
      opens (fun code => gate { waiting with command := .takingAddress code false false })
      ∧ whole (fun _ => True) (decided waiting))
    ∧ (∀ held low inDrain, s.gate.command = .takingAddress held low inDrain → s.gate.flashBusy = false →
      (∀ due, s.gate.handOver ≠ .draining (some due)) →
      let broken := { s.gate with gateDenied := true }
      opens (fun code => gate { broken with command := .takingAddress code true false })
      ∧ whole (fun code => code ≠ held) (decided broken))
    ∧ (∀ held low, s.gate.command = .takingAddress held low true → (∀ due, s.gate.handOver ≠ .draining (some due)) →
      whole (fun code => code = held) (fun _ _ =>
        gate { s.gate with
          flashBusy := s.gate.flashBusy && !ready, command := .denied, gateDenied := true }))
    ∧ (∀ due, s.gate.handOver = .draining (some due) → s.gate.channelFault = false →
      let seen := if ready = true
        then { s.gate with flashBusy := false, faultCount := 0, handOver := .settling (s.clock + 1000) }
        else { s.gate with flashBusy := true }
      let denied := gate { seen with command := .denied, gateDenied := true }
      (∀ cycles ended, s.gate.command = .passed cycles ended →
        opens (fun code => gate { seen with command := .takingAddress code false true })
        ∧ whole (fun _ => True) (fun _ _ => denied))
      ∧ (s.gate.command = .idle ∨ s.gate.command = .denied → s.gate.flashBusy = true →
        opens (fun code => gate { seen with command := .takingAddress code s.denyLow true })
        ∧ whole (fun _ => True) (fun _ _ => denied))
      ∧ (∀ held low inDrain, s.gate.command = .takingAddress held low inDrain → s.gate.flashBusy = true →
        whole (fun code => code = held) (fun _ _ => denied))))
  ∧ (∀ (s : State) (code : Byte), s.awake = true → code ∉ openingCodes →
    (s.gate.command = .idle → s.gate.holder = .controller → s.gate.handOver = .steady →
      exec (.controlCommand code) s = .next (s.setGate { s.gate with command := .passed [code] false }).payRoll)
    ∧ (s.gate.command = .idle → ¬ (s.gate.holder = .controller ∧ s.gate.handOver = .steady) →
      exec (.controlCommand code) s = .next (s.setGate { s.gate with command := .denied, gateDenied := true }).payRoll)
    ∧ (∀ cycles, s.gate.command = .passed cycles true → s.gate.holder = .controller → s.gate.handOver = .steady →
      exec (.controlCommand code) s
        = .next (s.setGate { s.gate with command := .passed [code] false, flashBusy := true }).payRoll)
    ∧ (∀ cycles, s.gate.command = .passed cycles false →
      exec (.controlCommand code) s = .next (s.setGate { s.gate with command := .passed (cycles ++ [code]) false }).payRoll)
    ∧ (∀ held low inDrain, s.gate.command = .takingAddress held low inDrain →
      exec (.controlCommand code) s = .next (s.setGate { s.gate with command := .denied, gateDenied := true }).payRoll)
    ∧ (s.gate.command = .denied → exec (.controlCommand code) s = .next s.payRoll))
  ∧ (∀ (s : State) (enable ready : Bool) (data : Byte),
    (s.supervisor.supplyValid = false → s.outputs enable ready data = none)
    ∧ (s.supervisor.supplyValid = true → ∃ o, s.outputs enable ready data = some o
      ∧ o.deny = !s.denyLow
      ∧ (∀ cycles, s.awake = true → s.gate.command = .passed cycles false →
        o.channelEnable = enable ∧ o.data = data ∧ o.deny = true
        ∧ (s.gate.holder = .controller → s.gate.op = none → o.ready = ready))
      ∧ (s.gate.command = .denied → o.deny = false ∧ o.ready = true ∧ o.data = 0xFF ∧ o.channelEnable = false)
      ∧ (∀ code low inDrain, s.gate.command = .takingAddress code low inDrain → o.deny = !low)
      ∧ (s.gate.command = .idle → o.deny = true)
      ∧ ((∀ cycles, s.gate.command ≠ .passed cycles false) → o.data = 0xFF ∧ o.channelEnable = false)
      ∧ (s.gate.holder ≠ .controller ∨ s.gate.op.isSome = true ∨ s.awake = false → o.ready = true)
      ∧ (s.awake = false → o.channelEnable = false)))

/-- A command ends at the release of chip enable: a passed one is over once ready is seen, a denied one and one without its address are over at once; an address that breaks off is denied. A drain ends when the command in flight is over: the fault count returns to 0 and the settle of 1 ms begins. A flash operation that an ended command left behind is waited for in the same way, whether the controller has since begun another command or not: ready, seen by itself or at the end of that command, ends the drain, and a command that is denied meanwhile stays so until its own end. What of it is the model's and not the spec's: log entry 25. -/
def Obligations.CommandsEndWithReady : Prop :=
  (∀ (s : State), s.awake = true → s.gate.flashBusy = false → (∀ due, s.gate.handOver ≠ .draining (some due)) →
    let gate := fun (g : Gate) => Host.Outcome.next (s.setGate g).payRoll
    (∀ cycles ended, s.gate.command = .passed cycles ended →
      exec (.commandEnd true) s = gate { s.gate with command := .idle }
      ∧ exec (.commandEnd false) s = gate { s.gate with command := .passed cycles true })
    ∧ (∀ ready, s.gate.command = .denied → exec (.commandEnd ready) s = gate { s.gate with command := .idle })
    ∧ (∀ ready code low inDrain, s.gate.command = .takingAddress code low inDrain →
      exec (.commandEnd ready) s = gate { s.gate with command := .idle, gateDenied := true })
    ∧ (∀ cycles, s.gate.command = .passed cycles true → exec .flashReady s = gate { s.gate with command := .idle })
    ∧ (∀ cycles, s.gate.command = .passed cycles false → exec .flashReady s = .next s.payRoll)
    ∧ (∀ code low inDrain, s.gate.command = .takingAddress code low inDrain →
      exec .addressTakingBroken s = gate { s.gate with command := .denied, gateDenied := true }))
  ∧ (∀ (s : State) (due : Micros) (cycles : List Byte), s.awake = true → s.gate.handOver = .draining (some due) →
    s.gate.channelFault = false →
    let settled := { s.gate with
      command := .idle, flashBusy := false, faultCount := 0, handOver := .settling (s.clock + 1000) }
    (s.gate.command = .passed cycles true → exec .flashReady s = .next (s.setGate settled).payRoll)
    ∧ (s.gate.command = .passed cycles false →
        exec .flashReady s = .next (s.setGate { s.gate with flashBusy := false }).payRoll)
    ∧ (∀ ended, s.gate.command = .passed cycles ended →
        exec (.commandEnd false) s = .next (s.setGate { s.gate with command := .passed cycles true }).payRoll)
    ∧ (∀ ended, s.gate.command = .passed cycles ended → exec (.commandEnd true) s = .next (s.setGate settled).payRoll))
  ∧ (∀ (s : State) (due : Micros), s.awake = true → s.gate.handOver = .draining (some due) → s.gate.channelFault = false →
    s.gate.flashBusy = true →
    let settled := { s.gate with flashBusy := false, faultCount := 0, handOver := .settling (s.clock + 1000) }
    let gate := fun (g : Gate) => Host.Outcome.next (s.setGate g).payRoll
    ((∀ cycles ended, s.gate.command ≠ .passed cycles ended) → exec .flashReady s = gate settled)
    ∧ (s.gate.command = .idle ∨ s.gate.command = .denied →
      exec (.commandEnd true) s = gate { settled with command := .idle }
      ∧ exec (.commandEnd false) s = gate { s.gate with command := .idle })
    ∧ (∀ code low inDrain, s.gate.command = .takingAddress code low inDrain →
      exec (.commandEnd true) s = gate { settled with command := .idle, gateDenied := true }
      ∧ exec (.commandEnd false) s = gate { s.gate with command := .idle, gateDenied := true }
      ∧ exec .addressTakingBroken s = gate { s.gate with command := .denied, gateDenied := true }))
  ∧ (∀ s : State, s.awake = true → s.gate.flashBusy = true → (∀ due, s.gate.handOver ≠ .draining (some due)) →
    (∀ cycles, s.gate.command ≠ .passed cycles true) →
    exec .flashReady s = .next (s.setGate { s.gate with flashBusy := false }).payRoll)

/-- A change of owner, as at the opening of a purge, begins a hand-over, unless one is under way: a controller's command in flight drains for at most 20 ms, one whose address is being taken is denied, the gate's own work in flight is waited for, and with nothing in flight the settle of 1 ms begins at once. An expired drain, behind a command in flight or behind a flash that an ended command left busy, latches STEP_TIMEOUT, counts the expiry, denies the rest of a command that was passed and issues a recovery reset, driven as FFh; the third expiry in a row makes CHANNEL_FAULT, and an ERASE that is under way then ends early at once. The settle ends: the owner in force takes the channel, and an erase that waited for it begins with the engine's next block, driven as 60h, the row of its first page and D0h. What of it is the model's and not the spec's: log entries 2, 24, 25 and 26. -/
def Obligations.DrainAndSettleEnd : Prop :=
  (∀ s : State,
    let owner := ownerFor s.phase s.purge.journal.isOpen s.gate.channelFault
    (owner = s.gate.owner → s.recomputeOwner = s)
    ∧ (owner ≠ s.gate.owner →
      s.recomputeOwner = s.setGate s.recomputeOwner.gate ∧ s.gate.handsOverTo s.recomputeOwner.gate owner s.clock))
  ∧ (∀ (s : State) (f : RxFrame) (rest : List RxFrame) (cause : PurgeCause),
    s.isFront f rest → f.kind = .purge → s.roleOf f.sender ≠ .controller →
    PurgeCause.ofCode (u8 f.payload 0) = some cause → s.phase ≠ .uncommissioned → s.phase ≠ .halted →
    s.purge.journal.isOpen = false → s.epoch < u16 f.payload 1 → s.gate.owner ≠ .guard →
    ∃ t, exec .purge s = .next t ∧ { s.gate with grant := .none }.handsOverTo t.gate .guard s.clock)
  ∧ (∀ (s : State) (due : Micros) (cut : Gate), s.awake = true → s.gate.handOver = .draining (some due) →
    s.gate.cutOffTo cut →
    let reset := fun (count : Nat) => Host.Outcome.next ((s.setClock (max s.clock due)).setGate
      { cut with
        handOver := .resetting, flashBusy := false
        op := some (.recoveryReset .drain (max s.clock due + 20000)), driven := [0xFF]
        stepTimeout := true, faultCount := count }).payRoll
    (s.gate.channelFault = true → exec .drainExpire s = reset s.gate.faultCount)
    ∧ (s.gate.channelFault = false → s.gate.faultCount < 2 → exec .drainExpire s = reset (s.gate.faultCount + 1))
    ∧ (s.gate.channelFault = false → s.gate.faultCount = 2 →
      ∃ t, exec .drainExpire s = .next t
        ∧ t.gate.channelFault = true ∧ t.gate.faultCount = 3 ∧ t.gate.faultPeriod = some (max s.clock due + 1000000)
        ∧ t.gate.stepTimeout = true ∧ t.gate.handOver = .resetting
        ∧ t.gate.command = cut.command ∧ t.gate.gateDenied = cut.gateDenied ∧ t.gate.flashBusy = false
        ∧ t.gate.op = some (.recoveryReset .drain (max s.clock due + 20000)) ∧ t.gate.driven = [0xFF]
        ∧ t.gate.owner = ownerFor s.phase s.purge.journal.isOpen true
        ∧ (s.faultPolicyAll = true → s.ownOutstanding .lock = false → s.line.tx.length < 4 →
            ∃ f ∈ t.line.tx, f.kind = .lock ∧ f.payload = [2])
        ∧ (s.faultPolicyAll = false → s.roster.rollOwed = false → t.line = s.line)
        ∧ (s.erasing = false → t.purge = s.purge)
        ∧ (s.erasing = true →
            t.purge.journal
              = { s.purge.journal with
                  stage := some .rekey, nextBlock := s.purge.nextBlock
                  eraseIncomplete := s.purge.journal.eraseIncomplete || decide (s.purge.nextBlock < s.blocks) }
            ∧ t.purge.begun = false ∧ t.purge.suspended = false
            ∧ (.journal ∈ t.purge.writes.changed ∨ t.purge.writes.rechanged = true))
        ∧ t.phaseCtl = s.phaseCtl ∧ t.keyPort = s.keyPort ∧ t.verifier = s.verifier ∧ s.keepsRecords t))
  ∧ (∀ (s : State) (due : Micros), s.awake = true → s.gate.handOver = .settling due →
    s.gate.periodicDue = false → s.gate.op = none →
    let taken := { s.gate with holder := s.gate.owner, handOver := .steady }
    let row := s.purge.nextBlock * s.pagesPerBlock
    (s.erasing = false → exec .settleEnd s = .next ((s.setClock (max s.clock due)).setGate taken).payRoll)
    ∧ (s.erasing = true → s.gate.owner = .guard → s.gate.channelFault = false → s.purge.suspended = false →
        s.eraseCellOk = true → s.purge.nextBlock < s.blocks →
        exec .settleEnd s
          = .next ((s.setClock (max s.clock due)).setGate
              { taken with
                op := some (.eraseStep s.purge.nextBlock (max s.clock due + 20000))
                driven := [0x60, byte row, byte (row / 256), byte (row / 65536), 0xD0] }).payRoll))

/-- Recovery resets end: that of a drain in the settle; a periodic one clears the fault when ready comes and leaves it standing when it expires, with STEP_TIMEOUT; that of an erase step ends the step with its block bad. The fault period runs on by 1 s from its due time, and its recovery reset is issued at once on a free channel. What of it is the model's and not the spec's: log entries 2 and 25. -/
def Obligations.RecoveryResetsRunTheirCourse : Prop :=
  (∀ (s : State) (due : Micros), s.awake = true →
    (s.gate.op = some (.recoveryReset .drain due) → s.gate.handOver = .resetting → s.erasing = false →
      exec .recoveryResetReady s
          = .next (s.setGate { s.gate with op := none, handOver := .settling (s.clock + 1000) }).payRoll
      ∧ exec .recoveryResetTimeout s
          = .next ((s.setClock (max s.clock due)).setGate
              { s.gate with op := none, stepTimeout := true, handOver := .settling (max s.clock due + 1000) }).payRoll)
    ∧ (s.gate.op = some (.recoveryReset .periodic due) → s.gate.handOver = .steady → s.gate.channelFault = true →
      s.gate.periodicDue = false → s.erasing = false →
      exec .recoveryResetTimeout s
          = .next ((s.setClock (max s.clock due)).setGate { s.gate with op := none, stepTimeout := true }).payRoll
      ∧ ∃ t, exec .recoveryResetReady s = .next t
          ∧ t.gate.channelFault = false ∧ t.gate.faultCount = 0 ∧ t.gate.faultPeriod = none ∧ t.gate.op = none
          ∧ t.gate.owner = ownerFor s.phase s.purge.journal.isOpen false
          ∧ t.phaseCtl = s.phaseCtl ∧ t.purge = s.purge ∧ t.keyPort = s.keyPort ∧ t.verifier = s.verifier ∧ s.keepsRecords t)
    ∧ (∀ n, s.gate.op = some (.recoveryReset (.erase n) due) →
      ∃ t, exec .recoveryResetReady s = .next t
        ∧ t.purge.nextBlock = s.purge.nextBlock + 1
        ∧ (s.purge.badBlocks.length < 32 → n ∈ t.purge.badBlocks)
        ∧ t.gate.faultCount = s.gate.faultCount ∧ t.phaseCtl = s.phaseCtl ∧ t.verifier = s.verifier ∧ s.keepsRecords t))
  ∧ (∀ (s : State) (due : Micros), s.awake = true → s.gate.faultPeriod = some due → s.gate.channelFault = true →
    let late := s.setClock (max s.clock due)
    (s.gate.op = none → s.gate.handOver = .steady →
      exec .faultPeriod s
        = .next (late.setGate
            { s.gate with
              faultPeriod := some (due + 1000000), periodicDue := false
              op := some (.recoveryReset .periodic (max s.clock due + 20000)), driven := [0xFF] }).payRoll)
    ∧ (s.gate.op.isSome = true ∨ s.gate.handOver ≠ .steady →
      exec .faultPeriod s
        = .next (late.setGate { s.gate with faultPeriod := some (due + 1000000), periodicDue := true }).payRoll))

/-- A RANGE without the rights of R156 is REFUSED. The checks on a RANGE of an entry of the table, in their order. A RANGE changes the held entry at once and its write is requested, or it is answered at once with the check that failed. The completion of a range write stores the entry and answers DONE to the RANGE that waited for it. What of it is the model's and not the spec's: log entry 42. -/
def Obligations.RangeIsCheckedHeldAndStored : Prop :=
  (∀ (s : State) (i : RangeNo) (e : RangeFields),
    let invalid := e.limit < e.base ∨ s.blocks ≤ e.limit ∨ e.visibility = none
    let overlap := ∃ j : RangeNo, j ≠ i ∧ s.gate.ranges[j].enabled = true
      ∧ e.base ≤ s.gate.ranges[j].limit ∧ s.gate.ranges[j].base ≤ e.limit
    (invalid → s.rangeRefusal i e = some .invalid)
    ∧ (¬ invalid → s.gate.ranges[i].lock = true → s.rangeRefusal i e = some .lockedEntry)
    ∧ (¬ invalid → s.gate.ranges[i].lock = false → e.write = true → e.read = false → s.rangeRefusal i e = some .illegal)
    ∧ (¬ invalid → s.gate.ranges[i].lock = false → ¬ (e.write = true ∧ e.read = false) → e.read = true → overlap →
        s.rangeRefusal i e = some .overlap)
    ∧ (¬ invalid → s.gate.ranges[i].lock = false → ¬ (e.write = true ∧ e.read = false) → ¬ (e.read = true ∧ overlap) →
        s.rangeRefusal i e = none))
  ∧ (∀ (s : State) (f : RxFrame) (rest : List RxFrame), s.isFront f rest → f.kind = .range → s.phase ≠ .halted →
    let e := readRange f.payload
    let rights := s.mayAdminister f.sender ∧ s.phaseCtl.grant.isAdmin = true ∧ s.supervisor.tampered = false
    let reply := fun (r : AnswerResult) => Host.Outcome.next ((s.taken rest).answers f.sender .range r e.index 0).payRoll
    (¬ rights → exec .range s = reply .refused)
    ∧ (rights → 7 < e.index → exec .range s = reply .invalid)
    ∧ (∀ (i : RangeNo) r, rights → e.index = i.val → s.rangeRefusal i e = some r → exec .range s = reply r)
    ∧ (∀ (i : RangeNo) v, rights → e.index = i.val → s.rangeRefusal i e = none → e.visibility = some v →
      ∃ t, exec .range s = .next t
        ∧ t.gate.ranges = s.gate.ranges.set i ⟨e.read, e.base, e.limit, e.read, e.write, v, e.lock && e.read⟩
        ∧ t.gate.waits = s.gate.waits ++ [⟨i, f.sender, s.store.grants⟩]
        ∧ (.range i ∈ t.gate.writes.changed ∨ t.gate.writes.rechanged = true)
        ∧ (s.store.requests.gate = none → s.gate.writes.changed = [] → s.store.inFlight = none → s.store.deciding = false →
            t.store.inFlight = some ⟨.gate, .range i t.gate.ranges[i], s.store.grants + 1⟩)
        ∧ t.gate.command = s.gate.command ∧ t.gate.grant = s.gate.grant
        ∧ (s.roster.rollOwed = false → t.line = (s.taken rest).line)
        ∧ t.phaseCtl = s.phaseCtl ∧ t.slotTable = s.slotTable ∧ t.verifier = s.verifier ∧ t.keyPort = s.keyPort
        ∧ t.purge = s.purge ∧ t.store.stored = s.store.stored))
  ∧ (∀ (s : State) (i : RangeNo) (e : RangeEntry) (serial : Nat) (w : RangeWait),
    s.writing .gate (.range i e) serial → s.gate.waits = [w] → w.index = i → w.changedAt < serial →
    ∃ t, exec .rangeWriteComplete s = .next t
      ∧ t.store.stored = { s.store.stored with ranges := s.store.stored.ranges.set i e }
      ∧ t.gate.waits = [] ∧ t.gate.ranges = s.gate.ranges
      ∧ (s.roster.rollOwed = false → t.line = (s.answers w.replyTo .range .done i.val 0).line)
      ∧ t.phaseCtl = s.phaseCtl ∧ t.slotTable = s.slotTable ∧ t.verifier = s.verifier ∧ t.keyPort = s.keyPort
      ∧ t.purge = s.purge ∧ t.setup = s.setup)

/-! ### The keypad (Chapter 8) -/

/-- A key settles from its first sight for 20 ms. A second key within them blocks, and while a key is held or the state is BLOCKED any other is ignored and not taken. An early release gives IDLE; the release of a held key, or of every key in BLOCKED, gives IDLE, or BLOCKED with another key still down. A key taken from IDLE has settled for its 20 ms first. What of it is the model's and not the spec's: log entries 28 and 41. -/
def Obligations.KeysSettleAndRelease : Prop :=
  (∀ (s : State), s.awake = true → s.roster.kpd = true →
    let becomes := fun (k : KeyState) => Host.Outcome.next (s.setScanner { s.scanner with key := k }).payRoll
    (∀ key, s.scanner.key = .idle → exec (.keySeenDown key) s = becomes (.settling key (s.clock + 20000)))
    ∧ (∀ key first due, s.scanner.key = .settling first due → first ≠ key → exec (.keySeenDown key) s = becomes .blocked)
    ∧ (∀ first due, s.scanner.key = .settling first due → exec (.keySeenDown first) s = becomes (.settling first due))
    ∧ (∀ key held, s.scanner.key = .held held → exec (.keySeenDown key) s = becomes (.held held))
    ∧ (∀ key, s.scanner.key = .blocked → exec (.keySeenDown key) s = becomes .blocked)
    ∧ (∀ first due, s.scanner.key = .settling first due → exec .keySeenUpSettling s = becomes .idle)
    ∧ (∀ other, (∃ key, s.scanner.key = .held key) ∨ s.scanner.key = .blocked →
        exec (.keyRelease other) s = becomes (if other = true then .blocked else .idle))
    ∧ (∀ d, (∃ key, s.scanner.key = .held key) ∨ s.scanner.key = .blocked →
        exec (.keyDigit d) s = .next s.payRoll ∧ exec .keyLock s = .next s.payRoll ∧ exec .keyEnter s = .next s.payRoll)
    ∧ (∀ d key due, s.scanner.key = .settling key due →
        (key ≠ .digit d → exec (.keyDigit d) s = .next s.payRoll) ∧ (key ≠ .lock → exec .keyLock s = .next s.payRoll)
        ∧ (key ≠ .enter → exec .keyEnter s = .next s.payRoll))
    ∧ (s.scanner.key = .idle →
        let seen := fun (key : Key) => s.setScanner { s.scanner with key := .settling key (s.clock + 20000) }
        (∀ d, exec (.keyDigit d) s = exec (.keyDigit d) (seen (.digit d))) ∧ exec .keyLock s = exec .keyLock (seen .lock)
        ∧ exec .keyEnter s = exec .keyEnter (seen .enter)))
  ∧ (∀ (s : State) (key : Key), s.awake = true → s.roster.kpd = false → exec (.keySeenDown key) s = .next s.payRoll)

/-- A settled digit goes into the entry buffer up to 16 digits, then sets OVERLONG; it becomes the selector of the admin prefix, fails a lock timing, a prefix with a selector and a purge confirm, and is discarded in UNLOCKED and beside a pending entry. A settled LOCK: read-only flag or clear key of an entry, lock timing in UNLOCKED, the admin prefix at a second LOCK under grant ADMIN, the end of a pending entry, and the failure of an admin sequence. In PURGING, PURGE_WAIT, HALTED and UNCOMMISSIONED each of them is taken and discarded: the buffer and the indicators stay as they are. What of it is the model's and not the spec's: log entries 2, 28, 29 and 60. -/
def Obligations.DigitAndLockKeysFollowTheSequence : Prop :=
  (∀ (s : State) (d : Fin 10) (due : Micros), s.keyReady (.digit d) due →
    let held := s.withHeld (.digit d) due
    let buffers := s.scanner.seq = .entry ∧ (s.phase.takesEntry = true ∨ s.phase = .blank)
    let buffered := fun (digits : List (Fin 10)) (overlong : Bool) =>
      Host.Outcome.next (held.setScanner
        { held.scanner with digits := digits, overlong := overlong, idle := some (held.clock + 10000000) }).payRoll
    (buffers → s.scanner.overlong = false → s.scanner.digits.length < 16 →
        exec (.keyDigit d) s = buffered (s.scanner.digits ++ [d]) false)
    ∧ (buffers → s.scanner.overlong = true ∨ 16 ≤ s.scanner.digits.length →
        exec (.keyDigit d) s = buffered s.scanner.digits true)
    ∧ (∀ t, s.scanner.seq = .adminPrefix none t →
        exec (.keyDigit d) s
          = .next (held.setScanner { held.scanner with seq := .adminPrefix (some d) (held.clock + 5000000) }).payRoll)
    ∧ (∀ t, s.scanner.seq = .lockTiming t →
        exec (.keyDigit d) s
          = .next (held.setScanner
              { held.scanner with
                digits := [], overlong := false, readOnly := false, idle := none, seq := .entry
                transient := some (.red, held.clock + 2000000) }).payRoll)
    ∧ (s.scanner.seq = .entry → s.phase = .unlocked → exec (.keyDigit d) s = .next held.payRoll)
    ∧ (s.scanner.seq = .entry →
        s.phase = .purging ∨ s.phase = .purgeWait ∨ s.phase = .halted ∨ s.phase = .uncommissioned →
        exec (.keyDigit d) s = .next held.payRoll)
    ∧ (∀ token readOnly t, s.scanner.seq = .pending token readOnly t → exec (.keyDigit d) s = .next held.payRoll)
    ∧ ((∃ x t, s.scanner.seq = .adminPrefix (some x) t) ∨ (∃ t, s.scanner.seq = .purgeConfirm t) →
        exec (.keyDigit d) s
          = .next (held.setScanner
              { held.scanner with
                digits := [], overlong := false, readOnly := false, idle := none, seq := .entry
                transient := some (.red, held.clock + 2000000) }).payRoll)
    ∧ ((∃ kind t, s.scanner.seq = .modeFirst kind t) ∨ (∃ kind first t, s.scanner.seq = .modeSecond kind first t) →
        (s.scanner.overlong = false → s.scanner.digits.length < 16 →
          exec (.keyDigit d) s
            = .next (held.setScanner { held.scanner with digits := s.scanner.digits ++ [d] }).payRoll)
        ∧ (s.scanner.overlong = false → 16 ≤ s.scanner.digits.length →
          exec (.keyDigit d) s = .next (held.setScanner { held.scanner with overlong := true }).payRoll)))
  ∧ (∀ (s : State) (due : Micros), s.keyReady .lock due →
    let held := s.withHeld .lock due
    let scanner := fun (k : Scanner) => Host.Outcome.next (held.setScanner k).payRoll
    let emptied := { held.scanner with digits := [], overlong := false, readOnly := false, idle := none }
    (s.scanner.seq = .entry → s.phase.takesEntry = true → s.scanner.digits = [] → s.scanner.readOnly = false →
      exec .keyLock s = scanner { held.scanner with readOnly := true, idle := some (held.clock + 10000000) })
    ∧ (s.scanner.seq = .entry → s.phase.takesEntry = true → s.scanner.digits ≠ [] ∨ s.scanner.readOnly = true →
      exec .keyLock s = scanner emptied)
    ∧ (s.scanner.seq = .entry → s.phase = .unlocked →
      exec .keyLock s = scanner { held.scanner with seq := .lockTiming (held.clock + 2000000) })
    ∧ (∀ t, s.scanner.seq = .lockTiming t → s.phaseCtl.grant.isAdmin = true →
      exec .keyLock s = scanner { held.scanner with seq := .adminPrefix none (held.clock + 5000000) })
    ∧ (∀ t, s.scanner.seq = .lockTiming t → s.phaseCtl.grant.isAdmin = false →
      exec .keyLock s = scanner { emptied with seq := .entry, transient := some (.red, held.clock + 2000000) })
    ∧ (∀ token readOnly t, s.scanner.seq = .pending token readOnly t →
      exec .keyLock s = scanner { held.scanner with seq := .entry })
    ∧ (s.scanner.seq = .entry → s.phase = .blank → exec .keyLock s = scanner emptied)
    ∧ (s.scanner.seq = .entry →
        s.phase = .purging ∨ s.phase = .purgeWait ∨ s.phase = .halted ∨ s.phase = .uncommissioned →
        exec .keyLock s = .next held.payRoll)
    ∧ ((∃ x t, s.scanner.seq = .adminPrefix x t) ∨ (∃ kind t, s.scanner.seq = .modeFirst kind t)
        ∨ (∃ kind first t, s.scanner.seq = .modeSecond kind first t) ∨ (∃ t, s.scanner.seq = .purgeConfirm t) →
      exec .keyLock s = scanner { emptied with seq := .entry, transient := some (.red, held.clock + 2000000) }))

/-- A settled ENTER. In ENTRY: a short or overlong entry is discarded in amber; an accepted one is offered in LOCKED without hold and with no own ENTRY outstanding, discarded under the hold, else waits 2 s; in BLANK it begins the second entry, or fails while an enrollment record is open; in UNLOCKED it is discarded. PENDING discards it. LOCK_TIMING fails. In the admin prefix selector 1 begins the enrollment of a free user slot, 2 that of slot 0, 9 the purge confirm; any other, and none, fails. A mode takes two equal entries and offers the STAGE of its slot, the lowest free user slot or slot 0, with an enrollment record; a second entry that differs, or finds no slot, fails. PURGE_CONFIRM opens the purge toward the next epoch, or shows red at the last epoch. Tokens are as R168 states. What of it is the model's and not the spec's: log entries 2, 4, 28, 29 and 30. -/
def Obligations.EnterGoesWhereTheSequenceSays : Prop :=
  (∀ (s : State) (due : Micros), s.keyReady .enter due →
    let held := s.withHeld .enter due
    let scanner := fun (k : Scanner) => Host.Outcome.next (held.setScanner k).payRoll
    let emptied := { held.scanner with digits := [], overlong := false, readOnly := false, idle := none }
    let rejected := s.scanner.digits.length < s.minDigits ∨ s.scanner.overlong = true
    let token := tokenOf s.scanner.digits
    let red := { emptied with seq := .entry, transient := some (.red, held.clock + 2000000) }
    let amber := { emptied with transient := some (.amber, held.clock + 2000000) }
    let takes := fun (i : SlotNo) => (s.slotAt i).staged = none ∧ (s.slotAt i).gen < 65535
    let free := fun (i : SlotNo) => i ≠ 0 ∧ (s.slotAt i).body = .empty ∧ takes i
    let pending := scanner { emptied with seq := .pending token s.scanner.readOnly (held.clock + 2000000) }
    (s.scanner.seq = .entry → s.phase.takesEntry = true ∨ s.phase = .blank → rejected → exec .keyEnter s = scanner amber)
    ∧ (s.scanner.seq = .entry → s.phase = .locked → ¬ rejected → held.holdActive = true →
      exec .keyEnter s = scanner emptied)
    ∧ (s.scanner.seq = .entry → s.phase = .locked → ¬ rejected → held.holdActive = false → s.ownOutstanding .entry = false →
      exec .keyEnter s
        = .next ((held.setScanner { emptied with entrySeq := (s.scanner.entrySeq + 1) % 256 }).offer .entry none
            (byte ((s.scanner.entrySeq + 1) % 256) :: bytes2 s.verifier.held.epoch
              ++ [byte (if s.scanner.readOnly = true then 128 else 0)] ++ tokenBytes token)).payRoll)
    ∧ (s.scanner.seq = .entry → s.phase = .locked → ¬ rejected → held.holdActive = false → s.ownOutstanding .entry = true →
      exec .keyEnter s = pending)
    ∧ (s.scanner.seq = .entry → s.phase.takesEntry = true → s.phase ≠ .locked → ¬ rejected → exec .keyEnter s = pending)
    ∧ (s.scanner.seq = .entry → s.phase = .blank → ¬ rejected → s.slotTable.enrollment.isSome = true →
      exec .keyEnter s = scanner red)
    ∧ (s.scanner.seq = .entry → s.phase = .blank → ¬ rejected → s.slotTable.enrollment = none →
      exec .keyEnter s = scanner { emptied with seq := .modeSecond .blank token (held.clock + 20000000) })
    ∧ (s.scanner.seq = .entry → s.phase.takesEntry = false → s.phase ≠ .blank → exec .keyEnter s = .next held.payRoll)
    ∧ (∀ first readOnly t, s.scanner.seq = .pending first readOnly t → exec .keyEnter s = .next held.payRoll)
    ∧ (∀ t, s.scanner.seq = .lockTiming t → exec .keyEnter s = scanner red)
    ∧ (∀ t, s.scanner.seq = .adminPrefix (some 1) t →
      (s.slotTable.enrollment = none → (∃ i, free i) →
        exec .keyEnter s = scanner { held.scanner with seq := .modeFirst .user (held.clock + 20000000) })
      ∧ (s.slotTable.enrollment.isSome = true ∨ (∀ i, ¬ free i) → exec .keyEnter s = scanner red))
    ∧ (∀ t, s.scanner.seq = .adminPrefix (some 2) t →
      (s.slotTable.enrollment = none → takes 0 →
        exec .keyEnter s = scanner { held.scanner with seq := .modeFirst .adminPin (held.clock + 20000000) })
      ∧ (s.slotTable.enrollment.isSome = true ∨ ¬ takes 0 → exec .keyEnter s = scanner red))
    ∧ (∀ t, s.scanner.seq = .adminPrefix (some 9) t →
      exec .keyEnter s = scanner { held.scanner with seq := .purgeConfirm (held.clock + 5000000) })
    ∧ (∀ x t, s.scanner.seq = .adminPrefix x t → x ≠ some 1 → x ≠ some 2 → x ≠ some 9 → exec .keyEnter s = scanner red)
    ∧ ((∃ kind t, s.scanner.seq = .modeFirst kind t) ∨ (∃ kind first t, s.scanner.seq = .modeSecond kind first t) →
      rejected → exec .keyEnter s = scanner amber)
    ∧ (∀ kind t, s.scanner.seq = .modeFirst kind t → ¬ rejected →
      exec .keyEnter s = scanner { emptied with seq := .modeSecond kind token t })
    ∧ (∀ kind first t, s.scanner.seq = .modeSecond kind first t → ¬ rejected → token ≠ first →
      exec .keyEnter s = scanner red)
    ∧ (∀ kind t, s.scanner.seq = .modeSecond kind token t → ¬ rejected →
      let enrolls := fun (i : SlotNo) =>
        match kind with
        | .user => free i ∧ ∀ j, j < i → ¬ free j
        | .adminPin => i = 0 ∧ takes 0
        | .blank => i = 0 ∧ takes 0 ∧ s.memberMissing = false
      (∀ i, s.slotTable.enrollment = none → enrolls i →
        let gen := (s.slotAt i).gen + 1
        let sent := (held.setScanner { emptied with seq := .entry }).offer .stage none
          (byte i.val :: bytes2 gen ++ [0, 0] ++ tokenBytes token)
        exec .keyEnter s
          = .next (sent.setSlotTable
              { s.slotTable with
                enrollment := some ⟨i.val, gen, s.phase = .blank, none, Vector.replicate 8 none⟩ }).payRoll)
      ∧ (s.slotTable.enrollment.isSome = true ∨ (∀ i, ¬ enrolls i) → exec .keyEnter s = scanner red))
    ∧ (∀ t, s.scanner.seq = .purgeConfirm t → s.purge.journal.isOpen = false → s.phase ≠ .uncommissioned →
      s.phase ≠ .halted →
      (s.epoch ≠ 65535 →
        ∃ u, exec .keyEnter s = .next u ∧ s.purgeOpened u .request (s.epoch + 1) ∧ u.scanner.seq = .entry)
      ∧ (s.epoch = 65535 →
        exec .keyEnter s
          = scanner { held.scanner with seq := .entry, transient := some (.red, held.clock + 2000000) })))
  ∧ (∀ a b : List (Fin 10), a.length ≤ 16 → b.length ≤ 16 → (tokenOf a = tokenOf b ↔ a = b))

/-- The scanner's timers end what they bound: the buffer in silence, a pending entry in amber, a lock timing in a LOCK of cause KEY, prefix, mode and confirm in red, and a transient in the pattern in force. The indicators: dark without a keypad, asleep or without supply; the transient alone while one is shown; else the pattern of the phase, grant and sequence state, with amber blinking under a hold in the four phases of an entry and red inverted for 100 ms in every 4 s while the cell is low; and the rates of the patterns. What of it is the model's and not the spec's: log entries 2, 51 (where a pattern stands in its period) and 69 (the keypad strap alone says whether there is a keypad). -/
def Obligations.ScannerTimersEnd : Prop :=
  (∀ (s : State) (due : Micros), s.awake = true →
    let late := s.setClock (max s.clock due)
    let scanner := fun (k : Scanner) => Host.Outcome.next (late.setScanner k).payRoll
    let emptied := { s.scanner with digits := [], overlong := false, readOnly := false, idle := none }
    let red := { emptied with seq := .entry, transient := some (.red, late.clock + 2000000) }
    (s.scanner.idle = some due → exec .idleTimerExpire s = scanner emptied)
    ∧ (∀ token readOnly, s.scanner.seq = .pending token readOnly due →
      exec .pendingTimerExpire s
        = scanner { s.scanner with seq := .entry, transient := some (.amber, late.clock + 2000000) })
    ∧ (s.scanner.seq = .lockTiming due →
      exec .lockTimerExpire s
        = .next (if s.ownOutstanding .lock = true then late.setScanner { s.scanner with seq := .entry }
                 else (late.setScanner { s.scanner with seq := .entry }).offer .lock none [0]).payRoll)
    ∧ (∀ selector, s.scanner.seq = .adminPrefix selector due → exec .prefixTimerExpire s = scanner red)
    ∧ (∀ kind, s.scanner.seq = .modeFirst kind due → exec .modeTimerExpire s = scanner red)
    ∧ (∀ kind first, s.scanner.seq = .modeSecond kind first due → exec .modeTimerExpire s = scanner red)
    ∧ (s.scanner.seq = .purgeConfirm due → exec .confirmTimerExpire s = scanner red)
    ∧ (∀ p, s.scanner.transient = some (p, due) → exec .transientEnd s = scanner { s.scanner with transient := none }))
  ∧ (∀ s : State,
    let shows := fun (red green amber : Light) => s.lights = ⟨red, green, amber, decide (s.supervisor.band ≠ .good)⟩
    let dark := s.lights = ⟨.dark, .dark, .dark, false⟩
    (s.awake = false ∨ s.roster.kpd = false → dark)
    ∧ (s.awake = true → s.roster.kpd = true →
      (∀ due, s.scanner.transient = some (.amber, due) → s.lights = ⟨.dark, .dark, .fast, false⟩)
      ∧ (∀ due, s.scanner.transient = some (.red, due) → s.lights = ⟨.fast, .dark, .dark, false⟩)
      ∧ (∀ due, s.scanner.transient = some (.green, due) → s.lights = ⟨.dark, .fast, .dark, false⟩)
      ∧ (s.scanner.transient = none →
        let amber := fun (base : Light) => if s.holdActive = true then .blink else base
        (s.phase = .uncommissioned → shows .dark .dark .dark)
        ∧ (s.phase = .halted → shows .slowBlink .dark .dark)
        ∧ (s.phase = .assembling ∨ s.phase = .verifying → shows .dark .dark (amber .steady))
        ∧ (s.phase = .incomplete → shows .slowBlink .dark (amber .dark))
        ∧ (s.phase = .locked → shows .steady .dark (amber .dark))
        ∧ (s.phase = .purging ∨ s.phase = .purgeWait → shows (.alternating false) .dark (.alternating true))
        ∧ (s.phase = .blank →
          (∀ kind first due, s.scanner.seq = .modeSecond kind first due → shows .dark .steady .dark)
          ∧ ((∀ kind first due, s.scanner.seq ≠ .modeSecond kind first due) →
              shows (.alternating false) (.alternating true) .dark))
        ∧ (∀ slot readOnly, s.phase = .unlocked →
          s.phaseCtl.grant = .user slot readOnly ∨ s.phaseCtl.grant = .admin slot readOnly →
          let green : Light := if readOnly = true then .blink else .steady
          (s.scanner.seq = .entry → shows .dark green .dark)
          ∧ (∀ due, s.scanner.seq = .lockTiming due → shows .steady green .dark)
          ∧ (∀ selector due, s.scanner.seq = .adminPrefix selector due → shows .dark green .steady)
          ∧ (∀ kind due, s.scanner.seq = .modeFirst kind due → shows .dark green .steady)
          ∧ (∀ kind first due, s.scanner.seq = .modeSecond kind first due → shows .dark green .steady)
          ∧ (∀ due, s.scanner.seq = .purgeConfirm due → shows .blink green .blink)))))
  ∧ (∃ slow blink alternating fast flash : Micros, ∀ now : Micros,
    Light.dark.lit now = false ∧ Light.steady.lit now = true
    ∧ (Light.slowBlink.lit now = true ↔ (now + slow) / 1000000 % 2 = 0)
    ∧ (Light.blink.lit now = true ↔ (now + blink) / 250000 % 2 = 0)
    ∧ ((Light.alternating false).lit now = true ↔ (now + alternating) / 500000 % 2 = 0)
    ∧ ((Light.alternating true).lit now = true ↔ (now + alternating) / 500000 % 2 = 1)
    ∧ (Light.fast.lit now = true ↔ (now + fast) / 100000 % 2 = 0)
    ∧ (∀ l : Lights,
        let flashing := l.cellFlash = true ∧ (now + flash) % 4000000 < 100000
        (¬ flashing → l.levels now = (l.red.lit now, l.green.lit now, l.amber.lit now))
        ∧ (flashing → l.levels now = (!l.red.lit now, l.green.lit now, l.amber.lit now))))
  ∧ (∀ (s : State) (enable ready : Bool) (data : Byte) (o : Outputs), s.outputs enable ready data = some o →
    o.indicators = s.lights.levels s.clock)

/-! ### Supply, tamper and dormancy (Chapter 9) -/

/-- A power-up or a wake is a start: straps and senses read, held copies from the store, queues, repeat memory and latched events clear, the line state LOST, key port CLEAR, the settle begun, the phase of Table 2-1, and one ROLL that shows the station as it stands, but in UNCOMMISSIONED; where a purge opens its PURGE goes before it. In a drive of one member the assembly completes at once, BLANK or LOCKED with the stale staged parts gone, behind a ROLL that shows ASSEMBLING. The held attempt record and ranges are the stored ones unless a purge is resumed, the slots too unless assembly completes at once, the journal and bad-block list unless a purge opens or is resumed. A key wakes the keypad station only, and the waking key settles. What of it is the model's and not the spec's: log entries 8, 22 (the ROLL comes before the completion test), 67 (the ROLL of a resumed purge shows what the stage has set) and 66 (the keypad strap of a wake is the pin as it stands at the wake). -/
def Obligations.StartReadsPinsAndStore : Prop :=
  ∀ (s : State) (i : StartInputs), 4400 ≤ i.attachMv ∨ 3000 ≤ i.cellMv →
    let starts := fun (t : State) (cause : StartCause) =>
      t.awake = true ∧ t.clock = s.clock
        ∧ t.roster.sn.val = (if i.sn2 = true then 4 else 0) + (if i.sn1 = true then 2 else 0) + (if i.sn0 = true then 1 else 0)
        ∧ t.roster.kpd = i.kpd ∧ t.roster.startCause = cause ∧ t.roster.entries = Vector.replicate 8 RosterEntry.absent
        ∧ t.line.repeatUrgent = Vector.replicate 8 none ∧ t.line.repeatOther = Vector.replicate 8 none
        ∧ t.line.state = .lost ∧ t.line.rx = [] ∧ t.line.onLine = none
        ∧ t.line.checkFail = false ∧ t.line.headerParity = false ∧ t.line.rxMissed = false ∧ t.line.txPartial = false
        ∧ t.line.txDropped = false ∧ t.gate.gateDenied = false ∧ t.gate.stepTimeout = false
        ∧ t.line.settle = some (s.clock + 20000)
        ∧ t.keyPort.state = .clear ∧ t.slotTable.unlockedKey = none ∧ t.verifier.attempt = none
        ∧ t.supervisor.attached = decide (4400 ≤ i.attachMv) ∧ t.supervisor.band = bandOf i.cellMv
        ∧ t.supervisor.tampered = s.store.stored.tamper ∧ t.slotTable.salt = s.store.stored.salt
        ∧ t.setup.held = s.store.stored.setup ∧ t.store.stored = s.store.stored
        ∧ (s.store.stored.journal.isOpen = false →
            t.verifier.held = s.store.stored.attempt ∧ t.gate.ranges = s.store.stored.ranges)
        ∧ (s.store.stored.journal.isOpen = false → t.phase ≠ .locked → t.phase ≠ .blank →
            t.slotTable.slots = s.store.stored.slots ∧ t.slotTable.blankKey = s.store.stored.blankKey
            ∧ t.slotTable.slotDiverged = false)
        ∧ (t.phase ≠ .purging → t.purge.journal = s.store.stored.journal ∧ t.purge.badBlocks = s.store.stored.badBlocks)
    let roll := fun (t : State) => (⟨.roll, false, 0, t.rollPayload, true, 0⟩ : TxFrame)
    let phased := fun (t : State) =>
      ((∀ r, s.store.stored.setup = some r → r.locked = false) → t.phase = .uncommissioned ∧ t.line.tx = [])
      ∧ (∀ r, s.store.stored.setup = some r → r.locked = true → strapConflict t.roster.sn i.kpd r = true →
          t.phase = .halted ∧ t.supervisor.haltMark = true ∧ t.line.tx = [roll t])
      ∧ (∀ r, s.store.stored.setup = some r → r.locked = true → strapConflict t.roster.sn i.kpd r = false →
          s.store.stored.journal.isOpen = true →
          t.phase = .purging ∧ t.gate.owner = .guard ∧ t.line.tx = [roll t]
          ∧ t.purge.heard = Vector.replicate 8 false ∧ t.purge.reoffered = 0
          ∧ t.purge.reoffer = (if t.others = [] then none else some (s.clock + 2000000)))
      ∧ (∀ r, s.store.stored.setup = some r → r.locked = true → strapConflict t.roster.sn i.kpd r = false →
          s.store.stored.journal.isOpen = false → r.failureLimit ≤ s.store.stored.attempt.count →
          s.store.stored.attempt.epoch ≠ 65535 →
          t.phase = .purging ∧ t.purge.journal.cause = some .limit
            ∧ t.purge.journal.target = some (s.store.stored.attempt.epoch + 1)
            ∧ t.line.tx
                = [⟨.purge, false, 0, byte PurgeCause.limit.code :: bytes2 (s.store.stored.attempt.epoch + 1), true, 0⟩, roll t])
      ∧ (∀ r, s.store.stored.setup = some r → r.locked = true → strapConflict t.roster.sn i.kpd r = false →
          s.store.stored.journal.isOpen = false → s.store.stored.attempt.count < r.failureLimit →
          (∃ n : StationNo, n ≠ t.roster.sn ∧ r.members.getLsbD n.val = true) →
          t.phase = .assembling ∧ t.phaseCtl.grant = .pub ∧ t.roster.window = some ⟨s.clock, 0⟩ ∧ t.line.tx = [roll t])
      ∧ (∀ r, s.store.stored.setup = some r → r.locked = true → strapConflict t.roster.sn i.kpd r = false →
          s.store.stored.journal.isOpen = false → s.store.stored.attempt.count < r.failureLimit →
          (∀ n : StationNo, r.members.getLsbD n.val = true → n = t.roster.sn) →
          t.phase = (if (s.store.stored.slots[0]).body = .empty then .blank else .locked)
          ∧ t.phaseCtl.grant = (if (s.store.stored.slots[0]).body = .empty then .none else .pub)
          ∧ t.verifier.hold = (holdDuration s.store.stored.attempt.count).map (s.clock + ·)
          ∧ (∀ j : SlotNo, t.slotAt j = { s.store.stored.slots[j] with staged := none })
          ∧ t.slotTable.blankKey
              = (if (s.store.stored.slots[0]).isActive = true then none else s.store.stored.blankKey)
          ∧ t.roster.window = none ∧ t.roster.announce = none
          ∧ ∃ payload, t.line.tx = [⟨.roll, false, 0, payload, true, 0⟩]
              ∧ payload.take 8 = t.rollPayload.take 8 ∧ byteAt payload 8 = byte (Phase.assembling.code * 16)
              ∧ (payload.drop 9).take 3 = (t.rollPayload.drop 9).take 3)
    (s.supervisor.supplyValid = false →
      ∃ t, exec (.powerUp i) s = .next t ∧ starts t .power ∧ phased t)
    ∧ (∀ cause, s.supervisor.supplyValid = true → s.supervisor.dormant = true → (∀ down, cause = .key down → i.kpd = true) →
      ∃ t, exec (.wake cause i) s = .next t ∧ starts t .wake
        ∧ (∀ key, cause = .key [key] → t.scanner.key = .settling key (s.clock + 20000))
        ∧ (s.supervisor.haltMark = true → t.phase = .halted ∧ t.supervisor.haltMark = true ∧ t.line.tx = [roll t])
        ∧ (s.supervisor.haltMark = false → phased t))
    ∧ (∀ down, s.supervisor.supplyValid = true → s.supervisor.dormant = true → i.kpd = false →
      exec (.wake (.key down) i) s = .next s)

/-- A loss of supply stops every block: a write in flight has landed or left the old record, requests are lost, what is volatile is gone, and no output is driven; so do CUTOFF, a detach at CUTOFF, three samples in CUTOFF at a dormant station, and a wake whose senses give no supply; a power-up with such senses does not start. Dormancy keeps the store, the halt mark and the tamper level, with DENY high, KVALID low, the indicators dark, and ready shown; it is entered only when the parts of the dormancy condition hold, a line silent for 10 s and outside a line reset and no key down among them, and with no other wake cause pending. What of it is the model's and not the spec's: log entries 9, 34, 38, 39 (a list of samples is tested at its end), 50, 61, 66 and 72 (a shift of zeros does not hold off dormancy). -/
def Obligations.StoppedBlocksKeepTheStore : Prop :=
  ∀ (s : State) (landed : Bool),
    let stopped := fun (t : State) =>
      t.keyPort.state = .clear ∧ t.keyPort.presented = 0 ∧ t.slotTable.unlockedKey = none ∧ t.verifier.attempt = none
        ∧ t.line.tx = [] ∧ t.line.rx = [] ∧ t.phaseCtl.grant = .none ∧ t.gate.command = .idle ∧ t.clock = s.clock
    let lost := fun (t : State) =>
      stopped t ∧ t.supervisor.supplyValid = false ∧ t.supervisor.haltMark = false ∧ t.supervisor.tamperAsserted = false
        ∧ t.store.inFlight = none ∧ t.store.requests = Requests.none ∧ (∀ enable ready data, t.outputs enable ready data = none)
        ∧ (s.store.inFlight = none ∨ landed = false → t.store.stored = s.store.stored)
        ∧ (∀ w, s.store.inFlight = some w → landed = true → t.store.stored = s.store.stored.put w.contents)
    (s.supervisor.supplyValid = true → ∃ t, exec (.supplyLost landed) s = .next t ∧ lost t)
    ∧ (s.awake = true → s.supervisor.attached = false → ∀ samples, s.supervisor.band ≠ .cutoff →
        bandAfter s.supervisor.band samples = .cutoff →
        ∃ t, exec (.cellBandChange samples landed) s = .next t ∧ lost t)
    ∧ (∀ sense, s.awake = true → s.supervisor.attached = true → sense < 4200 → s.supervisor.band = .cutoff →
        ∃ t, exec (.detach landed sense) s = .next t ∧ lost t)
    ∧ (s.supervisor.supplyValid = true → s.supervisor.dormant = true → s.supervisor.attached = false →
        (∀ earlier a b c, a < 3000 → b < 3000 → c < 3000 →
          ∃ t, exec (.cellBandChange (earlier ++ [a, b, c]) landed) s = .next t ∧ lost t)
        ∧ (∀ earlier a b c, 3000 ≤ a ∨ 3000 ≤ b ∨ 3000 ≤ c →
          exec (.cellBandChange (earlier ++ [a, b, c]) landed) s = .next s))
    ∧ (∀ i : StartInputs, i.attachMv < 4400 → i.cellMv < 3000 →
        (s.supervisor.supplyValid = false → exec (.powerUp i) s = .next s)
        ∧ (∀ cause, s.supervisor.supplyValid = true → s.supervisor.dormant = true → s.store.inFlight = none →
            (∀ down, cause = .key down → i.kpd = true) →
            ∃ t, exec (.wake cause i) s = .next t ∧ lost t))
    ∧ (s.awake = true → s.maySleep = true →
        ∃ t, exec (.dormancyEntry false false) s = .next t ∧ stopped t
          ∧ t.supervisor = { s.supervisor with dormant := true } ∧ t.store = s.store
          ∧ ∀ enable ready data, t.outputs enable ready data
              = some ⟨true, false, false, false, (false, false, false), false, true, 0xFF⟩)
    ∧ (∀ atTest atRetest, s.awake = true → atTest = true ∨ atRetest = true →
        exec (.dormancyEntry atTest atRetest) s = .next s.payRoll)
    ∧ (∀ atTest atRetest, s.awake = true → s.maySleep = false →
        exec (.dormancyEntry atTest atRetest) s = .next s.payRoll)
    ∧ (s.maySleep = true ↔
        s.supervisor.attached = false ∧ s.line.inReset = false ∧ s.line.sendingReset = false
        ∧ s.line.lastDominant + 10000000 ≤ s.clock
        ∧ (s.phase = .locked ∨ s.phase = .blank ∨ s.phase = .incomplete ∨ s.phase = .halted ∨ s.phase = .uncommissioned
            ∨ (s.phase = .purging ∧ s.purge.suspended = true))
        ∧ (s.roster.kpd = true →
            s.scanner.seq = .entry ∧ s.scanner.digits = [] ∧ s.scanner.readOnly = false ∧ s.scanner.overlong = false
            ∧ s.slotTable.enrollment = none ∧ s.scanner.key = .idle)
        ∧ s.store.inFlight = none ∧ s.store.requests = Requests.none ∧ s.line.tx = [] ∧ s.line.rx = []
        ∧ s.gate.handOver = .steady ∧ s.gate.op = none)

/-- A detached station is ATTACHED at a sense of 4.4 V or more and an attached one DETACHED below 4.2 V; between them the state is kept. An attach stops the attach window and a change of band is taken; outside UNLOCKED and VERIFYING a detach has no phase effect. The bands begin at 3.45 V, 3.30 V and 3.00 V. A lower band is taken after three samples that lie in lower bands, the highest of the three; a higher one only after the samples of a second, 100, that lie in higher bands, the lowest of these; nothing else moves the band. An ERASE that runs is suspended, with its next block checkpointed, when the station is detached with the band below LOW, a step in flight going on; it is resumed, with its next step, when the station is attached or the band is LOW or GOOD. What of it is the model's and not the spec's: log entries 39 and 40. -/
def Obligations.SensesAreTaken : Prop :=
  (∀ (s : State) (sense : Nat) (landed : Bool), s.awake = true → s.erasing = false →
    (s.supervisor.attached = false → 4400 ≤ sense →
      exec (.attach sense) s
        = .next ((s.setSupervisor { s.supervisor with attached := true }).setPhaseCtl
            { s.phaseCtl with attachWindow := none }).payRoll)
    ∧ (s.supervisor.attached = true ∨ sense < 4400 → exec (.attach sense) s = .next s.payRoll)
    ∧ (s.supervisor.attached = true → sense < 4200 → s.supervisor.band ≠ .cutoff → s.phase ≠ .unlocked →
      s.phase ≠ .verifying →
      exec (.detach landed sense) s = .next (s.setSupervisor { s.supervisor with attached := false }).payRoll)
    ∧ (s.supervisor.attached = false ∨ 4200 ≤ sense → exec (.detach landed sense) s = .next s.payRoll)
    ∧ (∀ samples, bandAfter s.supervisor.band samples ≠ s.supervisor.band →
      bandAfter s.supervisor.band samples ≠ .cutoff ∨ s.supervisor.attached = true →
      exec (.cellBandChange samples landed) s
        = .next (s.setSupervisor { s.supervisor with band := bandAfter s.supervisor.band samples }).payRoll))
  ∧ (∀ mv : Nat, (bandOf mv = .good ↔ 3450 ≤ mv) ∧ (bandOf mv = .low ↔ 3300 ≤ mv ∧ mv < 3450)
    ∧ (bandOf mv = .floor ↔ 3000 ≤ mv ∧ mv < 3300) ∧ (bandOf mv = .cutoff ↔ mv < 3000))
  ∧ (∀ (band : Band) (before : List Nat),
    (∀ a b c : Nat, (bandOf a).level < band.level → (bandOf b).level < band.level → (bandOf c).level < band.level →
      (bandAfter band (before ++ [a, b, c])).level = max (bandOf a).level (max (bandOf b).level (bandOf c).level))
    ∧ (∀ second : List Nat, second.length = 100 → (∀ mv ∈ second, band.level < (bandOf mv).level) →
      (∃ mv ∈ second, bandAfter band (before ++ second) = bandOf mv)
      ∧ ∀ mv ∈ second, (bandAfter band (before ++ second)).level ≤ (bandOf mv).level))
  ∧ (∀ (band : Band) (samples : List Nat), bandAfter band samples ≠ band →
    (∃ before a b c, samples = before ++ [a, b, c] ∧ (bandOf a).level < band.level ∧ (bandOf b).level < band.level
      ∧ (bandOf c).level < band.level)
    ∨ ∃ before second, samples = before ++ second ∧ second.length = 100
      ∧ ∀ mv ∈ second, band.level < (bandOf mv).level)
  ∧ (∀ (s : State) (sense : Nat) (landed : Bool), s.awake = true → s.erasing = true →
    s.gate.stepInFlight = true ∨ (s.purge.nextBlock < s.blocks ∧ s.gate.channelFault = false) →
    let warm := fun (band : Band) => band = .good ∨ band = .low
    (s.supervisor.attached = false → 4400 ≤ sense →
      ∃ t, exec (.attach sense) s = .next t ∧ s.eraseFollows t True
        ∧ t.supervisor = { s.supervisor with attached := true } ∧ t.phase = s.phase)
    ∧ (s.supervisor.attached = true → sense < 4200 → s.supervisor.band ≠ .cutoff → s.phase ≠ .unlocked →
      s.phase ≠ .verifying →
      ∃ t, exec (.detach landed sense) s = .next t ∧ s.eraseFollows t (warm s.supervisor.band)
        ∧ t.supervisor = { s.supervisor with attached := false } ∧ t.phase = s.phase)
    ∧ (∀ samples, bandAfter s.supervisor.band samples ≠ s.supervisor.band →
      bandAfter s.supervisor.band samples ≠ .cutoff ∨ s.supervisor.attached = true →
      ∃ t, exec (.cellBandChange samples landed) s = .next t
        ∧ s.eraseFollows t (s.supervisor.attached = true ∨ warm (bandAfter s.supervisor.band samples))
        ∧ t.supervisor = { s.supervisor with band := bandAfter s.supervisor.band samples } ∧ t.phase = s.phase))

/-- Where TAMPERED changes, set or cleared, a ROLL is owed, but in UNCOMMISSIONED and HALTED; an assertion that sets it has the ROLL with the tamper flag in the queue at the end of the event, or owed while an own ROLL is queued, and one that finds it set owes none. A tamper assertion latches TAMPERED and requests its write in every phase; the phases without unlock or verification stay under policy LOCK, and policy PURGE opens a purge. In PURGING, HALTED and UNCOMMISSIONED under either policy, and at the last epoch, it is latched only: phase, grant, purge, gate, key port, verifier and slot table stay as they are. The release and the completed write change only their own part. What of it is the model's and not the spec's: log entries 21 and 42. -/
def Obligations.TamperIsLatched : Prop :=
  (∀ (s : State) (b : Bool),
    let changed := s.setSupervisor { s.supervisor with tampered := b }
    (s.supervisor.tampered ≠ b → s.phase ≠ .uncommissioned → s.phase ≠ .halted →
      s.setTampered b = changed.setRoster { s.roster with rollOwed := true })
    ∧ (s.supervisor.tampered = b ∨ s.phase = .uncommissioned ∨ s.phase = .halted → s.setTampered b = changed))
  ∧ (∀ s : State, s.awake = true →
    (s.supervisor.tamperAsserted = false →
      ∃ t, exec .tamperAssertion s = .next t
        ∧ (s.supervisor.tampered = false → s.phase ≠ .uncommissioned → s.phase ≠ .halted →
            ((∃ f ∈ s.line.tx, f.kind = .roll) → s.line.tx.length < 4 → t.roster.rollOwed = true)
            ∧ ((∀ f ∈ s.line.tx, f.kind ≠ .roll) → s.line.tx.length < 3 →
              t.roster.rollOwed = false
              ∧ ∃ f ∈ t.line.tx, f.kind = .roll ∧ f.payload = t.rollPayload ∧ bitAt f.payload 0 3 = true))
        ∧ (s.supervisor.tampered = true → s.roster.rollOwed = false → s.phase ≠ .verifying → s.purgesOnTamper = false →
            t.line = s.line ∧ t.roster.rollOwed = false)
        ∧ (s.phase = .uncommissioned ∨ s.phase = .halted → s.roster.rollOwed = false →
            t.line = s.line ∧ t.roster.rollOwed = false)
        ∧ t.supervisor = { s.supervisor with tamperAsserted := true, tampered := true }
        ∧ (s.store.requests.supervisor = none → s.store.inFlight = none → s.store.deciding = false →
            t.store.inFlight = some ⟨.supervisor, .tamper true, s.store.grants + 1⟩)
        ∧ (s.purgesOnTamper = false → s.phase ≠ .unlocked → s.phase ≠ .verifying → t.phase = s.phase)
        ∧ (s.purgesOnTamper = true → s.purge.journal.isOpen = false → s.phase ≠ .uncommissioned → s.phase ≠ .halted →
            s.epoch ≠ 65535 →
            t.phase = .purging
              ∧ t.purge.journal = ⟨true, some (s.epoch + 1), some .tamper, some .destroy, 0, false, false⟩
              ∧ s.purgeOpened t .tamper (s.epoch + 1))
        ∧ (s.phase ≠ .unlocked → s.phase ≠ .verifying →
            s.purgesOnTamper = false ∨ s.purge.journal.isOpen = true ∨ s.phase = .halted ∨ s.phase = .uncommissioned
              ∨ s.epoch = 65535 →
            t.phaseCtl = s.phaseCtl ∧ t.purge = s.purge ∧ t.gate = s.gate ∧ t.keyPort = s.keyPort
            ∧ t.verifier = s.verifier ∧ t.slotTable = s.slotTable)
        ∧ t.slotTable.slots = s.slotTable.slots ∧ s.keepsRecords t)
    ∧ (exec .tamperRelease s = .next (s.setSupervisor { s.supervisor with tamperAsserted := false }).payRoll)
    ∧ (∀ b serial, s.writing .supervisor (.tamper b) serial →
      exec .tamperWriteComplete s = .next (s.stores (.tamper b)).arbitrate.payRoll))

/-- While the drive shows tamper, an ENTRY whose token matches a user slot is refused with no count, no attempt and no phase change; the drive shows it by the own latch or a PRESENT member's flag. A match on the admin slot is not refused for tamper. A token matches the first ACTIVE slot whose verifier is its check value and whose wrap opens under its wrapping value. What of it is the model's and not the spec's: log entry 6 (check value and wrapping value as the pair of salt and token). -/
def Obligations.UserMatchIsRefusedUnderTamper : Prop :=
  (∀ s : State, s.showsTamper = true ↔
    s.supervisor.tampered = true
      ∨ ∃ n r, n ≠ s.sn ∧ s.isMember n = true ∧ s.roster.entries[n].presence = .present
          ∧ s.roster.entries[n].last = some (.guard r) ∧ r.tamper = true)
  ∧ (∀ (s : State) (n : StationNo) (e : EntryFields) (slot : SlotNo) (key : ChannelKey),
      s.entryRefusal n e = none → s.tokenOpens e.token slot key →
      (∀ j : SlotNo, j < slot → ∀ k, ¬ s.tokenOpens e.token j k) →
      (slot ≠ 0 → s.showsTamper = true → s.findEntry n e = .turnedAway .refused)
      ∧ (slot = 0 ∨ s.showsTamper = false → s.findEntry n e = .matched slot key))
  ∧ (∀ (s : State) (f : RxFrame) (rest : List RxFrame) (slot : SlotNo) (key : ChannelKey),
      s.isFront f rest → f.kind = .entry → f.own = none → s.verifier.attempt = none →
      s.entryRefusal f.sender (readEntry f.payload) = none →
      s.tokenOpens (readEntry f.payload).token slot key →
      (∀ j : SlotNo, j < slot → ∀ k, ¬ s.tokenOpens (readEntry f.payload).token j k) →
      slot ≠ 0 → s.showsTamper = true →
      exec .entry s
        = .next ((s.taken rest).offer .verdict none
            (byte f.sender.val :: byte (readEntry f.payload).seq :: byte 4 :: byte 0
              :: byte s.verifier.held.count :: bytes4 s.verifier.held.serial)).payRoll)

/-! ### Setup and status (Chapter 10) -/

/-- A SETUP that passes its checks is held at once and its write requested; a busy or invalid one is answered so; outside UNCOMMISSIONED it is REFUSED, and ignored in HALTED. The checks: 1 to 7 members, the keypad station one of them, a named controller not one of them, and failure limit, retry limit, minimum digits, blocks and pages within their values; the straps conflict when the own number is no member, or when KPD and the record do not agree on whether this is the keypad station. A SETUP is read by its bytes. What of it is the model's and not the spec's: log entry 35 (the bits of bytes 1 and 2 without a value are not read). -/
def Obligations.SetupIsCheckedAndHeld : Prop :=
  (∀ (s : State) (f : RxFrame) (rest : List RxFrame), s.isFront f rest → f.kind = .setup →
    let reply := fun (r : AnswerResult) =>
      Host.Outcome.next ((s.taken rest).answers f.sender .setup r s.setup.state.code s.digest.toNat).payRoll
    (s.phase = .uncommissioned → s.setupBusy = true → exec .setup s = reply .busy)
    ∧ (∀ r, s.phase = .uncommissioned → s.setupBusy = false → readSetup f.payload = some r →
      r.valid = true → strapConflict s.roster.sn s.roster.kpd r = false →
      exec .setup s
        = .next (((s.taken rest).setSetup { s.setup with state := .stored, held := some r, replyTo := f.sender }).request
            .setup .setup).payRoll)
    ∧ (∀ r, s.phase = .uncommissioned → s.setupBusy = false → readSetup f.payload = some r →
      r.valid = false ∨ strapConflict s.roster.sn s.roster.kpd r = true → exec .setup s = reply .invalid)
    ∧ (s.phase = .uncommissioned → s.setupBusy = false → readSetup f.payload = none → exec .setup s = reply .invalid)
    ∧ (s.phase = .halted → exec .setup s = .next (s.taken rest).payRoll)
    ∧ (s.phase ≠ .uncommissioned → s.phase ≠ .halted → exec .setup s = reply .refused))
  ∧ (∀ r : SetupRecord,
    let count := (([0, 1, 2, 3, 4, 5, 6, 7] : List StationNo).filter fun n => r.members.getLsbD n.val).length
    r.valid = true ↔
      1 ≤ count ∧ count ≤ 7 ∧ r.members.getLsbD r.keypad.val = true
      ∧ (∀ n, r.controller = some n → r.members.getLsbD n.val = false)
      ∧ 4 ≤ r.failureLimit ∧ r.failureLimit ≤ 30 ∧ r.retryLimit ≤ 3 ∧ 6 ≤ r.minDigits ∧ r.minDigits ≤ 16
      ∧ 1024 ≤ r.blocks ∧ r.blocks ≤ 65536)
  ∧ (∀ (sn : StationNo) (kpd : Bool) (r : SetupRecord), strapConflict sn kpd r = true ↔
      r.members.getLsbD sn.val = false ∨ (kpd = true ∧ r.keypad ≠ sn) ∨ (kpd = false ∧ r.keypad = sn))
  ∧ (∀ p : List Byte,
    let record := fun (pages : Nat) =>
      some
        { members := byteAt p 0, controller := if bitAt p 1 7 = true then some (stationOf (byteAt p 1)) else none
          keypad := stationOf (byteAt p 2), failureLimit := u8 p 3, retryLimit := u8 p 4, minDigits := u8 p 5
          hostEntry := bitAt p 6 7, hostAdmin := bitAt p 6 6
          tamperPolicy := if bitAt p 6 5 = true then .purge else .lock
          faultPolicy := if bitAt p 6 4 = true then .all else .self
          blocks := u16 p 7 + 1, pagesPerBlock := pages, locked := false : SetupRecord }
    (u8 p 9 = 0 → readSetup p = record 64) ∧ (u8 p 9 = 1 → readSetup p = record 128)
    ∧ (u8 p 9 = 2 → readSetup p = record 256) ∧ (3 ≤ u8 p 9 → readSetup p = none))

/-- SETUP_LOCK begins initial keying: fresh salt and channel key, every held record in its starting form, and the salt's write first; each completion requests the write of the next record of the plan, granted at once where no other block waits, and the last that of the locked setup record. What of it is the model's and not the spec's: log entries 3 and 42. -/
def Obligations.SetupLockKeysTheStation : Prop :=
  (∀ (s : State) (f : RxFrame) (rest : List RxFrame), s.isFront f rest → f.kind = .setupLock →
    let reply := fun (r : AnswerResult) =>
      Host.Outcome.next ((s.taken rest).answers f.sender .setupLock r s.setup.state.code s.digest.toNat).payRoll
    (s.phase = .uncommissioned → s.setupBusy = true → exec .setupLock s = reply .busy)
    ∧ (s.phase = .uncommissioned → s.setupBusy = false → s.setup.state = .absent → exec .setupLock s = reply .refused)
    ∧ (s.phase ≠ .uncommissioned → s.phase ≠ .halted → exec .setupLock s = reply .refused)
    ∧ (∀ r, s.phase = .uncommissioned → s.setupBusy = false → s.setup.state ≠ .absent → s.setup.held = some r →
      ∃ t, exec .setupLock s = .next t
        ∧ t.setup = ⟨.keying, some r, keyingPlan, f.sender⟩
        ∧ t.slotTable.salt = Config.freeSalt s.draws ∧ t.slotTable.blankKey = some (Config.freeKey s.draws)
        ∧ t.slotTable.slots = Vector.replicate 6 ⟨0, .empty, none⟩ ∧ t.verifier.held = ⟨1, 0, 0⟩
        ∧ t.purge.journal = ⟨false, none, none, none, 0, false, false⟩ ∧ t.purge.badBlocks = []
        ∧ t.gate.ranges = defaultRanges r.blocks
        ∧ (s.store.requests.setup = none → s.store.inFlight = none → s.store.deciding = false →
            t.store.inFlight = some ⟨.setup, .salt (Config.freeSalt s.draws), s.store.grants + 1⟩)
        ∧ t.phase = .uncommissioned ∧ t.supervisor = s.supervisor ∧ t.store.stored = s.store.stored))
  ∧ (∀ (s : State) (c : Contents) (serial : Nat) (rec : RecordId) (left : List RecordId),
    s.writing .setup c serial → c.record = rec → rec ≠ .setup → s.setup.keyingLeft = rec :: left →
    (∀ next more, left = next :: more →
      exec .keyingWriteComplete s
        = .next (((s.stores c).setSetup { s.setup with keyingLeft := left }).request .setup next).arbitrate.payRoll
      ∧ (s.store.requests = Requests.none →
        ∃ t c', exec .keyingWriteComplete s = .next t
          ∧ t.store.inFlight = some ⟨.setup, c', s.store.grants + 1⟩ ∧ c'.record = next ∧ t.store.requests = Requests.none))
    ∧ (∀ r, left = [] → s.setup.held = some r →
      exec .keyingWriteComplete s
        = .next (((s.stores c).setSetup
            { s.setup with keyingLeft := [], held := some { r with locked := true } }).request
              .setup .setup).arbitrate.payRoll
      ∧ (s.store.requests = Requests.none →
        ∃ t, exec .keyingWriteComplete s = .next t
          ∧ t.store.inFlight = some ⟨.setup, .setup (some { r with locked := true }), s.store.grants + 1⟩)))

/-- The setup record's writes complete: unlocked, DONE with the digest; locked, the setup state LOCKED, the roles in force, ASSEMBLING with grant PUBLIC and owner CONTROLLER, DONE with the digest to the sender of the SETUP_LOCK, and behind it the first ROLL of the assembly window. -/
def Obligations.SetupWritesComplete : Prop :=
  ∀ (s : State) (r : SetupRecord) (serial : Nat), s.writing .setup (.setup (some r)) serial →
    (r.locked = false →
      exec .setupWriteComplete s
        = .next ((s.stores (.setup (some r))).answers s.setup.replyTo .setup .done s.setup.state.code
            s.digest.toNat).arbitrate.payRoll)
    ∧ (r.locked = true → s.setup.held = some r → s.phase = .uncommissioned → s.purge.journal.isOpen = false →
      s.gate.channelFault = false → s.verifier.attempt = none →
      (∃ n : StationNo, n ≠ s.sn ∧ r.members.getLsbD n.val = true ∧ s.roster.entries[n].presence = .absent) →
      (∀ n : StationNo, s.roster.entries[n].presence ≠ .present) →
      ∃ t, exec .setupLockComplete s = .next t
        ∧ t.setup = { s.setup with state := .locked }
        ∧ t.store.stored = { s.store.stored with setup := some r }
        ∧ t.phase = .assembling ∧ t.phaseCtl.grant = .pub ∧ t.gate.grant = .pub ∧ t.gate.owner = .controller
        ∧ t.roster.window = some ⟨s.clock, 0⟩
        ∧ ((∀ f ∈ s.line.tx, f.kind ≠ .roll) → s.line.tx.length < 3 →
            t.line.tx = s.line.tx ++
              [⟨.answer, true, s.setup.replyTo,
                  byte Kind.setupLock.code :: byte AnswerResult.done.code :: byte SetupState.locked.code
                    :: bytes2 r.digest.toNat, !s.line.altOther, 0⟩,
                ⟨.roll, false, 0, t.rollPayload, s.line.altOther, 0⟩])
        ∧ (s.line.tx.length < 4 → ∃ f ∈ t.line.tx, f.kind = .answer ∧ f.directed = true ∧ f.target = s.setup.replyTo
            ∧ f.payload = byte Kind.setupLock.code :: byte AnswerResult.done.code :: byte SetupState.locked.code
                :: bytes2 r.digest.toNat)
        ∧ t.verifier = s.verifier ∧ t.slotTable = s.slotTable ∧ t.keyPort = s.keyPort ∧ t.purge = s.purge)

/-- QUERY is answered with a directed STATUS and STATUS is ignored; STATUS holds the fields of Table 10-4, and of a station without a locked record only what is its own, the rest zero. CLEAR clears the named events but TAMPERED, and answers with what remains, for the controller or in UNCOMMISSIONED, and is REFUSED to a guard. The view `reportedOwner` is NONE in HALTED, else the owner of the gate. What of it is the model's and not the spec's: log entry 63 (R202's owner NONE stands in this view only, which no command and no byte reads; the gate follows R140). -/
def Obligations.QueryStatusAndClearAreServed : Prop :=
  (∀ (s : State) (f : RxFrame) (rest : List RxFrame), s.isFront f rest →
    (f.kind = .query → s.setup.state = .locked →
      exec .query s = .next ((s.taken rest).offer .status (some f.sender) s.statusPayload).payRoll)
    ∧ (f.kind = .query → s.setup.state ≠ .locked →
      exec .query s = .next ((s.taken rest).offer .status (some f.sender) s.unlockedStatus).payRoll)
    ∧ (f.kind = .status → exec .status s = .next (s.taken rest).payRoll)
    ∧ (f.kind = .clear → s.phase = .halted → exec .clear s = .next (s.taken rest).payRoll)
    ∧ (f.kind = .clear → s.phase ≠ .halted → s.phase ≠ .uncommissioned → s.roleOf f.sender ≠ .controller →
      exec .clear s = .next ((s.taken rest).answers f.sender .clear .refused 0 s.eventsMask).payRoll)
    ∧ (f.kind = .clear → s.phase ≠ .halted → s.phase = .uncommissioned ∨ s.roleOf f.sender = .controller →
      let mask := u16 f.payload 0
      let cleared := ((s.taken rest).setLine
        { (s.taken rest).line with
          headerParity := s.line.headerParity && !mask.testBit 15
          checkFail := s.line.checkFail && !mask.testBit 14
          rxMissed := s.line.rxMissed && !mask.testBit 13
          txPartial := s.line.txPartial && !mask.testBit 12
          txDropped := s.line.txDropped && !mask.testBit 11 }).setGate
        { s.gate with
          gateDenied := s.gate.gateDenied && !mask.testBit 10
          stepTimeout := s.gate.stepTimeout && !mask.testBit 9 }
      let after := cleared.setSlotTable
        { s.slotTable with slotDiverged := s.slotTable.slotDiverged && !mask.testBit 8 }
      exec .clear s = .next (after.answers f.sender .clear .done 0 after.eventsMask).payRoll))
  ∧ (∀ s : State,
    let b := fun (flag : Bool) (value : Nat) => if flag = true then value else 0
    let grant := s.phaseCtl.grant
    let shown : Nat × Nat × Bool :=
      match grant with
      | .none => (0, 0, false)
      | .pub => (1, 0, false)
      | .user slot readOnly => (2, slot.val, readOnly)
      | .admin slot readOnly => (3, slot.val, readOnly)
    let hold := match s.verifier.hold with
      | some due => due - s.clock
      | none => 0
    let journal := s.purge.journal
    let cause := match journal.cause with
      | none => 0
      | some .limit => 1
      | some .request => 2
      | some .tamper => 3
      | some .epoch => 4
    let conditions := b s.supervisor.attached 128 + b (decide (s.supervisor.band ≠ .good)) 64
      + b (decide (s.supervisor.band = .floor ∨ s.supervisor.band = .cutoff)) 32 + b s.supervisor.tamperAsserted 16
      + b s.memberMissing 8 + b (decide (0 < hold)) 4 + b s.gate.channelFault 2
    let events := b s.line.headerParity 32768 + b s.line.checkFail 16384 + b s.line.rxMissed 8192 + b s.line.txPartial 4096
      + b s.line.txDropped 2048 + b s.gate.gateDenied 1024 + b s.gate.stepTimeout 512 + b s.slotTable.slotDiverged 256
      + b s.supervisor.tampered 128
    let first := byte (s.setup.state.code * 64 + s.roster.startCause.code * 16 + s.phase.code)
    s.eventsMask = events ∧ s.conditionsMask = conditions
    ∧ s.statusPayload
      = first :: byte (shown.1 * 64 + shown.2.1 * 8 + b shown.2.2 4 + b journal.isOpen 2 + b s.purge.suspended 1)
        :: bytes2 s.digest.toNat ++ bytes2 s.verifier.held.epoch ++ bytes4 s.verifier.held.serial
        ++ [byte s.verifier.held.count] ++ bytes2 ((hold + 999999) / 1000000) ++ [byte conditions] ++ bytes2 events
        ++ [byte (stageCode s.progressStage * 32 + cause * 4 + b journal.eraseIncomplete 2 + b journal.listFull 1),
            byte s.progressPercent]
        ++ bytes2 (journal.target.getD 0) ++ [byte s.purge.badBlocks.length]
    ∧ s.unlockedStatus
      = first :: 0 :: bytes2 s.digest.toNat ++ [0, 0] ++ [0, 0, 0, 0] ++ [0] ++ [0, 0] ++ [byte conditions] ++ bytes2 events
        ++ [0, 0] ++ [0, 0] ++ [0]
    ∧ (s.setup.state ≠ .locked → s.memberMissing = false)
    ∧ (s.phase = .halted → s.reportedOwner = .none) ∧ (s.phase ≠ .halted → s.reportedOwner = s.gate.owner))
end

