-- ==== Sys2Proof/Laws/State.lean ====
section
/-! SUPPORT. One lemma per part of the state per update: an update changes its own part and no other. -/

namespace Sys2Proof.Machine.State

@[simp] theorem setPending_pending (s : State) (v : List Instr) : (s.setPending v).pending = v := rfl
@[simp] theorem setPending_clock (s : State) (v : List Instr) : (s.setPending v).clock = s.clock := rfl
@[simp] theorem setPending_draws (s : State) (v : List Instr) : (s.setPending v).draws = s.draws := rfl
@[simp] theorem setPending_line (s : State) (v : List Instr) : (s.setPending v).line = s.line := rfl
@[simp] theorem setPending_roster (s : State) (v : List Instr) : (s.setPending v).roster = s.roster := rfl
@[simp] theorem setPending_verifier (s : State) (v : List Instr) : (s.setPending v).verifier = s.verifier := rfl
@[simp] theorem setPending_slotTable (s : State) (v : List Instr) : (s.setPending v).slotTable = s.slotTable := rfl
@[simp] theorem setPending_phaseCtl (s : State) (v : List Instr) : (s.setPending v).phaseCtl = s.phaseCtl := rfl
@[simp] theorem setPending_keyPort (s : State) (v : List Instr) : (s.setPending v).keyPort = s.keyPort := rfl
@[simp] theorem setPending_purge (s : State) (v : List Instr) : (s.setPending v).purge = s.purge := rfl
@[simp] theorem setPending_gate (s : State) (v : List Instr) : (s.setPending v).gate = s.gate := rfl
@[simp] theorem setPending_scanner (s : State) (v : List Instr) : (s.setPending v).scanner = s.scanner := rfl
@[simp] theorem setPending_supervisor (s : State) (v : List Instr) : (s.setPending v).supervisor = s.supervisor := rfl
@[simp] theorem setPending_setup (s : State) (v : List Instr) : (s.setPending v).setup = s.setup := rfl
@[simp] theorem setPending_store (s : State) (v : List Instr) : (s.setPending v).store = s.store := rfl
@[simp] theorem setPending_setPending (s : State) (v w : List Instr) : (s.setPending v).setPending w = s.setPending w := rfl
@[simp] theorem setPending_self (s : State) : s.setPending s.pending = s := rfl

@[simp] theorem setClock_pending (s : State) (v : Micros) : (s.setClock v).pending = s.pending := rfl
@[simp] theorem setClock_clock (s : State) (v : Micros) : (s.setClock v).clock = v := rfl
@[simp] theorem setClock_draws (s : State) (v : Micros) : (s.setClock v).draws = s.draws := rfl
@[simp] theorem setClock_line (s : State) (v : Micros) : (s.setClock v).line = s.line := rfl
@[simp] theorem setClock_roster (s : State) (v : Micros) : (s.setClock v).roster = s.roster := rfl
@[simp] theorem setClock_verifier (s : State) (v : Micros) : (s.setClock v).verifier = s.verifier := rfl
@[simp] theorem setClock_slotTable (s : State) (v : Micros) : (s.setClock v).slotTable = s.slotTable := rfl
@[simp] theorem setClock_phaseCtl (s : State) (v : Micros) : (s.setClock v).phaseCtl = s.phaseCtl := rfl
@[simp] theorem setClock_keyPort (s : State) (v : Micros) : (s.setClock v).keyPort = s.keyPort := rfl
@[simp] theorem setClock_purge (s : State) (v : Micros) : (s.setClock v).purge = s.purge := rfl
@[simp] theorem setClock_gate (s : State) (v : Micros) : (s.setClock v).gate = s.gate := rfl
@[simp] theorem setClock_scanner (s : State) (v : Micros) : (s.setClock v).scanner = s.scanner := rfl
@[simp] theorem setClock_supervisor (s : State) (v : Micros) : (s.setClock v).supervisor = s.supervisor := rfl
@[simp] theorem setClock_setup (s : State) (v : Micros) : (s.setClock v).setup = s.setup := rfl
@[simp] theorem setClock_store (s : State) (v : Micros) : (s.setClock v).store = s.store := rfl
@[simp] theorem setClock_setClock (s : State) (v w : Micros) : (s.setClock v).setClock w = s.setClock w := rfl
@[simp] theorem setClock_self (s : State) : s.setClock s.clock = s := rfl

@[simp] theorem setDraws_pending (s : State) (v : Nat) : (s.setDraws v).pending = s.pending := rfl
@[simp] theorem setDraws_clock (s : State) (v : Nat) : (s.setDraws v).clock = s.clock := rfl
@[simp] theorem setDraws_draws (s : State) (v : Nat) : (s.setDraws v).draws = v := rfl
@[simp] theorem setDraws_line (s : State) (v : Nat) : (s.setDraws v).line = s.line := rfl
@[simp] theorem setDraws_roster (s : State) (v : Nat) : (s.setDraws v).roster = s.roster := rfl
@[simp] theorem setDraws_verifier (s : State) (v : Nat) : (s.setDraws v).verifier = s.verifier := rfl
@[simp] theorem setDraws_slotTable (s : State) (v : Nat) : (s.setDraws v).slotTable = s.slotTable := rfl
@[simp] theorem setDraws_phaseCtl (s : State) (v : Nat) : (s.setDraws v).phaseCtl = s.phaseCtl := rfl
@[simp] theorem setDraws_keyPort (s : State) (v : Nat) : (s.setDraws v).keyPort = s.keyPort := rfl
@[simp] theorem setDraws_purge (s : State) (v : Nat) : (s.setDraws v).purge = s.purge := rfl
@[simp] theorem setDraws_gate (s : State) (v : Nat) : (s.setDraws v).gate = s.gate := rfl
@[simp] theorem setDraws_scanner (s : State) (v : Nat) : (s.setDraws v).scanner = s.scanner := rfl
@[simp] theorem setDraws_supervisor (s : State) (v : Nat) : (s.setDraws v).supervisor = s.supervisor := rfl
@[simp] theorem setDraws_setup (s : State) (v : Nat) : (s.setDraws v).setup = s.setup := rfl
@[simp] theorem setDraws_store (s : State) (v : Nat) : (s.setDraws v).store = s.store := rfl
@[simp] theorem setDraws_setDraws (s : State) (v w : Nat) : (s.setDraws v).setDraws w = s.setDraws w := rfl
@[simp] theorem setDraws_self (s : State) : s.setDraws s.draws = s := rfl

@[simp] theorem setLine_pending (s : State) (v : LineInterface) : (s.setLine v).pending = s.pending := rfl
@[simp] theorem setLine_clock (s : State) (v : LineInterface) : (s.setLine v).clock = s.clock := rfl
@[simp] theorem setLine_draws (s : State) (v : LineInterface) : (s.setLine v).draws = s.draws := rfl
@[simp] theorem setLine_line (s : State) (v : LineInterface) : (s.setLine v).line = v := rfl
@[simp] theorem setLine_roster (s : State) (v : LineInterface) : (s.setLine v).roster = s.roster := rfl
@[simp] theorem setLine_verifier (s : State) (v : LineInterface) : (s.setLine v).verifier = s.verifier := rfl
@[simp] theorem setLine_slotTable (s : State) (v : LineInterface) : (s.setLine v).slotTable = s.slotTable := rfl
@[simp] theorem setLine_phaseCtl (s : State) (v : LineInterface) : (s.setLine v).phaseCtl = s.phaseCtl := rfl
@[simp] theorem setLine_keyPort (s : State) (v : LineInterface) : (s.setLine v).keyPort = s.keyPort := rfl
@[simp] theorem setLine_purge (s : State) (v : LineInterface) : (s.setLine v).purge = s.purge := rfl
@[simp] theorem setLine_gate (s : State) (v : LineInterface) : (s.setLine v).gate = s.gate := rfl
@[simp] theorem setLine_scanner (s : State) (v : LineInterface) : (s.setLine v).scanner = s.scanner := rfl
@[simp] theorem setLine_supervisor (s : State) (v : LineInterface) : (s.setLine v).supervisor = s.supervisor := rfl
@[simp] theorem setLine_setup (s : State) (v : LineInterface) : (s.setLine v).setup = s.setup := rfl
@[simp] theorem setLine_store (s : State) (v : LineInterface) : (s.setLine v).store = s.store := rfl
@[simp] theorem setLine_setLine (s : State) (v w : LineInterface) : (s.setLine v).setLine w = s.setLine w := rfl
@[simp] theorem setLine_self (s : State) : s.setLine s.line = s := rfl

@[simp] theorem setRoster_pending (s : State) (v : RosterUnit) : (s.setRoster v).pending = s.pending := rfl
@[simp] theorem setRoster_clock (s : State) (v : RosterUnit) : (s.setRoster v).clock = s.clock := rfl
@[simp] theorem setRoster_draws (s : State) (v : RosterUnit) : (s.setRoster v).draws = s.draws := rfl
@[simp] theorem setRoster_line (s : State) (v : RosterUnit) : (s.setRoster v).line = s.line := rfl
@[simp] theorem setRoster_roster (s : State) (v : RosterUnit) : (s.setRoster v).roster = v := rfl
@[simp] theorem setRoster_verifier (s : State) (v : RosterUnit) : (s.setRoster v).verifier = s.verifier := rfl
@[simp] theorem setRoster_slotTable (s : State) (v : RosterUnit) : (s.setRoster v).slotTable = s.slotTable := rfl
@[simp] theorem setRoster_phaseCtl (s : State) (v : RosterUnit) : (s.setRoster v).phaseCtl = s.phaseCtl := rfl
@[simp] theorem setRoster_keyPort (s : State) (v : RosterUnit) : (s.setRoster v).keyPort = s.keyPort := rfl
@[simp] theorem setRoster_purge (s : State) (v : RosterUnit) : (s.setRoster v).purge = s.purge := rfl
@[simp] theorem setRoster_gate (s : State) (v : RosterUnit) : (s.setRoster v).gate = s.gate := rfl
@[simp] theorem setRoster_scanner (s : State) (v : RosterUnit) : (s.setRoster v).scanner = s.scanner := rfl
@[simp] theorem setRoster_supervisor (s : State) (v : RosterUnit) : (s.setRoster v).supervisor = s.supervisor := rfl
@[simp] theorem setRoster_setup (s : State) (v : RosterUnit) : (s.setRoster v).setup = s.setup := rfl
@[simp] theorem setRoster_store (s : State) (v : RosterUnit) : (s.setRoster v).store = s.store := rfl
@[simp] theorem setRoster_setRoster (s : State) (v w : RosterUnit) : (s.setRoster v).setRoster w = s.setRoster w := rfl
@[simp] theorem setRoster_self (s : State) : s.setRoster s.roster = s := rfl

@[simp] theorem setVerifier_pending (s : State) (v : Verifier) : (s.setVerifier v).pending = s.pending := rfl
@[simp] theorem setVerifier_clock (s : State) (v : Verifier) : (s.setVerifier v).clock = s.clock := rfl
@[simp] theorem setVerifier_draws (s : State) (v : Verifier) : (s.setVerifier v).draws = s.draws := rfl
@[simp] theorem setVerifier_line (s : State) (v : Verifier) : (s.setVerifier v).line = s.line := rfl
@[simp] theorem setVerifier_roster (s : State) (v : Verifier) : (s.setVerifier v).roster = s.roster := rfl
@[simp] theorem setVerifier_verifier (s : State) (v : Verifier) : (s.setVerifier v).verifier = v := rfl
@[simp] theorem setVerifier_slotTable (s : State) (v : Verifier) : (s.setVerifier v).slotTable = s.slotTable := rfl
@[simp] theorem setVerifier_phaseCtl (s : State) (v : Verifier) : (s.setVerifier v).phaseCtl = s.phaseCtl := rfl
@[simp] theorem setVerifier_keyPort (s : State) (v : Verifier) : (s.setVerifier v).keyPort = s.keyPort := rfl
@[simp] theorem setVerifier_purge (s : State) (v : Verifier) : (s.setVerifier v).purge = s.purge := rfl
@[simp] theorem setVerifier_gate (s : State) (v : Verifier) : (s.setVerifier v).gate = s.gate := rfl
@[simp] theorem setVerifier_scanner (s : State) (v : Verifier) : (s.setVerifier v).scanner = s.scanner := rfl
@[simp] theorem setVerifier_supervisor (s : State) (v : Verifier) : (s.setVerifier v).supervisor = s.supervisor := rfl
@[simp] theorem setVerifier_setup (s : State) (v : Verifier) : (s.setVerifier v).setup = s.setup := rfl
@[simp] theorem setVerifier_store (s : State) (v : Verifier) : (s.setVerifier v).store = s.store := rfl
@[simp] theorem setVerifier_setVerifier (s : State) (v w : Verifier) : (s.setVerifier v).setVerifier w = s.setVerifier w := rfl
@[simp] theorem setVerifier_self (s : State) : s.setVerifier s.verifier = s := rfl

@[simp] theorem setSlotTable_pending (s : State) (v : SlotTable) : (s.setSlotTable v).pending = s.pending := rfl
@[simp] theorem setSlotTable_clock (s : State) (v : SlotTable) : (s.setSlotTable v).clock = s.clock := rfl
@[simp] theorem setSlotTable_draws (s : State) (v : SlotTable) : (s.setSlotTable v).draws = s.draws := rfl
@[simp] theorem setSlotTable_line (s : State) (v : SlotTable) : (s.setSlotTable v).line = s.line := rfl
@[simp] theorem setSlotTable_roster (s : State) (v : SlotTable) : (s.setSlotTable v).roster = s.roster := rfl
@[simp] theorem setSlotTable_verifier (s : State) (v : SlotTable) : (s.setSlotTable v).verifier = s.verifier := rfl
@[simp] theorem setSlotTable_slotTable (s : State) (v : SlotTable) : (s.setSlotTable v).slotTable = v := rfl
@[simp] theorem setSlotTable_phaseCtl (s : State) (v : SlotTable) : (s.setSlotTable v).phaseCtl = s.phaseCtl := rfl
@[simp] theorem setSlotTable_keyPort (s : State) (v : SlotTable) : (s.setSlotTable v).keyPort = s.keyPort := rfl
@[simp] theorem setSlotTable_purge (s : State) (v : SlotTable) : (s.setSlotTable v).purge = s.purge := rfl
@[simp] theorem setSlotTable_gate (s : State) (v : SlotTable) : (s.setSlotTable v).gate = s.gate := rfl
@[simp] theorem setSlotTable_scanner (s : State) (v : SlotTable) : (s.setSlotTable v).scanner = s.scanner := rfl
@[simp] theorem setSlotTable_supervisor (s : State) (v : SlotTable) : (s.setSlotTable v).supervisor = s.supervisor := rfl
@[simp] theorem setSlotTable_setup (s : State) (v : SlotTable) : (s.setSlotTable v).setup = s.setup := rfl
@[simp] theorem setSlotTable_store (s : State) (v : SlotTable) : (s.setSlotTable v).store = s.store := rfl
@[simp] theorem setSlotTable_setSlotTable (s : State) (v w : SlotTable) : (s.setSlotTable v).setSlotTable w = s.setSlotTable w := rfl
@[simp] theorem setSlotTable_self (s : State) : s.setSlotTable s.slotTable = s := rfl

@[simp] theorem setPhaseCtl_pending (s : State) (v : PhaseController) : (s.setPhaseCtl v).pending = s.pending := rfl
@[simp] theorem setPhaseCtl_clock (s : State) (v : PhaseController) : (s.setPhaseCtl v).clock = s.clock := rfl
@[simp] theorem setPhaseCtl_draws (s : State) (v : PhaseController) : (s.setPhaseCtl v).draws = s.draws := rfl
@[simp] theorem setPhaseCtl_line (s : State) (v : PhaseController) : (s.setPhaseCtl v).line = s.line := rfl
@[simp] theorem setPhaseCtl_roster (s : State) (v : PhaseController) : (s.setPhaseCtl v).roster = s.roster := rfl
@[simp] theorem setPhaseCtl_verifier (s : State) (v : PhaseController) : (s.setPhaseCtl v).verifier = s.verifier := rfl
@[simp] theorem setPhaseCtl_slotTable (s : State) (v : PhaseController) : (s.setPhaseCtl v).slotTable = s.slotTable := rfl
@[simp] theorem setPhaseCtl_phaseCtl (s : State) (v : PhaseController) : (s.setPhaseCtl v).phaseCtl = v := rfl
@[simp] theorem setPhaseCtl_keyPort (s : State) (v : PhaseController) : (s.setPhaseCtl v).keyPort = s.keyPort := rfl
@[simp] theorem setPhaseCtl_purge (s : State) (v : PhaseController) : (s.setPhaseCtl v).purge = s.purge := rfl
@[simp] theorem setPhaseCtl_gate (s : State) (v : PhaseController) : (s.setPhaseCtl v).gate = s.gate := rfl
@[simp] theorem setPhaseCtl_scanner (s : State) (v : PhaseController) : (s.setPhaseCtl v).scanner = s.scanner := rfl
@[simp] theorem setPhaseCtl_supervisor (s : State) (v : PhaseController) : (s.setPhaseCtl v).supervisor = s.supervisor := rfl
@[simp] theorem setPhaseCtl_setup (s : State) (v : PhaseController) : (s.setPhaseCtl v).setup = s.setup := rfl
@[simp] theorem setPhaseCtl_store (s : State) (v : PhaseController) : (s.setPhaseCtl v).store = s.store := rfl
@[simp] theorem setPhaseCtl_setPhaseCtl (s : State) (v w : PhaseController) : (s.setPhaseCtl v).setPhaseCtl w = s.setPhaseCtl w := rfl
@[simp] theorem setPhaseCtl_self (s : State) : s.setPhaseCtl s.phaseCtl = s := rfl

@[simp] theorem setKeyPort_pending (s : State) (v : KeyPort) : (s.setKeyPort v).pending = s.pending := rfl
@[simp] theorem setKeyPort_clock (s : State) (v : KeyPort) : (s.setKeyPort v).clock = s.clock := rfl
@[simp] theorem setKeyPort_draws (s : State) (v : KeyPort) : (s.setKeyPort v).draws = s.draws := rfl
@[simp] theorem setKeyPort_line (s : State) (v : KeyPort) : (s.setKeyPort v).line = s.line := rfl
@[simp] theorem setKeyPort_roster (s : State) (v : KeyPort) : (s.setKeyPort v).roster = s.roster := rfl
@[simp] theorem setKeyPort_verifier (s : State) (v : KeyPort) : (s.setKeyPort v).verifier = s.verifier := rfl
@[simp] theorem setKeyPort_slotTable (s : State) (v : KeyPort) : (s.setKeyPort v).slotTable = s.slotTable := rfl
@[simp] theorem setKeyPort_phaseCtl (s : State) (v : KeyPort) : (s.setKeyPort v).phaseCtl = s.phaseCtl := rfl
@[simp] theorem setKeyPort_keyPort (s : State) (v : KeyPort) : (s.setKeyPort v).keyPort = v := rfl
@[simp] theorem setKeyPort_purge (s : State) (v : KeyPort) : (s.setKeyPort v).purge = s.purge := rfl
@[simp] theorem setKeyPort_gate (s : State) (v : KeyPort) : (s.setKeyPort v).gate = s.gate := rfl
@[simp] theorem setKeyPort_scanner (s : State) (v : KeyPort) : (s.setKeyPort v).scanner = s.scanner := rfl
@[simp] theorem setKeyPort_supervisor (s : State) (v : KeyPort) : (s.setKeyPort v).supervisor = s.supervisor := rfl
@[simp] theorem setKeyPort_setup (s : State) (v : KeyPort) : (s.setKeyPort v).setup = s.setup := rfl
@[simp] theorem setKeyPort_store (s : State) (v : KeyPort) : (s.setKeyPort v).store = s.store := rfl
@[simp] theorem setKeyPort_setKeyPort (s : State) (v w : KeyPort) : (s.setKeyPort v).setKeyPort w = s.setKeyPort w := rfl
@[simp] theorem setKeyPort_self (s : State) : s.setKeyPort s.keyPort = s := rfl

@[simp] theorem setPurge_pending (s : State) (v : PurgeEngine) : (s.setPurge v).pending = s.pending := rfl
@[simp] theorem setPurge_clock (s : State) (v : PurgeEngine) : (s.setPurge v).clock = s.clock := rfl
@[simp] theorem setPurge_draws (s : State) (v : PurgeEngine) : (s.setPurge v).draws = s.draws := rfl
@[simp] theorem setPurge_line (s : State) (v : PurgeEngine) : (s.setPurge v).line = s.line := rfl
@[simp] theorem setPurge_roster (s : State) (v : PurgeEngine) : (s.setPurge v).roster = s.roster := rfl
@[simp] theorem setPurge_verifier (s : State) (v : PurgeEngine) : (s.setPurge v).verifier = s.verifier := rfl
@[simp] theorem setPurge_slotTable (s : State) (v : PurgeEngine) : (s.setPurge v).slotTable = s.slotTable := rfl
@[simp] theorem setPurge_phaseCtl (s : State) (v : PurgeEngine) : (s.setPurge v).phaseCtl = s.phaseCtl := rfl
@[simp] theorem setPurge_keyPort (s : State) (v : PurgeEngine) : (s.setPurge v).keyPort = s.keyPort := rfl
@[simp] theorem setPurge_purge (s : State) (v : PurgeEngine) : (s.setPurge v).purge = v := rfl
@[simp] theorem setPurge_gate (s : State) (v : PurgeEngine) : (s.setPurge v).gate = s.gate := rfl
@[simp] theorem setPurge_scanner (s : State) (v : PurgeEngine) : (s.setPurge v).scanner = s.scanner := rfl
@[simp] theorem setPurge_supervisor (s : State) (v : PurgeEngine) : (s.setPurge v).supervisor = s.supervisor := rfl
@[simp] theorem setPurge_setup (s : State) (v : PurgeEngine) : (s.setPurge v).setup = s.setup := rfl
@[simp] theorem setPurge_store (s : State) (v : PurgeEngine) : (s.setPurge v).store = s.store := rfl
@[simp] theorem setPurge_setPurge (s : State) (v w : PurgeEngine) : (s.setPurge v).setPurge w = s.setPurge w := rfl
@[simp] theorem setPurge_self (s : State) : s.setPurge s.purge = s := rfl

@[simp] theorem setGate_pending (s : State) (v : Gate) : (s.setGate v).pending = s.pending := rfl
@[simp] theorem setGate_clock (s : State) (v : Gate) : (s.setGate v).clock = s.clock := rfl
@[simp] theorem setGate_draws (s : State) (v : Gate) : (s.setGate v).draws = s.draws := rfl
@[simp] theorem setGate_line (s : State) (v : Gate) : (s.setGate v).line = s.line := rfl
@[simp] theorem setGate_roster (s : State) (v : Gate) : (s.setGate v).roster = s.roster := rfl
@[simp] theorem setGate_verifier (s : State) (v : Gate) : (s.setGate v).verifier = s.verifier := rfl
@[simp] theorem setGate_slotTable (s : State) (v : Gate) : (s.setGate v).slotTable = s.slotTable := rfl
@[simp] theorem setGate_phaseCtl (s : State) (v : Gate) : (s.setGate v).phaseCtl = s.phaseCtl := rfl
@[simp] theorem setGate_keyPort (s : State) (v : Gate) : (s.setGate v).keyPort = s.keyPort := rfl
@[simp] theorem setGate_purge (s : State) (v : Gate) : (s.setGate v).purge = s.purge := rfl
@[simp] theorem setGate_gate (s : State) (v : Gate) : (s.setGate v).gate = v := rfl
@[simp] theorem setGate_scanner (s : State) (v : Gate) : (s.setGate v).scanner = s.scanner := rfl
@[simp] theorem setGate_supervisor (s : State) (v : Gate) : (s.setGate v).supervisor = s.supervisor := rfl
@[simp] theorem setGate_setup (s : State) (v : Gate) : (s.setGate v).setup = s.setup := rfl
@[simp] theorem setGate_store (s : State) (v : Gate) : (s.setGate v).store = s.store := rfl
@[simp] theorem setGate_setGate (s : State) (v w : Gate) : (s.setGate v).setGate w = s.setGate w := rfl
@[simp] theorem setGate_self (s : State) : s.setGate s.gate = s := rfl

@[simp] theorem setScanner_pending (s : State) (v : Scanner) : (s.setScanner v).pending = s.pending := rfl
@[simp] theorem setScanner_clock (s : State) (v : Scanner) : (s.setScanner v).clock = s.clock := rfl
@[simp] theorem setScanner_draws (s : State) (v : Scanner) : (s.setScanner v).draws = s.draws := rfl
@[simp] theorem setScanner_line (s : State) (v : Scanner) : (s.setScanner v).line = s.line := rfl
@[simp] theorem setScanner_roster (s : State) (v : Scanner) : (s.setScanner v).roster = s.roster := rfl
@[simp] theorem setScanner_verifier (s : State) (v : Scanner) : (s.setScanner v).verifier = s.verifier := rfl
@[simp] theorem setScanner_slotTable (s : State) (v : Scanner) : (s.setScanner v).slotTable = s.slotTable := rfl
@[simp] theorem setScanner_phaseCtl (s : State) (v : Scanner) : (s.setScanner v).phaseCtl = s.phaseCtl := rfl
@[simp] theorem setScanner_keyPort (s : State) (v : Scanner) : (s.setScanner v).keyPort = s.keyPort := rfl
@[simp] theorem setScanner_purge (s : State) (v : Scanner) : (s.setScanner v).purge = s.purge := rfl
@[simp] theorem setScanner_gate (s : State) (v : Scanner) : (s.setScanner v).gate = s.gate := rfl
@[simp] theorem setScanner_scanner (s : State) (v : Scanner) : (s.setScanner v).scanner = v := rfl
@[simp] theorem setScanner_supervisor (s : State) (v : Scanner) : (s.setScanner v).supervisor = s.supervisor := rfl
@[simp] theorem setScanner_setup (s : State) (v : Scanner) : (s.setScanner v).setup = s.setup := rfl
@[simp] theorem setScanner_store (s : State) (v : Scanner) : (s.setScanner v).store = s.store := rfl
@[simp] theorem setScanner_setScanner (s : State) (v w : Scanner) : (s.setScanner v).setScanner w = s.setScanner w := rfl
@[simp] theorem setScanner_self (s : State) : s.setScanner s.scanner = s := rfl

@[simp] theorem setSupervisor_pending (s : State) (v : Supervisor) : (s.setSupervisor v).pending = s.pending := rfl
@[simp] theorem setSupervisor_clock (s : State) (v : Supervisor) : (s.setSupervisor v).clock = s.clock := rfl
@[simp] theorem setSupervisor_draws (s : State) (v : Supervisor) : (s.setSupervisor v).draws = s.draws := rfl
@[simp] theorem setSupervisor_line (s : State) (v : Supervisor) : (s.setSupervisor v).line = s.line := rfl
@[simp] theorem setSupervisor_roster (s : State) (v : Supervisor) : (s.setSupervisor v).roster = s.roster := rfl
@[simp] theorem setSupervisor_verifier (s : State) (v : Supervisor) : (s.setSupervisor v).verifier = s.verifier := rfl
@[simp] theorem setSupervisor_slotTable (s : State) (v : Supervisor) : (s.setSupervisor v).slotTable = s.slotTable := rfl
@[simp] theorem setSupervisor_phaseCtl (s : State) (v : Supervisor) : (s.setSupervisor v).phaseCtl = s.phaseCtl := rfl
@[simp] theorem setSupervisor_keyPort (s : State) (v : Supervisor) : (s.setSupervisor v).keyPort = s.keyPort := rfl
@[simp] theorem setSupervisor_purge (s : State) (v : Supervisor) : (s.setSupervisor v).purge = s.purge := rfl
@[simp] theorem setSupervisor_gate (s : State) (v : Supervisor) : (s.setSupervisor v).gate = s.gate := rfl
@[simp] theorem setSupervisor_scanner (s : State) (v : Supervisor) : (s.setSupervisor v).scanner = s.scanner := rfl
@[simp] theorem setSupervisor_supervisor (s : State) (v : Supervisor) : (s.setSupervisor v).supervisor = v := rfl
@[simp] theorem setSupervisor_setup (s : State) (v : Supervisor) : (s.setSupervisor v).setup = s.setup := rfl
@[simp] theorem setSupervisor_store (s : State) (v : Supervisor) : (s.setSupervisor v).store = s.store := rfl
@[simp] theorem setSupervisor_setSupervisor (s : State) (v w : Supervisor) : (s.setSupervisor v).setSupervisor w = s.setSupervisor w := rfl
@[simp] theorem setSupervisor_self (s : State) : s.setSupervisor s.supervisor = s := rfl

@[simp] theorem setSetup_pending (s : State) (v : SetupLogic) : (s.setSetup v).pending = s.pending := rfl
@[simp] theorem setSetup_clock (s : State) (v : SetupLogic) : (s.setSetup v).clock = s.clock := rfl
@[simp] theorem setSetup_draws (s : State) (v : SetupLogic) : (s.setSetup v).draws = s.draws := rfl
@[simp] theorem setSetup_line (s : State) (v : SetupLogic) : (s.setSetup v).line = s.line := rfl
@[simp] theorem setSetup_roster (s : State) (v : SetupLogic) : (s.setSetup v).roster = s.roster := rfl
@[simp] theorem setSetup_verifier (s : State) (v : SetupLogic) : (s.setSetup v).verifier = s.verifier := rfl
@[simp] theorem setSetup_slotTable (s : State) (v : SetupLogic) : (s.setSetup v).slotTable = s.slotTable := rfl
@[simp] theorem setSetup_phaseCtl (s : State) (v : SetupLogic) : (s.setSetup v).phaseCtl = s.phaseCtl := rfl
@[simp] theorem setSetup_keyPort (s : State) (v : SetupLogic) : (s.setSetup v).keyPort = s.keyPort := rfl
@[simp] theorem setSetup_purge (s : State) (v : SetupLogic) : (s.setSetup v).purge = s.purge := rfl
@[simp] theorem setSetup_gate (s : State) (v : SetupLogic) : (s.setSetup v).gate = s.gate := rfl
@[simp] theorem setSetup_scanner (s : State) (v : SetupLogic) : (s.setSetup v).scanner = s.scanner := rfl
@[simp] theorem setSetup_supervisor (s : State) (v : SetupLogic) : (s.setSetup v).supervisor = s.supervisor := rfl
@[simp] theorem setSetup_setup (s : State) (v : SetupLogic) : (s.setSetup v).setup = v := rfl
@[simp] theorem setSetup_store (s : State) (v : SetupLogic) : (s.setSetup v).store = s.store := rfl
@[simp] theorem setSetup_setSetup (s : State) (v w : SetupLogic) : (s.setSetup v).setSetup w = s.setSetup w := rfl
@[simp] theorem setSetup_self (s : State) : s.setSetup s.setup = s := rfl

@[simp] theorem setStore_pending (s : State) (v : Store) : (s.setStore v).pending = s.pending := rfl
@[simp] theorem setStore_clock (s : State) (v : Store) : (s.setStore v).clock = s.clock := rfl
@[simp] theorem setStore_draws (s : State) (v : Store) : (s.setStore v).draws = s.draws := rfl
@[simp] theorem setStore_line (s : State) (v : Store) : (s.setStore v).line = s.line := rfl
@[simp] theorem setStore_roster (s : State) (v : Store) : (s.setStore v).roster = s.roster := rfl
@[simp] theorem setStore_verifier (s : State) (v : Store) : (s.setStore v).verifier = s.verifier := rfl
@[simp] theorem setStore_slotTable (s : State) (v : Store) : (s.setStore v).slotTable = s.slotTable := rfl
@[simp] theorem setStore_phaseCtl (s : State) (v : Store) : (s.setStore v).phaseCtl = s.phaseCtl := rfl
@[simp] theorem setStore_keyPort (s : State) (v : Store) : (s.setStore v).keyPort = s.keyPort := rfl
@[simp] theorem setStore_purge (s : State) (v : Store) : (s.setStore v).purge = s.purge := rfl
@[simp] theorem setStore_gate (s : State) (v : Store) : (s.setStore v).gate = s.gate := rfl
@[simp] theorem setStore_scanner (s : State) (v : Store) : (s.setStore v).scanner = s.scanner := rfl
@[simp] theorem setStore_supervisor (s : State) (v : Store) : (s.setStore v).supervisor = s.supervisor := rfl
@[simp] theorem setStore_setup (s : State) (v : Store) : (s.setStore v).setup = s.setup := rfl
@[simp] theorem setStore_store (s : State) (v : Store) : (s.setStore v).store = v := rfl
@[simp] theorem setStore_setStore (s : State) (v w : Store) : (s.setStore v).setStore w = s.setStore w := rfl
@[simp] theorem setStore_self (s : State) : s.setStore s.store = s := rfl

end Sys2Proof.Machine.State
end

