-- ==== Sys2Proof/Laws/Frames.lean ====
section
/-! SUPPORT. What the shared operations leave as it was: one lemma for each, its fields in the order of State. A proof cites these and unfolds no operation for a field that it does not touch. -/

set_option Elab.async false
set_option linter.unusedTactic false
set_option linter.unreachableTactic false
set_option linter.unnecessarySeqFocus false

namespace Sys2Proof.Machine

@[simp] theorem LineInterface.flipAlternation_frame (l : LineInterface) (urgent : Bool) :
    (l.flipAlternation urgent).state = l.state ∧ (l.flipAlternation urgent).rx = l.rx
    ∧ (l.flipAlternation urgent).tx = l.tx ∧ (l.flipAlternation urgent).onLine = l.onLine
    ∧ (l.flipAlternation urgent).repeatUrgent = l.repeatUrgent
    ∧ (l.flipAlternation urgent).repeatOther = l.repeatOther
    ∧ (l.flipAlternation urgent).headerParity = l.headerParity ∧ (l.flipAlternation urgent).checkFail = l.checkFail
    ∧ (l.flipAlternation urgent).rxMissed = l.rxMissed ∧ (l.flipAlternation urgent).txPartial = l.txPartial
    ∧ (l.flipAlternation urgent).txDropped = l.txDropped ∧ (l.flipAlternation urgent).settle = l.settle
    ∧ (l.flipAlternation urgent).lastDominant = l.lastDominant ∧ (l.flipAlternation urgent).inReset = l.inReset
    ∧ (l.flipAlternation urgent).sendingReset = l.sendingReset ∧ (l.flipAlternation urgent).receipt = l.receipt := by
  unfold LineInterface.flipAlternation
  split <;> simp

@[simp] theorem LineInterface.remember_frame (l : LineInterface) (urgent : Bool) (n : StationNo) (e : RepeatEntry) :
    (l.remember urgent n e).state = l.state ∧ (l.remember urgent n e).rx = l.rx ∧ (l.remember urgent n e).tx = l.tx
    ∧ (l.remember urgent n e).onLine = l.onLine ∧ (l.remember urgent n e).headerParity = l.headerParity
    ∧ (l.remember urgent n e).checkFail = l.checkFail ∧ (l.remember urgent n e).rxMissed = l.rxMissed
    ∧ (l.remember urgent n e).txPartial = l.txPartial ∧ (l.remember urgent n e).txDropped = l.txDropped
    ∧ (l.remember urgent n e).settle = l.settle ∧ (l.remember urgent n e).lastDominant = l.lastDominant
    ∧ (l.remember urgent n e).inReset = l.inReset ∧ (l.remember urgent n e).sendingReset = l.sendingReset
    ∧ (l.remember urgent n e).receipt = l.receipt ∧ (l.remember urgent n e).altUrgent = l.altUrgent
    ∧ (l.remember urgent n e).altOther = l.altOther := by
  unfold LineInterface.remember
  split <;> simp

@[simp] theorem State.clearEvents_frame (s : State) (mask : Nat) :
    (s.clearEvents mask).pending = s.pending ∧ (s.clearEvents mask).clock = s.clock
    ∧ (s.clearEvents mask).draws = s.draws ∧ (s.clearEvents mask).line.state = s.line.state
    ∧ (s.clearEvents mask).line.rx = s.line.rx ∧ (s.clearEvents mask).line.tx = s.line.tx
    ∧ (s.clearEvents mask).line.onLine = s.line.onLine ∧ (s.clearEvents mask).line.altUrgent = s.line.altUrgent
    ∧ (s.clearEvents mask).line.altOther = s.line.altOther
    ∧ (s.clearEvents mask).line.repeatUrgent = s.line.repeatUrgent
    ∧ (s.clearEvents mask).line.repeatOther = s.line.repeatOther ∧ (s.clearEvents mask).line.settle = s.line.settle
    ∧ (s.clearEvents mask).line.lastDominant = s.line.lastDominant
    ∧ (s.clearEvents mask).line.inReset = s.line.inReset
    ∧ (s.clearEvents mask).line.sendingReset = s.line.sendingReset
    ∧ (s.clearEvents mask).line.receipt = s.line.receipt ∧ (s.clearEvents mask).roster = s.roster
    ∧ (s.clearEvents mask).verifier = s.verifier ∧ (s.clearEvents mask).slotTable.slots = s.slotTable.slots
    ∧ (s.clearEvents mask).slotTable.salt = s.slotTable.salt
    ∧ (s.clearEvents mask).slotTable.blankKey = s.slotTable.blankKey
    ∧ (s.clearEvents mask).slotTable.unlockedKey = s.slotTable.unlockedKey
    ∧ (s.clearEvents mask).slotTable.writes = s.slotTable.writes
    ∧ (s.clearEvents mask).slotTable.waits = s.slotTable.waits
    ∧ (s.clearEvents mask).slotTable.enrollment = s.slotTable.enrollment ∧ (s.clearEvents mask).phaseCtl = s.phaseCtl
    ∧ (s.clearEvents mask).keyPort = s.keyPort ∧ (s.clearEvents mask).purge = s.purge
    ∧ (s.clearEvents mask).gate.ranges = s.gate.ranges ∧ (s.clearEvents mask).gate.writes = s.gate.writes
    ∧ (s.clearEvents mask).gate.waits = s.gate.waits ∧ (s.clearEvents mask).gate.owner = s.gate.owner
    ∧ (s.clearEvents mask).gate.holder = s.gate.holder ∧ (s.clearEvents mask).gate.handOver = s.gate.handOver
    ∧ (s.clearEvents mask).gate.command = s.gate.command ∧ (s.clearEvents mask).gate.flashBusy = s.gate.flashBusy
    ∧ (s.clearEvents mask).gate.op = s.gate.op ∧ (s.clearEvents mask).gate.driven = s.gate.driven
    ∧ (s.clearEvents mask).gate.faultCount = s.gate.faultCount
    ∧ (s.clearEvents mask).gate.channelFault = s.gate.channelFault
    ∧ (s.clearEvents mask).gate.faultPeriod = s.gate.faultPeriod
    ∧ (s.clearEvents mask).gate.periodicDue = s.gate.periodicDue ∧ (s.clearEvents mask).gate.grant = s.gate.grant
    ∧ (s.clearEvents mask).scanner = s.scanner ∧ (s.clearEvents mask).supervisor = s.supervisor
    ∧ (s.clearEvents mask).setup = s.setup ∧ (s.clearEvents mask).store = s.store := by
  unfold State.clearEvents
  (try dsimp only)
  (repeat' split) <;> first | (simp; done) | (simp [*]; done)

@[simp] theorem State.runTo_frame (s : State) (due : Micros) :
    (s.runTo due).pending = s.pending ∧ (s.runTo due).draws = s.draws ∧ (s.runTo due).line = s.line
    ∧ (s.runTo due).roster = s.roster ∧ (s.runTo due).verifier = s.verifier ∧ (s.runTo due).slotTable = s.slotTable
    ∧ (s.runTo due).phaseCtl = s.phaseCtl ∧ (s.runTo due).keyPort = s.keyPort ∧ (s.runTo due).purge = s.purge
    ∧ (s.runTo due).gate = s.gate ∧ (s.runTo due).scanner = s.scanner ∧ (s.runTo due).supervisor = s.supervisor
    ∧ (s.runTo due).setup = s.setup ∧ (s.runTo due).store = s.store := by
  unfold State.runTo
  (try dsimp only)
  (repeat' split) <;> first | (simp; done) | (simp [*]; done)

@[simp] theorem State.returnOwn_frame (s : State) (f : TxFrame) (o : SendOutcome) :
    (s.returnOwn f o).pending = s.pending ∧ (s.returnOwn f o).clock = s.clock ∧ (s.returnOwn f o).draws = s.draws
    ∧ (s.returnOwn f o).line.state = s.line.state ∧ (s.returnOwn f o).line.tx = s.line.tx
    ∧ (s.returnOwn f o).line.onLine = s.line.onLine ∧ (s.returnOwn f o).line.altUrgent = s.line.altUrgent
    ∧ (s.returnOwn f o).line.altOther = s.line.altOther ∧ (s.returnOwn f o).line.repeatUrgent = s.line.repeatUrgent
    ∧ (s.returnOwn f o).line.repeatOther = s.line.repeatOther
    ∧ (s.returnOwn f o).line.headerParity = s.line.headerParity ∧ (s.returnOwn f o).line.checkFail = s.line.checkFail
    ∧ (s.returnOwn f o).line.rxMissed = s.line.rxMissed ∧ (s.returnOwn f o).line.txPartial = s.line.txPartial
    ∧ (s.returnOwn f o).line.txDropped = s.line.txDropped ∧ (s.returnOwn f o).line.settle = s.line.settle
    ∧ (s.returnOwn f o).line.lastDominant = s.line.lastDominant ∧ (s.returnOwn f o).line.inReset = s.line.inReset
    ∧ (s.returnOwn f o).line.sendingReset = s.line.sendingReset ∧ (s.returnOwn f o).line.receipt = s.line.receipt
    ∧ (s.returnOwn f o).roster = s.roster ∧ (s.returnOwn f o).verifier = s.verifier
    ∧ (s.returnOwn f o).slotTable = s.slotTable ∧ (s.returnOwn f o).phaseCtl = s.phaseCtl
    ∧ (s.returnOwn f o).keyPort = s.keyPort ∧ (s.returnOwn f o).purge = s.purge ∧ (s.returnOwn f o).gate = s.gate
    ∧ (s.returnOwn f o).scanner = s.scanner ∧ (s.returnOwn f o).supervisor = s.supervisor
    ∧ (s.returnOwn f o).setup = s.setup ∧ (s.returnOwn f o).store = s.store := by
  unfold State.returnOwn
  (try dsimp only)
  (repeat' split) <;> first | (simp; done) | (simp [*]; done)

@[simp] theorem State.dropFrame_frame (s : State) (f : TxFrame) :
    (s.dropFrame f).pending = s.pending ∧ (s.dropFrame f).clock = s.clock ∧ (s.dropFrame f).draws = s.draws
    ∧ (s.dropFrame f).line.state = s.line.state ∧ (s.dropFrame f).line.tx = s.line.tx
    ∧ (s.dropFrame f).line.onLine = s.line.onLine ∧ (s.dropFrame f).line.altUrgent = s.line.altUrgent
    ∧ (s.dropFrame f).line.altOther = s.line.altOther ∧ (s.dropFrame f).line.repeatUrgent = s.line.repeatUrgent
    ∧ (s.dropFrame f).line.repeatOther = s.line.repeatOther ∧ (s.dropFrame f).line.headerParity = s.line.headerParity
    ∧ (s.dropFrame f).line.checkFail = s.line.checkFail ∧ (s.dropFrame f).line.rxMissed = s.line.rxMissed
    ∧ (s.dropFrame f).line.txPartial = s.line.txPartial ∧ (s.dropFrame f).line.settle = s.line.settle
    ∧ (s.dropFrame f).line.lastDominant = s.line.lastDominant ∧ (s.dropFrame f).line.inReset = s.line.inReset
    ∧ (s.dropFrame f).line.sendingReset = s.line.sendingReset ∧ (s.dropFrame f).line.receipt = s.line.receipt
    ∧ (s.dropFrame f).roster = s.roster ∧ (s.dropFrame f).verifier = s.verifier
    ∧ (s.dropFrame f).slotTable = s.slotTable ∧ (s.dropFrame f).phaseCtl = s.phaseCtl
    ∧ (s.dropFrame f).keyPort = s.keyPort ∧ (s.dropFrame f).purge = s.purge ∧ (s.dropFrame f).gate = s.gate
    ∧ (s.dropFrame f).scanner = s.scanner ∧ (s.dropFrame f).supervisor = s.supervisor
    ∧ (s.dropFrame f).setup = s.setup ∧ (s.dropFrame f).store = s.store := by
  unfold State.dropFrame
  (try dsimp only)
  (repeat' split) <;> first | (simp; done) | (simp [*]; done)

@[simp] theorem State.takeOffer_frame (s : State) (f : TxFrame) :
    (s.takeOffer f).pending = s.pending ∧ (s.takeOffer f).clock = s.clock ∧ (s.takeOffer f).draws = s.draws
    ∧ (s.takeOffer f).line.state = s.line.state ∧ (s.takeOffer f).line.rx = s.line.rx
    ∧ (s.takeOffer f).line.onLine = s.line.onLine ∧ (s.takeOffer f).line.repeatUrgent = s.line.repeatUrgent
    ∧ (s.takeOffer f).line.repeatOther = s.line.repeatOther ∧ (s.takeOffer f).line.headerParity = s.line.headerParity
    ∧ (s.takeOffer f).line.checkFail = s.line.checkFail ∧ (s.takeOffer f).line.rxMissed = s.line.rxMissed
    ∧ (s.takeOffer f).line.txPartial = s.line.txPartial ∧ (s.takeOffer f).line.txDropped = s.line.txDropped
    ∧ (s.takeOffer f).line.settle = s.line.settle ∧ (s.takeOffer f).line.lastDominant = s.line.lastDominant
    ∧ (s.takeOffer f).line.inReset = s.line.inReset ∧ (s.takeOffer f).line.sendingReset = s.line.sendingReset
    ∧ (s.takeOffer f).line.receipt = s.line.receipt ∧ (s.takeOffer f).roster = s.roster
    ∧ (s.takeOffer f).verifier = s.verifier ∧ (s.takeOffer f).slotTable = s.slotTable
    ∧ (s.takeOffer f).phaseCtl = s.phaseCtl ∧ (s.takeOffer f).keyPort = s.keyPort ∧ (s.takeOffer f).purge = s.purge
    ∧ (s.takeOffer f).gate = s.gate ∧ (s.takeOffer f).scanner = s.scanner ∧ (s.takeOffer f).supervisor = s.supervisor
    ∧ (s.takeOffer f).setup = s.setup ∧ (s.takeOffer f).store = s.store := by
  unfold State.takeOffer
  (try dsimp only)
  (repeat' split) <;> first | (simp; done) | (simp [*]; done)

@[simp] theorem State.offerToFull_frame (s : State) (f : TxFrame) :
    (s.offerToFull f).pending = s.pending ∧ (s.offerToFull f).clock = s.clock ∧ (s.offerToFull f).draws = s.draws
    ∧ (s.offerToFull f).line.state = s.line.state ∧ (s.offerToFull f).line.onLine = s.line.onLine
    ∧ (s.offerToFull f).line.repeatUrgent = s.line.repeatUrgent
    ∧ (s.offerToFull f).line.repeatOther = s.line.repeatOther
    ∧ (s.offerToFull f).line.headerParity = s.line.headerParity ∧ (s.offerToFull f).line.checkFail = s.line.checkFail
    ∧ (s.offerToFull f).line.rxMissed = s.line.rxMissed ∧ (s.offerToFull f).line.txPartial = s.line.txPartial
    ∧ (s.offerToFull f).line.settle = s.line.settle ∧ (s.offerToFull f).line.lastDominant = s.line.lastDominant
    ∧ (s.offerToFull f).line.inReset = s.line.inReset ∧ (s.offerToFull f).line.sendingReset = s.line.sendingReset
    ∧ (s.offerToFull f).line.receipt = s.line.receipt ∧ (s.offerToFull f).roster = s.roster
    ∧ (s.offerToFull f).verifier = s.verifier ∧ (s.offerToFull f).slotTable = s.slotTable
    ∧ (s.offerToFull f).phaseCtl = s.phaseCtl ∧ (s.offerToFull f).keyPort = s.keyPort
    ∧ (s.offerToFull f).purge = s.purge ∧ (s.offerToFull f).gate = s.gate ∧ (s.offerToFull f).scanner = s.scanner
    ∧ (s.offerToFull f).supervisor = s.supervisor ∧ (s.offerToFull f).setup = s.setup
    ∧ (s.offerToFull f).store = s.store := by
  unfold State.offerToFull
  (try dsimp only)
  (repeat' split) <;> first | (simp; done) | (simp [*]; done)

@[simp] theorem State.offer_frame (s : State) (kind : Kind) (target : Option StationNo) (payload : List Byte) :
    (s.offer kind target payload).pending = s.pending ∧ (s.offer kind target payload).clock = s.clock
    ∧ (s.offer kind target payload).draws = s.draws ∧ (s.offer kind target payload).line.state = s.line.state
    ∧ (s.offer kind target payload).line.onLine = s.line.onLine
    ∧ (s.offer kind target payload).line.repeatUrgent = s.line.repeatUrgent
    ∧ (s.offer kind target payload).line.repeatOther = s.line.repeatOther
    ∧ (s.offer kind target payload).line.headerParity = s.line.headerParity
    ∧ (s.offer kind target payload).line.checkFail = s.line.checkFail
    ∧ (s.offer kind target payload).line.rxMissed = s.line.rxMissed
    ∧ (s.offer kind target payload).line.txPartial = s.line.txPartial
    ∧ (s.offer kind target payload).line.settle = s.line.settle
    ∧ (s.offer kind target payload).line.lastDominant = s.line.lastDominant
    ∧ (s.offer kind target payload).line.inReset = s.line.inReset
    ∧ (s.offer kind target payload).line.sendingReset = s.line.sendingReset
    ∧ (s.offer kind target payload).line.receipt = s.line.receipt ∧ (s.offer kind target payload).roster = s.roster
    ∧ (s.offer kind target payload).verifier = s.verifier ∧ (s.offer kind target payload).slotTable = s.slotTable
    ∧ (s.offer kind target payload).phaseCtl = s.phaseCtl ∧ (s.offer kind target payload).keyPort = s.keyPort
    ∧ (s.offer kind target payload).purge = s.purge ∧ (s.offer kind target payload).gate = s.gate
    ∧ (s.offer kind target payload).scanner = s.scanner ∧ (s.offer kind target payload).supervisor = s.supervisor
    ∧ (s.offer kind target payload).setup = s.setup ∧ (s.offer kind target payload).store = s.store := by
  unfold State.offer
  (try dsimp only)
  (repeat' split) <;> first | (simp; done) | (simp [*]; done)

@[simp] theorem State.answer_frame (s : State) (replyTo : StationNo) (request : Kind) (result : AnswerResult) (byte2 : Nat) (bytes34 : Nat) :
    (s.answer replyTo request result byte2 bytes34).pending = s.pending
    ∧ (s.answer replyTo request result byte2 bytes34).clock = s.clock
    ∧ (s.answer replyTo request result byte2 bytes34).draws = s.draws
    ∧ (s.answer replyTo request result byte2 bytes34).line.state = s.line.state
    ∧ (s.answer replyTo request result byte2 bytes34).line.onLine = s.line.onLine
    ∧ (s.answer replyTo request result byte2 bytes34).line.repeatUrgent = s.line.repeatUrgent
    ∧ (s.answer replyTo request result byte2 bytes34).line.repeatOther = s.line.repeatOther
    ∧ (s.answer replyTo request result byte2 bytes34).line.headerParity = s.line.headerParity
    ∧ (s.answer replyTo request result byte2 bytes34).line.checkFail = s.line.checkFail
    ∧ (s.answer replyTo request result byte2 bytes34).line.rxMissed = s.line.rxMissed
    ∧ (s.answer replyTo request result byte2 bytes34).line.txPartial = s.line.txPartial
    ∧ (s.answer replyTo request result byte2 bytes34).line.settle = s.line.settle
    ∧ (s.answer replyTo request result byte2 bytes34).line.lastDominant = s.line.lastDominant
    ∧ (s.answer replyTo request result byte2 bytes34).line.inReset = s.line.inReset
    ∧ (s.answer replyTo request result byte2 bytes34).line.sendingReset = s.line.sendingReset
    ∧ (s.answer replyTo request result byte2 bytes34).line.receipt = s.line.receipt
    ∧ (s.answer replyTo request result byte2 bytes34).roster = s.roster
    ∧ (s.answer replyTo request result byte2 bytes34).verifier = s.verifier
    ∧ (s.answer replyTo request result byte2 bytes34).slotTable = s.slotTable
    ∧ (s.answer replyTo request result byte2 bytes34).phaseCtl = s.phaseCtl
    ∧ (s.answer replyTo request result byte2 bytes34).keyPort = s.keyPort
    ∧ (s.answer replyTo request result byte2 bytes34).purge = s.purge
    ∧ (s.answer replyTo request result byte2 bytes34).gate = s.gate
    ∧ (s.answer replyTo request result byte2 bytes34).scanner = s.scanner
    ∧ (s.answer replyTo request result byte2 bytes34).supervisor = s.supervisor
    ∧ (s.answer replyTo request result byte2 bytes34).setup = s.setup
    ∧ (s.answer replyTo request result byte2 bytes34).store = s.store := by
  unfold State.answer
  (try dsimp only)
  (repeat' split) <;> first | (simp; done) | (simp [*]; done)

@[simp] theorem State.offerRoll_frame (s : State) :
    s.offerRoll.pending = s.pending ∧ s.offerRoll.clock = s.clock ∧ s.offerRoll.draws = s.draws
    ∧ s.offerRoll.line.state = s.line.state ∧ s.offerRoll.line.onLine = s.line.onLine
    ∧ s.offerRoll.line.repeatUrgent = s.line.repeatUrgent ∧ s.offerRoll.line.repeatOther = s.line.repeatOther
    ∧ s.offerRoll.line.headerParity = s.line.headerParity ∧ s.offerRoll.line.checkFail = s.line.checkFail
    ∧ s.offerRoll.line.rxMissed = s.line.rxMissed ∧ s.offerRoll.line.txPartial = s.line.txPartial
    ∧ s.offerRoll.line.settle = s.line.settle ∧ s.offerRoll.line.lastDominant = s.line.lastDominant
    ∧ s.offerRoll.line.inReset = s.line.inReset ∧ s.offerRoll.line.sendingReset = s.line.sendingReset
    ∧ s.offerRoll.line.receipt = s.line.receipt ∧ s.offerRoll.roster = s.roster ∧ s.offerRoll.verifier = s.verifier
    ∧ s.offerRoll.slotTable = s.slotTable ∧ s.offerRoll.phaseCtl = s.phaseCtl ∧ s.offerRoll.keyPort = s.keyPort
    ∧ s.offerRoll.purge = s.purge ∧ s.offerRoll.gate = s.gate ∧ s.offerRoll.scanner = s.scanner
    ∧ s.offerRoll.supervisor = s.supervisor ∧ s.offerRoll.setup = s.setup ∧ s.offerRoll.store = s.store := by
  unfold State.offerRoll
  (try dsimp only)
  (repeat' split) <;> first | (simp; done) | (simp [*]; done)

@[simp] theorem State.oweRoll_frame (s : State) :
    s.oweRoll.pending = s.pending ∧ s.oweRoll.clock = s.clock ∧ s.oweRoll.draws = s.draws ∧ s.oweRoll.line = s.line
    ∧ s.oweRoll.roster.sn = s.roster.sn ∧ s.oweRoll.roster.kpd = s.roster.kpd
    ∧ s.oweRoll.roster.startCause = s.roster.startCause ∧ s.oweRoll.roster.entries = s.roster.entries
    ∧ s.oweRoll.roster.window = s.roster.window ∧ s.oweRoll.roster.answeredAt = s.roster.answeredAt
    ∧ s.oweRoll.roster.announce = s.roster.announce ∧ s.oweRoll.verifier = s.verifier
    ∧ s.oweRoll.slotTable = s.slotTable ∧ s.oweRoll.phaseCtl = s.phaseCtl ∧ s.oweRoll.keyPort = s.keyPort
    ∧ s.oweRoll.purge = s.purge ∧ s.oweRoll.gate = s.gate ∧ s.oweRoll.scanner = s.scanner
    ∧ s.oweRoll.supervisor = s.supervisor ∧ s.oweRoll.setup = s.setup ∧ s.oweRoll.store = s.store := by
  unfold State.oweRoll
  (try dsimp only)
  (repeat' split) <;> first | (simp; done) | (simp [*]; done)

@[simp] theorem State.payRoll_frame (s : State) :
    s.payRoll.pending = s.pending ∧ s.payRoll.clock = s.clock ∧ s.payRoll.draws = s.draws
    ∧ s.payRoll.line.state = s.line.state ∧ s.payRoll.line.onLine = s.line.onLine
    ∧ s.payRoll.line.repeatUrgent = s.line.repeatUrgent ∧ s.payRoll.line.repeatOther = s.line.repeatOther
    ∧ s.payRoll.line.headerParity = s.line.headerParity ∧ s.payRoll.line.checkFail = s.line.checkFail
    ∧ s.payRoll.line.rxMissed = s.line.rxMissed ∧ s.payRoll.line.txPartial = s.line.txPartial
    ∧ s.payRoll.line.settle = s.line.settle ∧ s.payRoll.line.lastDominant = s.line.lastDominant
    ∧ s.payRoll.line.inReset = s.line.inReset ∧ s.payRoll.line.sendingReset = s.line.sendingReset
    ∧ s.payRoll.line.receipt = s.line.receipt ∧ s.payRoll.roster.sn = s.roster.sn
    ∧ s.payRoll.roster.kpd = s.roster.kpd ∧ s.payRoll.roster.startCause = s.roster.startCause
    ∧ s.payRoll.roster.entries = s.roster.entries ∧ s.payRoll.roster.window = s.roster.window
    ∧ s.payRoll.roster.answeredAt = s.roster.answeredAt ∧ s.payRoll.roster.announce = s.roster.announce
    ∧ s.payRoll.verifier = s.verifier ∧ s.payRoll.slotTable = s.slotTable ∧ s.payRoll.phaseCtl = s.phaseCtl
    ∧ s.payRoll.keyPort = s.keyPort ∧ s.payRoll.purge = s.purge ∧ s.payRoll.gate = s.gate
    ∧ s.payRoll.scanner = s.scanner ∧ s.payRoll.supervisor = s.supervisor ∧ s.payRoll.setup = s.setup
    ∧ s.payRoll.store = s.store := by
  unfold State.payRoll
  (try dsimp only)
  (repeat' split) <;> first | (simp; done) | (simp [*]; done)

@[simp] theorem State.grantWrite_frame (s : State) (r : Requester) (rec : RecordId) :
    (s.grantWrite r rec).pending = s.pending ∧ (s.grantWrite r rec).clock = s.clock
    ∧ (s.grantWrite r rec).draws = s.draws ∧ (s.grantWrite r rec).line = s.line
    ∧ (s.grantWrite r rec).roster = s.roster ∧ (s.grantWrite r rec).verifier = s.verifier
    ∧ (s.grantWrite r rec).slotTable = s.slotTable ∧ (s.grantWrite r rec).phaseCtl = s.phaseCtl
    ∧ (s.grantWrite r rec).keyPort = s.keyPort ∧ (s.grantWrite r rec).purge = s.purge
    ∧ (s.grantWrite r rec).gate = s.gate ∧ (s.grantWrite r rec).scanner = s.scanner
    ∧ (s.grantWrite r rec).supervisor = s.supervisor ∧ (s.grantWrite r rec).setup = s.setup
    ∧ (s.grantWrite r rec).store.stored = s.store.stored ∧ (s.grantWrite r rec).store.deciding = s.store.deciding := by
  unfold State.grantWrite
  (try dsimp only)
  (repeat' split) <;> first | (simp; done) | (simp [*]; done)

@[simp] theorem State.request_frame (s : State) (r : Requester) (rec : RecordId) :
    (s.request r rec).pending = s.pending ∧ (s.request r rec).clock = s.clock ∧ (s.request r rec).draws = s.draws
    ∧ (s.request r rec).line = s.line ∧ (s.request r rec).roster = s.roster ∧ (s.request r rec).verifier = s.verifier
    ∧ (s.request r rec).slotTable = s.slotTable ∧ (s.request r rec).phaseCtl = s.phaseCtl
    ∧ (s.request r rec).keyPort = s.keyPort ∧ (s.request r rec).purge = s.purge ∧ (s.request r rec).gate = s.gate
    ∧ (s.request r rec).scanner = s.scanner ∧ (s.request r rec).supervisor = s.supervisor
    ∧ (s.request r rec).setup = s.setup ∧ (s.request r rec).store.stored = s.store.stored
    ∧ (s.request r rec).store.deciding = s.store.deciding := by
  unfold State.request
  (try dsimp only)
  (repeat' split) <;> first | (simp; done) | (simp [*]; done)

@[simp] theorem State.arbitrate_frame (s : State) :
    s.arbitrate.pending = s.pending ∧ s.arbitrate.clock = s.clock ∧ s.arbitrate.draws = s.draws
    ∧ s.arbitrate.line = s.line ∧ s.arbitrate.roster = s.roster ∧ s.arbitrate.verifier = s.verifier
    ∧ s.arbitrate.slotTable = s.slotTable ∧ s.arbitrate.phaseCtl = s.phaseCtl ∧ s.arbitrate.keyPort = s.keyPort
    ∧ s.arbitrate.purge = s.purge ∧ s.arbitrate.gate = s.gate ∧ s.arbitrate.scanner = s.scanner
    ∧ s.arbitrate.supervisor = s.supervisor ∧ s.arbitrate.setup = s.setup ∧ s.arbitrate.store.stored = s.store.stored := by
  unfold State.arbitrate
  (try dsimp only)
  (repeat' split) <;> first | (simp; done) | (simp [*]; done)

@[simp] theorem State.setWriteSet_frame (s : State) (r : Requester) (v : WriteSet) :
    (s.setWriteSet r v).pending = s.pending ∧ (s.setWriteSet r v).clock = s.clock
    ∧ (s.setWriteSet r v).draws = s.draws ∧ (s.setWriteSet r v).line = s.line ∧ (s.setWriteSet r v).roster = s.roster
    ∧ (s.setWriteSet r v).verifier = s.verifier ∧ (s.setWriteSet r v).slotTable.slots = s.slotTable.slots
    ∧ (s.setWriteSet r v).slotTable.salt = s.slotTable.salt
    ∧ (s.setWriteSet r v).slotTable.blankKey = s.slotTable.blankKey
    ∧ (s.setWriteSet r v).slotTable.unlockedKey = s.slotTable.unlockedKey
    ∧ (s.setWriteSet r v).slotTable.waits = s.slotTable.waits
    ∧ (s.setWriteSet r v).slotTable.enrollment = s.slotTable.enrollment
    ∧ (s.setWriteSet r v).slotTable.slotDiverged = s.slotTable.slotDiverged
    ∧ (s.setWriteSet r v).phaseCtl = s.phaseCtl ∧ (s.setWriteSet r v).keyPort = s.keyPort
    ∧ (s.setWriteSet r v).purge.journal = s.purge.journal ∧ (s.setWriteSet r v).purge.badBlocks = s.purge.badBlocks
    ∧ (s.setWriteSet r v).purge.nextBlock = s.purge.nextBlock ∧ (s.setWriteSet r v).purge.plan = s.purge.plan
    ∧ (s.setWriteSet r v).purge.begun = s.purge.begun ∧ (s.setWriteSet r v).purge.closing = s.purge.closing
    ∧ (s.setWriteSet r v).purge.suspended = s.purge.suspended ∧ (s.setWriteSet r v).purge.heard = s.purge.heard
    ∧ (s.setWriteSet r v).purge.reoffer = s.purge.reoffer
    ∧ (s.setWriteSet r v).purge.pendingTarget = s.purge.pendingTarget
    ∧ (s.setWriteSet r v).purge.waits = s.purge.waits ∧ (s.setWriteSet r v).gate.ranges = s.gate.ranges
    ∧ (s.setWriteSet r v).gate.waits = s.gate.waits ∧ (s.setWriteSet r v).gate.owner = s.gate.owner
    ∧ (s.setWriteSet r v).gate.holder = s.gate.holder ∧ (s.setWriteSet r v).gate.handOver = s.gate.handOver
    ∧ (s.setWriteSet r v).gate.command = s.gate.command ∧ (s.setWriteSet r v).gate.flashBusy = s.gate.flashBusy
    ∧ (s.setWriteSet r v).gate.op = s.gate.op ∧ (s.setWriteSet r v).gate.driven = s.gate.driven
    ∧ (s.setWriteSet r v).gate.faultCount = s.gate.faultCount
    ∧ (s.setWriteSet r v).gate.channelFault = s.gate.channelFault
    ∧ (s.setWriteSet r v).gate.faultPeriod = s.gate.faultPeriod
    ∧ (s.setWriteSet r v).gate.periodicDue = s.gate.periodicDue ∧ (s.setWriteSet r v).gate.grant = s.gate.grant
    ∧ (s.setWriteSet r v).gate.gateDenied = s.gate.gateDenied
    ∧ (s.setWriteSet r v).gate.stepTimeout = s.gate.stepTimeout ∧ (s.setWriteSet r v).scanner = s.scanner
    ∧ (s.setWriteSet r v).supervisor = s.supervisor ∧ (s.setWriteSet r v).setup = s.setup
    ∧ (s.setWriteSet r v).store = s.store := by
  unfold State.setWriteSet
  (try dsimp only)
  (repeat' split) <;> first | (simp; done) | (simp [*]; done)

@[simp] theorem State.kickWrites_frame (s : State) (r : Requester) :
    (s.kickWrites r).pending = s.pending ∧ (s.kickWrites r).clock = s.clock ∧ (s.kickWrites r).draws = s.draws
    ∧ (s.kickWrites r).line = s.line ∧ (s.kickWrites r).roster = s.roster ∧ (s.kickWrites r).verifier = s.verifier
    ∧ (s.kickWrites r).slotTable = s.slotTable ∧ (s.kickWrites r).phaseCtl = s.phaseCtl
    ∧ (s.kickWrites r).keyPort = s.keyPort ∧ (s.kickWrites r).purge = s.purge ∧ (s.kickWrites r).gate = s.gate
    ∧ (s.kickWrites r).scanner = s.scanner ∧ (s.kickWrites r).supervisor = s.supervisor
    ∧ (s.kickWrites r).setup = s.setup ∧ (s.kickWrites r).store.stored = s.store.stored
    ∧ (s.kickWrites r).store.deciding = s.store.deciding := by
  unfold State.kickWrites
  (try dsimp only)
  (repeat' split) <;> first | (simp; done) | (simp [*]; done)

@[simp] theorem State.noteWrite_frame (s : State) (r : Requester) (rec : RecordId) :
    (s.noteWrite r rec).pending = s.pending ∧ (s.noteWrite r rec).clock = s.clock
    ∧ (s.noteWrite r rec).draws = s.draws ∧ (s.noteWrite r rec).line = s.line ∧ (s.noteWrite r rec).roster = s.roster
    ∧ (s.noteWrite r rec).verifier = s.verifier ∧ (s.noteWrite r rec).slotTable.slots = s.slotTable.slots
    ∧ (s.noteWrite r rec).slotTable.salt = s.slotTable.salt
    ∧ (s.noteWrite r rec).slotTable.blankKey = s.slotTable.blankKey
    ∧ (s.noteWrite r rec).slotTable.unlockedKey = s.slotTable.unlockedKey
    ∧ (s.noteWrite r rec).slotTable.waits = s.slotTable.waits
    ∧ (s.noteWrite r rec).slotTable.enrollment = s.slotTable.enrollment
    ∧ (s.noteWrite r rec).slotTable.slotDiverged = s.slotTable.slotDiverged
    ∧ (s.noteWrite r rec).phaseCtl = s.phaseCtl ∧ (s.noteWrite r rec).keyPort = s.keyPort
    ∧ (s.noteWrite r rec).purge.journal = s.purge.journal ∧ (s.noteWrite r rec).purge.badBlocks = s.purge.badBlocks
    ∧ (s.noteWrite r rec).purge.nextBlock = s.purge.nextBlock ∧ (s.noteWrite r rec).purge.plan = s.purge.plan
    ∧ (s.noteWrite r rec).purge.begun = s.purge.begun ∧ (s.noteWrite r rec).purge.closing = s.purge.closing
    ∧ (s.noteWrite r rec).purge.suspended = s.purge.suspended ∧ (s.noteWrite r rec).purge.heard = s.purge.heard
    ∧ (s.noteWrite r rec).purge.reoffer = s.purge.reoffer
    ∧ (s.noteWrite r rec).purge.pendingTarget = s.purge.pendingTarget
    ∧ (s.noteWrite r rec).purge.waits = s.purge.waits ∧ (s.noteWrite r rec).gate.ranges = s.gate.ranges
    ∧ (s.noteWrite r rec).gate.waits = s.gate.waits ∧ (s.noteWrite r rec).gate.owner = s.gate.owner
    ∧ (s.noteWrite r rec).gate.holder = s.gate.holder ∧ (s.noteWrite r rec).gate.handOver = s.gate.handOver
    ∧ (s.noteWrite r rec).gate.command = s.gate.command ∧ (s.noteWrite r rec).gate.flashBusy = s.gate.flashBusy
    ∧ (s.noteWrite r rec).gate.op = s.gate.op ∧ (s.noteWrite r rec).gate.driven = s.gate.driven
    ∧ (s.noteWrite r rec).gate.faultCount = s.gate.faultCount
    ∧ (s.noteWrite r rec).gate.channelFault = s.gate.channelFault
    ∧ (s.noteWrite r rec).gate.faultPeriod = s.gate.faultPeriod
    ∧ (s.noteWrite r rec).gate.periodicDue = s.gate.periodicDue ∧ (s.noteWrite r rec).gate.grant = s.gate.grant
    ∧ (s.noteWrite r rec).gate.gateDenied = s.gate.gateDenied
    ∧ (s.noteWrite r rec).gate.stepTimeout = s.gate.stepTimeout ∧ (s.noteWrite r rec).scanner = s.scanner
    ∧ (s.noteWrite r rec).supervisor = s.supervisor ∧ (s.noteWrite r rec).setup = s.setup
    ∧ (s.noteWrite r rec).store.stored = s.store.stored ∧ (s.noteWrite r rec).store.deciding = s.store.deciding := by
  unfold State.noteWrite
  (try dsimp only)
  (repeat' split) <;> first | (simp; done) | (simp [*]; done)

@[simp] theorem State.closeWrite_frame (s : State) (r : Requester) (rec : RecordId) :
    (s.closeWrite r rec).pending = s.pending ∧ (s.closeWrite r rec).clock = s.clock
    ∧ (s.closeWrite r rec).draws = s.draws ∧ (s.closeWrite r rec).line = s.line
    ∧ (s.closeWrite r rec).roster = s.roster ∧ (s.closeWrite r rec).verifier = s.verifier
    ∧ (s.closeWrite r rec).slotTable.slots = s.slotTable.slots
    ∧ (s.closeWrite r rec).slotTable.salt = s.slotTable.salt
    ∧ (s.closeWrite r rec).slotTable.blankKey = s.slotTable.blankKey
    ∧ (s.closeWrite r rec).slotTable.unlockedKey = s.slotTable.unlockedKey
    ∧ (s.closeWrite r rec).slotTable.waits = s.slotTable.waits
    ∧ (s.closeWrite r rec).slotTable.enrollment = s.slotTable.enrollment
    ∧ (s.closeWrite r rec).slotTable.slotDiverged = s.slotTable.slotDiverged
    ∧ (s.closeWrite r rec).phaseCtl = s.phaseCtl ∧ (s.closeWrite r rec).keyPort = s.keyPort
    ∧ (s.closeWrite r rec).purge.journal = s.purge.journal ∧ (s.closeWrite r rec).purge.badBlocks = s.purge.badBlocks
    ∧ (s.closeWrite r rec).purge.nextBlock = s.purge.nextBlock ∧ (s.closeWrite r rec).purge.plan = s.purge.plan
    ∧ (s.closeWrite r rec).purge.begun = s.purge.begun ∧ (s.closeWrite r rec).purge.closing = s.purge.closing
    ∧ (s.closeWrite r rec).purge.suspended = s.purge.suspended ∧ (s.closeWrite r rec).purge.heard = s.purge.heard
    ∧ (s.closeWrite r rec).purge.reoffer = s.purge.reoffer
    ∧ (s.closeWrite r rec).purge.pendingTarget = s.purge.pendingTarget
    ∧ (s.closeWrite r rec).purge.waits = s.purge.waits ∧ (s.closeWrite r rec).gate.ranges = s.gate.ranges
    ∧ (s.closeWrite r rec).gate.waits = s.gate.waits ∧ (s.closeWrite r rec).gate.owner = s.gate.owner
    ∧ (s.closeWrite r rec).gate.holder = s.gate.holder ∧ (s.closeWrite r rec).gate.handOver = s.gate.handOver
    ∧ (s.closeWrite r rec).gate.command = s.gate.command ∧ (s.closeWrite r rec).gate.flashBusy = s.gate.flashBusy
    ∧ (s.closeWrite r rec).gate.op = s.gate.op ∧ (s.closeWrite r rec).gate.driven = s.gate.driven
    ∧ (s.closeWrite r rec).gate.faultCount = s.gate.faultCount
    ∧ (s.closeWrite r rec).gate.channelFault = s.gate.channelFault
    ∧ (s.closeWrite r rec).gate.faultPeriod = s.gate.faultPeriod
    ∧ (s.closeWrite r rec).gate.periodicDue = s.gate.periodicDue ∧ (s.closeWrite r rec).gate.grant = s.gate.grant
    ∧ (s.closeWrite r rec).gate.gateDenied = s.gate.gateDenied
    ∧ (s.closeWrite r rec).gate.stepTimeout = s.gate.stepTimeout ∧ (s.closeWrite r rec).scanner = s.scanner
    ∧ (s.closeWrite r rec).supervisor = s.supervisor ∧ (s.closeWrite r rec).setup = s.setup
    ∧ (s.closeWrite r rec).store.stored = s.store.stored ∧ (s.closeWrite r rec).store.deciding = s.store.deciding := by
  unfold State.closeWrite
  (try dsimp only)
  (repeat' split) <;> first | (simp; done) | (simp [*]; done)

@[simp] theorem State.setPair_frame (s : State) (serial count : Nat) :
    (s.setPair serial count).pending = s.pending ∧ (s.setPair serial count).clock = s.clock
    ∧ (s.setPair serial count).draws = s.draws ∧ (s.setPair serial count).line = s.line
    ∧ (s.setPair serial count).roster = s.roster ∧ (s.setPair serial count).verifier.attempt = s.verifier.attempt
    ∧ (s.setPair serial count).verifier.hold = s.verifier.hold ∧ (s.setPair serial count).slotTable = s.slotTable
    ∧ (s.setPair serial count).phaseCtl = s.phaseCtl ∧ (s.setPair serial count).keyPort = s.keyPort
    ∧ (s.setPair serial count).purge = s.purge ∧ (s.setPair serial count).gate = s.gate
    ∧ (s.setPair serial count).scanner = s.scanner ∧ (s.setPair serial count).supervisor = s.supervisor
    ∧ (s.setPair serial count).setup = s.setup ∧ (s.setPair serial count).store = s.store := by
  unfold State.setPair
  (try dsimp only)
  (repeat' split) <;> first | (simp; done) | (simp [*]; done)

@[simp] theorem State.restartHold_frame (s : State) :
    s.restartHold.pending = s.pending ∧ s.restartHold.clock = s.clock ∧ s.restartHold.draws = s.draws
    ∧ s.restartHold.line = s.line ∧ s.restartHold.roster = s.roster ∧ s.restartHold.verifier.held = s.verifier.held
    ∧ s.restartHold.verifier.attempt = s.verifier.attempt ∧ s.restartHold.slotTable = s.slotTable
    ∧ s.restartHold.phaseCtl = s.phaseCtl ∧ s.restartHold.keyPort = s.keyPort ∧ s.restartHold.purge = s.purge
    ∧ s.restartHold.gate = s.gate ∧ s.restartHold.scanner = s.scanner ∧ s.restartHold.supervisor = s.supervisor
    ∧ s.restartHold.setup = s.setup ∧ s.restartHold.store = s.store := by
  unfold State.restartHold
  (try dsimp only)
  (repeat' split) <;> first | (simp; done) | (simp [*]; done)

@[simp] theorem State.stopHold_frame (s : State) :
    s.stopHold.pending = s.pending ∧ s.stopHold.clock = s.clock ∧ s.stopHold.draws = s.draws
    ∧ s.stopHold.line = s.line ∧ s.stopHold.roster = s.roster ∧ s.stopHold.verifier.held = s.verifier.held
    ∧ s.stopHold.verifier.attempt = s.verifier.attempt ∧ s.stopHold.slotTable = s.slotTable
    ∧ s.stopHold.phaseCtl = s.phaseCtl ∧ s.stopHold.keyPort = s.keyPort ∧ s.stopHold.purge = s.purge
    ∧ s.stopHold.gate = s.gate ∧ s.stopHold.scanner = s.scanner ∧ s.stopHold.supervisor = s.supervisor
    ∧ s.stopHold.setup = s.setup ∧ s.stopHold.store = s.store := by
  unfold State.stopHold
  (try dsimp only)
  (repeat' split) <;> first | (simp; done) | (simp [*]; done)

@[simp] theorem State.showTransient_frame (s : State) (t : Transient) :
    (s.showTransient t).pending = s.pending ∧ (s.showTransient t).clock = s.clock
    ∧ (s.showTransient t).draws = s.draws ∧ (s.showTransient t).line = s.line ∧ (s.showTransient t).roster = s.roster
    ∧ (s.showTransient t).verifier = s.verifier ∧ (s.showTransient t).slotTable = s.slotTable
    ∧ (s.showTransient t).phaseCtl = s.phaseCtl ∧ (s.showTransient t).keyPort = s.keyPort
    ∧ (s.showTransient t).purge = s.purge ∧ (s.showTransient t).gate = s.gate
    ∧ (s.showTransient t).scanner.key = s.scanner.key ∧ (s.showTransient t).scanner.digits = s.scanner.digits
    ∧ (s.showTransient t).scanner.seq = s.scanner.seq ∧ (s.showTransient t).scanner.entrySeq = s.scanner.entrySeq
    ∧ (s.showTransient t).supervisor = s.supervisor ∧ (s.showTransient t).setup = s.setup
    ∧ (s.showTransient t).store = s.store := by
  unfold State.showTransient
  (try dsimp only)
  (repeat' split) <;> first | (simp; done) | (simp [*]; done)

@[simp] theorem State.changeSlot_frame (s : State) (i : SlotNo) (v : Slot) (discards : Bool) :
    (s.changeSlot i v discards).pending = s.pending ∧ (s.changeSlot i v discards).clock = s.clock ∧ (s.changeSlot i v discards).draws = s.draws
    ∧ (s.changeSlot i v discards).line = s.line ∧ (s.changeSlot i v discards).roster = s.roster
    ∧ (s.changeSlot i v discards).verifier = s.verifier ∧ (s.changeSlot i v discards).slotTable.salt = s.slotTable.salt
    ∧ (s.changeSlot i v discards).slotTable.blankKey = s.slotTable.blankKey
    ∧ (s.changeSlot i v discards).slotTable.unlockedKey = s.slotTable.unlockedKey
    ∧ (s.changeSlot i v discards).slotTable.enrollment = s.slotTable.enrollment
    ∧ (s.changeSlot i v discards).slotTable.slotDiverged = s.slotTable.slotDiverged ∧ (s.changeSlot i v discards).phaseCtl = s.phaseCtl
    ∧ (s.changeSlot i v discards).keyPort = s.keyPort ∧ (s.changeSlot i v discards).purge.journal = s.purge.journal
    ∧ (s.changeSlot i v discards).purge.badBlocks = s.purge.badBlocks ∧ (s.changeSlot i v discards).purge.nextBlock = s.purge.nextBlock
    ∧ (s.changeSlot i v discards).purge.plan = s.purge.plan ∧ (s.changeSlot i v discards).purge.begun = s.purge.begun
    ∧ (s.changeSlot i v discards).purge.closing = s.purge.closing ∧ (s.changeSlot i v discards).purge.suspended = s.purge.suspended
    ∧ (s.changeSlot i v discards).purge.heard = s.purge.heard ∧ (s.changeSlot i v discards).purge.reoffer = s.purge.reoffer
    ∧ (s.changeSlot i v discards).purge.pendingTarget = s.purge.pendingTarget ∧ (s.changeSlot i v discards).purge.waits = s.purge.waits
    ∧ (s.changeSlot i v discards).gate.ranges = s.gate.ranges ∧ (s.changeSlot i v discards).gate.waits = s.gate.waits
    ∧ (s.changeSlot i v discards).gate.owner = s.gate.owner ∧ (s.changeSlot i v discards).gate.holder = s.gate.holder
    ∧ (s.changeSlot i v discards).gate.handOver = s.gate.handOver ∧ (s.changeSlot i v discards).gate.command = s.gate.command
    ∧ (s.changeSlot i v discards).gate.flashBusy = s.gate.flashBusy ∧ (s.changeSlot i v discards).gate.op = s.gate.op
    ∧ (s.changeSlot i v discards).gate.driven = s.gate.driven ∧ (s.changeSlot i v discards).gate.faultCount = s.gate.faultCount
    ∧ (s.changeSlot i v discards).gate.channelFault = s.gate.channelFault
    ∧ (s.changeSlot i v discards).gate.faultPeriod = s.gate.faultPeriod
    ∧ (s.changeSlot i v discards).gate.periodicDue = s.gate.periodicDue ∧ (s.changeSlot i v discards).gate.grant = s.gate.grant
    ∧ (s.changeSlot i v discards).gate.gateDenied = s.gate.gateDenied
    ∧ (s.changeSlot i v discards).gate.stepTimeout = s.gate.stepTimeout ∧ (s.changeSlot i v discards).scanner = s.scanner
    ∧ (s.changeSlot i v discards).supervisor = s.supervisor ∧ (s.changeSlot i v discards).setup = s.setup
    ∧ (s.changeSlot i v discards).store.stored = s.store.stored ∧ (s.changeSlot i v discards).store.deciding = s.store.deciding := by
  unfold State.changeSlot
  (try dsimp only)
  (repeat' split) <;> first | (simp; done) | (simp [*]; done)

@[simp] theorem State.deleteBlankKey_frame (s : State) :
    s.deleteBlankKey.pending = s.pending ∧ s.deleteBlankKey.clock = s.clock ∧ s.deleteBlankKey.draws = s.draws
    ∧ s.deleteBlankKey.line = s.line ∧ s.deleteBlankKey.roster = s.roster ∧ s.deleteBlankKey.verifier = s.verifier
    ∧ s.deleteBlankKey.slotTable.slots = s.slotTable.slots ∧ s.deleteBlankKey.slotTable.salt = s.slotTable.salt
    ∧ s.deleteBlankKey.slotTable.unlockedKey = s.slotTable.unlockedKey
    ∧ s.deleteBlankKey.slotTable.waits = s.slotTable.waits
    ∧ s.deleteBlankKey.slotTable.enrollment = s.slotTable.enrollment
    ∧ s.deleteBlankKey.slotTable.slotDiverged = s.slotTable.slotDiverged ∧ s.deleteBlankKey.phaseCtl = s.phaseCtl
    ∧ s.deleteBlankKey.keyPort = s.keyPort ∧ s.deleteBlankKey.purge.journal = s.purge.journal
    ∧ s.deleteBlankKey.purge.badBlocks = s.purge.badBlocks ∧ s.deleteBlankKey.purge.nextBlock = s.purge.nextBlock
    ∧ s.deleteBlankKey.purge.plan = s.purge.plan ∧ s.deleteBlankKey.purge.begun = s.purge.begun
    ∧ s.deleteBlankKey.purge.closing = s.purge.closing ∧ s.deleteBlankKey.purge.suspended = s.purge.suspended
    ∧ s.deleteBlankKey.purge.heard = s.purge.heard ∧ s.deleteBlankKey.purge.reoffer = s.purge.reoffer
    ∧ s.deleteBlankKey.purge.pendingTarget = s.purge.pendingTarget ∧ s.deleteBlankKey.purge.waits = s.purge.waits
    ∧ s.deleteBlankKey.gate.ranges = s.gate.ranges ∧ s.deleteBlankKey.gate.waits = s.gate.waits
    ∧ s.deleteBlankKey.gate.owner = s.gate.owner ∧ s.deleteBlankKey.gate.holder = s.gate.holder
    ∧ s.deleteBlankKey.gate.handOver = s.gate.handOver ∧ s.deleteBlankKey.gate.command = s.gate.command
    ∧ s.deleteBlankKey.gate.flashBusy = s.gate.flashBusy ∧ s.deleteBlankKey.gate.op = s.gate.op
    ∧ s.deleteBlankKey.gate.driven = s.gate.driven ∧ s.deleteBlankKey.gate.faultCount = s.gate.faultCount
    ∧ s.deleteBlankKey.gate.channelFault = s.gate.channelFault
    ∧ s.deleteBlankKey.gate.faultPeriod = s.gate.faultPeriod ∧ s.deleteBlankKey.gate.periodicDue = s.gate.periodicDue
    ∧ s.deleteBlankKey.gate.grant = s.gate.grant ∧ s.deleteBlankKey.gate.gateDenied = s.gate.gateDenied
    ∧ s.deleteBlankKey.gate.stepTimeout = s.gate.stepTimeout ∧ s.deleteBlankKey.scanner = s.scanner
    ∧ s.deleteBlankKey.supervisor = s.supervisor ∧ s.deleteBlankKey.setup = s.setup
    ∧ s.deleteBlankKey.store.stored = s.store.stored ∧ s.deleteBlankKey.store.deciding = s.store.deciding := by
  unfold State.deleteBlankKey
  (try dsimp only)
  (repeat' split) <;> first | (simp; done) | (simp [*]; done)

@[simp] theorem State.setTampered_frame (s : State) (b : Bool) :
    (s.setTampered b).pending = s.pending ∧ (s.setTampered b).clock = s.clock ∧ (s.setTampered b).draws = s.draws
    ∧ (s.setTampered b).line = s.line ∧ (s.setTampered b).roster.sn = s.roster.sn
    ∧ (s.setTampered b).roster.kpd = s.roster.kpd ∧ (s.setTampered b).roster.startCause = s.roster.startCause
    ∧ (s.setTampered b).roster.entries = s.roster.entries ∧ (s.setTampered b).roster.window = s.roster.window
    ∧ (s.setTampered b).roster.answeredAt = s.roster.answeredAt
    ∧ (s.setTampered b).roster.announce = s.roster.announce ∧ (s.setTampered b).verifier = s.verifier
    ∧ (s.setTampered b).slotTable = s.slotTable ∧ (s.setTampered b).phaseCtl = s.phaseCtl
    ∧ (s.setTampered b).keyPort = s.keyPort ∧ (s.setTampered b).purge = s.purge ∧ (s.setTampered b).gate = s.gate
    ∧ (s.setTampered b).scanner = s.scanner ∧ (s.setTampered b).supervisor.supplyValid = s.supervisor.supplyValid
    ∧ (s.setTampered b).supervisor.dormant = s.supervisor.dormant
    ∧ (s.setTampered b).supervisor.attached = s.supervisor.attached
    ∧ (s.setTampered b).supervisor.band = s.supervisor.band
    ∧ (s.setTampered b).supervisor.tamperAsserted = s.supervisor.tamperAsserted
    ∧ (s.setTampered b).supervisor.haltMark = s.supervisor.haltMark ∧ (s.setTampered b).setup = s.setup
    ∧ (s.setTampered b).store = s.store := by
  unfold State.setTampered
  (try dsimp only)
  (repeat' split) <;> first | (simp; done) | (simp [*]; done)

@[simp] theorem State.beginKeyShift_frame (s : State) :
    s.beginKeyShift.pending = s.pending ∧ s.beginKeyShift.clock = s.clock ∧ s.beginKeyShift.draws = s.draws
    ∧ s.beginKeyShift.line = s.line ∧ s.beginKeyShift.roster = s.roster ∧ s.beginKeyShift.verifier = s.verifier
    ∧ s.beginKeyShift.slotTable = s.slotTable ∧ s.beginKeyShift.phaseCtl = s.phaseCtl
    ∧ s.beginKeyShift.purge = s.purge ∧ s.beginKeyShift.gate = s.gate ∧ s.beginKeyShift.scanner = s.scanner
    ∧ s.beginKeyShift.supervisor = s.supervisor ∧ s.beginKeyShift.setup = s.setup ∧ s.beginKeyShift.store = s.store := by
  unfold State.beginKeyShift
  (try dsimp only)
  (repeat' split) <;> first | (simp; done) | (simp [*]; done)

@[simp] theorem State.presentKey_frame (s : State) :
    s.presentKey.pending = s.pending ∧ s.presentKey.clock = s.clock ∧ s.presentKey.draws = s.draws
    ∧ s.presentKey.line = s.line ∧ s.presentKey.roster = s.roster ∧ s.presentKey.verifier = s.verifier
    ∧ s.presentKey.slotTable = s.slotTable ∧ s.presentKey.phaseCtl = s.phaseCtl ∧ s.presentKey.purge = s.purge
    ∧ s.presentKey.gate = s.gate ∧ s.presentKey.scanner = s.scanner ∧ s.presentKey.supervisor = s.supervisor
    ∧ s.presentKey.setup = s.setup ∧ s.presentKey.store = s.store := by
  unfold State.presentKey
  (try dsimp only)
  (repeat' split) <;> first | (simp; done) | (simp [*]; done)

@[simp] theorem State.clearKeyPort_frame (s : State) :
    s.clearKeyPort.pending = s.pending ∧ s.clearKeyPort.clock = s.clock ∧ s.clearKeyPort.draws = s.draws
    ∧ s.clearKeyPort.line = s.line ∧ s.clearKeyPort.roster = s.roster ∧ s.clearKeyPort.verifier = s.verifier
    ∧ s.clearKeyPort.slotTable = s.slotTable ∧ s.clearKeyPort.phaseCtl = s.phaseCtl ∧ s.clearKeyPort.purge = s.purge
    ∧ s.clearKeyPort.gate = s.gate ∧ s.clearKeyPort.scanner = s.scanner ∧ s.clearKeyPort.supervisor = s.supervisor
    ∧ s.clearKeyPort.setup = s.setup ∧ s.clearKeyPort.store = s.store := by
  unfold State.clearKeyPort
  (try dsimp only)
  (repeat' split) <;> first | (simp; done) | (simp [*]; done)

@[simp] theorem State.offerLock_frame (s : State) (cause : LockCause) :
    (s.offerLock cause).pending = s.pending ∧ (s.offerLock cause).clock = s.clock
    ∧ (s.offerLock cause).draws = s.draws ∧ (s.offerLock cause).line.state = s.line.state
    ∧ (s.offerLock cause).line.onLine = s.line.onLine ∧ (s.offerLock cause).line.repeatUrgent = s.line.repeatUrgent
    ∧ (s.offerLock cause).line.repeatOther = s.line.repeatOther
    ∧ (s.offerLock cause).line.headerParity = s.line.headerParity
    ∧ (s.offerLock cause).line.checkFail = s.line.checkFail ∧ (s.offerLock cause).line.rxMissed = s.line.rxMissed
    ∧ (s.offerLock cause).line.txPartial = s.line.txPartial ∧ (s.offerLock cause).line.settle = s.line.settle
    ∧ (s.offerLock cause).line.lastDominant = s.line.lastDominant ∧ (s.offerLock cause).line.inReset = s.line.inReset
    ∧ (s.offerLock cause).line.sendingReset = s.line.sendingReset ∧ (s.offerLock cause).line.receipt = s.line.receipt
    ∧ (s.offerLock cause).roster = s.roster ∧ (s.offerLock cause).verifier = s.verifier
    ∧ (s.offerLock cause).slotTable = s.slotTable ∧ (s.offerLock cause).phaseCtl = s.phaseCtl
    ∧ (s.offerLock cause).keyPort = s.keyPort ∧ (s.offerLock cause).purge = s.purge
    ∧ (s.offerLock cause).gate = s.gate ∧ (s.offerLock cause).scanner = s.scanner
    ∧ (s.offerLock cause).supervisor = s.supervisor ∧ (s.offerLock cause).setup = s.setup
    ∧ (s.offerLock cause).store = s.store := by
  unfold State.offerLock
  (try dsimp only)
  (repeat' split) <;> first | (simp; done) | (simp [*]; done)

@[simp] theorem State.denyCommand_frame (s : State) :
    s.denyCommand.pending = s.pending ∧ s.denyCommand.clock = s.clock ∧ s.denyCommand.draws = s.draws
    ∧ s.denyCommand.line = s.line ∧ s.denyCommand.roster = s.roster ∧ s.denyCommand.verifier = s.verifier
    ∧ s.denyCommand.slotTable = s.slotTable ∧ s.denyCommand.phaseCtl = s.phaseCtl ∧ s.denyCommand.keyPort = s.keyPort
    ∧ s.denyCommand.purge = s.purge ∧ s.denyCommand.gate.ranges = s.gate.ranges
    ∧ s.denyCommand.gate.writes = s.gate.writes ∧ s.denyCommand.gate.waits = s.gate.waits
    ∧ s.denyCommand.gate.owner = s.gate.owner ∧ s.denyCommand.gate.holder = s.gate.holder
    ∧ s.denyCommand.gate.handOver = s.gate.handOver ∧ s.denyCommand.gate.flashBusy = s.gate.flashBusy
    ∧ s.denyCommand.gate.op = s.gate.op ∧ s.denyCommand.gate.driven = s.gate.driven
    ∧ s.denyCommand.gate.faultCount = s.gate.faultCount ∧ s.denyCommand.gate.channelFault = s.gate.channelFault
    ∧ s.denyCommand.gate.faultPeriod = s.gate.faultPeriod ∧ s.denyCommand.gate.periodicDue = s.gate.periodicDue
    ∧ s.denyCommand.gate.grant = s.gate.grant ∧ s.denyCommand.gate.stepTimeout = s.gate.stepTimeout
    ∧ s.denyCommand.scanner = s.scanner ∧ s.denyCommand.supervisor = s.supervisor ∧ s.denyCommand.setup = s.setup
    ∧ s.denyCommand.store = s.store := by
  unfold State.denyCommand
  (try dsimp only)
  (repeat' split) <;> first | (simp; done) | (simp [*]; done)

@[simp] theorem State.beginSettle_frame (s : State) :
    s.beginSettle.pending = s.pending ∧ s.beginSettle.clock = s.clock ∧ s.beginSettle.draws = s.draws
    ∧ s.beginSettle.line = s.line ∧ s.beginSettle.roster = s.roster ∧ s.beginSettle.verifier = s.verifier
    ∧ s.beginSettle.slotTable = s.slotTable ∧ s.beginSettle.phaseCtl = s.phaseCtl ∧ s.beginSettle.keyPort = s.keyPort
    ∧ s.beginSettle.purge = s.purge ∧ s.beginSettle.gate.ranges = s.gate.ranges
    ∧ s.beginSettle.gate.writes = s.gate.writes ∧ s.beginSettle.gate.waits = s.gate.waits
    ∧ s.beginSettle.gate.owner = s.gate.owner ∧ s.beginSettle.gate.holder = s.gate.holder
    ∧ s.beginSettle.gate.command = s.gate.command ∧ s.beginSettle.gate.flashBusy = s.gate.flashBusy
    ∧ s.beginSettle.gate.op = s.gate.op ∧ s.beginSettle.gate.driven = s.gate.driven
    ∧ s.beginSettle.gate.faultCount = s.gate.faultCount ∧ s.beginSettle.gate.channelFault = s.gate.channelFault
    ∧ s.beginSettle.gate.faultPeriod = s.gate.faultPeriod ∧ s.beginSettle.gate.periodicDue = s.gate.periodicDue
    ∧ s.beginSettle.gate.grant = s.gate.grant ∧ s.beginSettle.gate.gateDenied = s.gate.gateDenied
    ∧ s.beginSettle.gate.stepTimeout = s.gate.stepTimeout ∧ s.beginSettle.scanner = s.scanner
    ∧ s.beginSettle.supervisor = s.supervisor ∧ s.beginSettle.setup = s.setup ∧ s.beginSettle.store = s.store := by
  unfold State.beginSettle
  (try dsimp only)
  (repeat' split) <;> first | (simp; done) | (simp [*]; done)

@[simp] theorem State.denyTaking_frame (s : State) :
    s.denyTaking.pending = s.pending ∧ s.denyTaking.clock = s.clock ∧ s.denyTaking.draws = s.draws
    ∧ s.denyTaking.line = s.line ∧ s.denyTaking.roster = s.roster ∧ s.denyTaking.verifier = s.verifier
    ∧ s.denyTaking.slotTable = s.slotTable ∧ s.denyTaking.phaseCtl = s.phaseCtl ∧ s.denyTaking.keyPort = s.keyPort
    ∧ s.denyTaking.purge = s.purge ∧ s.denyTaking.gate.ranges = s.gate.ranges
    ∧ s.denyTaking.gate.writes = s.gate.writes ∧ s.denyTaking.gate.waits = s.gate.waits
    ∧ s.denyTaking.gate.owner = s.gate.owner ∧ s.denyTaking.gate.holder = s.gate.holder
    ∧ s.denyTaking.gate.handOver = s.gate.handOver ∧ s.denyTaking.gate.flashBusy = s.gate.flashBusy
    ∧ s.denyTaking.gate.op = s.gate.op ∧ s.denyTaking.gate.driven = s.gate.driven
    ∧ s.denyTaking.gate.faultCount = s.gate.faultCount ∧ s.denyTaking.gate.channelFault = s.gate.channelFault
    ∧ s.denyTaking.gate.faultPeriod = s.gate.faultPeriod ∧ s.denyTaking.gate.periodicDue = s.gate.periodicDue
    ∧ s.denyTaking.gate.grant = s.gate.grant ∧ s.denyTaking.gate.stepTimeout = s.gate.stepTimeout
    ∧ s.denyTaking.scanner = s.scanner ∧ s.denyTaking.supervisor = s.supervisor ∧ s.denyTaking.setup = s.setup
    ∧ s.denyTaking.store = s.store := by
  unfold State.denyTaking
  (try dsimp only)
  (repeat' split) <;> first | (simp; done) | (simp [*]; done)

@[simp] theorem State.beginHandOver_frame (s : State) :
    s.beginHandOver.pending = s.pending ∧ s.beginHandOver.clock = s.clock ∧ s.beginHandOver.draws = s.draws
    ∧ s.beginHandOver.line = s.line ∧ s.beginHandOver.roster = s.roster ∧ s.beginHandOver.verifier = s.verifier
    ∧ s.beginHandOver.slotTable = s.slotTable ∧ s.beginHandOver.phaseCtl = s.phaseCtl
    ∧ s.beginHandOver.keyPort = s.keyPort ∧ s.beginHandOver.purge = s.purge
    ∧ s.beginHandOver.gate.ranges = s.gate.ranges ∧ s.beginHandOver.gate.writes = s.gate.writes
    ∧ s.beginHandOver.gate.waits = s.gate.waits ∧ s.beginHandOver.gate.owner = s.gate.owner
    ∧ s.beginHandOver.gate.holder = s.gate.holder ∧ s.beginHandOver.gate.flashBusy = s.gate.flashBusy
    ∧ s.beginHandOver.gate.op = s.gate.op ∧ s.beginHandOver.gate.driven = s.gate.driven
    ∧ s.beginHandOver.gate.faultCount = s.gate.faultCount ∧ s.beginHandOver.gate.channelFault = s.gate.channelFault
    ∧ s.beginHandOver.gate.faultPeriod = s.gate.faultPeriod ∧ s.beginHandOver.gate.periodicDue = s.gate.periodicDue
    ∧ s.beginHandOver.gate.grant = s.gate.grant ∧ s.beginHandOver.gate.stepTimeout = s.gate.stepTimeout
    ∧ s.beginHandOver.scanner = s.scanner ∧ s.beginHandOver.supervisor = s.supervisor
    ∧ s.beginHandOver.setup = s.setup ∧ s.beginHandOver.store = s.store := by
  unfold State.beginHandOver
  (try dsimp only)
  (repeat' split) <;> first | (simp; done) | (simp [*]; done)

@[simp] theorem State.recomputeOwner_frame (s : State) :
    s.recomputeOwner.pending = s.pending ∧ s.recomputeOwner.clock = s.clock ∧ s.recomputeOwner.draws = s.draws
    ∧ s.recomputeOwner.line = s.line ∧ s.recomputeOwner.roster = s.roster ∧ s.recomputeOwner.verifier = s.verifier
    ∧ s.recomputeOwner.slotTable = s.slotTable ∧ s.recomputeOwner.phaseCtl = s.phaseCtl
    ∧ s.recomputeOwner.keyPort = s.keyPort ∧ s.recomputeOwner.purge = s.purge
    ∧ s.recomputeOwner.gate.ranges = s.gate.ranges ∧ s.recomputeOwner.gate.writes = s.gate.writes
    ∧ s.recomputeOwner.gate.waits = s.gate.waits ∧ s.recomputeOwner.gate.holder = s.gate.holder
    ∧ s.recomputeOwner.gate.flashBusy = s.gate.flashBusy ∧ s.recomputeOwner.gate.op = s.gate.op
    ∧ s.recomputeOwner.gate.driven = s.gate.driven ∧ s.recomputeOwner.gate.faultCount = s.gate.faultCount
    ∧ s.recomputeOwner.gate.channelFault = s.gate.channelFault
    ∧ s.recomputeOwner.gate.faultPeriod = s.gate.faultPeriod ∧ s.recomputeOwner.gate.periodicDue = s.gate.periodicDue
    ∧ s.recomputeOwner.gate.grant = s.gate.grant ∧ s.recomputeOwner.gate.stepTimeout = s.gate.stepTimeout
    ∧ s.recomputeOwner.scanner = s.scanner ∧ s.recomputeOwner.supervisor = s.supervisor
    ∧ s.recomputeOwner.setup = s.setup ∧ s.recomputeOwner.store = s.store := by
  unfold State.recomputeOwner
  (try dsimp only)
  (repeat' split) <;> first | (simp; done) | (simp [*]; done)

@[simp] theorem State.drainCheck_frame (s : State) :
    s.drainCheck.pending = s.pending ∧ s.drainCheck.clock = s.clock ∧ s.drainCheck.draws = s.draws
    ∧ s.drainCheck.line = s.line ∧ s.drainCheck.roster = s.roster ∧ s.drainCheck.verifier = s.verifier
    ∧ s.drainCheck.slotTable = s.slotTable ∧ s.drainCheck.phaseCtl = s.phaseCtl ∧ s.drainCheck.keyPort = s.keyPort
    ∧ s.drainCheck.purge = s.purge ∧ s.drainCheck.gate.ranges = s.gate.ranges
    ∧ s.drainCheck.gate.writes = s.gate.writes ∧ s.drainCheck.gate.waits = s.gate.waits
    ∧ s.drainCheck.gate.owner = s.gate.owner ∧ s.drainCheck.gate.holder = s.gate.holder
    ∧ s.drainCheck.gate.command = s.gate.command ∧ s.drainCheck.gate.flashBusy = s.gate.flashBusy
    ∧ s.drainCheck.gate.op = s.gate.op ∧ s.drainCheck.gate.driven = s.gate.driven
    ∧ s.drainCheck.gate.channelFault = s.gate.channelFault ∧ s.drainCheck.gate.faultPeriod = s.gate.faultPeriod
    ∧ s.drainCheck.gate.periodicDue = s.gate.periodicDue ∧ s.drainCheck.gate.grant = s.gate.grant
    ∧ s.drainCheck.gate.gateDenied = s.gate.gateDenied ∧ s.drainCheck.gate.stepTimeout = s.gate.stepTimeout
    ∧ s.drainCheck.scanner = s.scanner ∧ s.drainCheck.supervisor = s.supervisor ∧ s.drainCheck.setup = s.setup
    ∧ s.drainCheck.store = s.store := by
  unfold State.drainCheck
  (try dsimp only)
  (repeat' split) <;> first | (simp; done) | (simp [*]; done)

@[simp] theorem State.decideCommand_frame (s : State) (c : CommandClass) (block : Nat) (cycles : List Byte) :
    (s.decideCommand c block cycles).pending = s.pending ∧ (s.decideCommand c block cycles).clock = s.clock
    ∧ (s.decideCommand c block cycles).draws = s.draws ∧ (s.decideCommand c block cycles).line = s.line
    ∧ (s.decideCommand c block cycles).roster = s.roster ∧ (s.decideCommand c block cycles).verifier = s.verifier
    ∧ (s.decideCommand c block cycles).slotTable = s.slotTable
    ∧ (s.decideCommand c block cycles).phaseCtl = s.phaseCtl ∧ (s.decideCommand c block cycles).keyPort = s.keyPort
    ∧ (s.decideCommand c block cycles).purge = s.purge ∧ (s.decideCommand c block cycles).gate.ranges = s.gate.ranges
    ∧ (s.decideCommand c block cycles).gate.writes = s.gate.writes
    ∧ (s.decideCommand c block cycles).gate.waits = s.gate.waits
    ∧ (s.decideCommand c block cycles).gate.owner = s.gate.owner
    ∧ (s.decideCommand c block cycles).gate.holder = s.gate.holder
    ∧ (s.decideCommand c block cycles).gate.handOver = s.gate.handOver
    ∧ (s.decideCommand c block cycles).gate.flashBusy = s.gate.flashBusy
    ∧ (s.decideCommand c block cycles).gate.op = s.gate.op
    ∧ (s.decideCommand c block cycles).gate.driven = s.gate.driven
    ∧ (s.decideCommand c block cycles).gate.faultCount = s.gate.faultCount
    ∧ (s.decideCommand c block cycles).gate.channelFault = s.gate.channelFault
    ∧ (s.decideCommand c block cycles).gate.faultPeriod = s.gate.faultPeriod
    ∧ (s.decideCommand c block cycles).gate.periodicDue = s.gate.periodicDue
    ∧ (s.decideCommand c block cycles).gate.grant = s.gate.grant
    ∧ (s.decideCommand c block cycles).gate.stepTimeout = s.gate.stepTimeout
    ∧ (s.decideCommand c block cycles).scanner = s.scanner
    ∧ (s.decideCommand c block cycles).supervisor = s.supervisor ∧ (s.decideCommand c block cycles).setup = s.setup
    ∧ (s.decideCommand c block cycles).store = s.store := by
  unfold State.decideCommand
  (try dsimp only)
  (repeat' split) <;> first | (simp; done) | (simp [*]; done)

@[simp] theorem State.endByOpening_frame (s : State) (ready : Bool) :
    (s.endByOpening ready).pending = s.pending ∧ (s.endByOpening ready).clock = s.clock
    ∧ (s.endByOpening ready).draws = s.draws ∧ (s.endByOpening ready).line = s.line
    ∧ (s.endByOpening ready).roster = s.roster ∧ (s.endByOpening ready).verifier = s.verifier
    ∧ (s.endByOpening ready).slotTable = s.slotTable ∧ (s.endByOpening ready).phaseCtl = s.phaseCtl
    ∧ (s.endByOpening ready).keyPort = s.keyPort ∧ (s.endByOpening ready).purge = s.purge
    ∧ (s.endByOpening ready).gate.ranges = s.gate.ranges ∧ (s.endByOpening ready).gate.writes = s.gate.writes
    ∧ (s.endByOpening ready).gate.waits = s.gate.waits ∧ (s.endByOpening ready).gate.owner = s.gate.owner
    ∧ (s.endByOpening ready).gate.holder = s.gate.holder ∧ (s.endByOpening ready).gate.op = s.gate.op
    ∧ (s.endByOpening ready).gate.driven = s.gate.driven
    ∧ (s.endByOpening ready).gate.channelFault = s.gate.channelFault
    ∧ (s.endByOpening ready).gate.faultPeriod = s.gate.faultPeriod
    ∧ (s.endByOpening ready).gate.periodicDue = s.gate.periodicDue ∧ (s.endByOpening ready).gate.grant = s.gate.grant
    ∧ (s.endByOpening ready).gate.stepTimeout = s.gate.stepTimeout ∧ (s.endByOpening ready).scanner = s.scanner
    ∧ (s.endByOpening ready).supervisor = s.supervisor ∧ (s.endByOpening ready).setup = s.setup
    ∧ (s.endByOpening ready).store = s.store := by
  unfold State.endByOpening
  (try dsimp only)
  (repeat' split) <;> first | (simp; done) | (simp [*]; done)

@[simp] theorem State.seeReady_frame (s : State) (ready : Bool) :
    (s.seeReady ready).pending = s.pending ∧ (s.seeReady ready).clock = s.clock ∧ (s.seeReady ready).draws = s.draws
    ∧ (s.seeReady ready).line = s.line ∧ (s.seeReady ready).roster = s.roster
    ∧ (s.seeReady ready).verifier = s.verifier ∧ (s.seeReady ready).slotTable = s.slotTable
    ∧ (s.seeReady ready).phaseCtl = s.phaseCtl ∧ (s.seeReady ready).keyPort = s.keyPort
    ∧ (s.seeReady ready).purge = s.purge ∧ (s.seeReady ready).gate.ranges = s.gate.ranges
    ∧ (s.seeReady ready).gate.writes = s.gate.writes ∧ (s.seeReady ready).gate.waits = s.gate.waits
    ∧ (s.seeReady ready).gate.owner = s.gate.owner ∧ (s.seeReady ready).gate.holder = s.gate.holder
    ∧ (s.seeReady ready).gate.command = s.gate.command ∧ (s.seeReady ready).gate.op = s.gate.op
    ∧ (s.seeReady ready).gate.driven = s.gate.driven ∧ (s.seeReady ready).gate.channelFault = s.gate.channelFault
    ∧ (s.seeReady ready).gate.faultPeriod = s.gate.faultPeriod
    ∧ (s.seeReady ready).gate.periodicDue = s.gate.periodicDue ∧ (s.seeReady ready).gate.grant = s.gate.grant
    ∧ (s.seeReady ready).gate.gateDenied = s.gate.gateDenied
    ∧ (s.seeReady ready).gate.stepTimeout = s.gate.stepTimeout ∧ (s.seeReady ready).scanner = s.scanner
    ∧ (s.seeReady ready).supervisor = s.supervisor ∧ (s.seeReady ready).setup = s.setup
    ∧ (s.seeReady ready).store = s.store := by
  unfold State.seeReady
  (try dsimp only)
  (repeat' split) <;> first | (simp; done) | (simp [*]; done)

@[simp] theorem State.openCommand_frame (s : State) (code : Byte) (ready : Bool) :
    (s.openCommand code ready).pending = s.pending ∧ (s.openCommand code ready).clock = s.clock
    ∧ (s.openCommand code ready).draws = s.draws ∧ (s.openCommand code ready).line = s.line
    ∧ (s.openCommand code ready).roster = s.roster ∧ (s.openCommand code ready).verifier = s.verifier
    ∧ (s.openCommand code ready).slotTable = s.slotTable ∧ (s.openCommand code ready).phaseCtl = s.phaseCtl
    ∧ (s.openCommand code ready).keyPort = s.keyPort ∧ (s.openCommand code ready).purge = s.purge
    ∧ (s.openCommand code ready).gate.ranges = s.gate.ranges ∧ (s.openCommand code ready).gate.writes = s.gate.writes
    ∧ (s.openCommand code ready).gate.waits = s.gate.waits ∧ (s.openCommand code ready).gate.owner = s.gate.owner
    ∧ (s.openCommand code ready).gate.holder = s.gate.holder ∧ (s.openCommand code ready).gate.op = s.gate.op
    ∧ (s.openCommand code ready).gate.driven = s.gate.driven
    ∧ (s.openCommand code ready).gate.channelFault = s.gate.channelFault
    ∧ (s.openCommand code ready).gate.faultPeriod = s.gate.faultPeriod
    ∧ (s.openCommand code ready).gate.periodicDue = s.gate.periodicDue
    ∧ (s.openCommand code ready).gate.grant = s.gate.grant
    ∧ (s.openCommand code ready).gate.stepTimeout = s.gate.stepTimeout
    ∧ (s.openCommand code ready).scanner = s.scanner ∧ (s.openCommand code ready).supervisor = s.supervisor
    ∧ (s.openCommand code ready).setup = s.setup ∧ (s.openCommand code ready).store = s.store := by
  unfold State.openCommand
  (try dsimp only)
  (repeat' split) <;> first | (simp; done) | (simp [*]; done)

@[simp] theorem State.addressCommand_frame (s : State) (code : Byte) (ready : Bool) (row : Nat) (cycles : List Byte) :
    (s.addressCommand code ready row cycles).pending = s.pending
    ∧ (s.addressCommand code ready row cycles).clock = s.clock
    ∧ (s.addressCommand code ready row cycles).draws = s.draws
    ∧ (s.addressCommand code ready row cycles).line = s.line
    ∧ (s.addressCommand code ready row cycles).roster = s.roster
    ∧ (s.addressCommand code ready row cycles).verifier = s.verifier
    ∧ (s.addressCommand code ready row cycles).slotTable = s.slotTable
    ∧ (s.addressCommand code ready row cycles).phaseCtl = s.phaseCtl
    ∧ (s.addressCommand code ready row cycles).keyPort = s.keyPort
    ∧ (s.addressCommand code ready row cycles).purge = s.purge
    ∧ (s.addressCommand code ready row cycles).gate.ranges = s.gate.ranges
    ∧ (s.addressCommand code ready row cycles).gate.writes = s.gate.writes
    ∧ (s.addressCommand code ready row cycles).gate.waits = s.gate.waits
    ∧ (s.addressCommand code ready row cycles).gate.owner = s.gate.owner
    ∧ (s.addressCommand code ready row cycles).gate.holder = s.gate.holder
    ∧ (s.addressCommand code ready row cycles).gate.op = s.gate.op
    ∧ (s.addressCommand code ready row cycles).gate.driven = s.gate.driven
    ∧ (s.addressCommand code ready row cycles).gate.channelFault = s.gate.channelFault
    ∧ (s.addressCommand code ready row cycles).gate.faultPeriod = s.gate.faultPeriod
    ∧ (s.addressCommand code ready row cycles).gate.periodicDue = s.gate.periodicDue
    ∧ (s.addressCommand code ready row cycles).gate.grant = s.gate.grant
    ∧ (s.addressCommand code ready row cycles).gate.stepTimeout = s.gate.stepTimeout
    ∧ (s.addressCommand code ready row cycles).scanner = s.scanner
    ∧ (s.addressCommand code ready row cycles).supervisor = s.supervisor
    ∧ (s.addressCommand code ready row cycles).setup = s.setup
    ∧ (s.addressCommand code ready row cycles).store = s.store := by
  unfold State.addressCommand
  (try dsimp only)
  (repeat' split) <;> first | (simp; done) | (simp [*]; done)

@[simp] theorem State.columnCommand_frame (s : State) (code : Byte) (cycles : FlashCycles) (ready : Bool) :
    (s.columnCommand code cycles ready).pending = s.pending ∧ (s.columnCommand code cycles ready).clock = s.clock
    ∧ (s.columnCommand code cycles ready).draws = s.draws ∧ (s.columnCommand code cycles ready).line = s.line
    ∧ (s.columnCommand code cycles ready).roster = s.roster
    ∧ (s.columnCommand code cycles ready).verifier = s.verifier
    ∧ (s.columnCommand code cycles ready).slotTable = s.slotTable
    ∧ (s.columnCommand code cycles ready).phaseCtl = s.phaseCtl
    ∧ (s.columnCommand code cycles ready).keyPort = s.keyPort ∧ (s.columnCommand code cycles ready).purge = s.purge
    ∧ (s.columnCommand code cycles ready).gate.ranges = s.gate.ranges
    ∧ (s.columnCommand code cycles ready).gate.writes = s.gate.writes
    ∧ (s.columnCommand code cycles ready).gate.waits = s.gate.waits
    ∧ (s.columnCommand code cycles ready).gate.owner = s.gate.owner
    ∧ (s.columnCommand code cycles ready).gate.holder = s.gate.holder
    ∧ (s.columnCommand code cycles ready).gate.op = s.gate.op
    ∧ (s.columnCommand code cycles ready).gate.driven = s.gate.driven
    ∧ (s.columnCommand code cycles ready).gate.channelFault = s.gate.channelFault
    ∧ (s.columnCommand code cycles ready).gate.faultPeriod = s.gate.faultPeriod
    ∧ (s.columnCommand code cycles ready).gate.periodicDue = s.gate.periodicDue
    ∧ (s.columnCommand code cycles ready).gate.grant = s.gate.grant
    ∧ (s.columnCommand code cycles ready).gate.stepTimeout = s.gate.stepTimeout
    ∧ (s.columnCommand code cycles ready).scanner = s.scanner
    ∧ (s.columnCommand code cycles ready).supervisor = s.supervisor
    ∧ (s.columnCommand code cycles ready).setup = s.setup ∧ (s.columnCommand code cycles ready).store = s.store := by
  unfold State.columnCommand
  (try dsimp only)
  (repeat' split) <;> first | (simp; done) | (simp [*]; done)

@[simp] theorem State.rowCommand_frame (s : State) (code : Byte) (cycles : RowCycles) (ready : Bool) :
    (s.rowCommand code cycles ready).pending = s.pending ∧ (s.rowCommand code cycles ready).clock = s.clock
    ∧ (s.rowCommand code cycles ready).draws = s.draws ∧ (s.rowCommand code cycles ready).line = s.line
    ∧ (s.rowCommand code cycles ready).roster = s.roster ∧ (s.rowCommand code cycles ready).verifier = s.verifier
    ∧ (s.rowCommand code cycles ready).slotTable = s.slotTable
    ∧ (s.rowCommand code cycles ready).phaseCtl = s.phaseCtl ∧ (s.rowCommand code cycles ready).keyPort = s.keyPort
    ∧ (s.rowCommand code cycles ready).purge = s.purge ∧ (s.rowCommand code cycles ready).gate.ranges = s.gate.ranges
    ∧ (s.rowCommand code cycles ready).gate.writes = s.gate.writes
    ∧ (s.rowCommand code cycles ready).gate.waits = s.gate.waits
    ∧ (s.rowCommand code cycles ready).gate.owner = s.gate.owner
    ∧ (s.rowCommand code cycles ready).gate.holder = s.gate.holder
    ∧ (s.rowCommand code cycles ready).gate.op = s.gate.op
    ∧ (s.rowCommand code cycles ready).gate.driven = s.gate.driven
    ∧ (s.rowCommand code cycles ready).gate.channelFault = s.gate.channelFault
    ∧ (s.rowCommand code cycles ready).gate.faultPeriod = s.gate.faultPeriod
    ∧ (s.rowCommand code cycles ready).gate.periodicDue = s.gate.periodicDue
    ∧ (s.rowCommand code cycles ready).gate.grant = s.gate.grant
    ∧ (s.rowCommand code cycles ready).gate.stepTimeout = s.gate.stepTimeout
    ∧ (s.rowCommand code cycles ready).scanner = s.scanner
    ∧ (s.rowCommand code cycles ready).supervisor = s.supervisor ∧ (s.rowCommand code cycles ready).setup = s.setup
    ∧ (s.rowCommand code cycles ready).store = s.store := by
  unfold State.rowCommand
  (try dsimp only)
  (repeat' split) <;> first | (simp; done) | (simp [*]; done)

@[simp] theorem State.issueReset_frame (s : State) (reason : ResetReason) :
    (s.issueReset reason).pending = s.pending ∧ (s.issueReset reason).clock = s.clock
    ∧ (s.issueReset reason).draws = s.draws ∧ (s.issueReset reason).line = s.line
    ∧ (s.issueReset reason).roster = s.roster ∧ (s.issueReset reason).verifier = s.verifier
    ∧ (s.issueReset reason).slotTable = s.slotTable ∧ (s.issueReset reason).phaseCtl = s.phaseCtl
    ∧ (s.issueReset reason).keyPort = s.keyPort ∧ (s.issueReset reason).purge = s.purge
    ∧ (s.issueReset reason).gate.ranges = s.gate.ranges ∧ (s.issueReset reason).gate.writes = s.gate.writes
    ∧ (s.issueReset reason).gate.waits = s.gate.waits ∧ (s.issueReset reason).gate.owner = s.gate.owner
    ∧ (s.issueReset reason).gate.holder = s.gate.holder ∧ (s.issueReset reason).gate.handOver = s.gate.handOver
    ∧ (s.issueReset reason).gate.command = s.gate.command ∧ (s.issueReset reason).gate.flashBusy = s.gate.flashBusy
    ∧ (s.issueReset reason).gate.faultCount = s.gate.faultCount
    ∧ (s.issueReset reason).gate.channelFault = s.gate.channelFault
    ∧ (s.issueReset reason).gate.faultPeriod = s.gate.faultPeriod
    ∧ (s.issueReset reason).gate.periodicDue = s.gate.periodicDue ∧ (s.issueReset reason).gate.grant = s.gate.grant
    ∧ (s.issueReset reason).gate.gateDenied = s.gate.gateDenied
    ∧ (s.issueReset reason).gate.stepTimeout = s.gate.stepTimeout ∧ (s.issueReset reason).scanner = s.scanner
    ∧ (s.issueReset reason).supervisor = s.supervisor ∧ (s.issueReset reason).setup = s.setup
    ∧ (s.issueReset reason).store = s.store := by
  unfold State.issueReset
  (try dsimp only)
  (repeat' split) <;> first | (simp; done) | (simp [*]; done)

@[simp] theorem State.issueErase_frame (s : State) :
    s.issueErase.pending = s.pending ∧ s.issueErase.clock = s.clock ∧ s.issueErase.draws = s.draws
    ∧ s.issueErase.line = s.line ∧ s.issueErase.roster = s.roster ∧ s.issueErase.verifier = s.verifier
    ∧ s.issueErase.slotTable = s.slotTable ∧ s.issueErase.phaseCtl = s.phaseCtl ∧ s.issueErase.keyPort = s.keyPort
    ∧ s.issueErase.purge = s.purge ∧ s.issueErase.gate.ranges = s.gate.ranges
    ∧ s.issueErase.gate.writes = s.gate.writes ∧ s.issueErase.gate.waits = s.gate.waits
    ∧ s.issueErase.gate.owner = s.gate.owner ∧ s.issueErase.gate.holder = s.gate.holder
    ∧ s.issueErase.gate.handOver = s.gate.handOver ∧ s.issueErase.gate.command = s.gate.command
    ∧ s.issueErase.gate.flashBusy = s.gate.flashBusy ∧ s.issueErase.gate.faultCount = s.gate.faultCount
    ∧ s.issueErase.gate.channelFault = s.gate.channelFault ∧ s.issueErase.gate.faultPeriod = s.gate.faultPeriod
    ∧ s.issueErase.gate.periodicDue = s.gate.periodicDue ∧ s.issueErase.gate.grant = s.gate.grant
    ∧ s.issueErase.gate.gateDenied = s.gate.gateDenied ∧ s.issueErase.gate.stepTimeout = s.gate.stepTimeout
    ∧ s.issueErase.scanner = s.scanner ∧ s.issueErase.supervisor = s.supervisor ∧ s.issueErase.setup = s.setup
    ∧ s.issueErase.store = s.store := by
  unfold State.issueErase
  (try dsimp only)
  (repeat' split) <;> first | (simp; done) | (simp [*]; done)

@[simp] theorem State.checkpoint_frame (s : State) :
    s.checkpoint.pending = s.pending ∧ s.checkpoint.clock = s.clock ∧ s.checkpoint.draws = s.draws
    ∧ s.checkpoint.line = s.line ∧ s.checkpoint.roster = s.roster ∧ s.checkpoint.verifier = s.verifier
    ∧ s.checkpoint.slotTable.slots = s.slotTable.slots ∧ s.checkpoint.slotTable.salt = s.slotTable.salt
    ∧ s.checkpoint.slotTable.blankKey = s.slotTable.blankKey
    ∧ s.checkpoint.slotTable.unlockedKey = s.slotTable.unlockedKey ∧ s.checkpoint.slotTable.waits = s.slotTable.waits
    ∧ s.checkpoint.slotTable.enrollment = s.slotTable.enrollment
    ∧ s.checkpoint.slotTable.slotDiverged = s.slotTable.slotDiverged ∧ s.checkpoint.phaseCtl = s.phaseCtl
    ∧ s.checkpoint.keyPort = s.keyPort ∧ s.checkpoint.purge.journal.isOpen = s.purge.journal.isOpen
    ∧ s.checkpoint.purge.journal.target = s.purge.journal.target
    ∧ s.checkpoint.purge.journal.cause = s.purge.journal.cause ∧ s.checkpoint.purge.badBlocks = s.purge.badBlocks
    ∧ s.checkpoint.purge.nextBlock = s.purge.nextBlock ∧ s.checkpoint.purge.plan = s.purge.plan
    ∧ s.checkpoint.purge.begun = s.purge.begun ∧ s.checkpoint.purge.closing = s.purge.closing
    ∧ s.checkpoint.purge.suspended = s.purge.suspended ∧ s.checkpoint.purge.heard = s.purge.heard
    ∧ s.checkpoint.purge.reoffer = s.purge.reoffer ∧ s.checkpoint.purge.pendingTarget = s.purge.pendingTarget
    ∧ s.checkpoint.purge.waits = s.purge.waits ∧ s.checkpoint.gate.ranges = s.gate.ranges
    ∧ s.checkpoint.gate.waits = s.gate.waits ∧ s.checkpoint.gate.owner = s.gate.owner
    ∧ s.checkpoint.gate.holder = s.gate.holder ∧ s.checkpoint.gate.handOver = s.gate.handOver
    ∧ s.checkpoint.gate.command = s.gate.command ∧ s.checkpoint.gate.flashBusy = s.gate.flashBusy
    ∧ s.checkpoint.gate.op = s.gate.op ∧ s.checkpoint.gate.driven = s.gate.driven
    ∧ s.checkpoint.gate.faultCount = s.gate.faultCount ∧ s.checkpoint.gate.channelFault = s.gate.channelFault
    ∧ s.checkpoint.gate.faultPeriod = s.gate.faultPeriod ∧ s.checkpoint.gate.periodicDue = s.gate.periodicDue
    ∧ s.checkpoint.gate.grant = s.gate.grant ∧ s.checkpoint.gate.gateDenied = s.gate.gateDenied
    ∧ s.checkpoint.gate.stepTimeout = s.gate.stepTimeout ∧ s.checkpoint.scanner = s.scanner
    ∧ s.checkpoint.supervisor = s.supervisor ∧ s.checkpoint.setup = s.setup
    ∧ s.checkpoint.store.stored = s.store.stored ∧ s.checkpoint.store.deciding = s.store.deciding := by
  unfold State.checkpoint
  (try dsimp only)
  (repeat' split) <;> first | (simp; done) | (simp [*]; done)

@[simp] theorem State.endErase_frame (s : State) (early : Bool) :
    (s.endErase early).pending = s.pending ∧ (s.endErase early).clock = s.clock ∧ (s.endErase early).draws = s.draws
    ∧ (s.endErase early).line = s.line ∧ (s.endErase early).roster = s.roster
    ∧ (s.endErase early).verifier = s.verifier ∧ (s.endErase early).slotTable.slots = s.slotTable.slots
    ∧ (s.endErase early).slotTable.salt = s.slotTable.salt
    ∧ (s.endErase early).slotTable.blankKey = s.slotTable.blankKey
    ∧ (s.endErase early).slotTable.unlockedKey = s.slotTable.unlockedKey
    ∧ (s.endErase early).slotTable.waits = s.slotTable.waits
    ∧ (s.endErase early).slotTable.enrollment = s.slotTable.enrollment
    ∧ (s.endErase early).slotTable.slotDiverged = s.slotTable.slotDiverged ∧ (s.endErase early).phaseCtl = s.phaseCtl
    ∧ (s.endErase early).keyPort = s.keyPort ∧ (s.endErase early).purge.journal.isOpen = s.purge.journal.isOpen
    ∧ (s.endErase early).purge.journal.target = s.purge.journal.target
    ∧ (s.endErase early).purge.journal.cause = s.purge.journal.cause
    ∧ (s.endErase early).purge.badBlocks = s.purge.badBlocks ∧ (s.endErase early).purge.nextBlock = s.purge.nextBlock
    ∧ (s.endErase early).purge.plan = s.purge.plan ∧ (s.endErase early).purge.closing = s.purge.closing
    ∧ (s.endErase early).purge.heard = s.purge.heard ∧ (s.endErase early).purge.reoffer = s.purge.reoffer
    ∧ (s.endErase early).purge.pendingTarget = s.purge.pendingTarget ∧ (s.endErase early).purge.waits = s.purge.waits
    ∧ (s.endErase early).gate.ranges = s.gate.ranges ∧ (s.endErase early).gate.waits = s.gate.waits
    ∧ (s.endErase early).gate.owner = s.gate.owner ∧ (s.endErase early).gate.holder = s.gate.holder
    ∧ (s.endErase early).gate.handOver = s.gate.handOver ∧ (s.endErase early).gate.command = s.gate.command
    ∧ (s.endErase early).gate.flashBusy = s.gate.flashBusy ∧ (s.endErase early).gate.op = s.gate.op
    ∧ (s.endErase early).gate.driven = s.gate.driven ∧ (s.endErase early).gate.faultCount = s.gate.faultCount
    ∧ (s.endErase early).gate.channelFault = s.gate.channelFault
    ∧ (s.endErase early).gate.faultPeriod = s.gate.faultPeriod
    ∧ (s.endErase early).gate.periodicDue = s.gate.periodicDue ∧ (s.endErase early).gate.grant = s.gate.grant
    ∧ (s.endErase early).gate.gateDenied = s.gate.gateDenied
    ∧ (s.endErase early).gate.stepTimeout = s.gate.stepTimeout ∧ (s.endErase early).scanner = s.scanner
    ∧ (s.endErase early).supervisor = s.supervisor ∧ (s.endErase early).setup = s.setup
    ∧ (s.endErase early).store.stored = s.store.stored ∧ (s.endErase early).store.deciding = s.store.deciding := by
  unfold State.endErase
  (try dsimp only)
  (repeat' split) <;> first | (simp; done) | (simp [*]; done)

@[simp] theorem State.suspendOrResume_frame (s : State) :
    s.suspendOrResume.pending = s.pending ∧ s.suspendOrResume.clock = s.clock ∧ s.suspendOrResume.draws = s.draws
    ∧ s.suspendOrResume.line = s.line ∧ s.suspendOrResume.roster = s.roster ∧ s.suspendOrResume.verifier = s.verifier
    ∧ s.suspendOrResume.slotTable.slots = s.slotTable.slots ∧ s.suspendOrResume.slotTable.salt = s.slotTable.salt
    ∧ s.suspendOrResume.slotTable.blankKey = s.slotTable.blankKey
    ∧ s.suspendOrResume.slotTable.unlockedKey = s.slotTable.unlockedKey
    ∧ s.suspendOrResume.slotTable.waits = s.slotTable.waits
    ∧ s.suspendOrResume.slotTable.enrollment = s.slotTable.enrollment
    ∧ s.suspendOrResume.slotTable.slotDiverged = s.slotTable.slotDiverged ∧ s.suspendOrResume.phaseCtl = s.phaseCtl
    ∧ s.suspendOrResume.keyPort = s.keyPort ∧ s.suspendOrResume.purge.journal.isOpen = s.purge.journal.isOpen
    ∧ s.suspendOrResume.purge.journal.target = s.purge.journal.target
    ∧ s.suspendOrResume.purge.journal.cause = s.purge.journal.cause
    ∧ s.suspendOrResume.purge.badBlocks = s.purge.badBlocks ∧ s.suspendOrResume.purge.nextBlock = s.purge.nextBlock
    ∧ s.suspendOrResume.purge.plan = s.purge.plan ∧ s.suspendOrResume.purge.begun = s.purge.begun
    ∧ s.suspendOrResume.purge.closing = s.purge.closing ∧ s.suspendOrResume.purge.heard = s.purge.heard
    ∧ s.suspendOrResume.purge.reoffer = s.purge.reoffer
    ∧ s.suspendOrResume.purge.pendingTarget = s.purge.pendingTarget ∧ s.suspendOrResume.purge.waits = s.purge.waits
    ∧ s.suspendOrResume.gate.ranges = s.gate.ranges ∧ s.suspendOrResume.gate.waits = s.gate.waits
    ∧ s.suspendOrResume.gate.owner = s.gate.owner ∧ s.suspendOrResume.gate.holder = s.gate.holder
    ∧ s.suspendOrResume.gate.handOver = s.gate.handOver ∧ s.suspendOrResume.gate.command = s.gate.command
    ∧ s.suspendOrResume.gate.flashBusy = s.gate.flashBusy ∧ s.suspendOrResume.gate.op = s.gate.op
    ∧ s.suspendOrResume.gate.driven = s.gate.driven ∧ s.suspendOrResume.gate.faultCount = s.gate.faultCount
    ∧ s.suspendOrResume.gate.channelFault = s.gate.channelFault
    ∧ s.suspendOrResume.gate.faultPeriod = s.gate.faultPeriod
    ∧ s.suspendOrResume.gate.periodicDue = s.gate.periodicDue ∧ s.suspendOrResume.gate.grant = s.gate.grant
    ∧ s.suspendOrResume.gate.gateDenied = s.gate.gateDenied ∧ s.suspendOrResume.gate.stepTimeout = s.gate.stepTimeout
    ∧ s.suspendOrResume.scanner = s.scanner ∧ s.suspendOrResume.supervisor = s.supervisor
    ∧ s.suspendOrResume.setup = s.setup ∧ s.suspendOrResume.store.stored = s.store.stored
    ∧ s.suspendOrResume.store.deciding = s.store.deciding := by
  unfold State.suspendOrResume
  (try dsimp only)
  (repeat' split) <;> first | (simp; done) | (simp [*]; done)

@[simp] theorem State.eraseAdvance_frame (s : State) :
    s.eraseAdvance.pending = s.pending ∧ s.eraseAdvance.clock = s.clock ∧ s.eraseAdvance.draws = s.draws
    ∧ s.eraseAdvance.line = s.line ∧ s.eraseAdvance.roster = s.roster ∧ s.eraseAdvance.verifier = s.verifier
    ∧ s.eraseAdvance.slotTable.slots = s.slotTable.slots ∧ s.eraseAdvance.slotTable.salt = s.slotTable.salt
    ∧ s.eraseAdvance.slotTable.blankKey = s.slotTable.blankKey
    ∧ s.eraseAdvance.slotTable.unlockedKey = s.slotTable.unlockedKey
    ∧ s.eraseAdvance.slotTable.waits = s.slotTable.waits
    ∧ s.eraseAdvance.slotTable.enrollment = s.slotTable.enrollment
    ∧ s.eraseAdvance.slotTable.slotDiverged = s.slotTable.slotDiverged ∧ s.eraseAdvance.phaseCtl = s.phaseCtl
    ∧ s.eraseAdvance.keyPort = s.keyPort ∧ s.eraseAdvance.purge.journal.isOpen = s.purge.journal.isOpen
    ∧ s.eraseAdvance.purge.journal.target = s.purge.journal.target
    ∧ s.eraseAdvance.purge.journal.cause = s.purge.journal.cause ∧ s.eraseAdvance.purge.badBlocks = s.purge.badBlocks
    ∧ s.eraseAdvance.purge.nextBlock = s.purge.nextBlock ∧ s.eraseAdvance.purge.plan = s.purge.plan
    ∧ s.eraseAdvance.purge.closing = s.purge.closing ∧ s.eraseAdvance.purge.heard = s.purge.heard
    ∧ s.eraseAdvance.purge.reoffer = s.purge.reoffer ∧ s.eraseAdvance.purge.pendingTarget = s.purge.pendingTarget
    ∧ s.eraseAdvance.purge.waits = s.purge.waits ∧ s.eraseAdvance.gate.ranges = s.gate.ranges
    ∧ s.eraseAdvance.gate.waits = s.gate.waits ∧ s.eraseAdvance.gate.owner = s.gate.owner
    ∧ s.eraseAdvance.gate.holder = s.gate.holder ∧ s.eraseAdvance.gate.handOver = s.gate.handOver
    ∧ s.eraseAdvance.gate.command = s.gate.command ∧ s.eraseAdvance.gate.flashBusy = s.gate.flashBusy
    ∧ s.eraseAdvance.gate.faultCount = s.gate.faultCount ∧ s.eraseAdvance.gate.channelFault = s.gate.channelFault
    ∧ s.eraseAdvance.gate.faultPeriod = s.gate.faultPeriod ∧ s.eraseAdvance.gate.periodicDue = s.gate.periodicDue
    ∧ s.eraseAdvance.gate.grant = s.gate.grant ∧ s.eraseAdvance.gate.gateDenied = s.gate.gateDenied
    ∧ s.eraseAdvance.gate.stepTimeout = s.gate.stepTimeout ∧ s.eraseAdvance.scanner = s.scanner
    ∧ s.eraseAdvance.supervisor = s.supervisor ∧ s.eraseAdvance.setup = s.setup
    ∧ s.eraseAdvance.store.stored = s.store.stored ∧ s.eraseAdvance.store.deciding = s.store.deciding := by
  unfold State.eraseAdvance
  (try dsimp only)
  (repeat' split) <;> first | (simp; done) | (simp [*]; done)

@[simp] theorem State.addBadBlock_frame (s : State) (n : Nat) :
    (s.addBadBlock n).pending = s.pending ∧ (s.addBadBlock n).clock = s.clock ∧ (s.addBadBlock n).draws = s.draws
    ∧ (s.addBadBlock n).line = s.line ∧ (s.addBadBlock n).roster = s.roster ∧ (s.addBadBlock n).verifier = s.verifier
    ∧ (s.addBadBlock n).slotTable.slots = s.slotTable.slots ∧ (s.addBadBlock n).slotTable.salt = s.slotTable.salt
    ∧ (s.addBadBlock n).slotTable.blankKey = s.slotTable.blankKey
    ∧ (s.addBadBlock n).slotTable.unlockedKey = s.slotTable.unlockedKey
    ∧ (s.addBadBlock n).slotTable.waits = s.slotTable.waits
    ∧ (s.addBadBlock n).slotTable.enrollment = s.slotTable.enrollment
    ∧ (s.addBadBlock n).slotTable.slotDiverged = s.slotTable.slotDiverged ∧ (s.addBadBlock n).phaseCtl = s.phaseCtl
    ∧ (s.addBadBlock n).keyPort = s.keyPort ∧ (s.addBadBlock n).purge.journal.isOpen = s.purge.journal.isOpen
    ∧ (s.addBadBlock n).purge.journal.target = s.purge.journal.target
    ∧ (s.addBadBlock n).purge.journal.cause = s.purge.journal.cause
    ∧ (s.addBadBlock n).purge.nextBlock = s.purge.nextBlock ∧ (s.addBadBlock n).purge.plan = s.purge.plan
    ∧ (s.addBadBlock n).purge.begun = s.purge.begun ∧ (s.addBadBlock n).purge.closing = s.purge.closing
    ∧ (s.addBadBlock n).purge.suspended = s.purge.suspended ∧ (s.addBadBlock n).purge.heard = s.purge.heard
    ∧ (s.addBadBlock n).purge.reoffer = s.purge.reoffer
    ∧ (s.addBadBlock n).purge.pendingTarget = s.purge.pendingTarget ∧ (s.addBadBlock n).purge.waits = s.purge.waits
    ∧ (s.addBadBlock n).gate.ranges = s.gate.ranges ∧ (s.addBadBlock n).gate.waits = s.gate.waits
    ∧ (s.addBadBlock n).gate.owner = s.gate.owner ∧ (s.addBadBlock n).gate.holder = s.gate.holder
    ∧ (s.addBadBlock n).gate.handOver = s.gate.handOver ∧ (s.addBadBlock n).gate.command = s.gate.command
    ∧ (s.addBadBlock n).gate.flashBusy = s.gate.flashBusy ∧ (s.addBadBlock n).gate.op = s.gate.op
    ∧ (s.addBadBlock n).gate.driven = s.gate.driven ∧ (s.addBadBlock n).gate.faultCount = s.gate.faultCount
    ∧ (s.addBadBlock n).gate.channelFault = s.gate.channelFault
    ∧ (s.addBadBlock n).gate.faultPeriod = s.gate.faultPeriod
    ∧ (s.addBadBlock n).gate.periodicDue = s.gate.periodicDue ∧ (s.addBadBlock n).gate.grant = s.gate.grant
    ∧ (s.addBadBlock n).gate.gateDenied = s.gate.gateDenied ∧ (s.addBadBlock n).gate.stepTimeout = s.gate.stepTimeout
    ∧ (s.addBadBlock n).scanner = s.scanner ∧ (s.addBadBlock n).supervisor = s.supervisor
    ∧ (s.addBadBlock n).setup = s.setup ∧ (s.addBadBlock n).store.stored = s.store.stored
    ∧ (s.addBadBlock n).store.deciding = s.store.deciding := by
  unfold State.addBadBlock
  (try dsimp only)
  (repeat' split) <;> first | (simp; done) | (simp [*]; done)

@[simp] theorem State.blockDone_frame (s : State) (n : Nat) (bad : Bool) :
    (s.blockDone n bad).pending = s.pending ∧ (s.blockDone n bad).clock = s.clock
    ∧ (s.blockDone n bad).draws = s.draws ∧ (s.blockDone n bad).line = s.line ∧ (s.blockDone n bad).roster = s.roster
    ∧ (s.blockDone n bad).verifier = s.verifier ∧ (s.blockDone n bad).slotTable.slots = s.slotTable.slots
    ∧ (s.blockDone n bad).slotTable.salt = s.slotTable.salt
    ∧ (s.blockDone n bad).slotTable.blankKey = s.slotTable.blankKey
    ∧ (s.blockDone n bad).slotTable.unlockedKey = s.slotTable.unlockedKey
    ∧ (s.blockDone n bad).slotTable.waits = s.slotTable.waits
    ∧ (s.blockDone n bad).slotTable.enrollment = s.slotTable.enrollment
    ∧ (s.blockDone n bad).slotTable.slotDiverged = s.slotTable.slotDiverged
    ∧ (s.blockDone n bad).phaseCtl = s.phaseCtl ∧ (s.blockDone n bad).keyPort = s.keyPort
    ∧ (s.blockDone n bad).purge.journal.isOpen = s.purge.journal.isOpen
    ∧ (s.blockDone n bad).purge.journal.target = s.purge.journal.target
    ∧ (s.blockDone n bad).purge.journal.cause = s.purge.journal.cause ∧ (s.blockDone n bad).purge.plan = s.purge.plan
    ∧ (s.blockDone n bad).purge.begun = s.purge.begun ∧ (s.blockDone n bad).purge.closing = s.purge.closing
    ∧ (s.blockDone n bad).purge.suspended = s.purge.suspended ∧ (s.blockDone n bad).purge.heard = s.purge.heard
    ∧ (s.blockDone n bad).purge.reoffer = s.purge.reoffer
    ∧ (s.blockDone n bad).purge.pendingTarget = s.purge.pendingTarget
    ∧ (s.blockDone n bad).purge.waits = s.purge.waits ∧ (s.blockDone n bad).gate.ranges = s.gate.ranges
    ∧ (s.blockDone n bad).gate.waits = s.gate.waits ∧ (s.blockDone n bad).gate.owner = s.gate.owner
    ∧ (s.blockDone n bad).gate.holder = s.gate.holder ∧ (s.blockDone n bad).gate.handOver = s.gate.handOver
    ∧ (s.blockDone n bad).gate.command = s.gate.command ∧ (s.blockDone n bad).gate.flashBusy = s.gate.flashBusy
    ∧ (s.blockDone n bad).gate.op = s.gate.op ∧ (s.blockDone n bad).gate.driven = s.gate.driven
    ∧ (s.blockDone n bad).gate.faultCount = s.gate.faultCount
    ∧ (s.blockDone n bad).gate.channelFault = s.gate.channelFault
    ∧ (s.blockDone n bad).gate.faultPeriod = s.gate.faultPeriod
    ∧ (s.blockDone n bad).gate.periodicDue = s.gate.periodicDue ∧ (s.blockDone n bad).gate.grant = s.gate.grant
    ∧ (s.blockDone n bad).gate.gateDenied = s.gate.gateDenied
    ∧ (s.blockDone n bad).gate.stepTimeout = s.gate.stepTimeout ∧ (s.blockDone n bad).scanner = s.scanner
    ∧ (s.blockDone n bad).supervisor = s.supervisor ∧ (s.blockDone n bad).setup = s.setup
    ∧ (s.blockDone n bad).store.stored = s.store.stored ∧ (s.blockDone n bad).store.deciding = s.store.deciding := by
  unfold State.blockDone
  (try dsimp only)
  (repeat' split) <;> first | (simp; done) | (simp [*]; done)

@[simp] theorem State.settleAfterWork_frame (s : State) :
    s.settleAfterWork.pending = s.pending ∧ s.settleAfterWork.clock = s.clock ∧ s.settleAfterWork.draws = s.draws
    ∧ s.settleAfterWork.line = s.line ∧ s.settleAfterWork.roster = s.roster ∧ s.settleAfterWork.verifier = s.verifier
    ∧ s.settleAfterWork.slotTable = s.slotTable ∧ s.settleAfterWork.phaseCtl = s.phaseCtl
    ∧ s.settleAfterWork.keyPort = s.keyPort ∧ s.settleAfterWork.purge = s.purge
    ∧ s.settleAfterWork.gate.ranges = s.gate.ranges ∧ s.settleAfterWork.gate.writes = s.gate.writes
    ∧ s.settleAfterWork.gate.waits = s.gate.waits ∧ s.settleAfterWork.gate.owner = s.gate.owner
    ∧ s.settleAfterWork.gate.holder = s.gate.holder ∧ s.settleAfterWork.gate.command = s.gate.command
    ∧ s.settleAfterWork.gate.flashBusy = s.gate.flashBusy ∧ s.settleAfterWork.gate.op = s.gate.op
    ∧ s.settleAfterWork.gate.driven = s.gate.driven ∧ s.settleAfterWork.gate.faultCount = s.gate.faultCount
    ∧ s.settleAfterWork.gate.channelFault = s.gate.channelFault
    ∧ s.settleAfterWork.gate.faultPeriod = s.gate.faultPeriod
    ∧ s.settleAfterWork.gate.periodicDue = s.gate.periodicDue ∧ s.settleAfterWork.gate.grant = s.gate.grant
    ∧ s.settleAfterWork.gate.gateDenied = s.gate.gateDenied ∧ s.settleAfterWork.gate.stepTimeout = s.gate.stepTimeout
    ∧ s.settleAfterWork.scanner = s.scanner ∧ s.settleAfterWork.supervisor = s.supervisor
    ∧ s.settleAfterWork.setup = s.setup ∧ s.settleAfterWork.store = s.store := by
  unfold State.settleAfterWork
  (try dsimp only)
  (repeat' split) <;> first | (simp; done) | (simp [*]; done)

@[simp] theorem State.issueDuePeriodic_frame (s : State) :
    s.issueDuePeriodic.pending = s.pending ∧ s.issueDuePeriodic.clock = s.clock ∧ s.issueDuePeriodic.draws = s.draws
    ∧ s.issueDuePeriodic.line = s.line ∧ s.issueDuePeriodic.roster = s.roster
    ∧ s.issueDuePeriodic.verifier = s.verifier ∧ s.issueDuePeriodic.slotTable = s.slotTable
    ∧ s.issueDuePeriodic.phaseCtl = s.phaseCtl ∧ s.issueDuePeriodic.keyPort = s.keyPort
    ∧ s.issueDuePeriodic.purge = s.purge ∧ s.issueDuePeriodic.gate.ranges = s.gate.ranges
    ∧ s.issueDuePeriodic.gate.writes = s.gate.writes ∧ s.issueDuePeriodic.gate.waits = s.gate.waits
    ∧ s.issueDuePeriodic.gate.owner = s.gate.owner ∧ s.issueDuePeriodic.gate.holder = s.gate.holder
    ∧ s.issueDuePeriodic.gate.handOver = s.gate.handOver ∧ s.issueDuePeriodic.gate.command = s.gate.command
    ∧ s.issueDuePeriodic.gate.flashBusy = s.gate.flashBusy ∧ s.issueDuePeriodic.gate.faultCount = s.gate.faultCount
    ∧ s.issueDuePeriodic.gate.channelFault = s.gate.channelFault
    ∧ s.issueDuePeriodic.gate.faultPeriod = s.gate.faultPeriod ∧ s.issueDuePeriodic.gate.grant = s.gate.grant
    ∧ s.issueDuePeriodic.gate.gateDenied = s.gate.gateDenied
    ∧ s.issueDuePeriodic.gate.stepTimeout = s.gate.stepTimeout ∧ s.issueDuePeriodic.scanner = s.scanner
    ∧ s.issueDuePeriodic.supervisor = s.supervisor ∧ s.issueDuePeriodic.setup = s.setup
    ∧ s.issueDuePeriodic.store = s.store := by
  unfold State.issueDuePeriodic
  (try dsimp only)
  (repeat' split) <;> first | (simp; done) | (simp [*]; done)

@[simp] theorem State.channelFree_frame (s : State) :
    s.channelFree.pending = s.pending ∧ s.channelFree.clock = s.clock ∧ s.channelFree.draws = s.draws
    ∧ s.channelFree.line = s.line ∧ s.channelFree.roster = s.roster ∧ s.channelFree.verifier = s.verifier
    ∧ s.channelFree.slotTable.slots = s.slotTable.slots ∧ s.channelFree.slotTable.salt = s.slotTable.salt
    ∧ s.channelFree.slotTable.blankKey = s.slotTable.blankKey
    ∧ s.channelFree.slotTable.unlockedKey = s.slotTable.unlockedKey
    ∧ s.channelFree.slotTable.waits = s.slotTable.waits ∧ s.channelFree.slotTable.enrollment = s.slotTable.enrollment
    ∧ s.channelFree.slotTable.slotDiverged = s.slotTable.slotDiverged ∧ s.channelFree.phaseCtl = s.phaseCtl
    ∧ s.channelFree.keyPort = s.keyPort ∧ s.channelFree.purge.journal.isOpen = s.purge.journal.isOpen
    ∧ s.channelFree.purge.journal.target = s.purge.journal.target
    ∧ s.channelFree.purge.journal.cause = s.purge.journal.cause ∧ s.channelFree.purge.badBlocks = s.purge.badBlocks
    ∧ s.channelFree.purge.nextBlock = s.purge.nextBlock ∧ s.channelFree.purge.plan = s.purge.plan
    ∧ s.channelFree.purge.closing = s.purge.closing ∧ s.channelFree.purge.heard = s.purge.heard
    ∧ s.channelFree.purge.reoffer = s.purge.reoffer ∧ s.channelFree.purge.pendingTarget = s.purge.pendingTarget
    ∧ s.channelFree.purge.waits = s.purge.waits ∧ s.channelFree.gate.ranges = s.gate.ranges
    ∧ s.channelFree.gate.waits = s.gate.waits ∧ s.channelFree.gate.owner = s.gate.owner
    ∧ s.channelFree.gate.holder = s.gate.holder ∧ s.channelFree.gate.command = s.gate.command
    ∧ s.channelFree.gate.flashBusy = s.gate.flashBusy ∧ s.channelFree.gate.faultCount = s.gate.faultCount
    ∧ s.channelFree.gate.channelFault = s.gate.channelFault ∧ s.channelFree.gate.faultPeriod = s.gate.faultPeriod
    ∧ s.channelFree.gate.grant = s.gate.grant ∧ s.channelFree.gate.gateDenied = s.gate.gateDenied
    ∧ s.channelFree.gate.stepTimeout = s.gate.stepTimeout ∧ s.channelFree.scanner = s.scanner
    ∧ s.channelFree.supervisor = s.supervisor ∧ s.channelFree.setup = s.setup
    ∧ s.channelFree.store.stored = s.store.stored ∧ s.channelFree.store.deciding = s.store.deciding := by
  unfold State.channelFree
  (try dsimp only)
  (repeat' split) <;> first | (simp; done) | (simp [*]; done)

@[simp] theorem State.tellEngine_frame (s : State) :
    s.tellEngine.pending = s.pending ∧ s.tellEngine.clock = s.clock ∧ s.tellEngine.draws = s.draws
    ∧ s.tellEngine.line = s.line ∧ s.tellEngine.roster = s.roster ∧ s.tellEngine.verifier = s.verifier
    ∧ s.tellEngine.slotTable.slots = s.slotTable.slots ∧ s.tellEngine.slotTable.salt = s.slotTable.salt
    ∧ s.tellEngine.slotTable.blankKey = s.slotTable.blankKey
    ∧ s.tellEngine.slotTable.unlockedKey = s.slotTable.unlockedKey ∧ s.tellEngine.slotTable.waits = s.slotTable.waits
    ∧ s.tellEngine.slotTable.enrollment = s.slotTable.enrollment
    ∧ s.tellEngine.slotTable.slotDiverged = s.slotTable.slotDiverged ∧ s.tellEngine.phaseCtl = s.phaseCtl
    ∧ s.tellEngine.keyPort = s.keyPort ∧ s.tellEngine.purge.badBlocks = s.purge.badBlocks
    ∧ s.tellEngine.purge.nextBlock = s.purge.nextBlock ∧ s.tellEngine.purge.plan = s.purge.plan
    ∧ s.tellEngine.purge.closing = s.purge.closing ∧ s.tellEngine.purge.heard = s.purge.heard
    ∧ s.tellEngine.purge.reoffer = s.purge.reoffer ∧ s.tellEngine.purge.pendingTarget = s.purge.pendingTarget
    ∧ s.tellEngine.purge.waits = s.purge.waits ∧ s.tellEngine.gate.ranges = s.gate.ranges
    ∧ s.tellEngine.gate.waits = s.gate.waits ∧ s.tellEngine.gate.owner = s.gate.owner
    ∧ s.tellEngine.gate.holder = s.gate.holder ∧ s.tellEngine.gate.handOver = s.gate.handOver
    ∧ s.tellEngine.gate.command = s.gate.command ∧ s.tellEngine.gate.flashBusy = s.gate.flashBusy
    ∧ s.tellEngine.gate.faultCount = s.gate.faultCount ∧ s.tellEngine.gate.channelFault = s.gate.channelFault
    ∧ s.tellEngine.gate.faultPeriod = s.gate.faultPeriod ∧ s.tellEngine.gate.periodicDue = s.gate.periodicDue
    ∧ s.tellEngine.gate.grant = s.gate.grant ∧ s.tellEngine.gate.gateDenied = s.gate.gateDenied
    ∧ s.tellEngine.gate.stepTimeout = s.gate.stepTimeout ∧ s.tellEngine.scanner = s.scanner
    ∧ s.tellEngine.supervisor = s.supervisor ∧ s.tellEngine.setup = s.setup
    ∧ s.tellEngine.store.stored = s.store.stored ∧ s.tellEngine.store.deciding = s.store.deciding := by
  unfold State.tellEngine
  (try dsimp only)
  (repeat' split) <;> first | (simp; done) | (simp [*]; done)

@[simp] theorem State.beginFault_frame (s : State) :
    s.beginFault.pending = s.pending ∧ s.beginFault.clock = s.clock ∧ s.beginFault.draws = s.draws
    ∧ s.beginFault.line.state = s.line.state ∧ s.beginFault.line.onLine = s.line.onLine
    ∧ s.beginFault.line.repeatUrgent = s.line.repeatUrgent ∧ s.beginFault.line.repeatOther = s.line.repeatOther
    ∧ s.beginFault.line.headerParity = s.line.headerParity ∧ s.beginFault.line.checkFail = s.line.checkFail
    ∧ s.beginFault.line.rxMissed = s.line.rxMissed ∧ s.beginFault.line.txPartial = s.line.txPartial
    ∧ s.beginFault.line.settle = s.line.settle ∧ s.beginFault.line.lastDominant = s.line.lastDominant
    ∧ s.beginFault.line.inReset = s.line.inReset ∧ s.beginFault.line.sendingReset = s.line.sendingReset
    ∧ s.beginFault.line.receipt = s.line.receipt ∧ s.beginFault.roster = s.roster ∧ s.beginFault.verifier = s.verifier
    ∧ s.beginFault.slotTable.slots = s.slotTable.slots ∧ s.beginFault.slotTable.salt = s.slotTable.salt
    ∧ s.beginFault.slotTable.blankKey = s.slotTable.blankKey
    ∧ s.beginFault.slotTable.unlockedKey = s.slotTable.unlockedKey ∧ s.beginFault.slotTable.waits = s.slotTable.waits
    ∧ s.beginFault.slotTable.enrollment = s.slotTable.enrollment
    ∧ s.beginFault.slotTable.slotDiverged = s.slotTable.slotDiverged ∧ s.beginFault.phaseCtl = s.phaseCtl
    ∧ s.beginFault.keyPort = s.keyPort ∧ s.beginFault.purge.badBlocks = s.purge.badBlocks
    ∧ s.beginFault.purge.nextBlock = s.purge.nextBlock ∧ s.beginFault.purge.plan = s.purge.plan
    ∧ s.beginFault.purge.closing = s.purge.closing ∧ s.beginFault.purge.heard = s.purge.heard
    ∧ s.beginFault.purge.reoffer = s.purge.reoffer ∧ s.beginFault.purge.pendingTarget = s.purge.pendingTarget
    ∧ s.beginFault.purge.waits = s.purge.waits ∧ s.beginFault.gate.ranges = s.gate.ranges
    ∧ s.beginFault.gate.waits = s.gate.waits ∧ s.beginFault.gate.holder = s.gate.holder
    ∧ s.beginFault.gate.flashBusy = s.gate.flashBusy ∧ s.beginFault.gate.faultCount = s.gate.faultCount
    ∧ s.beginFault.gate.periodicDue = s.gate.periodicDue ∧ s.beginFault.gate.grant = s.gate.grant
    ∧ s.beginFault.gate.stepTimeout = s.gate.stepTimeout ∧ s.beginFault.scanner = s.scanner
    ∧ s.beginFault.supervisor = s.supervisor ∧ s.beginFault.setup = s.setup
    ∧ s.beginFault.store.stored = s.store.stored ∧ s.beginFault.store.deciding = s.store.deciding := by
  unfold State.beginFault
  (try dsimp only)
  (repeat' split) <;> first | (simp; done) | (simp [*]; done)

@[simp] theorem State.countExpiry_frame (s : State) :
    s.countExpiry.pending = s.pending ∧ s.countExpiry.clock = s.clock ∧ s.countExpiry.draws = s.draws
    ∧ s.countExpiry.line.state = s.line.state ∧ s.countExpiry.line.onLine = s.line.onLine
    ∧ s.countExpiry.line.repeatUrgent = s.line.repeatUrgent ∧ s.countExpiry.line.repeatOther = s.line.repeatOther
    ∧ s.countExpiry.line.headerParity = s.line.headerParity ∧ s.countExpiry.line.checkFail = s.line.checkFail
    ∧ s.countExpiry.line.rxMissed = s.line.rxMissed ∧ s.countExpiry.line.txPartial = s.line.txPartial
    ∧ s.countExpiry.line.settle = s.line.settle ∧ s.countExpiry.line.lastDominant = s.line.lastDominant
    ∧ s.countExpiry.line.inReset = s.line.inReset ∧ s.countExpiry.line.sendingReset = s.line.sendingReset
    ∧ s.countExpiry.line.receipt = s.line.receipt ∧ s.countExpiry.roster = s.roster
    ∧ s.countExpiry.verifier = s.verifier ∧ s.countExpiry.slotTable.slots = s.slotTable.slots
    ∧ s.countExpiry.slotTable.salt = s.slotTable.salt ∧ s.countExpiry.slotTable.blankKey = s.slotTable.blankKey
    ∧ s.countExpiry.slotTable.unlockedKey = s.slotTable.unlockedKey
    ∧ s.countExpiry.slotTable.waits = s.slotTable.waits ∧ s.countExpiry.slotTable.enrollment = s.slotTable.enrollment
    ∧ s.countExpiry.slotTable.slotDiverged = s.slotTable.slotDiverged ∧ s.countExpiry.phaseCtl = s.phaseCtl
    ∧ s.countExpiry.keyPort = s.keyPort ∧ s.countExpiry.purge.badBlocks = s.purge.badBlocks
    ∧ s.countExpiry.purge.nextBlock = s.purge.nextBlock ∧ s.countExpiry.purge.plan = s.purge.plan
    ∧ s.countExpiry.purge.closing = s.purge.closing ∧ s.countExpiry.purge.heard = s.purge.heard
    ∧ s.countExpiry.purge.reoffer = s.purge.reoffer ∧ s.countExpiry.purge.pendingTarget = s.purge.pendingTarget
    ∧ s.countExpiry.purge.waits = s.purge.waits ∧ s.countExpiry.gate.ranges = s.gate.ranges
    ∧ s.countExpiry.gate.waits = s.gate.waits ∧ s.countExpiry.gate.holder = s.gate.holder
    ∧ s.countExpiry.gate.flashBusy = s.gate.flashBusy ∧ s.countExpiry.gate.periodicDue = s.gate.periodicDue
    ∧ s.countExpiry.gate.grant = s.gate.grant ∧ s.countExpiry.scanner = s.scanner
    ∧ s.countExpiry.supervisor = s.supervisor ∧ s.countExpiry.setup = s.setup
    ∧ s.countExpiry.store.stored = s.store.stored ∧ s.countExpiry.store.deciding = s.store.deciding := by
  unfold State.countExpiry
  (try dsimp only)
  (repeat' split) <;> first | (simp; done) | (simp [*]; done)

@[simp] theorem State.clearFault_frame (s : State) :
    s.clearFault.pending = s.pending ∧ s.clearFault.clock = s.clock ∧ s.clearFault.draws = s.draws
    ∧ s.clearFault.line = s.line ∧ s.clearFault.roster = s.roster ∧ s.clearFault.verifier = s.verifier
    ∧ s.clearFault.slotTable = s.slotTable ∧ s.clearFault.phaseCtl = s.phaseCtl ∧ s.clearFault.keyPort = s.keyPort
    ∧ s.clearFault.purge = s.purge ∧ s.clearFault.gate.ranges = s.gate.ranges
    ∧ s.clearFault.gate.writes = s.gate.writes ∧ s.clearFault.gate.waits = s.gate.waits
    ∧ s.clearFault.gate.holder = s.gate.holder ∧ s.clearFault.gate.flashBusy = s.gate.flashBusy
    ∧ s.clearFault.gate.op = s.gate.op ∧ s.clearFault.gate.driven = s.gate.driven
    ∧ s.clearFault.gate.grant = s.gate.grant ∧ s.clearFault.gate.stepTimeout = s.gate.stepTimeout
    ∧ s.clearFault.scanner = s.scanner ∧ s.clearFault.supervisor = s.supervisor ∧ s.clearFault.setup = s.setup
    ∧ s.clearFault.store = s.store := by
  unfold State.clearFault
  (try dsimp only)
  (repeat' split) <;> first | (simp; done) | (simp [*]; done)

@[simp] theorem State.finishReset_frame (s : State) (reason : ResetReason) (completed : Bool) :
    (s.finishReset reason completed).pending = s.pending ∧ (s.finishReset reason completed).clock = s.clock
    ∧ (s.finishReset reason completed).draws = s.draws ∧ (s.finishReset reason completed).line = s.line
    ∧ (s.finishReset reason completed).roster = s.roster ∧ (s.finishReset reason completed).verifier = s.verifier
    ∧ (s.finishReset reason completed).slotTable.slots = s.slotTable.slots
    ∧ (s.finishReset reason completed).slotTable.salt = s.slotTable.salt
    ∧ (s.finishReset reason completed).slotTable.blankKey = s.slotTable.blankKey
    ∧ (s.finishReset reason completed).slotTable.unlockedKey = s.slotTable.unlockedKey
    ∧ (s.finishReset reason completed).slotTable.waits = s.slotTable.waits
    ∧ (s.finishReset reason completed).slotTable.enrollment = s.slotTable.enrollment
    ∧ (s.finishReset reason completed).slotTable.slotDiverged = s.slotTable.slotDiverged
    ∧ (s.finishReset reason completed).phaseCtl = s.phaseCtl ∧ (s.finishReset reason completed).keyPort = s.keyPort
    ∧ (s.finishReset reason completed).purge.journal.isOpen = s.purge.journal.isOpen
    ∧ (s.finishReset reason completed).purge.journal.target = s.purge.journal.target
    ∧ (s.finishReset reason completed).purge.journal.cause = s.purge.journal.cause
    ∧ (s.finishReset reason completed).purge.plan = s.purge.plan
    ∧ (s.finishReset reason completed).purge.closing = s.purge.closing
    ∧ (s.finishReset reason completed).purge.heard = s.purge.heard
    ∧ (s.finishReset reason completed).purge.reoffer = s.purge.reoffer
    ∧ (s.finishReset reason completed).purge.pendingTarget = s.purge.pendingTarget
    ∧ (s.finishReset reason completed).purge.waits = s.purge.waits
    ∧ (s.finishReset reason completed).gate.ranges = s.gate.ranges
    ∧ (s.finishReset reason completed).gate.waits = s.gate.waits
    ∧ (s.finishReset reason completed).gate.holder = s.gate.holder
    ∧ (s.finishReset reason completed).gate.flashBusy = s.gate.flashBusy
    ∧ (s.finishReset reason completed).gate.grant = s.gate.grant
    ∧ (s.finishReset reason completed).gate.stepTimeout = s.gate.stepTimeout
    ∧ (s.finishReset reason completed).scanner = s.scanner
    ∧ (s.finishReset reason completed).supervisor = s.supervisor ∧ (s.finishReset reason completed).setup = s.setup
    ∧ (s.finishReset reason completed).store.stored = s.store.stored
    ∧ (s.finishReset reason completed).store.deciding = s.store.deciding := by
  unfold State.finishReset
  (try dsimp only)
  (repeat' split) <;> first | (simp; done) | (simp [*]; done)

@[simp] theorem State.offerEntry_frame (s : State) (token : Token) (readOnly : Bool) :
    (s.offerEntry token readOnly).pending = s.pending ∧ (s.offerEntry token readOnly).clock = s.clock
    ∧ (s.offerEntry token readOnly).draws = s.draws ∧ (s.offerEntry token readOnly).line.state = s.line.state
    ∧ (s.offerEntry token readOnly).line.onLine = s.line.onLine
    ∧ (s.offerEntry token readOnly).line.repeatUrgent = s.line.repeatUrgent
    ∧ (s.offerEntry token readOnly).line.repeatOther = s.line.repeatOther
    ∧ (s.offerEntry token readOnly).line.headerParity = s.line.headerParity
    ∧ (s.offerEntry token readOnly).line.checkFail = s.line.checkFail
    ∧ (s.offerEntry token readOnly).line.rxMissed = s.line.rxMissed
    ∧ (s.offerEntry token readOnly).line.txPartial = s.line.txPartial
    ∧ (s.offerEntry token readOnly).line.settle = s.line.settle
    ∧ (s.offerEntry token readOnly).line.lastDominant = s.line.lastDominant
    ∧ (s.offerEntry token readOnly).line.inReset = s.line.inReset
    ∧ (s.offerEntry token readOnly).line.sendingReset = s.line.sendingReset
    ∧ (s.offerEntry token readOnly).line.receipt = s.line.receipt ∧ (s.offerEntry token readOnly).roster = s.roster
    ∧ (s.offerEntry token readOnly).verifier = s.verifier ∧ (s.offerEntry token readOnly).slotTable = s.slotTable
    ∧ (s.offerEntry token readOnly).phaseCtl = s.phaseCtl ∧ (s.offerEntry token readOnly).keyPort = s.keyPort
    ∧ (s.offerEntry token readOnly).purge = s.purge ∧ (s.offerEntry token readOnly).gate = s.gate
    ∧ (s.offerEntry token readOnly).scanner.key = s.scanner.key
    ∧ (s.offerEntry token readOnly).scanner.digits = s.scanner.digits
    ∧ (s.offerEntry token readOnly).scanner.transient = s.scanner.transient
    ∧ (s.offerEntry token readOnly).scanner.seq = s.scanner.seq
    ∧ (s.offerEntry token readOnly).supervisor = s.supervisor ∧ (s.offerEntry token readOnly).setup = s.setup
    ∧ (s.offerEntry token readOnly).store = s.store := by
  unfold State.offerEntry
  (try dsimp only)
  (repeat' split) <;> first | (simp; done) | (simp [*]; done)

@[simp] theorem State.testPending_frame (s : State) :
    s.testPending.pending = s.pending ∧ s.testPending.clock = s.clock ∧ s.testPending.draws = s.draws
    ∧ s.testPending.line.state = s.line.state ∧ s.testPending.line.onLine = s.line.onLine
    ∧ s.testPending.line.repeatUrgent = s.line.repeatUrgent ∧ s.testPending.line.repeatOther = s.line.repeatOther
    ∧ s.testPending.line.headerParity = s.line.headerParity ∧ s.testPending.line.checkFail = s.line.checkFail
    ∧ s.testPending.line.rxMissed = s.line.rxMissed ∧ s.testPending.line.txPartial = s.line.txPartial
    ∧ s.testPending.line.settle = s.line.settle ∧ s.testPending.line.lastDominant = s.line.lastDominant
    ∧ s.testPending.line.inReset = s.line.inReset ∧ s.testPending.line.sendingReset = s.line.sendingReset
    ∧ s.testPending.line.receipt = s.line.receipt ∧ s.testPending.roster = s.roster
    ∧ s.testPending.verifier = s.verifier ∧ s.testPending.slotTable = s.slotTable
    ∧ s.testPending.phaseCtl = s.phaseCtl ∧ s.testPending.keyPort = s.keyPort ∧ s.testPending.purge = s.purge
    ∧ s.testPending.gate = s.gate ∧ s.testPending.scanner.key = s.scanner.key
    ∧ s.testPending.scanner.digits = s.scanner.digits ∧ s.testPending.scanner.transient = s.scanner.transient
    ∧ s.testPending.supervisor = s.supervisor ∧ s.testPending.setup = s.setup ∧ s.testPending.store = s.store := by
  unfold State.testPending
  (try dsimp only)
  (repeat' split) <;> first | (simp; done) | (simp [*]; done)

@[simp] theorem State.restScanner_frame (s : State) :
    s.restScanner.pending = s.pending ∧ s.restScanner.clock = s.clock ∧ s.restScanner.draws = s.draws
    ∧ s.restScanner.line = s.line ∧ s.restScanner.roster = s.roster ∧ s.restScanner.verifier = s.verifier
    ∧ s.restScanner.slotTable = s.slotTable ∧ s.restScanner.phaseCtl = s.phaseCtl ∧ s.restScanner.keyPort = s.keyPort
    ∧ s.restScanner.purge = s.purge ∧ s.restScanner.gate = s.gate ∧ s.restScanner.supervisor = s.supervisor
    ∧ s.restScanner.setup = s.setup ∧ s.restScanner.store = s.store := by
  unfold State.restScanner
  (try dsimp only)
  (repeat' split) <;> first | (simp; done) | (simp [*]; done)

@[simp] theorem State.tellScanner_frame (s : State) (old : Phase) :
    (s.tellScanner old).pending = s.pending ∧ (s.tellScanner old).clock = s.clock
    ∧ (s.tellScanner old).draws = s.draws ∧ (s.tellScanner old).line.state = s.line.state
    ∧ (s.tellScanner old).line.onLine = s.line.onLine ∧ (s.tellScanner old).line.repeatUrgent = s.line.repeatUrgent
    ∧ (s.tellScanner old).line.repeatOther = s.line.repeatOther
    ∧ (s.tellScanner old).line.headerParity = s.line.headerParity
    ∧ (s.tellScanner old).line.checkFail = s.line.checkFail ∧ (s.tellScanner old).line.rxMissed = s.line.rxMissed
    ∧ (s.tellScanner old).line.txPartial = s.line.txPartial ∧ (s.tellScanner old).line.settle = s.line.settle
    ∧ (s.tellScanner old).line.lastDominant = s.line.lastDominant ∧ (s.tellScanner old).line.inReset = s.line.inReset
    ∧ (s.tellScanner old).line.sendingReset = s.line.sendingReset ∧ (s.tellScanner old).line.receipt = s.line.receipt
    ∧ (s.tellScanner old).roster = s.roster ∧ (s.tellScanner old).verifier = s.verifier
    ∧ (s.tellScanner old).slotTable = s.slotTable ∧ (s.tellScanner old).phaseCtl = s.phaseCtl
    ∧ (s.tellScanner old).keyPort = s.keyPort ∧ (s.tellScanner old).purge = s.purge
    ∧ (s.tellScanner old).gate = s.gate ∧ (s.tellScanner old).supervisor = s.supervisor
    ∧ (s.tellScanner old).setup = s.setup ∧ (s.tellScanner old).store = s.store := by
  unfold State.tellScanner
  (try dsimp only)
  (repeat' split) <;> first | (simp; done) | (simp [*]; done)

@[simp] theorem State.beginAnnounce_frame (s : State) :
    s.beginAnnounce.pending = s.pending ∧ s.beginAnnounce.clock = s.clock ∧ s.beginAnnounce.draws = s.draws
    ∧ s.beginAnnounce.line = s.line ∧ s.beginAnnounce.roster.sn = s.roster.sn
    ∧ s.beginAnnounce.roster.kpd = s.roster.kpd ∧ s.beginAnnounce.roster.startCause = s.roster.startCause
    ∧ s.beginAnnounce.roster.entries = s.roster.entries ∧ s.beginAnnounce.roster.window = s.roster.window
    ∧ s.beginAnnounce.roster.answeredAt = s.roster.answeredAt ∧ s.beginAnnounce.roster.rollOwed = s.roster.rollOwed
    ∧ s.beginAnnounce.verifier = s.verifier ∧ s.beginAnnounce.slotTable = s.slotTable
    ∧ s.beginAnnounce.phaseCtl = s.phaseCtl ∧ s.beginAnnounce.keyPort = s.keyPort ∧ s.beginAnnounce.purge = s.purge
    ∧ s.beginAnnounce.gate = s.gate ∧ s.beginAnnounce.scanner = s.scanner ∧ s.beginAnnounce.supervisor = s.supervisor
    ∧ s.beginAnnounce.setup = s.setup ∧ s.beginAnnounce.store = s.store := by
  unfold State.beginAnnounce
  (try dsimp only)
  (repeat' split) <;> first | (simp; done) | (simp [*]; done)

@[simp] theorem State.stopAnnounce_frame (s : State) :
    s.stopAnnounce.pending = s.pending ∧ s.stopAnnounce.clock = s.clock ∧ s.stopAnnounce.draws = s.draws
    ∧ s.stopAnnounce.line = s.line ∧ s.stopAnnounce.roster.sn = s.roster.sn ∧ s.stopAnnounce.roster.kpd = s.roster.kpd
    ∧ s.stopAnnounce.roster.startCause = s.roster.startCause ∧ s.stopAnnounce.roster.entries = s.roster.entries
    ∧ s.stopAnnounce.roster.window = s.roster.window ∧ s.stopAnnounce.roster.answeredAt = s.roster.answeredAt
    ∧ s.stopAnnounce.roster.rollOwed = s.roster.rollOwed ∧ s.stopAnnounce.verifier = s.verifier
    ∧ s.stopAnnounce.slotTable = s.slotTable ∧ s.stopAnnounce.phaseCtl = s.phaseCtl
    ∧ s.stopAnnounce.keyPort = s.keyPort ∧ s.stopAnnounce.purge = s.purge ∧ s.stopAnnounce.gate = s.gate
    ∧ s.stopAnnounce.scanner = s.scanner ∧ s.stopAnnounce.supervisor = s.supervisor ∧ s.stopAnnounce.setup = s.setup
    ∧ s.stopAnnounce.store = s.store := by
  unfold State.stopAnnounce
  (try dsimp only)
  (repeat' split) <;> first | (simp; done) | (simp [*]; done)

@[simp] theorem State.announceAtEntry_frame (s : State) :
    s.announceAtEntry.pending = s.pending ∧ s.announceAtEntry.clock = s.clock ∧ s.announceAtEntry.draws = s.draws
    ∧ s.announceAtEntry.line = s.line ∧ s.announceAtEntry.roster.sn = s.roster.sn
    ∧ s.announceAtEntry.roster.kpd = s.roster.kpd ∧ s.announceAtEntry.roster.startCause = s.roster.startCause
    ∧ s.announceAtEntry.roster.entries = s.roster.entries ∧ s.announceAtEntry.roster.window = s.roster.window
    ∧ s.announceAtEntry.roster.answeredAt = s.roster.answeredAt
    ∧ s.announceAtEntry.roster.rollOwed = s.roster.rollOwed ∧ s.announceAtEntry.verifier = s.verifier
    ∧ s.announceAtEntry.slotTable = s.slotTable ∧ s.announceAtEntry.phaseCtl = s.phaseCtl
    ∧ s.announceAtEntry.keyPort = s.keyPort ∧ s.announceAtEntry.purge = s.purge ∧ s.announceAtEntry.gate = s.gate
    ∧ s.announceAtEntry.scanner = s.scanner ∧ s.announceAtEntry.supervisor = s.supervisor
    ∧ s.announceAtEntry.setup = s.setup ∧ s.announceAtEntry.store = s.store := by
  unfold State.announceAtEntry
  (try dsimp only)
  (repeat' split) <;> first | (simp; done) | (simp [*]; done)

@[simp] theorem State.renewAnnounce_frame (s : State) :
    s.renewAnnounce.pending = s.pending ∧ s.renewAnnounce.clock = s.clock ∧ s.renewAnnounce.draws = s.draws
    ∧ s.renewAnnounce.line = s.line ∧ s.renewAnnounce.roster.sn = s.roster.sn
    ∧ s.renewAnnounce.roster.kpd = s.roster.kpd ∧ s.renewAnnounce.roster.startCause = s.roster.startCause
    ∧ s.renewAnnounce.roster.entries = s.roster.entries ∧ s.renewAnnounce.roster.window = s.roster.window
    ∧ s.renewAnnounce.roster.answeredAt = s.roster.answeredAt ∧ s.renewAnnounce.roster.rollOwed = s.roster.rollOwed
    ∧ s.renewAnnounce.verifier = s.verifier ∧ s.renewAnnounce.slotTable = s.slotTable
    ∧ s.renewAnnounce.phaseCtl = s.phaseCtl ∧ s.renewAnnounce.keyPort = s.keyPort ∧ s.renewAnnounce.purge = s.purge
    ∧ s.renewAnnounce.gate = s.gate ∧ s.renewAnnounce.scanner = s.scanner ∧ s.renewAnnounce.supervisor = s.supervisor
    ∧ s.renewAnnounce.setup = s.setup ∧ s.renewAnnounce.store = s.store := by
  unfold State.renewAnnounce
  (try dsimp only)
  (repeat' split) <;> first | (simp; done) | (simp [*]; done)

@[simp] theorem State.movePhase_frame (s : State) (p : Phase) (g : Grant) (attachWindow : Option Micros) :
    (s.movePhase p g attachWindow).pending = s.pending ∧ (s.movePhase p g attachWindow).clock = s.clock
    ∧ (s.movePhase p g attachWindow).draws = s.draws ∧ (s.movePhase p g attachWindow).line.state = s.line.state
    ∧ (s.movePhase p g attachWindow).line.onLine = s.line.onLine
    ∧ (s.movePhase p g attachWindow).line.repeatUrgent = s.line.repeatUrgent
    ∧ (s.movePhase p g attachWindow).line.repeatOther = s.line.repeatOther
    ∧ (s.movePhase p g attachWindow).line.headerParity = s.line.headerParity
    ∧ (s.movePhase p g attachWindow).line.checkFail = s.line.checkFail
    ∧ (s.movePhase p g attachWindow).line.rxMissed = s.line.rxMissed
    ∧ (s.movePhase p g attachWindow).line.txPartial = s.line.txPartial
    ∧ (s.movePhase p g attachWindow).line.settle = s.line.settle
    ∧ (s.movePhase p g attachWindow).line.lastDominant = s.line.lastDominant
    ∧ (s.movePhase p g attachWindow).line.inReset = s.line.inReset
    ∧ (s.movePhase p g attachWindow).line.sendingReset = s.line.sendingReset
    ∧ (s.movePhase p g attachWindow).line.receipt = s.line.receipt
    ∧ (s.movePhase p g attachWindow).roster.sn = s.roster.sn
    ∧ (s.movePhase p g attachWindow).roster.kpd = s.roster.kpd
    ∧ (s.movePhase p g attachWindow).roster.startCause = s.roster.startCause
    ∧ (s.movePhase p g attachWindow).roster.entries = s.roster.entries
    ∧ (s.movePhase p g attachWindow).roster.answeredAt = s.roster.answeredAt
    ∧ (s.movePhase p g attachWindow).roster.rollOwed = s.roster.rollOwed
    ∧ (s.movePhase p g attachWindow).verifier = s.verifier ∧ (s.movePhase p g attachWindow).slotTable = s.slotTable
    ∧ (s.movePhase p g attachWindow).keyPort = s.keyPort ∧ (s.movePhase p g attachWindow).purge = s.purge
    ∧ (s.movePhase p g attachWindow).gate.ranges = s.gate.ranges
    ∧ (s.movePhase p g attachWindow).gate.writes = s.gate.writes
    ∧ (s.movePhase p g attachWindow).gate.waits = s.gate.waits
    ∧ (s.movePhase p g attachWindow).gate.holder = s.gate.holder
    ∧ (s.movePhase p g attachWindow).gate.flashBusy = s.gate.flashBusy
    ∧ (s.movePhase p g attachWindow).gate.op = s.gate.op ∧ (s.movePhase p g attachWindow).gate.driven = s.gate.driven
    ∧ (s.movePhase p g attachWindow).gate.faultCount = s.gate.faultCount
    ∧ (s.movePhase p g attachWindow).gate.channelFault = s.gate.channelFault
    ∧ (s.movePhase p g attachWindow).gate.faultPeriod = s.gate.faultPeriod
    ∧ (s.movePhase p g attachWindow).gate.periodicDue = s.gate.periodicDue
    ∧ (s.movePhase p g attachWindow).gate.stepTimeout = s.gate.stepTimeout
    ∧ (s.movePhase p g attachWindow).supervisor = s.supervisor ∧ (s.movePhase p g attachWindow).setup = s.setup
    ∧ (s.movePhase p g attachWindow).store = s.store := by
  unfold State.movePhase
  (try dsimp only)
  (repeat' split) <;> first | (simp; done) | (simp [*]; done)

@[simp] theorem State.enterPhase_frame (s : State) (p : Phase) :
    (s.enterPhase p).pending = s.pending ∧ (s.enterPhase p).clock = s.clock ∧ (s.enterPhase p).draws = s.draws
    ∧ (s.enterPhase p).line.state = s.line.state ∧ (s.enterPhase p).line.onLine = s.line.onLine
    ∧ (s.enterPhase p).line.repeatUrgent = s.line.repeatUrgent
    ∧ (s.enterPhase p).line.repeatOther = s.line.repeatOther
    ∧ (s.enterPhase p).line.headerParity = s.line.headerParity ∧ (s.enterPhase p).line.checkFail = s.line.checkFail
    ∧ (s.enterPhase p).line.rxMissed = s.line.rxMissed ∧ (s.enterPhase p).line.txPartial = s.line.txPartial
    ∧ (s.enterPhase p).line.settle = s.line.settle ∧ (s.enterPhase p).line.lastDominant = s.line.lastDominant
    ∧ (s.enterPhase p).line.inReset = s.line.inReset ∧ (s.enterPhase p).line.sendingReset = s.line.sendingReset
    ∧ (s.enterPhase p).line.receipt = s.line.receipt ∧ (s.enterPhase p).roster.sn = s.roster.sn
    ∧ (s.enterPhase p).roster.kpd = s.roster.kpd ∧ (s.enterPhase p).roster.startCause = s.roster.startCause
    ∧ (s.enterPhase p).roster.entries = s.roster.entries ∧ (s.enterPhase p).roster.answeredAt = s.roster.answeredAt
    ∧ (s.enterPhase p).roster.rollOwed = s.roster.rollOwed ∧ (s.enterPhase p).verifier = s.verifier
    ∧ (s.enterPhase p).slotTable = s.slotTable ∧ (s.enterPhase p).keyPort = s.keyPort
    ∧ (s.enterPhase p).purge = s.purge ∧ (s.enterPhase p).gate.ranges = s.gate.ranges
    ∧ (s.enterPhase p).gate.writes = s.gate.writes ∧ (s.enterPhase p).gate.waits = s.gate.waits
    ∧ (s.enterPhase p).gate.holder = s.gate.holder ∧ (s.enterPhase p).gate.flashBusy = s.gate.flashBusy
    ∧ (s.enterPhase p).gate.op = s.gate.op ∧ (s.enterPhase p).gate.driven = s.gate.driven
    ∧ (s.enterPhase p).gate.faultCount = s.gate.faultCount ∧ (s.enterPhase p).gate.channelFault = s.gate.channelFault
    ∧ (s.enterPhase p).gate.faultPeriod = s.gate.faultPeriod ∧ (s.enterPhase p).gate.periodicDue = s.gate.periodicDue
    ∧ (s.enterPhase p).gate.stepTimeout = s.gate.stepTimeout ∧ (s.enterPhase p).supervisor = s.supervisor
    ∧ (s.enterPhase p).setup = s.setup ∧ (s.enterPhase p).store = s.store := by
  unfold State.enterPhase
  (try dsimp only)
  (repeat' split) <;> first | (simp; done) | (simp [*]; done)

@[simp] theorem State.enterUnlocked_frame (s : State) (g : Grant) (key : ChannelKey) :
    (s.enterUnlocked g key).pending = s.pending ∧ (s.enterUnlocked g key).clock = s.clock
    ∧ (s.enterUnlocked g key).draws = s.draws ∧ (s.enterUnlocked g key).line.state = s.line.state
    ∧ (s.enterUnlocked g key).line.onLine = s.line.onLine
    ∧ (s.enterUnlocked g key).line.repeatUrgent = s.line.repeatUrgent
    ∧ (s.enterUnlocked g key).line.repeatOther = s.line.repeatOther
    ∧ (s.enterUnlocked g key).line.headerParity = s.line.headerParity
    ∧ (s.enterUnlocked g key).line.checkFail = s.line.checkFail
    ∧ (s.enterUnlocked g key).line.rxMissed = s.line.rxMissed
    ∧ (s.enterUnlocked g key).line.txPartial = s.line.txPartial ∧ (s.enterUnlocked g key).line.settle = s.line.settle
    ∧ (s.enterUnlocked g key).line.lastDominant = s.line.lastDominant
    ∧ (s.enterUnlocked g key).line.inReset = s.line.inReset
    ∧ (s.enterUnlocked g key).line.sendingReset = s.line.sendingReset
    ∧ (s.enterUnlocked g key).line.receipt = s.line.receipt ∧ (s.enterUnlocked g key).roster.sn = s.roster.sn
    ∧ (s.enterUnlocked g key).roster.kpd = s.roster.kpd
    ∧ (s.enterUnlocked g key).roster.startCause = s.roster.startCause
    ∧ (s.enterUnlocked g key).roster.entries = s.roster.entries
    ∧ (s.enterUnlocked g key).roster.answeredAt = s.roster.answeredAt
    ∧ (s.enterUnlocked g key).roster.rollOwed = s.roster.rollOwed ∧ (s.enterUnlocked g key).verifier = s.verifier
    ∧ (s.enterUnlocked g key).slotTable.slots = s.slotTable.slots
    ∧ (s.enterUnlocked g key).slotTable.salt = s.slotTable.salt
    ∧ (s.enterUnlocked g key).slotTable.blankKey = s.slotTable.blankKey
    ∧ (s.enterUnlocked g key).slotTable.writes = s.slotTable.writes
    ∧ (s.enterUnlocked g key).slotTable.waits = s.slotTable.waits
    ∧ (s.enterUnlocked g key).slotTable.enrollment = s.slotTable.enrollment
    ∧ (s.enterUnlocked g key).slotTable.slotDiverged = s.slotTable.slotDiverged
    ∧ (s.enterUnlocked g key).purge = s.purge ∧ (s.enterUnlocked g key).gate.ranges = s.gate.ranges
    ∧ (s.enterUnlocked g key).gate.writes = s.gate.writes ∧ (s.enterUnlocked g key).gate.waits = s.gate.waits
    ∧ (s.enterUnlocked g key).gate.holder = s.gate.holder ∧ (s.enterUnlocked g key).gate.flashBusy = s.gate.flashBusy
    ∧ (s.enterUnlocked g key).gate.op = s.gate.op ∧ (s.enterUnlocked g key).gate.driven = s.gate.driven
    ∧ (s.enterUnlocked g key).gate.faultCount = s.gate.faultCount
    ∧ (s.enterUnlocked g key).gate.channelFault = s.gate.channelFault
    ∧ (s.enterUnlocked g key).gate.faultPeriod = s.gate.faultPeriod
    ∧ (s.enterUnlocked g key).gate.periodicDue = s.gate.periodicDue
    ∧ (s.enterUnlocked g key).gate.stepTimeout = s.gate.stepTimeout
    ∧ (s.enterUnlocked g key).supervisor = s.supervisor ∧ (s.enterUnlocked g key).setup = s.setup
    ∧ (s.enterUnlocked g key).store = s.store := by
  unfold State.enterUnlocked
  (try dsimp only)
  (repeat' split) <;> first | (simp; done) | (simp [*]; done)

@[simp] theorem State.raisePair_frame (s : State) (r : Requester) (p : Nat × Nat) :
    (s.raisePair r p).pending = s.pending ∧ (s.raisePair r p).clock = s.clock ∧ (s.raisePair r p).draws = s.draws
    ∧ (s.raisePair r p).line = s.line ∧ (s.raisePair r p).roster = s.roster
    ∧ (s.raisePair r p).verifier.attempt = s.verifier.attempt ∧ (s.raisePair r p).verifier.hold = s.verifier.hold
    ∧ (s.raisePair r p).slotTable = s.slotTable ∧ (s.raisePair r p).phaseCtl = s.phaseCtl
    ∧ (s.raisePair r p).keyPort = s.keyPort ∧ (s.raisePair r p).purge = s.purge ∧ (s.raisePair r p).gate = s.gate
    ∧ (s.raisePair r p).scanner = s.scanner ∧ (s.raisePair r p).supervisor = s.supervisor
    ∧ (s.raisePair r p).setup = s.setup ∧ (s.raisePair r p).store.stored = s.store.stored
    ∧ (s.raisePair r p).store.deciding = s.store.deciding := by
  unfold State.raisePair
  (try dsimp only)
  (repeat' split) <;> first | (simp; done) | (simp [*]; done)

@[simp] theorem State.voidAttempt_frame (s : State) :
    s.voidAttempt.pending = s.pending ∧ s.voidAttempt.clock = s.clock ∧ s.voidAttempt.draws = s.draws
    ∧ s.voidAttempt.line = s.line ∧ s.voidAttempt.roster = s.roster ∧ s.voidAttempt.verifier.hold = s.verifier.hold
    ∧ s.voidAttempt.slotTable = s.slotTable ∧ s.voidAttempt.phaseCtl = s.phaseCtl ∧ s.voidAttempt.keyPort = s.keyPort
    ∧ s.voidAttempt.purge = s.purge ∧ s.voidAttempt.gate = s.gate ∧ s.voidAttempt.scanner = s.scanner
    ∧ s.voidAttempt.supervisor = s.supervisor ∧ s.voidAttempt.setup = s.setup
    ∧ s.voidAttempt.store.stored = s.store.stored ∧ s.voidAttempt.store.deciding = s.store.deciding := by
  unfold State.voidAttempt
  (try dsimp only)
  (repeat' split) <;> first | (simp; done) | (simp [*]; done)

@[simp] theorem State.dropEnrollment_frame (s : State) :
    s.dropEnrollment.pending = s.pending ∧ s.dropEnrollment.clock = s.clock ∧ s.dropEnrollment.draws = s.draws
    ∧ s.dropEnrollment.line = s.line ∧ s.dropEnrollment.roster = s.roster ∧ s.dropEnrollment.verifier = s.verifier
    ∧ s.dropEnrollment.slotTable.slots = s.slotTable.slots ∧ s.dropEnrollment.slotTable.salt = s.slotTable.salt
    ∧ s.dropEnrollment.slotTable.blankKey = s.slotTable.blankKey
    ∧ s.dropEnrollment.slotTable.unlockedKey = s.slotTable.unlockedKey
    ∧ s.dropEnrollment.slotTable.writes = s.slotTable.writes ∧ s.dropEnrollment.slotTable.waits = s.slotTable.waits
    ∧ s.dropEnrollment.slotTable.slotDiverged = s.slotTable.slotDiverged ∧ s.dropEnrollment.phaseCtl = s.phaseCtl
    ∧ s.dropEnrollment.keyPort = s.keyPort ∧ s.dropEnrollment.purge = s.purge ∧ s.dropEnrollment.gate = s.gate
    ∧ s.dropEnrollment.scanner = s.scanner ∧ s.dropEnrollment.supervisor = s.supervisor
    ∧ s.dropEnrollment.setup = s.setup ∧ s.dropEnrollment.store = s.store := by
  unfold State.dropEnrollment
  (try dsimp only)
  (repeat' split) <;> first | (simp; done) | (simp [*]; done)

@[simp] theorem State.leavePhase_frame (s : State) :
    s.leavePhase.pending = s.pending ∧ s.leavePhase.clock = s.clock ∧ s.leavePhase.draws = s.draws
    ∧ s.leavePhase.line = s.line ∧ s.leavePhase.roster = s.roster ∧ s.leavePhase.verifier.hold = s.verifier.hold
    ∧ s.leavePhase.slotTable.slots = s.slotTable.slots ∧ s.leavePhase.slotTable.salt = s.slotTable.salt
    ∧ s.leavePhase.slotTable.blankKey = s.slotTable.blankKey ∧ s.leavePhase.slotTable.writes = s.slotTable.writes
    ∧ s.leavePhase.slotTable.waits = s.slotTable.waits
    ∧ s.leavePhase.slotTable.slotDiverged = s.slotTable.slotDiverged ∧ s.leavePhase.phaseCtl.phase = s.phaseCtl.phase
    ∧ s.leavePhase.phaseCtl.grant = s.phaseCtl.grant ∧ s.leavePhase.purge = s.purge ∧ s.leavePhase.gate = s.gate
    ∧ s.leavePhase.scanner = s.scanner ∧ s.leavePhase.supervisor = s.supervisor ∧ s.leavePhase.setup = s.setup
    ∧ s.leavePhase.store.stored = s.store.stored ∧ s.leavePhase.store.deciding = s.store.deciding := by
  unfold State.leavePhase
  (try dsimp only)
  (repeat' split) <;> first | (simp; done) | (simp [*]; done)

@[simp] theorem State.offerPurge_frame (s : State) :
    s.offerPurge.pending = s.pending ∧ s.offerPurge.clock = s.clock ∧ s.offerPurge.draws = s.draws
    ∧ s.offerPurge.line.state = s.line.state ∧ s.offerPurge.line.onLine = s.line.onLine
    ∧ s.offerPurge.line.repeatUrgent = s.line.repeatUrgent ∧ s.offerPurge.line.repeatOther = s.line.repeatOther
    ∧ s.offerPurge.line.headerParity = s.line.headerParity ∧ s.offerPurge.line.checkFail = s.line.checkFail
    ∧ s.offerPurge.line.rxMissed = s.line.rxMissed ∧ s.offerPurge.line.txPartial = s.line.txPartial
    ∧ s.offerPurge.line.settle = s.line.settle ∧ s.offerPurge.line.lastDominant = s.line.lastDominant
    ∧ s.offerPurge.line.inReset = s.line.inReset ∧ s.offerPurge.line.sendingReset = s.line.sendingReset
    ∧ s.offerPurge.line.receipt = s.line.receipt ∧ s.offerPurge.roster = s.roster ∧ s.offerPurge.verifier = s.verifier
    ∧ s.offerPurge.slotTable = s.slotTable ∧ s.offerPurge.phaseCtl = s.phaseCtl ∧ s.offerPurge.keyPort = s.keyPort
    ∧ s.offerPurge.purge = s.purge ∧ s.offerPurge.gate = s.gate ∧ s.offerPurge.scanner = s.scanner
    ∧ s.offerPurge.supervisor = s.supervisor ∧ s.offerPurge.setup = s.setup ∧ s.offerPurge.store = s.store := by
  unfold State.offerPurge
  (try dsimp only)
  (repeat' split) <;> first | (simp; done) | (simp [*]; done)

@[simp] theorem State.emptyHeard_frame (s : State) :
    s.emptyHeard.pending = s.pending ∧ s.emptyHeard.clock = s.clock ∧ s.emptyHeard.draws = s.draws
    ∧ s.emptyHeard.line = s.line ∧ s.emptyHeard.roster = s.roster ∧ s.emptyHeard.verifier = s.verifier
    ∧ s.emptyHeard.slotTable = s.slotTable ∧ s.emptyHeard.phaseCtl = s.phaseCtl ∧ s.emptyHeard.keyPort = s.keyPort
    ∧ s.emptyHeard.purge.journal = s.purge.journal ∧ s.emptyHeard.purge.badBlocks = s.purge.badBlocks
    ∧ s.emptyHeard.purge.nextBlock = s.purge.nextBlock ∧ s.emptyHeard.purge.writes = s.purge.writes
    ∧ s.emptyHeard.purge.plan = s.purge.plan ∧ s.emptyHeard.purge.begun = s.purge.begun
    ∧ s.emptyHeard.purge.closing = s.purge.closing ∧ s.emptyHeard.purge.suspended = s.purge.suspended
    ∧ s.emptyHeard.purge.reoffer = s.purge.reoffer ∧ s.emptyHeard.purge.reoffered = s.purge.reoffered
    ∧ s.emptyHeard.purge.pendingTarget = s.purge.pendingTarget ∧ s.emptyHeard.purge.waits = s.purge.waits
    ∧ s.emptyHeard.gate = s.gate ∧ s.emptyHeard.scanner = s.scanner ∧ s.emptyHeard.supervisor = s.supervisor
    ∧ s.emptyHeard.setup = s.setup ∧ s.emptyHeard.store = s.store := by
  unfold State.emptyHeard
  (try dsimp only)
  (repeat' split) <;> first | (simp; done) | (simp [*]; done)

@[simp] theorem State.beginOffers_frame (s : State) :
    s.beginOffers.pending = s.pending ∧ s.beginOffers.clock = s.clock ∧ s.beginOffers.draws = s.draws
    ∧ s.beginOffers.line = s.line ∧ s.beginOffers.roster = s.roster ∧ s.beginOffers.verifier = s.verifier
    ∧ s.beginOffers.slotTable = s.slotTable ∧ s.beginOffers.phaseCtl = s.phaseCtl ∧ s.beginOffers.keyPort = s.keyPort
    ∧ s.beginOffers.purge.journal = s.purge.journal ∧ s.beginOffers.purge.badBlocks = s.purge.badBlocks
    ∧ s.beginOffers.purge.nextBlock = s.purge.nextBlock ∧ s.beginOffers.purge.writes = s.purge.writes
    ∧ s.beginOffers.purge.plan = s.purge.plan ∧ s.beginOffers.purge.begun = s.purge.begun
    ∧ s.beginOffers.purge.closing = s.purge.closing ∧ s.beginOffers.purge.suspended = s.purge.suspended
    ∧ s.beginOffers.purge.pendingTarget = s.purge.pendingTarget ∧ s.beginOffers.purge.waits = s.purge.waits
    ∧ s.beginOffers.gate = s.gate ∧ s.beginOffers.scanner = s.scanner ∧ s.beginOffers.supervisor = s.supervisor
    ∧ s.beginOffers.setup = s.setup ∧ s.beginOffers.store = s.store := by
  unfold State.beginOffers
  (try dsimp only)
  (repeat' split) <;> first | (simp; done) | (simp [*]; done)

@[simp] theorem State.hear_frame (s : State) (n : StationNo) (epoch : Nat) :
    (s.hear n epoch).pending = s.pending ∧ (s.hear n epoch).clock = s.clock ∧ (s.hear n epoch).draws = s.draws
    ∧ (s.hear n epoch).line = s.line ∧ (s.hear n epoch).roster = s.roster ∧ (s.hear n epoch).verifier = s.verifier
    ∧ (s.hear n epoch).slotTable = s.slotTable ∧ (s.hear n epoch).phaseCtl = s.phaseCtl
    ∧ (s.hear n epoch).keyPort = s.keyPort ∧ (s.hear n epoch).purge.journal = s.purge.journal
    ∧ (s.hear n epoch).purge.badBlocks = s.purge.badBlocks ∧ (s.hear n epoch).purge.nextBlock = s.purge.nextBlock
    ∧ (s.hear n epoch).purge.writes = s.purge.writes ∧ (s.hear n epoch).purge.plan = s.purge.plan
    ∧ (s.hear n epoch).purge.begun = s.purge.begun ∧ (s.hear n epoch).purge.closing = s.purge.closing
    ∧ (s.hear n epoch).purge.suspended = s.purge.suspended
    ∧ (s.hear n epoch).purge.pendingTarget = s.purge.pendingTarget ∧ (s.hear n epoch).purge.waits = s.purge.waits
    ∧ (s.hear n epoch).gate = s.gate ∧ (s.hear n epoch).scanner = s.scanner
    ∧ (s.hear n epoch).supervisor = s.supervisor ∧ (s.hear n epoch).setup = s.setup ∧ (s.hear n epoch).store = s.store := by
  unfold State.hear
  (try dsimp only)
  (repeat' split) <;> first | (simp; done) | (simp [*]; done)

@[simp] theorem State.openPurge_frame (s : State) (cause : PurgeCause) (target : Nat) :
    (s.openPurge cause target).pending = s.pending ∧ (s.openPurge cause target).clock = s.clock
    ∧ (s.openPurge cause target).draws = s.draws ∧ (s.openPurge cause target).line.state = s.line.state
    ∧ (s.openPurge cause target).line.onLine = s.line.onLine
    ∧ (s.openPurge cause target).line.repeatUrgent = s.line.repeatUrgent
    ∧ (s.openPurge cause target).line.repeatOther = s.line.repeatOther
    ∧ (s.openPurge cause target).line.headerParity = s.line.headerParity
    ∧ (s.openPurge cause target).line.checkFail = s.line.checkFail
    ∧ (s.openPurge cause target).line.rxMissed = s.line.rxMissed
    ∧ (s.openPurge cause target).line.txPartial = s.line.txPartial
    ∧ (s.openPurge cause target).line.settle = s.line.settle
    ∧ (s.openPurge cause target).line.lastDominant = s.line.lastDominant
    ∧ (s.openPurge cause target).line.inReset = s.line.inReset
    ∧ (s.openPurge cause target).line.sendingReset = s.line.sendingReset
    ∧ (s.openPurge cause target).line.receipt = s.line.receipt ∧ (s.openPurge cause target).roster.sn = s.roster.sn
    ∧ (s.openPurge cause target).roster.kpd = s.roster.kpd
    ∧ (s.openPurge cause target).roster.startCause = s.roster.startCause
    ∧ (s.openPurge cause target).roster.entries = s.roster.entries
    ∧ (s.openPurge cause target).roster.answeredAt = s.roster.answeredAt
    ∧ (s.openPurge cause target).roster.rollOwed = s.roster.rollOwed
    ∧ (s.openPurge cause target).verifier.hold = s.verifier.hold
    ∧ (s.openPurge cause target).slotTable.slots = s.slotTable.slots
    ∧ (s.openPurge cause target).slotTable.salt = s.slotTable.salt
    ∧ (s.openPurge cause target).slotTable.blankKey = s.slotTable.blankKey
    ∧ (s.openPurge cause target).slotTable.waits = s.slotTable.waits
    ∧ (s.openPurge cause target).slotTable.slotDiverged = s.slotTable.slotDiverged
    ∧ (s.openPurge cause target).purge.badBlocks = s.purge.badBlocks
    ∧ (s.openPurge cause target).purge.waits = s.purge.waits ∧ (s.openPurge cause target).gate.ranges = s.gate.ranges
    ∧ (s.openPurge cause target).gate.waits = s.gate.waits ∧ (s.openPurge cause target).gate.holder = s.gate.holder
    ∧ (s.openPurge cause target).gate.flashBusy = s.gate.flashBusy ∧ (s.openPurge cause target).gate.op = s.gate.op
    ∧ (s.openPurge cause target).gate.driven = s.gate.driven
    ∧ (s.openPurge cause target).gate.faultCount = s.gate.faultCount
    ∧ (s.openPurge cause target).gate.channelFault = s.gate.channelFault
    ∧ (s.openPurge cause target).gate.faultPeriod = s.gate.faultPeriod
    ∧ (s.openPurge cause target).gate.periodicDue = s.gate.periodicDue
    ∧ (s.openPurge cause target).gate.stepTimeout = s.gate.stepTimeout
    ∧ (s.openPurge cause target).supervisor = s.supervisor ∧ (s.openPurge cause target).setup = s.setup
    ∧ (s.openPurge cause target).store.stored = s.store.stored
    ∧ (s.openPurge cause target).store.deciding = s.store.deciding := by
  unfold State.openPurge
  (try dsimp only)
  (repeat' split) <;> first | (simp; done) | (simp [*]; done)

@[simp] theorem State.openOwn_frame (s : State) (cause : PurgeCause) :
    (s.openOwn cause).pending = s.pending ∧ (s.openOwn cause).clock = s.clock ∧ (s.openOwn cause).draws = s.draws
    ∧ (s.openOwn cause).line.state = s.line.state ∧ (s.openOwn cause).line.onLine = s.line.onLine
    ∧ (s.openOwn cause).line.repeatUrgent = s.line.repeatUrgent
    ∧ (s.openOwn cause).line.repeatOther = s.line.repeatOther
    ∧ (s.openOwn cause).line.headerParity = s.line.headerParity ∧ (s.openOwn cause).line.checkFail = s.line.checkFail
    ∧ (s.openOwn cause).line.rxMissed = s.line.rxMissed ∧ (s.openOwn cause).line.txPartial = s.line.txPartial
    ∧ (s.openOwn cause).line.settle = s.line.settle ∧ (s.openOwn cause).line.lastDominant = s.line.lastDominant
    ∧ (s.openOwn cause).line.inReset = s.line.inReset ∧ (s.openOwn cause).line.sendingReset = s.line.sendingReset
    ∧ (s.openOwn cause).line.receipt = s.line.receipt ∧ (s.openOwn cause).roster.sn = s.roster.sn
    ∧ (s.openOwn cause).roster.kpd = s.roster.kpd ∧ (s.openOwn cause).roster.startCause = s.roster.startCause
    ∧ (s.openOwn cause).roster.entries = s.roster.entries ∧ (s.openOwn cause).roster.answeredAt = s.roster.answeredAt
    ∧ (s.openOwn cause).roster.rollOwed = s.roster.rollOwed ∧ (s.openOwn cause).verifier.hold = s.verifier.hold
    ∧ (s.openOwn cause).slotTable.slots = s.slotTable.slots ∧ (s.openOwn cause).slotTable.salt = s.slotTable.salt
    ∧ (s.openOwn cause).slotTable.blankKey = s.slotTable.blankKey
    ∧ (s.openOwn cause).slotTable.waits = s.slotTable.waits
    ∧ (s.openOwn cause).slotTable.slotDiverged = s.slotTable.slotDiverged
    ∧ (s.openOwn cause).purge.badBlocks = s.purge.badBlocks ∧ (s.openOwn cause).purge.waits = s.purge.waits
    ∧ (s.openOwn cause).gate.ranges = s.gate.ranges ∧ (s.openOwn cause).gate.waits = s.gate.waits
    ∧ (s.openOwn cause).gate.holder = s.gate.holder ∧ (s.openOwn cause).gate.flashBusy = s.gate.flashBusy
    ∧ (s.openOwn cause).gate.op = s.gate.op ∧ (s.openOwn cause).gate.driven = s.gate.driven
    ∧ (s.openOwn cause).gate.faultCount = s.gate.faultCount
    ∧ (s.openOwn cause).gate.channelFault = s.gate.channelFault
    ∧ (s.openOwn cause).gate.faultPeriod = s.gate.faultPeriod
    ∧ (s.openOwn cause).gate.periodicDue = s.gate.periodicDue
    ∧ (s.openOwn cause).gate.stepTimeout = s.gate.stepTimeout ∧ (s.openOwn cause).supervisor = s.supervisor
    ∧ (s.openOwn cause).setup = s.setup ∧ (s.openOwn cause).store.stored = s.store.stored
    ∧ (s.openOwn cause).store.deciding = s.store.deciding := by
  unfold State.openOwn
  (try dsimp only)
  (repeat' split) <;> first | (simp; done) | (simp [*]; done)

@[simp] theorem State.endVerification_frame (s : State) :
    s.endVerification.pending = s.pending ∧ s.endVerification.clock = s.clock ∧ s.endVerification.draws = s.draws
    ∧ s.endVerification.line.state = s.line.state ∧ s.endVerification.line.onLine = s.line.onLine
    ∧ s.endVerification.line.repeatUrgent = s.line.repeatUrgent
    ∧ s.endVerification.line.repeatOther = s.line.repeatOther
    ∧ s.endVerification.line.headerParity = s.line.headerParity ∧ s.endVerification.line.checkFail = s.line.checkFail
    ∧ s.endVerification.line.rxMissed = s.line.rxMissed ∧ s.endVerification.line.txPartial = s.line.txPartial
    ∧ s.endVerification.line.settle = s.line.settle ∧ s.endVerification.line.lastDominant = s.line.lastDominant
    ∧ s.endVerification.line.inReset = s.line.inReset ∧ s.endVerification.line.sendingReset = s.line.sendingReset
    ∧ s.endVerification.line.receipt = s.line.receipt ∧ s.endVerification.roster.sn = s.roster.sn
    ∧ s.endVerification.roster.kpd = s.roster.kpd ∧ s.endVerification.roster.startCause = s.roster.startCause
    ∧ s.endVerification.roster.entries = s.roster.entries ∧ s.endVerification.roster.answeredAt = s.roster.answeredAt
    ∧ s.endVerification.roster.rollOwed = s.roster.rollOwed ∧ s.endVerification.slotTable.slots = s.slotTable.slots
    ∧ s.endVerification.slotTable.salt = s.slotTable.salt
    ∧ s.endVerification.slotTable.blankKey = s.slotTable.blankKey
    ∧ s.endVerification.slotTable.waits = s.slotTable.waits
    ∧ s.endVerification.slotTable.slotDiverged = s.slotTable.slotDiverged
    ∧ s.endVerification.purge.badBlocks = s.purge.badBlocks ∧ s.endVerification.purge.waits = s.purge.waits
    ∧ s.endVerification.gate.ranges = s.gate.ranges ∧ s.endVerification.gate.waits = s.gate.waits
    ∧ s.endVerification.gate.holder = s.gate.holder ∧ s.endVerification.gate.flashBusy = s.gate.flashBusy
    ∧ s.endVerification.gate.op = s.gate.op ∧ s.endVerification.gate.driven = s.gate.driven
    ∧ s.endVerification.gate.faultCount = s.gate.faultCount
    ∧ s.endVerification.gate.channelFault = s.gate.channelFault
    ∧ s.endVerification.gate.faultPeriod = s.gate.faultPeriod
    ∧ s.endVerification.gate.periodicDue = s.gate.periodicDue
    ∧ s.endVerification.gate.stepTimeout = s.gate.stepTimeout ∧ s.endVerification.supervisor = s.supervisor
    ∧ s.endVerification.setup = s.setup ∧ s.endVerification.store.stored = s.store.stored
    ∧ s.endVerification.store.deciding = s.store.deciding := by
  unfold State.endVerification
  (try dsimp only)
  (repeat' split) <;> first | (simp; done) | (simp [*]; done)

@[simp] theorem State.lockDown_frame (s : State) :
    s.lockDown.pending = s.pending ∧ s.lockDown.clock = s.clock ∧ s.lockDown.draws = s.draws
    ∧ s.lockDown.line.state = s.line.state ∧ s.lockDown.line.onLine = s.line.onLine
    ∧ s.lockDown.line.repeatUrgent = s.line.repeatUrgent ∧ s.lockDown.line.repeatOther = s.line.repeatOther
    ∧ s.lockDown.line.headerParity = s.line.headerParity ∧ s.lockDown.line.checkFail = s.line.checkFail
    ∧ s.lockDown.line.rxMissed = s.line.rxMissed ∧ s.lockDown.line.txPartial = s.line.txPartial
    ∧ s.lockDown.line.settle = s.line.settle ∧ s.lockDown.line.lastDominant = s.line.lastDominant
    ∧ s.lockDown.line.inReset = s.line.inReset ∧ s.lockDown.line.sendingReset = s.line.sendingReset
    ∧ s.lockDown.line.receipt = s.line.receipt ∧ s.lockDown.roster.sn = s.roster.sn
    ∧ s.lockDown.roster.kpd = s.roster.kpd ∧ s.lockDown.roster.startCause = s.roster.startCause
    ∧ s.lockDown.roster.entries = s.roster.entries ∧ s.lockDown.roster.answeredAt = s.roster.answeredAt
    ∧ s.lockDown.roster.rollOwed = s.roster.rollOwed ∧ s.lockDown.slotTable.slots = s.slotTable.slots
    ∧ s.lockDown.slotTable.salt = s.slotTable.salt ∧ s.lockDown.slotTable.blankKey = s.slotTable.blankKey
    ∧ s.lockDown.slotTable.waits = s.slotTable.waits ∧ s.lockDown.slotTable.slotDiverged = s.slotTable.slotDiverged
    ∧ s.lockDown.purge.badBlocks = s.purge.badBlocks ∧ s.lockDown.purge.waits = s.purge.waits
    ∧ s.lockDown.gate.ranges = s.gate.ranges ∧ s.lockDown.gate.waits = s.gate.waits
    ∧ s.lockDown.gate.holder = s.gate.holder ∧ s.lockDown.gate.flashBusy = s.gate.flashBusy
    ∧ s.lockDown.gate.op = s.gate.op ∧ s.lockDown.gate.driven = s.gate.driven
    ∧ s.lockDown.gate.faultCount = s.gate.faultCount ∧ s.lockDown.gate.channelFault = s.gate.channelFault
    ∧ s.lockDown.gate.faultPeriod = s.gate.faultPeriod ∧ s.lockDown.gate.periodicDue = s.gate.periodicDue
    ∧ s.lockDown.gate.stepTimeout = s.gate.stepTimeout ∧ s.lockDown.supervisor = s.supervisor
    ∧ s.lockDown.setup = s.setup ∧ s.lockDown.store.stored = s.store.stored
    ∧ s.lockDown.store.deciding = s.store.deciding := by
  unfold State.lockDown
  (try dsimp only)
  (repeat' split) <;> first | (simp; done) | (simp [*]; done)

@[simp] theorem State.writePlanHead_frame (s : State) :
    s.writePlanHead.pending = s.pending ∧ s.writePlanHead.clock = s.clock ∧ s.writePlanHead.draws = s.draws
    ∧ s.writePlanHead.line = s.line ∧ s.writePlanHead.roster.sn = s.roster.sn
    ∧ s.writePlanHead.roster.kpd = s.roster.kpd ∧ s.writePlanHead.roster.startCause = s.roster.startCause
    ∧ s.writePlanHead.roster.entries = s.roster.entries ∧ s.writePlanHead.roster.window = s.roster.window
    ∧ s.writePlanHead.roster.answeredAt = s.roster.answeredAt ∧ s.writePlanHead.roster.announce = s.roster.announce
    ∧ s.writePlanHead.verifier = s.verifier ∧ s.writePlanHead.slotTable.slots = s.slotTable.slots
    ∧ s.writePlanHead.slotTable.salt = s.slotTable.salt ∧ s.writePlanHead.slotTable.blankKey = s.slotTable.blankKey
    ∧ s.writePlanHead.slotTable.unlockedKey = s.slotTable.unlockedKey
    ∧ s.writePlanHead.slotTable.waits = s.slotTable.waits
    ∧ s.writePlanHead.slotTable.enrollment = s.slotTable.enrollment
    ∧ s.writePlanHead.slotTable.slotDiverged = s.slotTable.slotDiverged ∧ s.writePlanHead.phaseCtl = s.phaseCtl
    ∧ s.writePlanHead.keyPort = s.keyPort ∧ s.writePlanHead.purge.journal = s.purge.journal
    ∧ s.writePlanHead.purge.badBlocks = s.purge.badBlocks ∧ s.writePlanHead.purge.nextBlock = s.purge.nextBlock
    ∧ s.writePlanHead.purge.plan = s.purge.plan ∧ s.writePlanHead.purge.begun = s.purge.begun
    ∧ s.writePlanHead.purge.suspended = s.purge.suspended ∧ s.writePlanHead.purge.heard = s.purge.heard
    ∧ s.writePlanHead.purge.reoffer = s.purge.reoffer ∧ s.writePlanHead.purge.pendingTarget = s.purge.pendingTarget
    ∧ s.writePlanHead.purge.waits = s.purge.waits ∧ s.writePlanHead.gate.ranges = s.gate.ranges
    ∧ s.writePlanHead.gate.waits = s.gate.waits ∧ s.writePlanHead.gate.owner = s.gate.owner
    ∧ s.writePlanHead.gate.holder = s.gate.holder ∧ s.writePlanHead.gate.handOver = s.gate.handOver
    ∧ s.writePlanHead.gate.command = s.gate.command ∧ s.writePlanHead.gate.flashBusy = s.gate.flashBusy
    ∧ s.writePlanHead.gate.op = s.gate.op ∧ s.writePlanHead.gate.driven = s.gate.driven
    ∧ s.writePlanHead.gate.faultCount = s.gate.faultCount ∧ s.writePlanHead.gate.channelFault = s.gate.channelFault
    ∧ s.writePlanHead.gate.faultPeriod = s.gate.faultPeriod ∧ s.writePlanHead.gate.periodicDue = s.gate.periodicDue
    ∧ s.writePlanHead.gate.grant = s.gate.grant ∧ s.writePlanHead.gate.gateDenied = s.gate.gateDenied
    ∧ s.writePlanHead.gate.stepTimeout = s.gate.stepTimeout ∧ s.writePlanHead.scanner = s.scanner
    ∧ s.writePlanHead.supervisor.supplyValid = s.supervisor.supplyValid
    ∧ s.writePlanHead.supervisor.dormant = s.supervisor.dormant
    ∧ s.writePlanHead.supervisor.attached = s.supervisor.attached
    ∧ s.writePlanHead.supervisor.band = s.supervisor.band
    ∧ s.writePlanHead.supervisor.tamperAsserted = s.supervisor.tamperAsserted
    ∧ s.writePlanHead.supervisor.haltMark = s.supervisor.haltMark ∧ s.writePlanHead.setup = s.setup
    ∧ s.writePlanHead.store.stored = s.store.stored ∧ s.writePlanHead.store.deciding = s.store.deciding := by
  unfold State.writePlanHead
  (try dsimp only)
  (repeat' split) <;> first | (simp; done) | (simp [*]; done)

@[simp] theorem State.beginDestroy_frame (s : State) :
    s.beginDestroy.pending = s.pending ∧ s.beginDestroy.clock = s.clock ∧ s.beginDestroy.draws = s.draws
    ∧ s.beginDestroy.line = s.line ∧ s.beginDestroy.roster.sn = s.roster.sn ∧ s.beginDestroy.roster.kpd = s.roster.kpd
    ∧ s.beginDestroy.roster.startCause = s.roster.startCause ∧ s.beginDestroy.roster.entries = s.roster.entries
    ∧ s.beginDestroy.roster.window = s.roster.window ∧ s.beginDestroy.roster.answeredAt = s.roster.answeredAt
    ∧ s.beginDestroy.roster.announce = s.roster.announce ∧ s.beginDestroy.verifier = s.verifier
    ∧ s.beginDestroy.slotTable.salt = s.slotTable.salt
    ∧ s.beginDestroy.slotTable.unlockedKey = s.slotTable.unlockedKey
    ∧ s.beginDestroy.slotTable.enrollment = s.slotTable.enrollment
    ∧ s.beginDestroy.slotTable.slotDiverged = s.slotTable.slotDiverged ∧ s.beginDestroy.phaseCtl = s.phaseCtl
    ∧ s.beginDestroy.keyPort = s.keyPort ∧ s.beginDestroy.purge.journal = s.purge.journal
    ∧ s.beginDestroy.purge.nextBlock = s.purge.nextBlock ∧ s.beginDestroy.purge.suspended = s.purge.suspended
    ∧ s.beginDestroy.purge.heard = s.purge.heard ∧ s.beginDestroy.purge.reoffer = s.purge.reoffer
    ∧ s.beginDestroy.purge.pendingTarget = s.purge.pendingTarget ∧ s.beginDestroy.purge.waits = s.purge.waits
    ∧ s.beginDestroy.gate.ranges = s.gate.ranges ∧ s.beginDestroy.gate.waits = s.gate.waits
    ∧ s.beginDestroy.gate.owner = s.gate.owner ∧ s.beginDestroy.gate.holder = s.gate.holder
    ∧ s.beginDestroy.gate.handOver = s.gate.handOver ∧ s.beginDestroy.gate.command = s.gate.command
    ∧ s.beginDestroy.gate.flashBusy = s.gate.flashBusy ∧ s.beginDestroy.gate.op = s.gate.op
    ∧ s.beginDestroy.gate.driven = s.gate.driven ∧ s.beginDestroy.gate.faultCount = s.gate.faultCount
    ∧ s.beginDestroy.gate.channelFault = s.gate.channelFault ∧ s.beginDestroy.gate.faultPeriod = s.gate.faultPeriod
    ∧ s.beginDestroy.gate.periodicDue = s.gate.periodicDue ∧ s.beginDestroy.gate.grant = s.gate.grant
    ∧ s.beginDestroy.gate.gateDenied = s.gate.gateDenied ∧ s.beginDestroy.gate.stepTimeout = s.gate.stepTimeout
    ∧ s.beginDestroy.scanner = s.scanner ∧ s.beginDestroy.supervisor.supplyValid = s.supervisor.supplyValid
    ∧ s.beginDestroy.supervisor.dormant = s.supervisor.dormant
    ∧ s.beginDestroy.supervisor.attached = s.supervisor.attached ∧ s.beginDestroy.supervisor.band = s.supervisor.band
    ∧ s.beginDestroy.supervisor.tamperAsserted = s.supervisor.tamperAsserted
    ∧ s.beginDestroy.supervisor.haltMark = s.supervisor.haltMark ∧ s.beginDestroy.setup = s.setup
    ∧ s.beginDestroy.store.stored = s.store.stored ∧ s.beginDestroy.store.deciding = s.store.deciding := by
  unfold State.beginDestroy
  (try dsimp only)
  (repeat' split) <;> first | (simp; done) | (simp [*]; done)

@[simp] theorem State.beginRekey_frame (s : State) :
    s.beginRekey.pending = s.pending ∧ s.beginRekey.clock = s.clock ∧ s.beginRekey.line = s.line
    ∧ s.beginRekey.roster.sn = s.roster.sn ∧ s.beginRekey.roster.kpd = s.roster.kpd
    ∧ s.beginRekey.roster.startCause = s.roster.startCause ∧ s.beginRekey.roster.entries = s.roster.entries
    ∧ s.beginRekey.roster.window = s.roster.window ∧ s.beginRekey.roster.answeredAt = s.roster.answeredAt
    ∧ s.beginRekey.roster.announce = s.roster.announce ∧ s.beginRekey.verifier = s.verifier
    ∧ s.beginRekey.slotTable.slots = s.slotTable.slots ∧ s.beginRekey.slotTable.salt = s.slotTable.salt
    ∧ s.beginRekey.slotTable.unlockedKey = s.slotTable.unlockedKey ∧ s.beginRekey.slotTable.waits = s.slotTable.waits
    ∧ s.beginRekey.slotTable.enrollment = s.slotTable.enrollment
    ∧ s.beginRekey.slotTable.slotDiverged = s.slotTable.slotDiverged ∧ s.beginRekey.phaseCtl = s.phaseCtl
    ∧ s.beginRekey.keyPort = s.keyPort ∧ s.beginRekey.purge.journal = s.purge.journal
    ∧ s.beginRekey.purge.badBlocks = s.purge.badBlocks ∧ s.beginRekey.purge.nextBlock = s.purge.nextBlock
    ∧ s.beginRekey.purge.suspended = s.purge.suspended ∧ s.beginRekey.purge.heard = s.purge.heard
    ∧ s.beginRekey.purge.reoffer = s.purge.reoffer ∧ s.beginRekey.purge.pendingTarget = s.purge.pendingTarget
    ∧ s.beginRekey.purge.waits = s.purge.waits ∧ s.beginRekey.gate.ranges = s.gate.ranges
    ∧ s.beginRekey.gate.waits = s.gate.waits ∧ s.beginRekey.gate.owner = s.gate.owner
    ∧ s.beginRekey.gate.holder = s.gate.holder ∧ s.beginRekey.gate.handOver = s.gate.handOver
    ∧ s.beginRekey.gate.command = s.gate.command ∧ s.beginRekey.gate.flashBusy = s.gate.flashBusy
    ∧ s.beginRekey.gate.op = s.gate.op ∧ s.beginRekey.gate.driven = s.gate.driven
    ∧ s.beginRekey.gate.faultCount = s.gate.faultCount ∧ s.beginRekey.gate.channelFault = s.gate.channelFault
    ∧ s.beginRekey.gate.faultPeriod = s.gate.faultPeriod ∧ s.beginRekey.gate.periodicDue = s.gate.periodicDue
    ∧ s.beginRekey.gate.grant = s.gate.grant ∧ s.beginRekey.gate.gateDenied = s.gate.gateDenied
    ∧ s.beginRekey.gate.stepTimeout = s.gate.stepTimeout ∧ s.beginRekey.scanner = s.scanner
    ∧ s.beginRekey.supervisor.supplyValid = s.supervisor.supplyValid
    ∧ s.beginRekey.supervisor.dormant = s.supervisor.dormant
    ∧ s.beginRekey.supervisor.attached = s.supervisor.attached ∧ s.beginRekey.supervisor.band = s.supervisor.band
    ∧ s.beginRekey.supervisor.tamperAsserted = s.supervisor.tamperAsserted
    ∧ s.beginRekey.supervisor.haltMark = s.supervisor.haltMark ∧ s.beginRekey.setup = s.setup
    ∧ s.beginRekey.store.stored = s.store.stored ∧ s.beginRekey.store.deciding = s.store.deciding := by
  unfold State.beginRekey
  (try dsimp only)
  (repeat' split) <;> first | (simp; done) | (simp [*]; done)

@[simp] theorem State.beginClose_frame (s : State) :
    s.beginClose.pending = s.pending ∧ s.beginClose.clock = s.clock ∧ s.beginClose.draws = s.draws
    ∧ s.beginClose.line = s.line ∧ s.beginClose.roster.sn = s.roster.sn ∧ s.beginClose.roster.kpd = s.roster.kpd
    ∧ s.beginClose.roster.startCause = s.roster.startCause ∧ s.beginClose.roster.entries = s.roster.entries
    ∧ s.beginClose.roster.window = s.roster.window ∧ s.beginClose.roster.answeredAt = s.roster.answeredAt
    ∧ s.beginClose.roster.announce = s.roster.announce ∧ s.beginClose.verifier.attempt = s.verifier.attempt
    ∧ s.beginClose.slotTable.slots = s.slotTable.slots ∧ s.beginClose.slotTable.salt = s.slotTable.salt
    ∧ s.beginClose.slotTable.blankKey = s.slotTable.blankKey
    ∧ s.beginClose.slotTable.unlockedKey = s.slotTable.unlockedKey ∧ s.beginClose.slotTable.waits = s.slotTable.waits
    ∧ s.beginClose.slotTable.enrollment = s.slotTable.enrollment
    ∧ s.beginClose.slotTable.slotDiverged = s.slotTable.slotDiverged ∧ s.beginClose.phaseCtl = s.phaseCtl
    ∧ s.beginClose.keyPort = s.keyPort ∧ s.beginClose.purge.journal = s.purge.journal
    ∧ s.beginClose.purge.badBlocks = s.purge.badBlocks ∧ s.beginClose.purge.nextBlock = s.purge.nextBlock
    ∧ s.beginClose.purge.suspended = s.purge.suspended ∧ s.beginClose.purge.heard = s.purge.heard
    ∧ s.beginClose.purge.reoffer = s.purge.reoffer ∧ s.beginClose.purge.pendingTarget = s.purge.pendingTarget
    ∧ s.beginClose.purge.waits = s.purge.waits ∧ s.beginClose.gate.owner = s.gate.owner
    ∧ s.beginClose.gate.holder = s.gate.holder ∧ s.beginClose.gate.handOver = s.gate.handOver
    ∧ s.beginClose.gate.command = s.gate.command ∧ s.beginClose.gate.flashBusy = s.gate.flashBusy
    ∧ s.beginClose.gate.op = s.gate.op ∧ s.beginClose.gate.driven = s.gate.driven
    ∧ s.beginClose.gate.faultCount = s.gate.faultCount ∧ s.beginClose.gate.channelFault = s.gate.channelFault
    ∧ s.beginClose.gate.faultPeriod = s.gate.faultPeriod ∧ s.beginClose.gate.periodicDue = s.gate.periodicDue
    ∧ s.beginClose.gate.grant = s.gate.grant ∧ s.beginClose.gate.gateDenied = s.gate.gateDenied
    ∧ s.beginClose.gate.stepTimeout = s.gate.stepTimeout ∧ s.beginClose.scanner = s.scanner
    ∧ s.beginClose.supervisor.supplyValid = s.supervisor.supplyValid
    ∧ s.beginClose.supervisor.dormant = s.supervisor.dormant
    ∧ s.beginClose.supervisor.attached = s.supervisor.attached ∧ s.beginClose.supervisor.band = s.supervisor.band
    ∧ s.beginClose.supervisor.tamperAsserted = s.supervisor.tamperAsserted
    ∧ s.beginClose.supervisor.haltMark = s.supervisor.haltMark ∧ s.beginClose.setup = s.setup
    ∧ s.beginClose.store.stored = s.store.stored ∧ s.beginClose.store.deciding = s.store.deciding := by
  unfold State.beginClose
  (try dsimp only)
  (repeat' split) <;> first | (simp; done) | (simp [*]; done)

@[simp] theorem State.beginErase_frame (s : State) :
    s.beginErase.pending = s.pending ∧ s.beginErase.clock = s.clock ∧ s.beginErase.draws = s.draws
    ∧ s.beginErase.line = s.line ∧ s.beginErase.roster = s.roster ∧ s.beginErase.verifier = s.verifier
    ∧ s.beginErase.slotTable.slots = s.slotTable.slots ∧ s.beginErase.slotTable.salt = s.slotTable.salt
    ∧ s.beginErase.slotTable.blankKey = s.slotTable.blankKey
    ∧ s.beginErase.slotTable.unlockedKey = s.slotTable.unlockedKey ∧ s.beginErase.slotTable.waits = s.slotTable.waits
    ∧ s.beginErase.slotTable.enrollment = s.slotTable.enrollment
    ∧ s.beginErase.slotTable.slotDiverged = s.slotTable.slotDiverged ∧ s.beginErase.phaseCtl = s.phaseCtl
    ∧ s.beginErase.keyPort = s.keyPort ∧ s.beginErase.purge.journal.isOpen = s.purge.journal.isOpen
    ∧ s.beginErase.purge.journal.target = s.purge.journal.target
    ∧ s.beginErase.purge.journal.cause = s.purge.journal.cause ∧ s.beginErase.purge.badBlocks = s.purge.badBlocks
    ∧ s.beginErase.purge.plan = s.purge.plan ∧ s.beginErase.purge.closing = s.purge.closing
    ∧ s.beginErase.purge.heard = s.purge.heard ∧ s.beginErase.purge.reoffer = s.purge.reoffer
    ∧ s.beginErase.purge.pendingTarget = s.purge.pendingTarget ∧ s.beginErase.purge.waits = s.purge.waits
    ∧ s.beginErase.gate.ranges = s.gate.ranges ∧ s.beginErase.gate.waits = s.gate.waits
    ∧ s.beginErase.gate.owner = s.gate.owner ∧ s.beginErase.gate.holder = s.gate.holder
    ∧ s.beginErase.gate.handOver = s.gate.handOver ∧ s.beginErase.gate.command = s.gate.command
    ∧ s.beginErase.gate.flashBusy = s.gate.flashBusy ∧ s.beginErase.gate.faultCount = s.gate.faultCount
    ∧ s.beginErase.gate.channelFault = s.gate.channelFault ∧ s.beginErase.gate.faultPeriod = s.gate.faultPeriod
    ∧ s.beginErase.gate.periodicDue = s.gate.periodicDue ∧ s.beginErase.gate.grant = s.gate.grant
    ∧ s.beginErase.gate.gateDenied = s.gate.gateDenied ∧ s.beginErase.gate.stepTimeout = s.gate.stepTimeout
    ∧ s.beginErase.scanner = s.scanner ∧ s.beginErase.supervisor = s.supervisor ∧ s.beginErase.setup = s.setup
    ∧ s.beginErase.store.stored = s.store.stored ∧ s.beginErase.store.deciding = s.store.deciding := by
  unfold State.beginErase
  (try dsimp only)
  (repeat' split) <;> first | (simp; done) | (simp [*]; done)

@[simp] theorem State.beginStage_frame (s : State) :
    s.beginStage.pending = s.pending ∧ s.beginStage.clock = s.clock ∧ s.beginStage.line = s.line
    ∧ s.beginStage.roster.sn = s.roster.sn ∧ s.beginStage.roster.kpd = s.roster.kpd
    ∧ s.beginStage.roster.startCause = s.roster.startCause ∧ s.beginStage.roster.entries = s.roster.entries
    ∧ s.beginStage.roster.window = s.roster.window ∧ s.beginStage.roster.answeredAt = s.roster.answeredAt
    ∧ s.beginStage.roster.announce = s.roster.announce ∧ s.beginStage.verifier.attempt = s.verifier.attempt
    ∧ s.beginStage.slotTable.salt = s.slotTable.salt ∧ s.beginStage.slotTable.unlockedKey = s.slotTable.unlockedKey
    ∧ s.beginStage.slotTable.enrollment = s.slotTable.enrollment
    ∧ s.beginStage.slotTable.slotDiverged = s.slotTable.slotDiverged ∧ s.beginStage.phaseCtl = s.phaseCtl
    ∧ s.beginStage.keyPort = s.keyPort ∧ s.beginStage.purge.journal.isOpen = s.purge.journal.isOpen
    ∧ s.beginStage.purge.journal.target = s.purge.journal.target
    ∧ s.beginStage.purge.journal.cause = s.purge.journal.cause ∧ s.beginStage.purge.heard = s.purge.heard
    ∧ s.beginStage.purge.reoffer = s.purge.reoffer ∧ s.beginStage.purge.pendingTarget = s.purge.pendingTarget
    ∧ s.beginStage.purge.waits = s.purge.waits ∧ s.beginStage.gate.owner = s.gate.owner
    ∧ s.beginStage.gate.holder = s.gate.holder ∧ s.beginStage.gate.handOver = s.gate.handOver
    ∧ s.beginStage.gate.command = s.gate.command ∧ s.beginStage.gate.flashBusy = s.gate.flashBusy
    ∧ s.beginStage.gate.faultCount = s.gate.faultCount ∧ s.beginStage.gate.channelFault = s.gate.channelFault
    ∧ s.beginStage.gate.faultPeriod = s.gate.faultPeriod ∧ s.beginStage.gate.periodicDue = s.gate.periodicDue
    ∧ s.beginStage.gate.grant = s.gate.grant ∧ s.beginStage.gate.gateDenied = s.gate.gateDenied
    ∧ s.beginStage.gate.stepTimeout = s.gate.stepTimeout ∧ s.beginStage.scanner = s.scanner
    ∧ s.beginStage.supervisor.supplyValid = s.supervisor.supplyValid
    ∧ s.beginStage.supervisor.dormant = s.supervisor.dormant
    ∧ s.beginStage.supervisor.attached = s.supervisor.attached ∧ s.beginStage.supervisor.band = s.supervisor.band
    ∧ s.beginStage.supervisor.tamperAsserted = s.supervisor.tamperAsserted
    ∧ s.beginStage.supervisor.haltMark = s.supervisor.haltMark ∧ s.beginStage.setup = s.setup
    ∧ s.beginStage.store.stored = s.store.stored ∧ s.beginStage.store.deciding = s.store.deciding := by
  unfold State.beginStage
  (try dsimp only)
  (repeat' split) <;> first | (simp; done) | (simp [*]; done)

@[simp] theorem State.nextStage_frame (s : State) (stage : PurgeStage) :
    (s.nextStage stage).pending = s.pending ∧ (s.nextStage stage).clock = s.clock
    ∧ (s.nextStage stage).draws = s.draws ∧ (s.nextStage stage).line = s.line ∧ (s.nextStage stage).roster = s.roster
    ∧ (s.nextStage stage).verifier = s.verifier ∧ (s.nextStage stage).slotTable.slots = s.slotTable.slots
    ∧ (s.nextStage stage).slotTable.salt = s.slotTable.salt
    ∧ (s.nextStage stage).slotTable.blankKey = s.slotTable.blankKey
    ∧ (s.nextStage stage).slotTable.unlockedKey = s.slotTable.unlockedKey
    ∧ (s.nextStage stage).slotTable.waits = s.slotTable.waits
    ∧ (s.nextStage stage).slotTable.enrollment = s.slotTable.enrollment
    ∧ (s.nextStage stage).slotTable.slotDiverged = s.slotTable.slotDiverged
    ∧ (s.nextStage stage).phaseCtl = s.phaseCtl ∧ (s.nextStage stage).keyPort = s.keyPort
    ∧ (s.nextStage stage).purge.journal.isOpen = s.purge.journal.isOpen
    ∧ (s.nextStage stage).purge.journal.target = s.purge.journal.target
    ∧ (s.nextStage stage).purge.journal.cause = s.purge.journal.cause
    ∧ (s.nextStage stage).purge.badBlocks = s.purge.badBlocks
    ∧ (s.nextStage stage).purge.nextBlock = s.purge.nextBlock ∧ (s.nextStage stage).purge.plan = s.purge.plan
    ∧ (s.nextStage stage).purge.closing = s.purge.closing ∧ (s.nextStage stage).purge.suspended = s.purge.suspended
    ∧ (s.nextStage stage).purge.heard = s.purge.heard ∧ (s.nextStage stage).purge.reoffer = s.purge.reoffer
    ∧ (s.nextStage stage).purge.pendingTarget = s.purge.pendingTarget
    ∧ (s.nextStage stage).purge.waits = s.purge.waits ∧ (s.nextStage stage).gate.ranges = s.gate.ranges
    ∧ (s.nextStage stage).gate.waits = s.gate.waits ∧ (s.nextStage stage).gate.owner = s.gate.owner
    ∧ (s.nextStage stage).gate.holder = s.gate.holder ∧ (s.nextStage stage).gate.handOver = s.gate.handOver
    ∧ (s.nextStage stage).gate.command = s.gate.command ∧ (s.nextStage stage).gate.flashBusy = s.gate.flashBusy
    ∧ (s.nextStage stage).gate.op = s.gate.op ∧ (s.nextStage stage).gate.driven = s.gate.driven
    ∧ (s.nextStage stage).gate.faultCount = s.gate.faultCount
    ∧ (s.nextStage stage).gate.channelFault = s.gate.channelFault
    ∧ (s.nextStage stage).gate.faultPeriod = s.gate.faultPeriod
    ∧ (s.nextStage stage).gate.periodicDue = s.gate.periodicDue ∧ (s.nextStage stage).gate.grant = s.gate.grant
    ∧ (s.nextStage stage).gate.gateDenied = s.gate.gateDenied
    ∧ (s.nextStage stage).gate.stepTimeout = s.gate.stepTimeout ∧ (s.nextStage stage).scanner = s.scanner
    ∧ (s.nextStage stage).supervisor = s.supervisor ∧ (s.nextStage stage).setup = s.setup
    ∧ (s.nextStage stage).store.stored = s.store.stored ∧ (s.nextStage stage).store.deciding = s.store.deciding := by
  unfold State.nextStage
  (try dsimp only)
  (repeat' split) <;> first | (simp; done) | (simp [*]; done)

@[simp] theorem State.raiseTarget_frame (s : State) (target : Nat) :
    (s.raiseTarget target).pending = s.pending ∧ (s.raiseTarget target).clock = s.clock
    ∧ (s.raiseTarget target).draws = s.draws ∧ (s.raiseTarget target).line.state = s.line.state
    ∧ (s.raiseTarget target).line.onLine = s.line.onLine
    ∧ (s.raiseTarget target).line.repeatUrgent = s.line.repeatUrgent
    ∧ (s.raiseTarget target).line.repeatOther = s.line.repeatOther
    ∧ (s.raiseTarget target).line.headerParity = s.line.headerParity
    ∧ (s.raiseTarget target).line.checkFail = s.line.checkFail
    ∧ (s.raiseTarget target).line.rxMissed = s.line.rxMissed
    ∧ (s.raiseTarget target).line.txPartial = s.line.txPartial ∧ (s.raiseTarget target).line.settle = s.line.settle
    ∧ (s.raiseTarget target).line.lastDominant = s.line.lastDominant
    ∧ (s.raiseTarget target).line.inReset = s.line.inReset
    ∧ (s.raiseTarget target).line.sendingReset = s.line.sendingReset
    ∧ (s.raiseTarget target).line.receipt = s.line.receipt ∧ (s.raiseTarget target).roster.sn = s.roster.sn
    ∧ (s.raiseTarget target).roster.kpd = s.roster.kpd
    ∧ (s.raiseTarget target).roster.startCause = s.roster.startCause
    ∧ (s.raiseTarget target).roster.entries = s.roster.entries
    ∧ (s.raiseTarget target).roster.window = s.roster.window
    ∧ (s.raiseTarget target).roster.answeredAt = s.roster.answeredAt
    ∧ (s.raiseTarget target).roster.announce = s.roster.announce
    ∧ (s.raiseTarget target).verifier.attempt = s.verifier.attempt
    ∧ (s.raiseTarget target).slotTable.slots = s.slotTable.slots
    ∧ (s.raiseTarget target).slotTable.salt = s.slotTable.salt
    ∧ (s.raiseTarget target).slotTable.blankKey = s.slotTable.blankKey
    ∧ (s.raiseTarget target).slotTable.unlockedKey = s.slotTable.unlockedKey
    ∧ (s.raiseTarget target).slotTable.waits = s.slotTable.waits
    ∧ (s.raiseTarget target).slotTable.enrollment = s.slotTable.enrollment
    ∧ (s.raiseTarget target).slotTable.slotDiverged = s.slotTable.slotDiverged
    ∧ (s.raiseTarget target).phaseCtl = s.phaseCtl ∧ (s.raiseTarget target).keyPort = s.keyPort
    ∧ (s.raiseTarget target).purge.journal.isOpen = s.purge.journal.isOpen
    ∧ (s.raiseTarget target).purge.journal.cause = s.purge.journal.cause
    ∧ (s.raiseTarget target).purge.badBlocks = s.purge.badBlocks
    ∧ (s.raiseTarget target).purge.nextBlock = s.purge.nextBlock
    ∧ (s.raiseTarget target).purge.suspended = s.purge.suspended ∧ (s.raiseTarget target).purge.waits = s.purge.waits
    ∧ (s.raiseTarget target).gate.owner = s.gate.owner ∧ (s.raiseTarget target).gate.holder = s.gate.holder
    ∧ (s.raiseTarget target).gate.handOver = s.gate.handOver ∧ (s.raiseTarget target).gate.command = s.gate.command
    ∧ (s.raiseTarget target).gate.flashBusy = s.gate.flashBusy ∧ (s.raiseTarget target).gate.op = s.gate.op
    ∧ (s.raiseTarget target).gate.driven = s.gate.driven ∧ (s.raiseTarget target).gate.faultCount = s.gate.faultCount
    ∧ (s.raiseTarget target).gate.channelFault = s.gate.channelFault
    ∧ (s.raiseTarget target).gate.faultPeriod = s.gate.faultPeriod
    ∧ (s.raiseTarget target).gate.periodicDue = s.gate.periodicDue ∧ (s.raiseTarget target).gate.grant = s.gate.grant
    ∧ (s.raiseTarget target).gate.gateDenied = s.gate.gateDenied
    ∧ (s.raiseTarget target).gate.stepTimeout = s.gate.stepTimeout ∧ (s.raiseTarget target).scanner = s.scanner
    ∧ (s.raiseTarget target).supervisor.supplyValid = s.supervisor.supplyValid
    ∧ (s.raiseTarget target).supervisor.dormant = s.supervisor.dormant
    ∧ (s.raiseTarget target).supervisor.attached = s.supervisor.attached
    ∧ (s.raiseTarget target).supervisor.band = s.supervisor.band
    ∧ (s.raiseTarget target).supervisor.tamperAsserted = s.supervisor.tamperAsserted
    ∧ (s.raiseTarget target).supervisor.haltMark = s.supervisor.haltMark ∧ (s.raiseTarget target).setup = s.setup
    ∧ (s.raiseTarget target).store.stored = s.store.stored ∧ (s.raiseTarget target).store.deciding = s.store.deciding := by
  unfold State.raiseTarget
  (try dsimp only)
  (repeat' split) <;> first | (simp; done) | (simp [*]; done)

@[simp] theorem State.takeTarget_frame (s : State) (cause : PurgeCause) (target : Nat) :
    (s.takeTarget cause target).pending = s.pending ∧ (s.takeTarget cause target).clock = s.clock
    ∧ (s.takeTarget cause target).draws = s.draws ∧ (s.takeTarget cause target).line.state = s.line.state
    ∧ (s.takeTarget cause target).line.onLine = s.line.onLine
    ∧ (s.takeTarget cause target).line.repeatUrgent = s.line.repeatUrgent
    ∧ (s.takeTarget cause target).line.repeatOther = s.line.repeatOther
    ∧ (s.takeTarget cause target).line.headerParity = s.line.headerParity
    ∧ (s.takeTarget cause target).line.checkFail = s.line.checkFail
    ∧ (s.takeTarget cause target).line.rxMissed = s.line.rxMissed
    ∧ (s.takeTarget cause target).line.txPartial = s.line.txPartial
    ∧ (s.takeTarget cause target).line.settle = s.line.settle
    ∧ (s.takeTarget cause target).line.lastDominant = s.line.lastDominant
    ∧ (s.takeTarget cause target).line.inReset = s.line.inReset
    ∧ (s.takeTarget cause target).line.sendingReset = s.line.sendingReset
    ∧ (s.takeTarget cause target).line.receipt = s.line.receipt ∧ (s.takeTarget cause target).roster.sn = s.roster.sn
    ∧ (s.takeTarget cause target).roster.kpd = s.roster.kpd
    ∧ (s.takeTarget cause target).roster.startCause = s.roster.startCause
    ∧ (s.takeTarget cause target).roster.entries = s.roster.entries
    ∧ (s.takeTarget cause target).roster.answeredAt = s.roster.answeredAt
    ∧ (s.takeTarget cause target).slotTable.slots = s.slotTable.slots
    ∧ (s.takeTarget cause target).slotTable.salt = s.slotTable.salt
    ∧ (s.takeTarget cause target).slotTable.blankKey = s.slotTable.blankKey
    ∧ (s.takeTarget cause target).slotTable.waits = s.slotTable.waits
    ∧ (s.takeTarget cause target).slotTable.slotDiverged = s.slotTable.slotDiverged
    ∧ (s.takeTarget cause target).purge.badBlocks = s.purge.badBlocks
    ∧ (s.takeTarget cause target).purge.waits = s.purge.waits
    ∧ (s.takeTarget cause target).gate.holder = s.gate.holder
    ∧ (s.takeTarget cause target).gate.flashBusy = s.gate.flashBusy ∧ (s.takeTarget cause target).gate.op = s.gate.op
    ∧ (s.takeTarget cause target).gate.driven = s.gate.driven
    ∧ (s.takeTarget cause target).gate.faultCount = s.gate.faultCount
    ∧ (s.takeTarget cause target).gate.channelFault = s.gate.channelFault
    ∧ (s.takeTarget cause target).gate.faultPeriod = s.gate.faultPeriod
    ∧ (s.takeTarget cause target).gate.periodicDue = s.gate.periodicDue
    ∧ (s.takeTarget cause target).gate.stepTimeout = s.gate.stepTimeout
    ∧ (s.takeTarget cause target).supervisor.supplyValid = s.supervisor.supplyValid
    ∧ (s.takeTarget cause target).supervisor.dormant = s.supervisor.dormant
    ∧ (s.takeTarget cause target).supervisor.attached = s.supervisor.attached
    ∧ (s.takeTarget cause target).supervisor.band = s.supervisor.band
    ∧ (s.takeTarget cause target).supervisor.tamperAsserted = s.supervisor.tamperAsserted
    ∧ (s.takeTarget cause target).supervisor.haltMark = s.supervisor.haltMark
    ∧ (s.takeTarget cause target).setup = s.setup ∧ (s.takeTarget cause target).store.stored = s.store.stored
    ∧ (s.takeTarget cause target).store.deciding = s.store.deciding := by
  unfold State.takeTarget
  (try dsimp only)
  (repeat' split) <;> first | (simp; done) | (simp [*]; done)

@[simp] theorem State.presenceMoved_frame (s : State) (left : Bool) :
    (s.presenceMoved left).pending = s.pending ∧ (s.presenceMoved left).clock = s.clock
    ∧ (s.presenceMoved left).draws = s.draws ∧ (s.presenceMoved left).line.state = s.line.state
    ∧ (s.presenceMoved left).line.onLine = s.line.onLine
    ∧ (s.presenceMoved left).line.repeatUrgent = s.line.repeatUrgent
    ∧ (s.presenceMoved left).line.repeatOther = s.line.repeatOther
    ∧ (s.presenceMoved left).line.headerParity = s.line.headerParity
    ∧ (s.presenceMoved left).line.checkFail = s.line.checkFail
    ∧ (s.presenceMoved left).line.rxMissed = s.line.rxMissed
    ∧ (s.presenceMoved left).line.txPartial = s.line.txPartial ∧ (s.presenceMoved left).line.settle = s.line.settle
    ∧ (s.presenceMoved left).line.lastDominant = s.line.lastDominant
    ∧ (s.presenceMoved left).line.inReset = s.line.inReset
    ∧ (s.presenceMoved left).line.sendingReset = s.line.sendingReset
    ∧ (s.presenceMoved left).line.receipt = s.line.receipt ∧ (s.presenceMoved left).roster.sn = s.roster.sn
    ∧ (s.presenceMoved left).roster.kpd = s.roster.kpd
    ∧ (s.presenceMoved left).roster.startCause = s.roster.startCause
    ∧ (s.presenceMoved left).roster.entries = s.roster.entries
    ∧ (s.presenceMoved left).roster.answeredAt = s.roster.answeredAt
    ∧ (s.presenceMoved left).roster.rollOwed = s.roster.rollOwed ∧ (s.presenceMoved left).verifier = s.verifier
    ∧ (s.presenceMoved left).slotTable = s.slotTable ∧ (s.presenceMoved left).keyPort = s.keyPort
    ∧ (s.presenceMoved left).purge = s.purge ∧ (s.presenceMoved left).gate.ranges = s.gate.ranges
    ∧ (s.presenceMoved left).gate.writes = s.gate.writes ∧ (s.presenceMoved left).gate.waits = s.gate.waits
    ∧ (s.presenceMoved left).gate.holder = s.gate.holder ∧ (s.presenceMoved left).gate.flashBusy = s.gate.flashBusy
    ∧ (s.presenceMoved left).gate.op = s.gate.op ∧ (s.presenceMoved left).gate.driven = s.gate.driven
    ∧ (s.presenceMoved left).gate.faultCount = s.gate.faultCount
    ∧ (s.presenceMoved left).gate.channelFault = s.gate.channelFault
    ∧ (s.presenceMoved left).gate.faultPeriod = s.gate.faultPeriod
    ∧ (s.presenceMoved left).gate.periodicDue = s.gate.periodicDue
    ∧ (s.presenceMoved left).gate.stepTimeout = s.gate.stepTimeout ∧ (s.presenceMoved left).supervisor = s.supervisor
    ∧ (s.presenceMoved left).setup = s.setup ∧ (s.presenceMoved left).store = s.store := by
  unfold State.presenceMoved
  (try dsimp only)
  (repeat' split) <;> first | (simp; done) | (simp [*]; done)

@[simp] theorem State.setEntry_frame (s : State) (n : StationNo) (e : RosterEntry) :
    (s.setEntry n e).pending = s.pending ∧ (s.setEntry n e).clock = s.clock ∧ (s.setEntry n e).draws = s.draws
    ∧ (s.setEntry n e).line = s.line ∧ (s.setEntry n e).roster.sn = s.roster.sn
    ∧ (s.setEntry n e).roster.kpd = s.roster.kpd ∧ (s.setEntry n e).roster.startCause = s.roster.startCause
    ∧ (s.setEntry n e).roster.window = s.roster.window ∧ (s.setEntry n e).roster.answeredAt = s.roster.answeredAt
    ∧ (s.setEntry n e).roster.announce = s.roster.announce ∧ (s.setEntry n e).roster.rollOwed = s.roster.rollOwed
    ∧ (s.setEntry n e).verifier = s.verifier ∧ (s.setEntry n e).slotTable = s.slotTable
    ∧ (s.setEntry n e).phaseCtl = s.phaseCtl ∧ (s.setEntry n e).keyPort = s.keyPort ∧ (s.setEntry n e).purge = s.purge
    ∧ (s.setEntry n e).gate = s.gate ∧ (s.setEntry n e).scanner = s.scanner
    ∧ (s.setEntry n e).supervisor = s.supervisor ∧ (s.setEntry n e).setup = s.setup ∧ (s.setEntry n e).store = s.store := by
  unfold State.setEntry
  (try dsimp only)
  (repeat' split) <;> first | (simp; done) | (simp [*]; done)

@[simp] theorem State.markPresent_frame (s : State) (n : StationNo) (r : LastRecord) :
    (s.markPresent n r).pending = s.pending ∧ (s.markPresent n r).clock = s.clock
    ∧ (s.markPresent n r).draws = s.draws ∧ (s.markPresent n r).line.state = s.line.state
    ∧ (s.markPresent n r).line.onLine = s.line.onLine ∧ (s.markPresent n r).line.repeatUrgent = s.line.repeatUrgent
    ∧ (s.markPresent n r).line.repeatOther = s.line.repeatOther
    ∧ (s.markPresent n r).line.headerParity = s.line.headerParity
    ∧ (s.markPresent n r).line.checkFail = s.line.checkFail ∧ (s.markPresent n r).line.rxMissed = s.line.rxMissed
    ∧ (s.markPresent n r).line.txPartial = s.line.txPartial ∧ (s.markPresent n r).line.settle = s.line.settle
    ∧ (s.markPresent n r).line.lastDominant = s.line.lastDominant ∧ (s.markPresent n r).line.inReset = s.line.inReset
    ∧ (s.markPresent n r).line.sendingReset = s.line.sendingReset ∧ (s.markPresent n r).line.receipt = s.line.receipt
    ∧ (s.markPresent n r).roster.sn = s.roster.sn ∧ (s.markPresent n r).roster.kpd = s.roster.kpd
    ∧ (s.markPresent n r).roster.startCause = s.roster.startCause
    ∧ (s.markPresent n r).roster.answeredAt = s.roster.answeredAt
    ∧ (s.markPresent n r).roster.rollOwed = s.roster.rollOwed ∧ (s.markPresent n r).verifier = s.verifier
    ∧ (s.markPresent n r).slotTable = s.slotTable ∧ (s.markPresent n r).keyPort = s.keyPort
    ∧ (s.markPresent n r).purge = s.purge ∧ (s.markPresent n r).gate.ranges = s.gate.ranges
    ∧ (s.markPresent n r).gate.writes = s.gate.writes ∧ (s.markPresent n r).gate.waits = s.gate.waits
    ∧ (s.markPresent n r).gate.holder = s.gate.holder ∧ (s.markPresent n r).gate.flashBusy = s.gate.flashBusy
    ∧ (s.markPresent n r).gate.op = s.gate.op ∧ (s.markPresent n r).gate.driven = s.gate.driven
    ∧ (s.markPresent n r).gate.faultCount = s.gate.faultCount
    ∧ (s.markPresent n r).gate.channelFault = s.gate.channelFault
    ∧ (s.markPresent n r).gate.faultPeriod = s.gate.faultPeriod
    ∧ (s.markPresent n r).gate.periodicDue = s.gate.periodicDue
    ∧ (s.markPresent n r).gate.stepTimeout = s.gate.stepTimeout ∧ (s.markPresent n r).supervisor = s.supervisor
    ∧ (s.markPresent n r).setup = s.setup ∧ (s.markPresent n r).store = s.store := by
  unfold State.markPresent
  (try dsimp only)
  (repeat' split) <;> first | (simp; done) | (simp [*]; done)

@[simp] theorem State.silence_frame (s : State) (n : StationNo) :
    (s.silence n).pending = s.pending ∧ (s.silence n).clock = s.clock ∧ (s.silence n).draws = s.draws
    ∧ (s.silence n).line = s.line ∧ (s.silence n).roster.sn = s.roster.sn ∧ (s.silence n).roster.kpd = s.roster.kpd
    ∧ (s.silence n).roster.startCause = s.roster.startCause ∧ (s.silence n).roster.window = s.roster.window
    ∧ (s.silence n).roster.answeredAt = s.roster.answeredAt ∧ (s.silence n).roster.announce = s.roster.announce
    ∧ (s.silence n).roster.rollOwed = s.roster.rollOwed ∧ (s.silence n).verifier = s.verifier
    ∧ (s.silence n).slotTable = s.slotTable ∧ (s.silence n).phaseCtl = s.phaseCtl ∧ (s.silence n).keyPort = s.keyPort
    ∧ (s.silence n).purge = s.purge ∧ (s.silence n).gate = s.gate ∧ (s.silence n).scanner = s.scanner
    ∧ (s.silence n).supervisor = s.supervisor ∧ (s.silence n).setup = s.setup ∧ (s.silence n).store = s.store := by
  unfold State.silence
  (try dsimp only)
  (repeat' split) <;> first | (simp; done) | (simp [*]; done)

@[simp] theorem foldl_silence_frame {l : List _} (s : State) :
    (List.foldl (State.silence) s l).pending = s.pending ∧ (List.foldl (State.silence) s l).clock = s.clock
    ∧ (List.foldl (State.silence) s l).draws = s.draws ∧ (List.foldl (State.silence) s l).line = s.line
    ∧ (List.foldl (State.silence) s l).roster.sn = s.roster.sn
    ∧ (List.foldl (State.silence) s l).roster.kpd = s.roster.kpd
    ∧ (List.foldl (State.silence) s l).roster.startCause = s.roster.startCause
    ∧ (List.foldl (State.silence) s l).roster.window = s.roster.window
    ∧ (List.foldl (State.silence) s l).roster.answeredAt = s.roster.answeredAt
    ∧ (List.foldl (State.silence) s l).roster.announce = s.roster.announce
    ∧ (List.foldl (State.silence) s l).roster.rollOwed = s.roster.rollOwed
    ∧ (List.foldl (State.silence) s l).verifier = s.verifier
    ∧ (List.foldl (State.silence) s l).slotTable = s.slotTable
    ∧ (List.foldl (State.silence) s l).phaseCtl = s.phaseCtl ∧ (List.foldl (State.silence) s l).keyPort = s.keyPort
    ∧ (List.foldl (State.silence) s l).purge = s.purge ∧ (List.foldl (State.silence) s l).gate = s.gate
    ∧ (List.foldl (State.silence) s l).scanner = s.scanner
    ∧ (List.foldl (State.silence) s l).supervisor = s.supervisor ∧ (List.foldl (State.silence) s l).setup = s.setup
    ∧ (List.foldl (State.silence) s l).store = s.store := by
  induction l generalizing s with
  | nil => simp
  | cons a l ih => simp [ih]

@[simp] theorem State.markSilent_frame (s : State) (missing : List StationNo) :
    (s.markSilent missing).pending = s.pending ∧ (s.markSilent missing).clock = s.clock
    ∧ (s.markSilent missing).draws = s.draws ∧ (s.markSilent missing).line.state = s.line.state
    ∧ (s.markSilent missing).line.onLine = s.line.onLine
    ∧ (s.markSilent missing).line.repeatUrgent = s.line.repeatUrgent
    ∧ (s.markSilent missing).line.repeatOther = s.line.repeatOther
    ∧ (s.markSilent missing).line.headerParity = s.line.headerParity
    ∧ (s.markSilent missing).line.checkFail = s.line.checkFail
    ∧ (s.markSilent missing).line.rxMissed = s.line.rxMissed
    ∧ (s.markSilent missing).line.txPartial = s.line.txPartial ∧ (s.markSilent missing).line.settle = s.line.settle
    ∧ (s.markSilent missing).line.lastDominant = s.line.lastDominant
    ∧ (s.markSilent missing).line.inReset = s.line.inReset
    ∧ (s.markSilent missing).line.sendingReset = s.line.sendingReset
    ∧ (s.markSilent missing).line.receipt = s.line.receipt ∧ (s.markSilent missing).roster.sn = s.roster.sn
    ∧ (s.markSilent missing).roster.kpd = s.roster.kpd
    ∧ (s.markSilent missing).roster.startCause = s.roster.startCause
    ∧ (s.markSilent missing).roster.rollOwed = s.roster.rollOwed ∧ (s.markSilent missing).verifier = s.verifier
    ∧ (s.markSilent missing).slotTable = s.slotTable ∧ (s.markSilent missing).keyPort = s.keyPort
    ∧ (s.markSilent missing).purge = s.purge ∧ (s.markSilent missing).gate.ranges = s.gate.ranges
    ∧ (s.markSilent missing).gate.writes = s.gate.writes ∧ (s.markSilent missing).gate.waits = s.gate.waits
    ∧ (s.markSilent missing).gate.holder = s.gate.holder ∧ (s.markSilent missing).gate.flashBusy = s.gate.flashBusy
    ∧ (s.markSilent missing).gate.op = s.gate.op ∧ (s.markSilent missing).gate.driven = s.gate.driven
    ∧ (s.markSilent missing).gate.faultCount = s.gate.faultCount
    ∧ (s.markSilent missing).gate.channelFault = s.gate.channelFault
    ∧ (s.markSilent missing).gate.faultPeriod = s.gate.faultPeriod
    ∧ (s.markSilent missing).gate.periodicDue = s.gate.periodicDue
    ∧ (s.markSilent missing).gate.stepTimeout = s.gate.stepTimeout ∧ (s.markSilent missing).supervisor = s.supervisor
    ∧ (s.markSilent missing).setup = s.setup ∧ (s.markSilent missing).store = s.store := by
  unfold State.markSilent
  (try dsimp only)
  (repeat' split) <;> first | (simp; done) | (simp [*]; done)

@[simp] theorem State.reconcileSlot_frame (s : State) (i : SlotNo) :
    (s.reconcileSlot i).pending = s.pending ∧ (s.reconcileSlot i).clock = s.clock
    ∧ (s.reconcileSlot i).draws = s.draws ∧ (s.reconcileSlot i).line = s.line ∧ (s.reconcileSlot i).roster = s.roster
    ∧ (s.reconcileSlot i).verifier = s.verifier ∧ (s.reconcileSlot i).slotTable.salt = s.slotTable.salt
    ∧ (s.reconcileSlot i).slotTable.blankKey = s.slotTable.blankKey
    ∧ (s.reconcileSlot i).slotTable.unlockedKey = s.slotTable.unlockedKey
    ∧ (s.reconcileSlot i).slotTable.enrollment = s.slotTable.enrollment ∧ (s.reconcileSlot i).phaseCtl = s.phaseCtl
    ∧ (s.reconcileSlot i).keyPort = s.keyPort ∧ (s.reconcileSlot i).purge.journal = s.purge.journal
    ∧ (s.reconcileSlot i).purge.badBlocks = s.purge.badBlocks
    ∧ (s.reconcileSlot i).purge.nextBlock = s.purge.nextBlock ∧ (s.reconcileSlot i).purge.plan = s.purge.plan
    ∧ (s.reconcileSlot i).purge.begun = s.purge.begun ∧ (s.reconcileSlot i).purge.closing = s.purge.closing
    ∧ (s.reconcileSlot i).purge.suspended = s.purge.suspended ∧ (s.reconcileSlot i).purge.heard = s.purge.heard
    ∧ (s.reconcileSlot i).purge.reoffer = s.purge.reoffer
    ∧ (s.reconcileSlot i).purge.pendingTarget = s.purge.pendingTarget
    ∧ (s.reconcileSlot i).purge.waits = s.purge.waits ∧ (s.reconcileSlot i).gate.ranges = s.gate.ranges
    ∧ (s.reconcileSlot i).gate.waits = s.gate.waits ∧ (s.reconcileSlot i).gate.owner = s.gate.owner
    ∧ (s.reconcileSlot i).gate.holder = s.gate.holder ∧ (s.reconcileSlot i).gate.handOver = s.gate.handOver
    ∧ (s.reconcileSlot i).gate.command = s.gate.command ∧ (s.reconcileSlot i).gate.flashBusy = s.gate.flashBusy
    ∧ (s.reconcileSlot i).gate.op = s.gate.op ∧ (s.reconcileSlot i).gate.driven = s.gate.driven
    ∧ (s.reconcileSlot i).gate.faultCount = s.gate.faultCount
    ∧ (s.reconcileSlot i).gate.channelFault = s.gate.channelFault
    ∧ (s.reconcileSlot i).gate.faultPeriod = s.gate.faultPeriod
    ∧ (s.reconcileSlot i).gate.periodicDue = s.gate.periodicDue ∧ (s.reconcileSlot i).gate.grant = s.gate.grant
    ∧ (s.reconcileSlot i).gate.gateDenied = s.gate.gateDenied
    ∧ (s.reconcileSlot i).gate.stepTimeout = s.gate.stepTimeout ∧ (s.reconcileSlot i).scanner = s.scanner
    ∧ (s.reconcileSlot i).supervisor = s.supervisor ∧ (s.reconcileSlot i).setup = s.setup
    ∧ (s.reconcileSlot i).store.stored = s.store.stored ∧ (s.reconcileSlot i).store.deciding = s.store.deciding := by
  unfold State.reconcileSlot
  (try dsimp only)
  (repeat' split) <;> first | (simp; done) | (simp [*]; done)

@[simp] theorem foldl_reconcileSlot_frame {l : List _} (s : State) :
    (List.foldl (State.reconcileSlot) s l).pending = s.pending
    ∧ (List.foldl (State.reconcileSlot) s l).clock = s.clock ∧ (List.foldl (State.reconcileSlot) s l).draws = s.draws
    ∧ (List.foldl (State.reconcileSlot) s l).line = s.line ∧ (List.foldl (State.reconcileSlot) s l).roster = s.roster
    ∧ (List.foldl (State.reconcileSlot) s l).verifier = s.verifier
    ∧ (List.foldl (State.reconcileSlot) s l).slotTable.salt = s.slotTable.salt
    ∧ (List.foldl (State.reconcileSlot) s l).slotTable.blankKey = s.slotTable.blankKey
    ∧ (List.foldl (State.reconcileSlot) s l).slotTable.unlockedKey = s.slotTable.unlockedKey
    ∧ (List.foldl (State.reconcileSlot) s l).slotTable.enrollment = s.slotTable.enrollment
    ∧ (List.foldl (State.reconcileSlot) s l).phaseCtl = s.phaseCtl
    ∧ (List.foldl (State.reconcileSlot) s l).keyPort = s.keyPort
    ∧ (List.foldl (State.reconcileSlot) s l).purge.journal = s.purge.journal
    ∧ (List.foldl (State.reconcileSlot) s l).purge.badBlocks = s.purge.badBlocks
    ∧ (List.foldl (State.reconcileSlot) s l).purge.nextBlock = s.purge.nextBlock
    ∧ (List.foldl (State.reconcileSlot) s l).purge.plan = s.purge.plan
    ∧ (List.foldl (State.reconcileSlot) s l).purge.begun = s.purge.begun
    ∧ (List.foldl (State.reconcileSlot) s l).purge.closing = s.purge.closing
    ∧ (List.foldl (State.reconcileSlot) s l).purge.suspended = s.purge.suspended
    ∧ (List.foldl (State.reconcileSlot) s l).purge.heard = s.purge.heard
    ∧ (List.foldl (State.reconcileSlot) s l).purge.reoffer = s.purge.reoffer
    ∧ (List.foldl (State.reconcileSlot) s l).purge.pendingTarget = s.purge.pendingTarget
    ∧ (List.foldl (State.reconcileSlot) s l).purge.waits = s.purge.waits
    ∧ (List.foldl (State.reconcileSlot) s l).gate.ranges = s.gate.ranges
    ∧ (List.foldl (State.reconcileSlot) s l).gate.waits = s.gate.waits
    ∧ (List.foldl (State.reconcileSlot) s l).gate.owner = s.gate.owner
    ∧ (List.foldl (State.reconcileSlot) s l).gate.holder = s.gate.holder
    ∧ (List.foldl (State.reconcileSlot) s l).gate.handOver = s.gate.handOver
    ∧ (List.foldl (State.reconcileSlot) s l).gate.command = s.gate.command
    ∧ (List.foldl (State.reconcileSlot) s l).gate.flashBusy = s.gate.flashBusy
    ∧ (List.foldl (State.reconcileSlot) s l).gate.op = s.gate.op
    ∧ (List.foldl (State.reconcileSlot) s l).gate.driven = s.gate.driven
    ∧ (List.foldl (State.reconcileSlot) s l).gate.faultCount = s.gate.faultCount
    ∧ (List.foldl (State.reconcileSlot) s l).gate.channelFault = s.gate.channelFault
    ∧ (List.foldl (State.reconcileSlot) s l).gate.faultPeriod = s.gate.faultPeriod
    ∧ (List.foldl (State.reconcileSlot) s l).gate.periodicDue = s.gate.periodicDue
    ∧ (List.foldl (State.reconcileSlot) s l).gate.grant = s.gate.grant
    ∧ (List.foldl (State.reconcileSlot) s l).gate.gateDenied = s.gate.gateDenied
    ∧ (List.foldl (State.reconcileSlot) s l).gate.stepTimeout = s.gate.stepTimeout
    ∧ (List.foldl (State.reconcileSlot) s l).scanner = s.scanner
    ∧ (List.foldl (State.reconcileSlot) s l).supervisor = s.supervisor
    ∧ (List.foldl (State.reconcileSlot) s l).setup = s.setup
    ∧ (List.foldl (State.reconcileSlot) s l).store.stored = s.store.stored
    ∧ (List.foldl (State.reconcileSlot) s l).store.deciding = s.store.deciding := by
  induction l generalizing s with
  | nil => simp
  | cons a l ih => simp [ih]

@[simp] theorem State.reconcile_frame (s : State) :
    s.reconcile.pending = s.pending ∧ s.reconcile.clock = s.clock ∧ s.reconcile.draws = s.draws
    ∧ s.reconcile.line = s.line ∧ s.reconcile.roster = s.roster ∧ s.reconcile.verifier = s.verifier
    ∧ s.reconcile.slotTable.salt = s.slotTable.salt ∧ s.reconcile.slotTable.unlockedKey = s.slotTable.unlockedKey
    ∧ s.reconcile.slotTable.enrollment = s.slotTable.enrollment ∧ s.reconcile.phaseCtl = s.phaseCtl
    ∧ s.reconcile.keyPort = s.keyPort ∧ s.reconcile.purge.journal = s.purge.journal
    ∧ s.reconcile.purge.badBlocks = s.purge.badBlocks ∧ s.reconcile.purge.nextBlock = s.purge.nextBlock
    ∧ s.reconcile.purge.plan = s.purge.plan ∧ s.reconcile.purge.begun = s.purge.begun
    ∧ s.reconcile.purge.closing = s.purge.closing ∧ s.reconcile.purge.suspended = s.purge.suspended
    ∧ s.reconcile.purge.heard = s.purge.heard ∧ s.reconcile.purge.pendingTarget = s.purge.pendingTarget
    ∧ s.reconcile.purge.waits = s.purge.waits ∧ s.reconcile.gate.ranges = s.gate.ranges
    ∧ s.reconcile.gate.waits = s.gate.waits ∧ s.reconcile.gate.owner = s.gate.owner
    ∧ s.reconcile.gate.holder = s.gate.holder ∧ s.reconcile.gate.handOver = s.gate.handOver
    ∧ s.reconcile.gate.command = s.gate.command ∧ s.reconcile.gate.flashBusy = s.gate.flashBusy
    ∧ s.reconcile.gate.op = s.gate.op ∧ s.reconcile.gate.driven = s.gate.driven
    ∧ s.reconcile.gate.faultCount = s.gate.faultCount ∧ s.reconcile.gate.channelFault = s.gate.channelFault
    ∧ s.reconcile.gate.grant = s.gate.grant ∧ s.reconcile.scanner = s.scanner ∧ s.reconcile.supervisor = s.supervisor
    ∧ s.reconcile.setup = s.setup ∧ s.reconcile.store.stored = s.store.stored
    ∧ s.reconcile.store.deciding = s.store.deciding := by
  unfold State.reconcile
  (try dsimp only)
  (repeat' split) <;> first | (simp; done) | (simp [*]; done)

@[simp] theorem State.haltOnConflict_frame (s : State) :
    s.haltOnConflict.pending = s.pending ∧ s.haltOnConflict.clock = s.clock ∧ s.haltOnConflict.draws = s.draws
    ∧ s.haltOnConflict.line.repeatUrgent = s.line.repeatUrgent
    ∧ s.haltOnConflict.line.repeatOther = s.line.repeatOther
    ∧ s.haltOnConflict.line.headerParity = s.line.headerParity ∧ s.haltOnConflict.line.checkFail = s.line.checkFail
    ∧ s.haltOnConflict.line.rxMissed = s.line.rxMissed ∧ s.haltOnConflict.line.txPartial = s.line.txPartial
    ∧ s.haltOnConflict.line.settle = s.line.settle ∧ s.haltOnConflict.line.inReset = s.line.inReset
    ∧ s.haltOnConflict.line.receipt = s.line.receipt ∧ s.haltOnConflict.roster.sn = s.roster.sn
    ∧ s.haltOnConflict.roster.kpd = s.roster.kpd ∧ s.haltOnConflict.roster.startCause = s.roster.startCause
    ∧ s.haltOnConflict.roster.entries = s.roster.entries ∧ s.haltOnConflict.roster.answeredAt = s.roster.answeredAt
    ∧ s.haltOnConflict.roster.rollOwed = s.roster.rollOwed ∧ s.haltOnConflict.verifier = s.verifier
    ∧ s.haltOnConflict.slotTable = s.slotTable ∧ s.haltOnConflict.keyPort = s.keyPort
    ∧ s.haltOnConflict.purge = s.purge ∧ s.haltOnConflict.gate.ranges = s.gate.ranges
    ∧ s.haltOnConflict.gate.writes = s.gate.writes ∧ s.haltOnConflict.gate.waits = s.gate.waits
    ∧ s.haltOnConflict.gate.holder = s.gate.holder ∧ s.haltOnConflict.gate.flashBusy = s.gate.flashBusy
    ∧ s.haltOnConflict.gate.op = s.gate.op ∧ s.haltOnConflict.gate.driven = s.gate.driven
    ∧ s.haltOnConflict.gate.faultCount = s.gate.faultCount ∧ s.haltOnConflict.gate.channelFault = s.gate.channelFault
    ∧ s.haltOnConflict.gate.faultPeriod = s.gate.faultPeriod ∧ s.haltOnConflict.gate.periodicDue = s.gate.periodicDue
    ∧ s.haltOnConflict.gate.stepTimeout = s.gate.stepTimeout
    ∧ s.haltOnConflict.supervisor.supplyValid = s.supervisor.supplyValid
    ∧ s.haltOnConflict.supervisor.dormant = s.supervisor.dormant
    ∧ s.haltOnConflict.supervisor.attached = s.supervisor.attached
    ∧ s.haltOnConflict.supervisor.band = s.supervisor.band
    ∧ s.haltOnConflict.supervisor.tamperAsserted = s.supervisor.tamperAsserted
    ∧ s.haltOnConflict.supervisor.tampered = s.supervisor.tampered ∧ s.haltOnConflict.setup = s.setup
    ∧ s.haltOnConflict.store = s.store := by
  unfold State.haltOnConflict
  (try dsimp only)
  (repeat' split) <;> first | (simp; done) | (simp [*]; done)

@[simp] theorem State.stopAssemblyTimers_frame (s : State) :
    s.stopAssemblyTimers.pending = s.pending ∧ s.stopAssemblyTimers.clock = s.clock
    ∧ s.stopAssemblyTimers.draws = s.draws ∧ s.stopAssemblyTimers.line = s.line
    ∧ s.stopAssemblyTimers.roster.sn = s.roster.sn ∧ s.stopAssemblyTimers.roster.kpd = s.roster.kpd
    ∧ s.stopAssemblyTimers.roster.startCause = s.roster.startCause
    ∧ s.stopAssemblyTimers.roster.entries = s.roster.entries
    ∧ s.stopAssemblyTimers.roster.answeredAt = s.roster.answeredAt
    ∧ s.stopAssemblyTimers.roster.rollOwed = s.roster.rollOwed ∧ s.stopAssemblyTimers.verifier = s.verifier
    ∧ s.stopAssemblyTimers.slotTable = s.slotTable ∧ s.stopAssemblyTimers.phaseCtl = s.phaseCtl
    ∧ s.stopAssemblyTimers.keyPort = s.keyPort ∧ s.stopAssemblyTimers.purge = s.purge
    ∧ s.stopAssemblyTimers.gate = s.gate ∧ s.stopAssemblyTimers.scanner = s.scanner
    ∧ s.stopAssemblyTimers.supervisor = s.supervisor ∧ s.stopAssemblyTimers.setup = s.setup
    ∧ s.stopAssemblyTimers.store = s.store := by
  unfold State.stopAssemblyTimers
  (try dsimp only)
  (repeat' split) <;> first | (simp; done) | (simp [*]; done)

@[simp] theorem State.mergeReported_frame (s : State) :
    s.mergeReported.pending = s.pending ∧ s.mergeReported.clock = s.clock ∧ s.mergeReported.draws = s.draws
    ∧ s.mergeReported.line = s.line ∧ s.mergeReported.roster = s.roster
    ∧ s.mergeReported.verifier.attempt = s.verifier.attempt
    ∧ s.mergeReported.slotTable = s.slotTable ∧ s.mergeReported.phaseCtl = s.phaseCtl
    ∧ s.mergeReported.keyPort = s.keyPort ∧ s.mergeReported.purge = s.purge ∧ s.mergeReported.gate = s.gate
    ∧ s.mergeReported.scanner = s.scanner ∧ s.mergeReported.supervisor = s.supervisor
    ∧ s.mergeReported.setup = s.setup ∧ s.mergeReported.store.stored = s.store.stored
    ∧ s.mergeReported.store.deciding = s.store.deciding := by
  unfold State.mergeReported
  (try dsimp only)
  (repeat' split) <;> first | (simp; done) | (simp [*]; done)

@[simp] theorem State.completeAssembly_frame (s : State) :
    s.completeAssembly.pending = s.pending ∧ s.completeAssembly.clock = s.clock ∧ s.completeAssembly.draws = s.draws
    ∧ s.completeAssembly.line.state = s.line.state ∧ s.completeAssembly.line.onLine = s.line.onLine
    ∧ s.completeAssembly.line.repeatUrgent = s.line.repeatUrgent
    ∧ s.completeAssembly.line.repeatOther = s.line.repeatOther
    ∧ s.completeAssembly.line.headerParity = s.line.headerParity
    ∧ s.completeAssembly.line.checkFail = s.line.checkFail ∧ s.completeAssembly.line.rxMissed = s.line.rxMissed
    ∧ s.completeAssembly.line.txPartial = s.line.txPartial ∧ s.completeAssembly.line.settle = s.line.settle
    ∧ s.completeAssembly.line.lastDominant = s.line.lastDominant ∧ s.completeAssembly.line.inReset = s.line.inReset
    ∧ s.completeAssembly.line.sendingReset = s.line.sendingReset ∧ s.completeAssembly.line.receipt = s.line.receipt
    ∧ s.completeAssembly.roster.sn = s.roster.sn ∧ s.completeAssembly.roster.kpd = s.roster.kpd
    ∧ s.completeAssembly.roster.startCause = s.roster.startCause
    ∧ s.completeAssembly.roster.entries = s.roster.entries
    ∧ s.completeAssembly.roster.answeredAt = s.roster.answeredAt
    ∧ s.completeAssembly.roster.rollOwed = s.roster.rollOwed ∧ s.completeAssembly.slotTable.salt = s.slotTable.salt
    ∧ s.completeAssembly.purge.badBlocks = s.purge.badBlocks ∧ s.completeAssembly.purge.waits = s.purge.waits
    ∧ s.completeAssembly.gate.ranges = s.gate.ranges ∧ s.completeAssembly.gate.waits = s.gate.waits
    ∧ s.completeAssembly.gate.holder = s.gate.holder ∧ s.completeAssembly.gate.flashBusy = s.gate.flashBusy
    ∧ s.completeAssembly.gate.op = s.gate.op ∧ s.completeAssembly.gate.driven = s.gate.driven
    ∧ s.completeAssembly.gate.faultCount = s.gate.faultCount
    ∧ s.completeAssembly.gate.channelFault = s.gate.channelFault ∧ s.completeAssembly.supervisor = s.supervisor
    ∧ s.completeAssembly.setup = s.setup ∧ s.completeAssembly.store.stored = s.store.stored
    ∧ s.completeAssembly.store.deciding = s.store.deciding := by
  unfold State.completeAssembly
  (try dsimp only)
  (repeat' split) <;> first | (simp; done) | (simp [*]; done)

@[simp] theorem State.completionTest_frame (s : State) :
    s.completionTest.pending = s.pending ∧ s.completionTest.clock = s.clock ∧ s.completionTest.draws = s.draws
    ∧ s.completionTest.line.repeatUrgent = s.line.repeatUrgent
    ∧ s.completionTest.line.repeatOther = s.line.repeatOther
    ∧ s.completionTest.line.headerParity = s.line.headerParity ∧ s.completionTest.line.checkFail = s.line.checkFail
    ∧ s.completionTest.line.rxMissed = s.line.rxMissed ∧ s.completionTest.line.txPartial = s.line.txPartial
    ∧ s.completionTest.line.settle = s.line.settle ∧ s.completionTest.line.inReset = s.line.inReset
    ∧ s.completionTest.line.receipt = s.line.receipt ∧ s.completionTest.roster.sn = s.roster.sn
    ∧ s.completionTest.roster.kpd = s.roster.kpd ∧ s.completionTest.roster.startCause = s.roster.startCause
    ∧ s.completionTest.roster.entries = s.roster.entries ∧ s.completionTest.roster.answeredAt = s.roster.answeredAt
    ∧ s.completionTest.roster.rollOwed = s.roster.rollOwed ∧ s.completionTest.slotTable.salt = s.slotTable.salt
    ∧ s.completionTest.purge.badBlocks = s.purge.badBlocks ∧ s.completionTest.purge.waits = s.purge.waits
    ∧ s.completionTest.gate.ranges = s.gate.ranges ∧ s.completionTest.gate.waits = s.gate.waits
    ∧ s.completionTest.gate.holder = s.gate.holder ∧ s.completionTest.gate.flashBusy = s.gate.flashBusy
    ∧ s.completionTest.gate.op = s.gate.op ∧ s.completionTest.gate.driven = s.gate.driven
    ∧ s.completionTest.gate.faultCount = s.gate.faultCount ∧ s.completionTest.gate.channelFault = s.gate.channelFault
    ∧ s.completionTest.supervisor.supplyValid = s.supervisor.supplyValid
    ∧ s.completionTest.supervisor.dormant = s.supervisor.dormant
    ∧ s.completionTest.supervisor.attached = s.supervisor.attached
    ∧ s.completionTest.supervisor.band = s.supervisor.band
    ∧ s.completionTest.supervisor.tamperAsserted = s.supervisor.tamperAsserted
    ∧ s.completionTest.supervisor.tampered = s.supervisor.tampered ∧ s.completionTest.setup = s.setup
    ∧ s.completionTest.store.stored = s.store.stored ∧ s.completionTest.store.deciding = s.store.deciding := by
  unfold State.completionTest
  (try dsimp only)
  (repeat' split) <;> first | (simp; done) | (simp [*]; done)

@[simp] theorem State.beginAssembly_frame (s : State) :
    s.beginAssembly.pending = s.pending ∧ s.beginAssembly.clock = s.clock ∧ s.beginAssembly.draws = s.draws
    ∧ s.beginAssembly.line.repeatUrgent = s.line.repeatUrgent ∧ s.beginAssembly.line.repeatOther = s.line.repeatOther
    ∧ s.beginAssembly.line.headerParity = s.line.headerParity ∧ s.beginAssembly.line.checkFail = s.line.checkFail
    ∧ s.beginAssembly.line.rxMissed = s.line.rxMissed ∧ s.beginAssembly.line.txPartial = s.line.txPartial
    ∧ s.beginAssembly.line.settle = s.line.settle ∧ s.beginAssembly.line.inReset = s.line.inReset
    ∧ s.beginAssembly.line.receipt = s.line.receipt ∧ s.beginAssembly.roster.sn = s.roster.sn
    ∧ s.beginAssembly.roster.kpd = s.roster.kpd ∧ s.beginAssembly.roster.startCause = s.roster.startCause
    ∧ s.beginAssembly.roster.entries = s.roster.entries ∧ s.beginAssembly.roster.answeredAt = s.roster.answeredAt
    ∧ s.beginAssembly.roster.rollOwed = s.roster.rollOwed ∧ s.beginAssembly.slotTable.salt = s.slotTable.salt
    ∧ s.beginAssembly.purge.badBlocks = s.purge.badBlocks ∧ s.beginAssembly.purge.waits = s.purge.waits
    ∧ s.beginAssembly.gate.ranges = s.gate.ranges ∧ s.beginAssembly.gate.waits = s.gate.waits
    ∧ s.beginAssembly.gate.holder = s.gate.holder ∧ s.beginAssembly.gate.flashBusy = s.gate.flashBusy
    ∧ s.beginAssembly.gate.op = s.gate.op ∧ s.beginAssembly.gate.driven = s.gate.driven
    ∧ s.beginAssembly.gate.faultCount = s.gate.faultCount ∧ s.beginAssembly.gate.channelFault = s.gate.channelFault
    ∧ s.beginAssembly.supervisor.supplyValid = s.supervisor.supplyValid
    ∧ s.beginAssembly.supervisor.dormant = s.supervisor.dormant
    ∧ s.beginAssembly.supervisor.attached = s.supervisor.attached
    ∧ s.beginAssembly.supervisor.band = s.supervisor.band
    ∧ s.beginAssembly.supervisor.tamperAsserted = s.supervisor.tamperAsserted
    ∧ s.beginAssembly.supervisor.tampered = s.supervisor.tampered ∧ s.beginAssembly.setup = s.setup
    ∧ s.beginAssembly.store.stored = s.store.stored ∧ s.beginAssembly.store.deciding = s.store.deciding := by
  unfold State.beginAssembly
  (try dsimp only)
  (repeat' split) <;> first | (simp; done) | (simp [*]; done)

@[simp] theorem State.purgeWaitTest_frame (s : State) :
    s.purgeWaitTest.pending = s.pending ∧ s.purgeWaitTest.clock = s.clock ∧ s.purgeWaitTest.draws = s.draws
    ∧ s.purgeWaitTest.line.state = s.line.state ∧ s.purgeWaitTest.line.onLine = s.line.onLine
    ∧ s.purgeWaitTest.line.repeatUrgent = s.line.repeatUrgent ∧ s.purgeWaitTest.line.repeatOther = s.line.repeatOther
    ∧ s.purgeWaitTest.line.headerParity = s.line.headerParity ∧ s.purgeWaitTest.line.checkFail = s.line.checkFail
    ∧ s.purgeWaitTest.line.rxMissed = s.line.rxMissed ∧ s.purgeWaitTest.line.txPartial = s.line.txPartial
    ∧ s.purgeWaitTest.line.settle = s.line.settle ∧ s.purgeWaitTest.line.lastDominant = s.line.lastDominant
    ∧ s.purgeWaitTest.line.inReset = s.line.inReset ∧ s.purgeWaitTest.line.sendingReset = s.line.sendingReset
    ∧ s.purgeWaitTest.line.receipt = s.line.receipt ∧ s.purgeWaitTest.roster.sn = s.roster.sn
    ∧ s.purgeWaitTest.roster.kpd = s.roster.kpd ∧ s.purgeWaitTest.roster.startCause = s.roster.startCause
    ∧ s.purgeWaitTest.roster.entries = s.roster.entries ∧ s.purgeWaitTest.roster.answeredAt = s.roster.answeredAt
    ∧ s.purgeWaitTest.roster.rollOwed = s.roster.rollOwed ∧ s.purgeWaitTest.verifier = s.verifier
    ∧ s.purgeWaitTest.slotTable = s.slotTable ∧ s.purgeWaitTest.keyPort = s.keyPort ∧ s.purgeWaitTest.purge = s.purge
    ∧ s.purgeWaitTest.gate.ranges = s.gate.ranges ∧ s.purgeWaitTest.gate.writes = s.gate.writes
    ∧ s.purgeWaitTest.gate.waits = s.gate.waits ∧ s.purgeWaitTest.gate.holder = s.gate.holder
    ∧ s.purgeWaitTest.gate.flashBusy = s.gate.flashBusy ∧ s.purgeWaitTest.gate.op = s.gate.op
    ∧ s.purgeWaitTest.gate.driven = s.gate.driven ∧ s.purgeWaitTest.gate.faultCount = s.gate.faultCount
    ∧ s.purgeWaitTest.gate.channelFault = s.gate.channelFault ∧ s.purgeWaitTest.gate.faultPeriod = s.gate.faultPeriod
    ∧ s.purgeWaitTest.gate.periodicDue = s.gate.periodicDue ∧ s.purgeWaitTest.gate.stepTimeout = s.gate.stepTimeout
    ∧ s.purgeWaitTest.supervisor = s.supervisor ∧ s.purgeWaitTest.setup = s.setup ∧ s.purgeWaitTest.store = s.store := by
  unfold State.purgeWaitTest
  (try dsimp only)
  (repeat' split) <;> first | (simp; done) | (simp [*]; done)

@[simp] theorem State.mergePair_frame (s : State) (p : Nat × Nat) :
    (s.mergePair p).pending = s.pending ∧ (s.mergePair p).clock = s.clock ∧ (s.mergePair p).draws = s.draws
    ∧ (s.mergePair p).line.state = s.line.state ∧ (s.mergePair p).line.onLine = s.line.onLine
    ∧ (s.mergePair p).line.repeatUrgent = s.line.repeatUrgent ∧ (s.mergePair p).line.repeatOther = s.line.repeatOther
    ∧ (s.mergePair p).line.headerParity = s.line.headerParity ∧ (s.mergePair p).line.checkFail = s.line.checkFail
    ∧ (s.mergePair p).line.rxMissed = s.line.rxMissed ∧ (s.mergePair p).line.txPartial = s.line.txPartial
    ∧ (s.mergePair p).line.settle = s.line.settle ∧ (s.mergePair p).line.lastDominant = s.line.lastDominant
    ∧ (s.mergePair p).line.inReset = s.line.inReset ∧ (s.mergePair p).line.sendingReset = s.line.sendingReset
    ∧ (s.mergePair p).line.receipt = s.line.receipt ∧ (s.mergePair p).roster.sn = s.roster.sn
    ∧ (s.mergePair p).roster.kpd = s.roster.kpd ∧ (s.mergePair p).roster.startCause = s.roster.startCause
    ∧ (s.mergePair p).roster.entries = s.roster.entries ∧ (s.mergePair p).roster.answeredAt = s.roster.answeredAt
    ∧ (s.mergePair p).roster.rollOwed = s.roster.rollOwed ∧ (s.mergePair p).slotTable.slots = s.slotTable.slots
    ∧ (s.mergePair p).slotTable.salt = s.slotTable.salt ∧ (s.mergePair p).slotTable.blankKey = s.slotTable.blankKey
    ∧ (s.mergePair p).slotTable.waits = s.slotTable.waits
    ∧ (s.mergePair p).slotTable.slotDiverged = s.slotTable.slotDiverged
    ∧ (s.mergePair p).purge.badBlocks = s.purge.badBlocks ∧ (s.mergePair p).purge.waits = s.purge.waits
    ∧ (s.mergePair p).gate.ranges = s.gate.ranges ∧ (s.mergePair p).gate.waits = s.gate.waits
    ∧ (s.mergePair p).gate.holder = s.gate.holder ∧ (s.mergePair p).gate.flashBusy = s.gate.flashBusy
    ∧ (s.mergePair p).gate.op = s.gate.op ∧ (s.mergePair p).gate.driven = s.gate.driven
    ∧ (s.mergePair p).gate.faultCount = s.gate.faultCount ∧ (s.mergePair p).gate.channelFault = s.gate.channelFault
    ∧ (s.mergePair p).gate.faultPeriod = s.gate.faultPeriod ∧ (s.mergePair p).gate.periodicDue = s.gate.periodicDue
    ∧ (s.mergePair p).gate.stepTimeout = s.gate.stepTimeout ∧ (s.mergePair p).supervisor = s.supervisor
    ∧ (s.mergePair p).setup = s.setup ∧ (s.mergePair p).store.stored = s.store.stored
    ∧ (s.mergePair p).store.deciding = s.store.deciding := by
  unfold State.mergePair
  (try dsimp only)
  (repeat' split) <;> first | (simp; done) | (simp [*]; done)

@[simp] theorem State.epochTest_frame (s : State) (epoch : Nat) :
    (s.epochTest epoch).pending = s.pending ∧ (s.epochTest epoch).clock = s.clock
    ∧ (s.epochTest epoch).draws = s.draws ∧ (s.epochTest epoch).line.state = s.line.state
    ∧ (s.epochTest epoch).line.onLine = s.line.onLine ∧ (s.epochTest epoch).line.repeatUrgent = s.line.repeatUrgent
    ∧ (s.epochTest epoch).line.repeatOther = s.line.repeatOther
    ∧ (s.epochTest epoch).line.headerParity = s.line.headerParity
    ∧ (s.epochTest epoch).line.checkFail = s.line.checkFail ∧ (s.epochTest epoch).line.rxMissed = s.line.rxMissed
    ∧ (s.epochTest epoch).line.txPartial = s.line.txPartial ∧ (s.epochTest epoch).line.settle = s.line.settle
    ∧ (s.epochTest epoch).line.lastDominant = s.line.lastDominant ∧ (s.epochTest epoch).line.inReset = s.line.inReset
    ∧ (s.epochTest epoch).line.sendingReset = s.line.sendingReset ∧ (s.epochTest epoch).line.receipt = s.line.receipt
    ∧ (s.epochTest epoch).roster.sn = s.roster.sn ∧ (s.epochTest epoch).roster.kpd = s.roster.kpd
    ∧ (s.epochTest epoch).roster.startCause = s.roster.startCause
    ∧ (s.epochTest epoch).roster.entries = s.roster.entries
    ∧ (s.epochTest epoch).roster.answeredAt = s.roster.answeredAt
    ∧ (s.epochTest epoch).slotTable.slots = s.slotTable.slots ∧ (s.epochTest epoch).slotTable.salt = s.slotTable.salt
    ∧ (s.epochTest epoch).slotTable.blankKey = s.slotTable.blankKey
    ∧ (s.epochTest epoch).slotTable.waits = s.slotTable.waits
    ∧ (s.epochTest epoch).slotTable.slotDiverged = s.slotTable.slotDiverged
    ∧ (s.epochTest epoch).purge.badBlocks = s.purge.badBlocks ∧ (s.epochTest epoch).purge.waits = s.purge.waits
    ∧ (s.epochTest epoch).gate.holder = s.gate.holder ∧ (s.epochTest epoch).gate.flashBusy = s.gate.flashBusy
    ∧ (s.epochTest epoch).gate.op = s.gate.op ∧ (s.epochTest epoch).gate.driven = s.gate.driven
    ∧ (s.epochTest epoch).gate.faultCount = s.gate.faultCount
    ∧ (s.epochTest epoch).gate.channelFault = s.gate.channelFault
    ∧ (s.epochTest epoch).gate.faultPeriod = s.gate.faultPeriod
    ∧ (s.epochTest epoch).gate.periodicDue = s.gate.periodicDue
    ∧ (s.epochTest epoch).gate.stepTimeout = s.gate.stepTimeout
    ∧ (s.epochTest epoch).supervisor.supplyValid = s.supervisor.supplyValid
    ∧ (s.epochTest epoch).supervisor.dormant = s.supervisor.dormant
    ∧ (s.epochTest epoch).supervisor.attached = s.supervisor.attached
    ∧ (s.epochTest epoch).supervisor.band = s.supervisor.band
    ∧ (s.epochTest epoch).supervisor.tamperAsserted = s.supervisor.tamperAsserted
    ∧ (s.epochTest epoch).supervisor.haltMark = s.supervisor.haltMark ∧ (s.epochTest epoch).setup = s.setup
    ∧ (s.epochTest epoch).store.stored = s.store.stored ∧ (s.epochTest epoch).store.deciding = s.store.deciding := by
  unfold State.epochTest
  (try dsimp only)
  (repeat' split) <;> first | (simp; done) | (simp [*]; done)

@[simp] theorem State.updateRecord_frame (s : State) (n : StationNo) (change : GuardRecord → GuardRecord) :
    (s.updateRecord n change).pending = s.pending ∧ (s.updateRecord n change).clock = s.clock
    ∧ (s.updateRecord n change).draws = s.draws ∧ (s.updateRecord n change).line = s.line
    ∧ (s.updateRecord n change).roster.sn = s.roster.sn ∧ (s.updateRecord n change).roster.kpd = s.roster.kpd
    ∧ (s.updateRecord n change).roster.startCause = s.roster.startCause
    ∧ (s.updateRecord n change).roster.window = s.roster.window
    ∧ (s.updateRecord n change).roster.answeredAt = s.roster.answeredAt
    ∧ (s.updateRecord n change).roster.announce = s.roster.announce
    ∧ (s.updateRecord n change).roster.rollOwed = s.roster.rollOwed ∧ (s.updateRecord n change).verifier = s.verifier
    ∧ (s.updateRecord n change).slotTable = s.slotTable ∧ (s.updateRecord n change).phaseCtl = s.phaseCtl
    ∧ (s.updateRecord n change).keyPort = s.keyPort ∧ (s.updateRecord n change).purge = s.purge
    ∧ (s.updateRecord n change).gate = s.gate ∧ (s.updateRecord n change).scanner = s.scanner
    ∧ (s.updateRecord n change).supervisor = s.supervisor ∧ (s.updateRecord n change).setup = s.setup
    ∧ (s.updateRecord n change).store = s.store := by
  unfold State.updateRecord
  (try dsimp only)
  (repeat' split) <;> first | (simp; done) | (simp [*]; done)

@[simp] theorem State.offerVerdict_frame (s : State) (origin : StationNo) (seq : Nat) (result : VerdictResult) (slot : Nat) (p : Nat × Nat) :
    (s.offerVerdict origin seq result slot p).pending = s.pending
    ∧ (s.offerVerdict origin seq result slot p).clock = s.clock
    ∧ (s.offerVerdict origin seq result slot p).draws = s.draws
    ∧ (s.offerVerdict origin seq result slot p).line.state = s.line.state
    ∧ (s.offerVerdict origin seq result slot p).line.onLine = s.line.onLine
    ∧ (s.offerVerdict origin seq result slot p).line.repeatUrgent = s.line.repeatUrgent
    ∧ (s.offerVerdict origin seq result slot p).line.repeatOther = s.line.repeatOther
    ∧ (s.offerVerdict origin seq result slot p).line.headerParity = s.line.headerParity
    ∧ (s.offerVerdict origin seq result slot p).line.checkFail = s.line.checkFail
    ∧ (s.offerVerdict origin seq result slot p).line.rxMissed = s.line.rxMissed
    ∧ (s.offerVerdict origin seq result slot p).line.txPartial = s.line.txPartial
    ∧ (s.offerVerdict origin seq result slot p).line.settle = s.line.settle
    ∧ (s.offerVerdict origin seq result slot p).line.lastDominant = s.line.lastDominant
    ∧ (s.offerVerdict origin seq result slot p).line.inReset = s.line.inReset
    ∧ (s.offerVerdict origin seq result slot p).line.sendingReset = s.line.sendingReset
    ∧ (s.offerVerdict origin seq result slot p).line.receipt = s.line.receipt
    ∧ (s.offerVerdict origin seq result slot p).roster = s.roster
    ∧ (s.offerVerdict origin seq result slot p).verifier = s.verifier
    ∧ (s.offerVerdict origin seq result slot p).slotTable = s.slotTable
    ∧ (s.offerVerdict origin seq result slot p).phaseCtl = s.phaseCtl
    ∧ (s.offerVerdict origin seq result slot p).keyPort = s.keyPort
    ∧ (s.offerVerdict origin seq result slot p).purge = s.purge
    ∧ (s.offerVerdict origin seq result slot p).gate = s.gate
    ∧ (s.offerVerdict origin seq result slot p).scanner = s.scanner
    ∧ (s.offerVerdict origin seq result slot p).supervisor = s.supervisor
    ∧ (s.offerVerdict origin seq result slot p).setup = s.setup
    ∧ (s.offerVerdict origin seq result slot p).store = s.store := by
  unfold State.offerVerdict
  (try dsimp only)
  (repeat' split) <;> first | (simp; done) | (simp [*]; done)

@[simp] theorem State.handOver_frame (s : State) (slot : SlotNo) (readOnly : Bool) (key : ChannelKey) :
    (s.handOver slot readOnly key).pending = s.pending ∧ (s.handOver slot readOnly key).clock = s.clock
    ∧ (s.handOver slot readOnly key).draws = s.draws ∧ (s.handOver slot readOnly key).line.state = s.line.state
    ∧ (s.handOver slot readOnly key).line.onLine = s.line.onLine
    ∧ (s.handOver slot readOnly key).line.repeatUrgent = s.line.repeatUrgent
    ∧ (s.handOver slot readOnly key).line.repeatOther = s.line.repeatOther
    ∧ (s.handOver slot readOnly key).line.headerParity = s.line.headerParity
    ∧ (s.handOver slot readOnly key).line.checkFail = s.line.checkFail
    ∧ (s.handOver slot readOnly key).line.rxMissed = s.line.rxMissed
    ∧ (s.handOver slot readOnly key).line.txPartial = s.line.txPartial
    ∧ (s.handOver slot readOnly key).line.settle = s.line.settle
    ∧ (s.handOver slot readOnly key).line.lastDominant = s.line.lastDominant
    ∧ (s.handOver slot readOnly key).line.inReset = s.line.inReset
    ∧ (s.handOver slot readOnly key).line.sendingReset = s.line.sendingReset
    ∧ (s.handOver slot readOnly key).line.receipt = s.line.receipt
    ∧ (s.handOver slot readOnly key).roster.sn = s.roster.sn
    ∧ (s.handOver slot readOnly key).roster.kpd = s.roster.kpd
    ∧ (s.handOver slot readOnly key).roster.startCause = s.roster.startCause
    ∧ (s.handOver slot readOnly key).roster.entries = s.roster.entries
    ∧ (s.handOver slot readOnly key).roster.answeredAt = s.roster.answeredAt
    ∧ (s.handOver slot readOnly key).roster.rollOwed = s.roster.rollOwed
    ∧ (s.handOver slot readOnly key).verifier.held = s.verifier.held
    ∧ (s.handOver slot readOnly key).verifier.hold = s.verifier.hold
    ∧ (s.handOver slot readOnly key).slotTable.slots = s.slotTable.slots
    ∧ (s.handOver slot readOnly key).slotTable.salt = s.slotTable.salt
    ∧ (s.handOver slot readOnly key).slotTable.blankKey = s.slotTable.blankKey
    ∧ (s.handOver slot readOnly key).slotTable.writes = s.slotTable.writes
    ∧ (s.handOver slot readOnly key).slotTable.waits = s.slotTable.waits
    ∧ (s.handOver slot readOnly key).slotTable.enrollment = s.slotTable.enrollment
    ∧ (s.handOver slot readOnly key).slotTable.slotDiverged = s.slotTable.slotDiverged
    ∧ (s.handOver slot readOnly key).purge = s.purge ∧ (s.handOver slot readOnly key).gate.ranges = s.gate.ranges
    ∧ (s.handOver slot readOnly key).gate.writes = s.gate.writes
    ∧ (s.handOver slot readOnly key).gate.waits = s.gate.waits
    ∧ (s.handOver slot readOnly key).gate.holder = s.gate.holder
    ∧ (s.handOver slot readOnly key).gate.flashBusy = s.gate.flashBusy
    ∧ (s.handOver slot readOnly key).gate.op = s.gate.op ∧ (s.handOver slot readOnly key).gate.driven = s.gate.driven
    ∧ (s.handOver slot readOnly key).gate.faultCount = s.gate.faultCount
    ∧ (s.handOver slot readOnly key).gate.channelFault = s.gate.channelFault
    ∧ (s.handOver slot readOnly key).gate.faultPeriod = s.gate.faultPeriod
    ∧ (s.handOver slot readOnly key).gate.periodicDue = s.gate.periodicDue
    ∧ (s.handOver slot readOnly key).gate.stepTimeout = s.gate.stepTimeout
    ∧ (s.handOver slot readOnly key).supervisor = s.supervisor ∧ (s.handOver slot readOnly key).setup = s.setup
    ∧ (s.handOver slot readOnly key).store = s.store := by
  unfold State.handOver
  (try dsimp only)
  (repeat' split) <;> first | (simp; done) | (simp [*]; done)

@[simp] theorem State.countUnlock_frame (s : State) :
    s.countUnlock.pending = s.pending ∧ s.countUnlock.clock = s.clock ∧ s.countUnlock.line = s.line
    ∧ s.countUnlock.roster = s.roster ∧ s.countUnlock.verifier.attempt = s.verifier.attempt
    ∧ s.countUnlock.slotTable = s.slotTable ∧ s.countUnlock.phaseCtl = s.phaseCtl ∧ s.countUnlock.keyPort = s.keyPort
    ∧ s.countUnlock.purge = s.purge ∧ s.countUnlock.gate = s.gate ∧ s.countUnlock.scanner = s.scanner
    ∧ s.countUnlock.supervisor = s.supervisor ∧ s.countUnlock.setup = s.setup
    ∧ s.countUnlock.store.stored = s.store.stored ∧ s.countUnlock.store.deciding = s.store.deciding := by
  unfold State.countUnlock
  (try dsimp only)
  (repeat' split) <;> first | (simp; done) | (simp [*]; done)

@[simp] theorem State.spendOrHandOver_frame (s : State) (a : Attempt) (slot : SlotNo) (key : ChannelKey) :
    (s.spendOrHandOver a slot key).pending = s.pending ∧ (s.spendOrHandOver a slot key).clock = s.clock
    ∧ (s.spendOrHandOver a slot key).draws = s.draws ∧ (s.spendOrHandOver a slot key).line.state = s.line.state
    ∧ (s.spendOrHandOver a slot key).line.onLine = s.line.onLine
    ∧ (s.spendOrHandOver a slot key).line.repeatUrgent = s.line.repeatUrgent
    ∧ (s.spendOrHandOver a slot key).line.repeatOther = s.line.repeatOther
    ∧ (s.spendOrHandOver a slot key).line.headerParity = s.line.headerParity
    ∧ (s.spendOrHandOver a slot key).line.checkFail = s.line.checkFail
    ∧ (s.spendOrHandOver a slot key).line.rxMissed = s.line.rxMissed
    ∧ (s.spendOrHandOver a slot key).line.txPartial = s.line.txPartial
    ∧ (s.spendOrHandOver a slot key).line.settle = s.line.settle
    ∧ (s.spendOrHandOver a slot key).line.lastDominant = s.line.lastDominant
    ∧ (s.spendOrHandOver a slot key).line.inReset = s.line.inReset
    ∧ (s.spendOrHandOver a slot key).line.sendingReset = s.line.sendingReset
    ∧ (s.spendOrHandOver a slot key).line.receipt = s.line.receipt
    ∧ (s.spendOrHandOver a slot key).roster.sn = s.roster.sn
    ∧ (s.spendOrHandOver a slot key).roster.kpd = s.roster.kpd
    ∧ (s.spendOrHandOver a slot key).roster.startCause = s.roster.startCause
    ∧ (s.spendOrHandOver a slot key).roster.entries = s.roster.entries
    ∧ (s.spendOrHandOver a slot key).roster.answeredAt = s.roster.answeredAt
    ∧ (s.spendOrHandOver a slot key).roster.rollOwed = s.roster.rollOwed
    ∧ (s.spendOrHandOver a slot key).verifier.held = s.verifier.held
    ∧ (s.spendOrHandOver a slot key).verifier.hold = s.verifier.hold
    ∧ (s.spendOrHandOver a slot key).slotTable.salt = s.slotTable.salt
    ∧ (s.spendOrHandOver a slot key).slotTable.blankKey = s.slotTable.blankKey
    ∧ (s.spendOrHandOver a slot key).slotTable.enrollment = s.slotTable.enrollment
    ∧ (s.spendOrHandOver a slot key).slotTable.slotDiverged = s.slotTable.slotDiverged
    ∧ (s.spendOrHandOver a slot key).purge.journal = s.purge.journal
    ∧ (s.spendOrHandOver a slot key).purge.badBlocks = s.purge.badBlocks
    ∧ (s.spendOrHandOver a slot key).purge.nextBlock = s.purge.nextBlock
    ∧ (s.spendOrHandOver a slot key).purge.plan = s.purge.plan
    ∧ (s.spendOrHandOver a slot key).purge.begun = s.purge.begun
    ∧ (s.spendOrHandOver a slot key).purge.closing = s.purge.closing
    ∧ (s.spendOrHandOver a slot key).purge.suspended = s.purge.suspended
    ∧ (s.spendOrHandOver a slot key).purge.heard = s.purge.heard
    ∧ (s.spendOrHandOver a slot key).purge.reoffer = s.purge.reoffer
    ∧ (s.spendOrHandOver a slot key).purge.pendingTarget = s.purge.pendingTarget
    ∧ (s.spendOrHandOver a slot key).purge.waits = s.purge.waits
    ∧ (s.spendOrHandOver a slot key).gate.ranges = s.gate.ranges
    ∧ (s.spendOrHandOver a slot key).gate.waits = s.gate.waits
    ∧ (s.spendOrHandOver a slot key).gate.holder = s.gate.holder
    ∧ (s.spendOrHandOver a slot key).gate.flashBusy = s.gate.flashBusy
    ∧ (s.spendOrHandOver a slot key).gate.op = s.gate.op ∧ (s.spendOrHandOver a slot key).gate.driven = s.gate.driven
    ∧ (s.spendOrHandOver a slot key).gate.faultCount = s.gate.faultCount
    ∧ (s.spendOrHandOver a slot key).gate.channelFault = s.gate.channelFault
    ∧ (s.spendOrHandOver a slot key).gate.faultPeriod = s.gate.faultPeriod
    ∧ (s.spendOrHandOver a slot key).gate.periodicDue = s.gate.periodicDue
    ∧ (s.spendOrHandOver a slot key).gate.stepTimeout = s.gate.stepTimeout
    ∧ (s.spendOrHandOver a slot key).supervisor = s.supervisor ∧ (s.spendOrHandOver a slot key).setup = s.setup
    ∧ (s.spendOrHandOver a slot key).store.stored = s.store.stored
    ∧ (s.spendOrHandOver a slot key).store.deciding = s.store.deciding := by
  unfold State.spendOrHandOver
  (try dsimp only)
  (repeat' split) <;> first | (simp; done) | (simp [*]; done)

@[simp] theorem State.clearTamper_frame (s : State) :
    s.clearTamper.pending = s.pending ∧ s.clearTamper.clock = s.clock ∧ s.clearTamper.draws = s.draws
    ∧ s.clearTamper.line = s.line ∧ s.clearTamper.roster.sn = s.roster.sn ∧ s.clearTamper.roster.kpd = s.roster.kpd
    ∧ s.clearTamper.roster.startCause = s.roster.startCause ∧ s.clearTamper.roster.entries = s.roster.entries
    ∧ s.clearTamper.roster.window = s.roster.window ∧ s.clearTamper.roster.answeredAt = s.roster.answeredAt
    ∧ s.clearTamper.roster.announce = s.roster.announce ∧ s.clearTamper.verifier = s.verifier
    ∧ s.clearTamper.slotTable = s.slotTable ∧ s.clearTamper.phaseCtl = s.phaseCtl ∧ s.clearTamper.keyPort = s.keyPort
    ∧ s.clearTamper.purge = s.purge ∧ s.clearTamper.gate = s.gate ∧ s.clearTamper.scanner = s.scanner
    ∧ s.clearTamper.supervisor.supplyValid = s.supervisor.supplyValid
    ∧ s.clearTamper.supervisor.dormant = s.supervisor.dormant
    ∧ s.clearTamper.supervisor.attached = s.supervisor.attached ∧ s.clearTamper.supervisor.band = s.supervisor.band
    ∧ s.clearTamper.supervisor.tamperAsserted = s.supervisor.tamperAsserted
    ∧ s.clearTamper.supervisor.haltMark = s.supervisor.haltMark ∧ s.clearTamper.setup = s.setup
    ∧ s.clearTamper.store.stored = s.store.stored ∧ s.clearTamper.store.deciding = s.store.deciding := by
  unfold State.clearTamper
  (try dsimp only)
  (repeat' split) <;> first | (simp; done) | (simp [*]; done)

@[simp] theorem State.unlockOutcome_frame (s : State) (a : Attempt) :
    (s.unlockOutcome a).pending = s.pending ∧ (s.unlockOutcome a).clock = s.clock
    ∧ (s.unlockOutcome a).line.state = s.line.state ∧ (s.unlockOutcome a).line.onLine = s.line.onLine
    ∧ (s.unlockOutcome a).line.repeatUrgent = s.line.repeatUrgent
    ∧ (s.unlockOutcome a).line.repeatOther = s.line.repeatOther
    ∧ (s.unlockOutcome a).line.headerParity = s.line.headerParity
    ∧ (s.unlockOutcome a).line.checkFail = s.line.checkFail ∧ (s.unlockOutcome a).line.rxMissed = s.line.rxMissed
    ∧ (s.unlockOutcome a).line.txPartial = s.line.txPartial ∧ (s.unlockOutcome a).line.settle = s.line.settle
    ∧ (s.unlockOutcome a).line.lastDominant = s.line.lastDominant ∧ (s.unlockOutcome a).line.inReset = s.line.inReset
    ∧ (s.unlockOutcome a).line.sendingReset = s.line.sendingReset ∧ (s.unlockOutcome a).line.receipt = s.line.receipt
    ∧ (s.unlockOutcome a).roster.sn = s.roster.sn ∧ (s.unlockOutcome a).roster.kpd = s.roster.kpd
    ∧ (s.unlockOutcome a).roster.startCause = s.roster.startCause
    ∧ (s.unlockOutcome a).roster.entries = s.roster.entries
    ∧ (s.unlockOutcome a).roster.answeredAt = s.roster.answeredAt
    ∧ (s.unlockOutcome a).slotTable.salt = s.slotTable.salt
    ∧ (s.unlockOutcome a).slotTable.blankKey = s.slotTable.blankKey
    ∧ (s.unlockOutcome a).slotTable.slotDiverged = s.slotTable.slotDiverged
    ∧ (s.unlockOutcome a).purge.badBlocks = s.purge.badBlocks ∧ (s.unlockOutcome a).purge.waits = s.purge.waits
    ∧ (s.unlockOutcome a).gate.ranges = s.gate.ranges ∧ (s.unlockOutcome a).gate.waits = s.gate.waits
    ∧ (s.unlockOutcome a).gate.holder = s.gate.holder ∧ (s.unlockOutcome a).gate.flashBusy = s.gate.flashBusy
    ∧ (s.unlockOutcome a).gate.op = s.gate.op ∧ (s.unlockOutcome a).gate.driven = s.gate.driven
    ∧ (s.unlockOutcome a).gate.faultCount = s.gate.faultCount
    ∧ (s.unlockOutcome a).gate.channelFault = s.gate.channelFault
    ∧ (s.unlockOutcome a).gate.faultPeriod = s.gate.faultPeriod
    ∧ (s.unlockOutcome a).gate.periodicDue = s.gate.periodicDue
    ∧ (s.unlockOutcome a).gate.stepTimeout = s.gate.stepTimeout
    ∧ (s.unlockOutcome a).supervisor.supplyValid = s.supervisor.supplyValid
    ∧ (s.unlockOutcome a).supervisor.dormant = s.supervisor.dormant
    ∧ (s.unlockOutcome a).supervisor.attached = s.supervisor.attached
    ∧ (s.unlockOutcome a).supervisor.band = s.supervisor.band
    ∧ (s.unlockOutcome a).supervisor.tamperAsserted = s.supervisor.tamperAsserted
    ∧ (s.unlockOutcome a).supervisor.haltMark = s.supervisor.haltMark ∧ (s.unlockOutcome a).setup = s.setup
    ∧ (s.unlockOutcome a).store.stored = s.store.stored ∧ (s.unlockOutcome a).store.deciding = s.store.deciding := by
  unfold State.unlockOutcome
  (try dsimp only)
  (repeat' split) <;> first | (simp; done) | (simp [*]; done)

@[simp] theorem State.decide_frame (s : State) (a : Attempt) :
    (s.takeDecision a).pending = s.pending ∧ (s.takeDecision a).clock = s.clock
    ∧ (s.takeDecision a).line.state = s.line.state ∧ (s.takeDecision a).line.onLine = s.line.onLine
    ∧ (s.takeDecision a).line.repeatUrgent = s.line.repeatUrgent
    ∧ (s.takeDecision a).line.repeatOther = s.line.repeatOther
    ∧ (s.takeDecision a).line.headerParity = s.line.headerParity
    ∧ (s.takeDecision a).line.checkFail = s.line.checkFail ∧ (s.takeDecision a).line.rxMissed = s.line.rxMissed
    ∧ (s.takeDecision a).line.txPartial = s.line.txPartial ∧ (s.takeDecision a).line.settle = s.line.settle
    ∧ (s.takeDecision a).line.lastDominant = s.line.lastDominant ∧ (s.takeDecision a).line.inReset = s.line.inReset
    ∧ (s.takeDecision a).line.sendingReset = s.line.sendingReset ∧ (s.takeDecision a).line.receipt = s.line.receipt
    ∧ (s.takeDecision a).roster.sn = s.roster.sn ∧ (s.takeDecision a).roster.kpd = s.roster.kpd
    ∧ (s.takeDecision a).roster.startCause = s.roster.startCause
    ∧ (s.takeDecision a).roster.entries = s.roster.entries
    ∧ (s.takeDecision a).roster.answeredAt = s.roster.answeredAt
    ∧ (s.takeDecision a).slotTable.salt = s.slotTable.salt
    ∧ (s.takeDecision a).slotTable.blankKey = s.slotTable.blankKey
    ∧ (s.takeDecision a).slotTable.slotDiverged = s.slotTable.slotDiverged
    ∧ (s.takeDecision a).purge.badBlocks = s.purge.badBlocks ∧ (s.takeDecision a).purge.waits = s.purge.waits
    ∧ (s.takeDecision a).gate.ranges = s.gate.ranges ∧ (s.takeDecision a).gate.waits = s.gate.waits
    ∧ (s.takeDecision a).gate.holder = s.gate.holder ∧ (s.takeDecision a).gate.flashBusy = s.gate.flashBusy
    ∧ (s.takeDecision a).gate.op = s.gate.op ∧ (s.takeDecision a).gate.driven = s.gate.driven
    ∧ (s.takeDecision a).gate.faultCount = s.gate.faultCount
    ∧ (s.takeDecision a).gate.channelFault = s.gate.channelFault
    ∧ (s.takeDecision a).gate.faultPeriod = s.gate.faultPeriod
    ∧ (s.takeDecision a).gate.periodicDue = s.gate.periodicDue
    ∧ (s.takeDecision a).gate.stepTimeout = s.gate.stepTimeout
    ∧ (s.takeDecision a).supervisor.supplyValid = s.supervisor.supplyValid
    ∧ (s.takeDecision a).supervisor.dormant = s.supervisor.dormant
    ∧ (s.takeDecision a).supervisor.attached = s.supervisor.attached
    ∧ (s.takeDecision a).supervisor.band = s.supervisor.band
    ∧ (s.takeDecision a).supervisor.tamperAsserted = s.supervisor.tamperAsserted
    ∧ (s.takeDecision a).supervisor.haltMark = s.supervisor.haltMark ∧ (s.takeDecision a).setup = s.setup
    ∧ (s.takeDecision a).store.stored = s.store.stored ∧ (s.takeDecision a).store.deciding = s.store.deciding := by
  unfold State.takeDecision
  (try dsimp only)
  (repeat' split) <;> first | (simp; done) | (simp [*]; done)

@[simp] theorem State.endEnrollment_frame (s : State) (e : Enrollment) (abandon : Bool) :
    (s.endEnrollment e abandon).pending = s.pending ∧ (s.endEnrollment e abandon).clock = s.clock
    ∧ (s.endEnrollment e abandon).draws = s.draws ∧ (s.endEnrollment e abandon).line.state = s.line.state
    ∧ (s.endEnrollment e abandon).line.onLine = s.line.onLine
    ∧ (s.endEnrollment e abandon).line.repeatUrgent = s.line.repeatUrgent
    ∧ (s.endEnrollment e abandon).line.repeatOther = s.line.repeatOther
    ∧ (s.endEnrollment e abandon).line.headerParity = s.line.headerParity
    ∧ (s.endEnrollment e abandon).line.checkFail = s.line.checkFail
    ∧ (s.endEnrollment e abandon).line.rxMissed = s.line.rxMissed
    ∧ (s.endEnrollment e abandon).line.txPartial = s.line.txPartial
    ∧ (s.endEnrollment e abandon).line.settle = s.line.settle
    ∧ (s.endEnrollment e abandon).line.lastDominant = s.line.lastDominant
    ∧ (s.endEnrollment e abandon).line.inReset = s.line.inReset
    ∧ (s.endEnrollment e abandon).line.sendingReset = s.line.sendingReset
    ∧ (s.endEnrollment e abandon).line.receipt = s.line.receipt ∧ (s.endEnrollment e abandon).roster = s.roster
    ∧ (s.endEnrollment e abandon).verifier = s.verifier
    ∧ (s.endEnrollment e abandon).slotTable.slots = s.slotTable.slots
    ∧ (s.endEnrollment e abandon).slotTable.salt = s.slotTable.salt
    ∧ (s.endEnrollment e abandon).slotTable.blankKey = s.slotTable.blankKey
    ∧ (s.endEnrollment e abandon).slotTable.unlockedKey = s.slotTable.unlockedKey
    ∧ (s.endEnrollment e abandon).slotTable.writes = s.slotTable.writes
    ∧ (s.endEnrollment e abandon).slotTable.waits = s.slotTable.waits
    ∧ (s.endEnrollment e abandon).slotTable.slotDiverged = s.slotTable.slotDiverged
    ∧ (s.endEnrollment e abandon).phaseCtl = s.phaseCtl ∧ (s.endEnrollment e abandon).keyPort = s.keyPort
    ∧ (s.endEnrollment e abandon).purge = s.purge ∧ (s.endEnrollment e abandon).gate = s.gate
    ∧ (s.endEnrollment e abandon).scanner.key = s.scanner.key
    ∧ (s.endEnrollment e abandon).scanner.digits = s.scanner.digits
    ∧ (s.endEnrollment e abandon).scanner.seq = s.scanner.seq
    ∧ (s.endEnrollment e abandon).scanner.entrySeq = s.scanner.entrySeq
    ∧ (s.endEnrollment e abandon).supervisor = s.supervisor ∧ (s.endEnrollment e abandon).setup = s.setup
    ∧ (s.endEnrollment e abandon).store = s.store := by
  unfold State.endEnrollment
  (try dsimp only)
  (repeat' split) <;> first | (simp; done) | (simp [*]; done)

@[simp] theorem State.fileAnswer_frame (s : State) (sender : StationNo) (slot gen : Nat) (result : Byte) :
    (s.fileAnswer sender slot gen result).pending = s.pending ∧ (s.fileAnswer sender slot gen result).clock = s.clock
    ∧ (s.fileAnswer sender slot gen result).draws = s.draws
    ∧ (s.fileAnswer sender slot gen result).line.state = s.line.state
    ∧ (s.fileAnswer sender slot gen result).line.onLine = s.line.onLine
    ∧ (s.fileAnswer sender slot gen result).line.repeatUrgent = s.line.repeatUrgent
    ∧ (s.fileAnswer sender slot gen result).line.repeatOther = s.line.repeatOther
    ∧ (s.fileAnswer sender slot gen result).line.headerParity = s.line.headerParity
    ∧ (s.fileAnswer sender slot gen result).line.checkFail = s.line.checkFail
    ∧ (s.fileAnswer sender slot gen result).line.rxMissed = s.line.rxMissed
    ∧ (s.fileAnswer sender slot gen result).line.txPartial = s.line.txPartial
    ∧ (s.fileAnswer sender slot gen result).line.settle = s.line.settle
    ∧ (s.fileAnswer sender slot gen result).line.lastDominant = s.line.lastDominant
    ∧ (s.fileAnswer sender slot gen result).line.inReset = s.line.inReset
    ∧ (s.fileAnswer sender slot gen result).line.sendingReset = s.line.sendingReset
    ∧ (s.fileAnswer sender slot gen result).line.receipt = s.line.receipt
    ∧ (s.fileAnswer sender slot gen result).roster = s.roster
    ∧ (s.fileAnswer sender slot gen result).verifier = s.verifier
    ∧ (s.fileAnswer sender slot gen result).slotTable.slots = s.slotTable.slots
    ∧ (s.fileAnswer sender slot gen result).slotTable.salt = s.slotTable.salt
    ∧ (s.fileAnswer sender slot gen result).slotTable.blankKey = s.slotTable.blankKey
    ∧ (s.fileAnswer sender slot gen result).slotTable.unlockedKey = s.slotTable.unlockedKey
    ∧ (s.fileAnswer sender slot gen result).slotTable.writes = s.slotTable.writes
    ∧ (s.fileAnswer sender slot gen result).slotTable.waits = s.slotTable.waits
    ∧ (s.fileAnswer sender slot gen result).slotTable.slotDiverged = s.slotTable.slotDiverged
    ∧ (s.fileAnswer sender slot gen result).phaseCtl = s.phaseCtl
    ∧ (s.fileAnswer sender slot gen result).keyPort = s.keyPort
    ∧ (s.fileAnswer sender slot gen result).purge = s.purge ∧ (s.fileAnswer sender slot gen result).gate = s.gate
    ∧ (s.fileAnswer sender slot gen result).scanner.key = s.scanner.key
    ∧ (s.fileAnswer sender slot gen result).scanner.digits = s.scanner.digits
    ∧ (s.fileAnswer sender slot gen result).scanner.seq = s.scanner.seq
    ∧ (s.fileAnswer sender slot gen result).scanner.entrySeq = s.scanner.entrySeq
    ∧ (s.fileAnswer sender slot gen result).supervisor = s.supervisor
    ∧ (s.fileAnswer sender slot gen result).setup = s.setup ∧ (s.fileAnswer sender slot gen result).store = s.store := by
  unfold State.fileAnswer
  (try dsimp only)
  (repeat' split) <;> first | (simp; done) | (simp [*]; done)

@[simp] theorem State.answerSlot_frame (s : State) (replyTo : StationNo) (request : Kind) (result : AnswerResult) (slot gen : Nat) :
    (s.answerSlot replyTo request result slot gen).pending = s.pending
    ∧ (s.answerSlot replyTo request result slot gen).clock = s.clock
    ∧ (s.answerSlot replyTo request result slot gen).draws = s.draws
    ∧ (s.answerSlot replyTo request result slot gen).line.state = s.line.state
    ∧ (s.answerSlot replyTo request result slot gen).line.onLine = s.line.onLine
    ∧ (s.answerSlot replyTo request result slot gen).line.repeatUrgent = s.line.repeatUrgent
    ∧ (s.answerSlot replyTo request result slot gen).line.repeatOther = s.line.repeatOther
    ∧ (s.answerSlot replyTo request result slot gen).line.headerParity = s.line.headerParity
    ∧ (s.answerSlot replyTo request result slot gen).line.checkFail = s.line.checkFail
    ∧ (s.answerSlot replyTo request result slot gen).line.rxMissed = s.line.rxMissed
    ∧ (s.answerSlot replyTo request result slot gen).line.txPartial = s.line.txPartial
    ∧ (s.answerSlot replyTo request result slot gen).line.settle = s.line.settle
    ∧ (s.answerSlot replyTo request result slot gen).line.lastDominant = s.line.lastDominant
    ∧ (s.answerSlot replyTo request result slot gen).line.inReset = s.line.inReset
    ∧ (s.answerSlot replyTo request result slot gen).line.sendingReset = s.line.sendingReset
    ∧ (s.answerSlot replyTo request result slot gen).line.receipt = s.line.receipt
    ∧ (s.answerSlot replyTo request result slot gen).roster = s.roster
    ∧ (s.answerSlot replyTo request result slot gen).verifier = s.verifier
    ∧ (s.answerSlot replyTo request result slot gen).slotTable.slots = s.slotTable.slots
    ∧ (s.answerSlot replyTo request result slot gen).slotTable.salt = s.slotTable.salt
    ∧ (s.answerSlot replyTo request result slot gen).slotTable.blankKey = s.slotTable.blankKey
    ∧ (s.answerSlot replyTo request result slot gen).slotTable.unlockedKey = s.slotTable.unlockedKey
    ∧ (s.answerSlot replyTo request result slot gen).slotTable.writes = s.slotTable.writes
    ∧ (s.answerSlot replyTo request result slot gen).slotTable.waits = s.slotTable.waits
    ∧ (s.answerSlot replyTo request result slot gen).slotTable.slotDiverged = s.slotTable.slotDiverged
    ∧ (s.answerSlot replyTo request result slot gen).phaseCtl = s.phaseCtl
    ∧ (s.answerSlot replyTo request result slot gen).keyPort = s.keyPort
    ∧ (s.answerSlot replyTo request result slot gen).purge = s.purge
    ∧ (s.answerSlot replyTo request result slot gen).gate = s.gate
    ∧ (s.answerSlot replyTo request result slot gen).scanner.key = s.scanner.key
    ∧ (s.answerSlot replyTo request result slot gen).scanner.digits = s.scanner.digits
    ∧ (s.answerSlot replyTo request result slot gen).scanner.seq = s.scanner.seq
    ∧ (s.answerSlot replyTo request result slot gen).scanner.entrySeq = s.scanner.entrySeq
    ∧ (s.answerSlot replyTo request result slot gen).supervisor = s.supervisor
    ∧ (s.answerSlot replyTo request result slot gen).setup = s.setup
    ∧ (s.answerSlot replyTo request result slot gen).store = s.store := by
  unfold State.answerSlot
  (try dsimp only)
  (repeat' split) <;> first | (simp; done) | (simp [*]; done)

@[simp] theorem State.offerStage_frame (s : State) (slot : SlotNo) (token : Token) :
    (s.offerStage slot token).pending = s.pending ∧ (s.offerStage slot token).clock = s.clock
    ∧ (s.offerStage slot token).draws = s.draws ∧ (s.offerStage slot token).line.state = s.line.state
    ∧ (s.offerStage slot token).line.onLine = s.line.onLine
    ∧ (s.offerStage slot token).line.repeatUrgent = s.line.repeatUrgent
    ∧ (s.offerStage slot token).line.repeatOther = s.line.repeatOther
    ∧ (s.offerStage slot token).line.headerParity = s.line.headerParity
    ∧ (s.offerStage slot token).line.checkFail = s.line.checkFail
    ∧ (s.offerStage slot token).line.rxMissed = s.line.rxMissed
    ∧ (s.offerStage slot token).line.txPartial = s.line.txPartial
    ∧ (s.offerStage slot token).line.settle = s.line.settle
    ∧ (s.offerStage slot token).line.lastDominant = s.line.lastDominant
    ∧ (s.offerStage slot token).line.inReset = s.line.inReset
    ∧ (s.offerStage slot token).line.sendingReset = s.line.sendingReset
    ∧ (s.offerStage slot token).line.receipt = s.line.receipt ∧ (s.offerStage slot token).roster = s.roster
    ∧ (s.offerStage slot token).verifier = s.verifier ∧ (s.offerStage slot token).slotTable.slots = s.slotTable.slots
    ∧ (s.offerStage slot token).slotTable.salt = s.slotTable.salt
    ∧ (s.offerStage slot token).slotTable.blankKey = s.slotTable.blankKey
    ∧ (s.offerStage slot token).slotTable.unlockedKey = s.slotTable.unlockedKey
    ∧ (s.offerStage slot token).slotTable.writes = s.slotTable.writes
    ∧ (s.offerStage slot token).slotTable.waits = s.slotTable.waits
    ∧ (s.offerStage slot token).slotTable.slotDiverged = s.slotTable.slotDiverged
    ∧ (s.offerStage slot token).phaseCtl = s.phaseCtl ∧ (s.offerStage slot token).keyPort = s.keyPort
    ∧ (s.offerStage slot token).purge = s.purge ∧ (s.offerStage slot token).gate = s.gate
    ∧ (s.offerStage slot token).scanner = s.scanner ∧ (s.offerStage slot token).supervisor = s.supervisor
    ∧ (s.offerStage slot token).setup = s.setup ∧ (s.offerStage slot token).store = s.store := by
  unfold State.offerStage
  (try dsimp only)
  (repeat' split) <;> first | (simp; done) | (simp [*]; done)

@[simp] theorem State.startAttempt_frame (s : State) (f : TxFrame) (rival : Option Byte) :
    (s.startAttempt f rival).pending = s.pending ∧ (s.startAttempt f rival).clock = s.clock
    ∧ (s.startAttempt f rival).draws = s.draws ∧ (s.startAttempt f rival).line.rx = s.line.rx
    ∧ (s.startAttempt f rival).line.tx = s.line.tx ∧ (s.startAttempt f rival).line.altUrgent = s.line.altUrgent
    ∧ (s.startAttempt f rival).line.altOther = s.line.altOther
    ∧ (s.startAttempt f rival).line.repeatUrgent = s.line.repeatUrgent
    ∧ (s.startAttempt f rival).line.repeatOther = s.line.repeatOther
    ∧ (s.startAttempt f rival).line.headerParity = s.line.headerParity
    ∧ (s.startAttempt f rival).line.checkFail = s.line.checkFail
    ∧ (s.startAttempt f rival).line.rxMissed = s.line.rxMissed
    ∧ (s.startAttempt f rival).line.txPartial = s.line.txPartial
    ∧ (s.startAttempt f rival).line.txDropped = s.line.txDropped
    ∧ (s.startAttempt f rival).line.settle = s.line.settle ∧ (s.startAttempt f rival).line.inReset = s.line.inReset
    ∧ (s.startAttempt f rival).line.sendingReset = s.line.sendingReset ∧ (s.startAttempt f rival).roster = s.roster
    ∧ (s.startAttempt f rival).verifier = s.verifier ∧ (s.startAttempt f rival).slotTable = s.slotTable
    ∧ (s.startAttempt f rival).phaseCtl = s.phaseCtl ∧ (s.startAttempt f rival).keyPort = s.keyPort
    ∧ (s.startAttempt f rival).purge = s.purge ∧ (s.startAttempt f rival).gate = s.gate
    ∧ (s.startAttempt f rival).scanner = s.scanner ∧ (s.startAttempt f rival).supervisor = s.supervisor
    ∧ (s.startAttempt f rival).setup = s.setup ∧ (s.startAttempt f rival).store = s.store := by
  unfold State.startAttempt
  (try dsimp only)
  (repeat' split) <;> first | (simp; done) | (simp [*]; done)

@[simp] theorem State.endAttempt_frame (s : State) :
    s.endAttempt.pending = s.pending ∧ s.endAttempt.clock = s.clock ∧ s.endAttempt.draws = s.draws
    ∧ s.endAttempt.line.rx = s.line.rx ∧ s.endAttempt.line.tx = s.line.tx
    ∧ s.endAttempt.line.altUrgent = s.line.altUrgent ∧ s.endAttempt.line.altOther = s.line.altOther
    ∧ s.endAttempt.line.repeatUrgent = s.line.repeatUrgent ∧ s.endAttempt.line.repeatOther = s.line.repeatOther
    ∧ s.endAttempt.line.headerParity = s.line.headerParity ∧ s.endAttempt.line.checkFail = s.line.checkFail
    ∧ s.endAttempt.line.rxMissed = s.line.rxMissed ∧ s.endAttempt.line.txPartial = s.line.txPartial
    ∧ s.endAttempt.line.txDropped = s.line.txDropped ∧ s.endAttempt.line.settle = s.line.settle
    ∧ s.endAttempt.line.inReset = s.line.inReset ∧ s.endAttempt.line.sendingReset = s.line.sendingReset
    ∧ s.endAttempt.line.receipt = s.line.receipt ∧ s.endAttempt.roster = s.roster ∧ s.endAttempt.verifier = s.verifier
    ∧ s.endAttempt.slotTable = s.slotTable ∧ s.endAttempt.phaseCtl = s.phaseCtl ∧ s.endAttempt.keyPort = s.keyPort
    ∧ s.endAttempt.purge = s.purge ∧ s.endAttempt.gate = s.gate ∧ s.endAttempt.scanner = s.scanner
    ∧ s.endAttempt.supervisor = s.supervisor ∧ s.endAttempt.setup = s.setup ∧ s.endAttempt.store = s.store := by
  unfold State.endAttempt
  (try dsimp only)
  (repeat' split) <;> first | (simp; done) | (simp [*]; done)

@[simp] theorem State.driveOwnSlot_frame (s : State) :
    s.driveOwnSlot.pending = s.pending ∧ s.driveOwnSlot.clock = s.clock ∧ s.driveOwnSlot.draws = s.draws
    ∧ s.driveOwnSlot.line.rx = s.line.rx ∧ s.driveOwnSlot.line.tx = s.line.tx
    ∧ s.driveOwnSlot.line.altUrgent = s.line.altUrgent ∧ s.driveOwnSlot.line.altOther = s.line.altOther
    ∧ s.driveOwnSlot.line.repeatUrgent = s.line.repeatUrgent ∧ s.driveOwnSlot.line.repeatOther = s.line.repeatOther
    ∧ s.driveOwnSlot.line.headerParity = s.line.headerParity ∧ s.driveOwnSlot.line.checkFail = s.line.checkFail
    ∧ s.driveOwnSlot.line.rxMissed = s.line.rxMissed ∧ s.driveOwnSlot.line.txPartial = s.line.txPartial
    ∧ s.driveOwnSlot.line.txDropped = s.line.txDropped ∧ s.driveOwnSlot.line.settle = s.line.settle
    ∧ s.driveOwnSlot.line.inReset = s.line.inReset ∧ s.driveOwnSlot.line.sendingReset = s.line.sendingReset
    ∧ s.driveOwnSlot.line.state = s.line.state ∧ s.driveOwnSlot.line.onLine = s.line.onLine
    ∧ s.driveOwnSlot.line.lastDominant = s.line.lastDominant ∧ s.driveOwnSlot.roster = s.roster ∧ s.driveOwnSlot.verifier = s.verifier
    ∧ s.driveOwnSlot.slotTable = s.slotTable ∧ s.driveOwnSlot.phaseCtl = s.phaseCtl ∧ s.driveOwnSlot.keyPort = s.keyPort
    ∧ s.driveOwnSlot.purge = s.purge ∧ s.driveOwnSlot.gate = s.gate ∧ s.driveOwnSlot.scanner = s.scanner
    ∧ s.driveOwnSlot.supervisor = s.supervisor ∧ s.driveOwnSlot.setup = s.setup ∧ s.driveOwnSlot.store = s.store := by
  unfold State.driveOwnSlot
  (try dsimp only)
  (repeat' split) <;> first | (simp; done) | (simp [*]; done)

@[simp] theorem State.retryHead_frame (s : State) (f : TxFrame) (rest : List TxFrame) :
    (s.retryHead f rest).pending = s.pending ∧ (s.retryHead f rest).clock = s.clock
    ∧ (s.retryHead f rest).draws = s.draws ∧ (s.retryHead f rest).line.state = s.line.state
    ∧ (s.retryHead f rest).line.rx = s.line.rx ∧ (s.retryHead f rest).line.onLine = s.line.onLine
    ∧ (s.retryHead f rest).line.altUrgent = s.line.altUrgent ∧ (s.retryHead f rest).line.altOther = s.line.altOther
    ∧ (s.retryHead f rest).line.repeatUrgent = s.line.repeatUrgent
    ∧ (s.retryHead f rest).line.repeatOther = s.line.repeatOther
    ∧ (s.retryHead f rest).line.headerParity = s.line.headerParity
    ∧ (s.retryHead f rest).line.checkFail = s.line.checkFail ∧ (s.retryHead f rest).line.rxMissed = s.line.rxMissed
    ∧ (s.retryHead f rest).line.txPartial = s.line.txPartial ∧ (s.retryHead f rest).line.txDropped = s.line.txDropped
    ∧ (s.retryHead f rest).line.settle = s.line.settle ∧ (s.retryHead f rest).line.lastDominant = s.line.lastDominant
    ∧ (s.retryHead f rest).line.inReset = s.line.inReset
    ∧ (s.retryHead f rest).line.sendingReset = s.line.sendingReset
    ∧ (s.retryHead f rest).line.receipt = s.line.receipt ∧ (s.retryHead f rest).roster = s.roster
    ∧ (s.retryHead f rest).verifier = s.verifier ∧ (s.retryHead f rest).slotTable = s.slotTable
    ∧ (s.retryHead f rest).phaseCtl = s.phaseCtl ∧ (s.retryHead f rest).keyPort = s.keyPort
    ∧ (s.retryHead f rest).purge = s.purge ∧ (s.retryHead f rest).gate = s.gate
    ∧ (s.retryHead f rest).scanner = s.scanner ∧ (s.retryHead f rest).supervisor = s.supervisor
    ∧ (s.retryHead f rest).setup = s.setup ∧ (s.retryHead f rest).store = s.store := by
  unfold State.retryHead
  (try dsimp only)
  (repeat' split) <;> first | (simp; done) | (simp [*]; done)

@[simp] theorem State.releaseHead_frame (s : State) (f : TxFrame) (rest : List TxFrame) (o : SendOutcome) :
    (s.releaseHead f rest o).pending = s.pending ∧ (s.releaseHead f rest o).clock = s.clock
    ∧ (s.releaseHead f rest o).draws = s.draws ∧ (s.releaseHead f rest o).line.state = s.line.state
    ∧ (s.releaseHead f rest o).line.onLine = s.line.onLine
    ∧ (s.releaseHead f rest o).line.altUrgent = s.line.altUrgent
    ∧ (s.releaseHead f rest o).line.altOther = s.line.altOther
    ∧ (s.releaseHead f rest o).line.repeatUrgent = s.line.repeatUrgent
    ∧ (s.releaseHead f rest o).line.repeatOther = s.line.repeatOther
    ∧ (s.releaseHead f rest o).line.headerParity = s.line.headerParity
    ∧ (s.releaseHead f rest o).line.checkFail = s.line.checkFail
    ∧ (s.releaseHead f rest o).line.rxMissed = s.line.rxMissed
    ∧ (s.releaseHead f rest o).line.txPartial = s.line.txPartial
    ∧ (s.releaseHead f rest o).line.txDropped = s.line.txDropped
    ∧ (s.releaseHead f rest o).line.settle = s.line.settle
    ∧ (s.releaseHead f rest o).line.lastDominant = s.line.lastDominant
    ∧ (s.releaseHead f rest o).line.inReset = s.line.inReset
    ∧ (s.releaseHead f rest o).line.sendingReset = s.line.sendingReset
    ∧ (s.releaseHead f rest o).line.receipt = s.line.receipt ∧ (s.releaseHead f rest o).roster = s.roster
    ∧ (s.releaseHead f rest o).verifier = s.verifier ∧ (s.releaseHead f rest o).slotTable = s.slotTable
    ∧ (s.releaseHead f rest o).phaseCtl = s.phaseCtl ∧ (s.releaseHead f rest o).keyPort = s.keyPort
    ∧ (s.releaseHead f rest o).purge = s.purge ∧ (s.releaseHead f rest o).gate = s.gate
    ∧ (s.releaseHead f rest o).scanner = s.scanner ∧ (s.releaseHead f rest o).supervisor = s.supervisor
    ∧ (s.releaseHead f rest o).setup = s.setup ∧ (s.releaseHead f rest o).store = s.store := by
  unfold State.releaseHead
  (try dsimp only)
  (repeat' split) <;> first | (simp; done) | (simp [*]; done)

@[simp] theorem State.failAttempt_frame (s : State) (f : TxFrame) (rest : List TxFrame) :
    (s.failAttempt f rest).pending = s.pending ∧ (s.failAttempt f rest).clock = s.clock
    ∧ (s.failAttempt f rest).draws = s.draws ∧ (s.failAttempt f rest).line.altUrgent = s.line.altUrgent
    ∧ (s.failAttempt f rest).line.altOther = s.line.altOther
    ∧ (s.failAttempt f rest).line.repeatUrgent = s.line.repeatUrgent
    ∧ (s.failAttempt f rest).line.repeatOther = s.line.repeatOther
    ∧ (s.failAttempt f rest).line.headerParity = s.line.headerParity
    ∧ (s.failAttempt f rest).line.checkFail = s.line.checkFail
    ∧ (s.failAttempt f rest).line.rxMissed = s.line.rxMissed
    ∧ (s.failAttempt f rest).line.txPartial = s.line.txPartial ∧ (s.failAttempt f rest).line.settle = s.line.settle
    ∧ (s.failAttempt f rest).line.inReset = s.line.inReset
    ∧ (s.failAttempt f rest).line.sendingReset = s.line.sendingReset
    ∧ (s.failAttempt f rest).line.receipt = s.line.receipt ∧ (s.failAttempt f rest).roster = s.roster
    ∧ (s.failAttempt f rest).verifier = s.verifier ∧ (s.failAttempt f rest).slotTable = s.slotTable
    ∧ (s.failAttempt f rest).phaseCtl = s.phaseCtl ∧ (s.failAttempt f rest).keyPort = s.keyPort
    ∧ (s.failAttempt f rest).purge = s.purge ∧ (s.failAttempt f rest).gate = s.gate
    ∧ (s.failAttempt f rest).scanner = s.scanner ∧ (s.failAttempt f rest).supervisor = s.supervisor
    ∧ (s.failAttempt f rest).setup = s.setup ∧ (s.failAttempt f rest).store = s.store := by
  unfold State.failAttempt
  (try dsimp only)
  (repeat' split) <;> first | (simp; done) | (simp [*]; done)

@[simp] theorem State.partialAttempt_frame (s : State) (f : TxFrame) (rest : List TxFrame) (missing : List StationNo) :
    (s.partialAttempt f rest missing).pending = s.pending ∧ (s.partialAttempt f rest missing).clock = s.clock
    ∧ (s.partialAttempt f rest missing).draws = s.draws ∧ (s.partialAttempt f rest missing).line.state = s.line.state
    ∧ (s.partialAttempt f rest missing).line.onLine = s.line.onLine
    ∧ (s.partialAttempt f rest missing).line.repeatUrgent = s.line.repeatUrgent
    ∧ (s.partialAttempt f rest missing).line.repeatOther = s.line.repeatOther
    ∧ (s.partialAttempt f rest missing).line.headerParity = s.line.headerParity
    ∧ (s.partialAttempt f rest missing).line.checkFail = s.line.checkFail
    ∧ (s.partialAttempt f rest missing).line.rxMissed = s.line.rxMissed
    ∧ (s.partialAttempt f rest missing).line.settle = s.line.settle
    ∧ (s.partialAttempt f rest missing).line.lastDominant = s.line.lastDominant
    ∧ (s.partialAttempt f rest missing).line.inReset = s.line.inReset
    ∧ (s.partialAttempt f rest missing).line.sendingReset = s.line.sendingReset
    ∧ (s.partialAttempt f rest missing).line.receipt = s.line.receipt
    ∧ (s.partialAttempt f rest missing).roster.sn = s.roster.sn
    ∧ (s.partialAttempt f rest missing).roster.kpd = s.roster.kpd
    ∧ (s.partialAttempt f rest missing).roster.startCause = s.roster.startCause
    ∧ (s.partialAttempt f rest missing).roster.rollOwed = s.roster.rollOwed
    ∧ (s.partialAttempt f rest missing).verifier = s.verifier
    ∧ (s.partialAttempt f rest missing).slotTable = s.slotTable
    ∧ (s.partialAttempt f rest missing).keyPort = s.keyPort ∧ (s.partialAttempt f rest missing).purge = s.purge
    ∧ (s.partialAttempt f rest missing).gate.ranges = s.gate.ranges
    ∧ (s.partialAttempt f rest missing).gate.writes = s.gate.writes
    ∧ (s.partialAttempt f rest missing).gate.waits = s.gate.waits
    ∧ (s.partialAttempt f rest missing).gate.holder = s.gate.holder
    ∧ (s.partialAttempt f rest missing).gate.flashBusy = s.gate.flashBusy
    ∧ (s.partialAttempt f rest missing).gate.op = s.gate.op
    ∧ (s.partialAttempt f rest missing).gate.driven = s.gate.driven
    ∧ (s.partialAttempt f rest missing).gate.faultCount = s.gate.faultCount
    ∧ (s.partialAttempt f rest missing).gate.channelFault = s.gate.channelFault
    ∧ (s.partialAttempt f rest missing).gate.faultPeriod = s.gate.faultPeriod
    ∧ (s.partialAttempt f rest missing).gate.periodicDue = s.gate.periodicDue
    ∧ (s.partialAttempt f rest missing).gate.stepTimeout = s.gate.stepTimeout
    ∧ (s.partialAttempt f rest missing).supervisor = s.supervisor ∧ (s.partialAttempt f rest missing).setup = s.setup
    ∧ (s.partialAttempt f rest missing).store = s.store := by
  unfold State.partialAttempt
  (try dsimp only)
  (repeat' split) <;> first | (simp; done) | (simp [*]; done)

@[simp] theorem State.finishAttempt_frame (s : State) (f : TxFrame) (rest : List TxFrame) (slots : Byte) :
    (s.finishAttempt f rest slots).pending = s.pending ∧ (s.finishAttempt f rest slots).clock = s.clock
    ∧ (s.finishAttempt f rest slots).draws = s.draws
    ∧ (s.finishAttempt f rest slots).line.repeatUrgent = s.line.repeatUrgent
    ∧ (s.finishAttempt f rest slots).line.repeatOther = s.line.repeatOther
    ∧ (s.finishAttempt f rest slots).line.headerParity = s.line.headerParity
    ∧ (s.finishAttempt f rest slots).line.checkFail = s.line.checkFail
    ∧ (s.finishAttempt f rest slots).line.rxMissed = s.line.rxMissed
    ∧ (s.finishAttempt f rest slots).line.settle = s.line.settle
    ∧ (s.finishAttempt f rest slots).line.inReset = s.line.inReset
    ∧ (s.finishAttempt f rest slots).line.sendingReset = s.line.sendingReset
    ∧ (s.finishAttempt f rest slots).roster.sn = s.roster.sn
    ∧ (s.finishAttempt f rest slots).roster.kpd = s.roster.kpd
    ∧ (s.finishAttempt f rest slots).roster.startCause = s.roster.startCause
    ∧ (s.finishAttempt f rest slots).roster.rollOwed = s.roster.rollOwed
    ∧ (s.finishAttempt f rest slots).verifier = s.verifier ∧ (s.finishAttempt f rest slots).slotTable = s.slotTable
    ∧ (s.finishAttempt f rest slots).keyPort = s.keyPort ∧ (s.finishAttempt f rest slots).purge = s.purge
    ∧ (s.finishAttempt f rest slots).gate.ranges = s.gate.ranges
    ∧ (s.finishAttempt f rest slots).gate.writes = s.gate.writes
    ∧ (s.finishAttempt f rest slots).gate.waits = s.gate.waits
    ∧ (s.finishAttempt f rest slots).gate.holder = s.gate.holder
    ∧ (s.finishAttempt f rest slots).gate.flashBusy = s.gate.flashBusy
    ∧ (s.finishAttempt f rest slots).gate.op = s.gate.op ∧ (s.finishAttempt f rest slots).gate.driven = s.gate.driven
    ∧ (s.finishAttempt f rest slots).gate.faultCount = s.gate.faultCount
    ∧ (s.finishAttempt f rest slots).gate.channelFault = s.gate.channelFault
    ∧ (s.finishAttempt f rest slots).gate.faultPeriod = s.gate.faultPeriod
    ∧ (s.finishAttempt f rest slots).gate.periodicDue = s.gate.periodicDue
    ∧ (s.finishAttempt f rest slots).gate.stepTimeout = s.gate.stepTimeout
    ∧ (s.finishAttempt f rest slots).supervisor = s.supervisor ∧ (s.finishAttempt f rest slots).setup = s.setup
    ∧ (s.finishAttempt f rest slots).store = s.store := by
  unfold State.finishAttempt
  (try dsimp only)
  (repeat' split) <;> first | (simp; done) | (simp [*]; done)

@[simp] theorem State.latchCheckFail_frame (s : State) :
    s.latchCheckFail.pending = s.pending ∧ s.latchCheckFail.clock = s.clock ∧ s.latchCheckFail.draws = s.draws
    ∧ s.latchCheckFail.line.state = s.line.state ∧ s.latchCheckFail.line.rx = s.line.rx
    ∧ s.latchCheckFail.line.tx = s.line.tx ∧ s.latchCheckFail.line.onLine = s.line.onLine
    ∧ s.latchCheckFail.line.altUrgent = s.line.altUrgent ∧ s.latchCheckFail.line.altOther = s.line.altOther
    ∧ s.latchCheckFail.line.repeatUrgent = s.line.repeatUrgent
    ∧ s.latchCheckFail.line.repeatOther = s.line.repeatOther
    ∧ s.latchCheckFail.line.headerParity = s.line.headerParity ∧ s.latchCheckFail.line.rxMissed = s.line.rxMissed
    ∧ s.latchCheckFail.line.txPartial = s.line.txPartial ∧ s.latchCheckFail.line.txDropped = s.line.txDropped
    ∧ s.latchCheckFail.line.settle = s.line.settle ∧ s.latchCheckFail.line.lastDominant = s.line.lastDominant
    ∧ s.latchCheckFail.line.inReset = s.line.inReset ∧ s.latchCheckFail.line.sendingReset = s.line.sendingReset
    ∧ s.latchCheckFail.line.receipt = s.line.receipt ∧ s.latchCheckFail.roster = s.roster
    ∧ s.latchCheckFail.verifier = s.verifier ∧ s.latchCheckFail.slotTable = s.slotTable
    ∧ s.latchCheckFail.phaseCtl = s.phaseCtl ∧ s.latchCheckFail.keyPort = s.keyPort ∧ s.latchCheckFail.purge = s.purge
    ∧ s.latchCheckFail.gate = s.gate ∧ s.latchCheckFail.scanner = s.scanner
    ∧ s.latchCheckFail.supervisor = s.supervisor ∧ s.latchCheckFail.setup = s.setup ∧ s.latchCheckFail.store = s.store := by
  unfold State.latchCheckFail
  (try dsimp only)
  (repeat' split) <;> first | (simp; done) | (simp [*]; done)

@[simp] theorem State.acceptFrame_frame (s : State) (f : LineFrame) (k : Kind) :
    (s.acceptFrame f k).pending = s.pending ∧ (s.acceptFrame f k).clock = s.clock
    ∧ (s.acceptFrame f k).draws = s.draws ∧ (s.acceptFrame f k).line.state = s.line.state
    ∧ (s.acceptFrame f k).line.tx = s.line.tx ∧ (s.acceptFrame f k).line.onLine = s.line.onLine
    ∧ (s.acceptFrame f k).line.altUrgent = s.line.altUrgent ∧ (s.acceptFrame f k).line.altOther = s.line.altOther
    ∧ (s.acceptFrame f k).line.headerParity = s.line.headerParity
    ∧ (s.acceptFrame f k).line.checkFail = s.line.checkFail ∧ (s.acceptFrame f k).line.txPartial = s.line.txPartial
    ∧ (s.acceptFrame f k).line.txDropped = s.line.txDropped ∧ (s.acceptFrame f k).line.settle = s.line.settle
    ∧ (s.acceptFrame f k).line.lastDominant = s.line.lastDominant ∧ (s.acceptFrame f k).line.inReset = s.line.inReset
    ∧ (s.acceptFrame f k).line.sendingReset = s.line.sendingReset ∧ (s.acceptFrame f k).roster = s.roster
    ∧ (s.acceptFrame f k).verifier = s.verifier ∧ (s.acceptFrame f k).slotTable = s.slotTable
    ∧ (s.acceptFrame f k).phaseCtl = s.phaseCtl ∧ (s.acceptFrame f k).keyPort = s.keyPort
    ∧ (s.acceptFrame f k).purge = s.purge ∧ (s.acceptFrame f k).gate = s.gate
    ∧ (s.acceptFrame f k).scanner = s.scanner ∧ (s.acceptFrame f k).supervisor = s.supervisor
    ∧ (s.acceptFrame f k).setup = s.setup ∧ (s.acceptFrame f k).store = s.store := by
  unfold State.acceptFrame
  (try dsimp only)
  (repeat' split) <;> first | (simp; done) | (simp [*]; done)

@[simp] theorem State.addressFrame_frame (s : State) (f : LineFrame) (k : Kind) :
    (s.addressFrame f k).pending = s.pending ∧ (s.addressFrame f k).clock = s.clock
    ∧ (s.addressFrame f k).draws = s.draws ∧ (s.addressFrame f k).line.state = s.line.state
    ∧ (s.addressFrame f k).line.tx = s.line.tx ∧ (s.addressFrame f k).line.onLine = s.line.onLine
    ∧ (s.addressFrame f k).line.altUrgent = s.line.altUrgent ∧ (s.addressFrame f k).line.altOther = s.line.altOther
    ∧ (s.addressFrame f k).line.headerParity = s.line.headerParity
    ∧ (s.addressFrame f k).line.txPartial = s.line.txPartial ∧ (s.addressFrame f k).line.txDropped = s.line.txDropped
    ∧ (s.addressFrame f k).line.settle = s.line.settle ∧ (s.addressFrame f k).line.lastDominant = s.line.lastDominant
    ∧ (s.addressFrame f k).line.inReset = s.line.inReset
    ∧ (s.addressFrame f k).line.sendingReset = s.line.sendingReset ∧ (s.addressFrame f k).roster = s.roster
    ∧ (s.addressFrame f k).verifier = s.verifier ∧ (s.addressFrame f k).slotTable = s.slotTable
    ∧ (s.addressFrame f k).phaseCtl = s.phaseCtl ∧ (s.addressFrame f k).keyPort = s.keyPort
    ∧ (s.addressFrame f k).purge = s.purge ∧ (s.addressFrame f k).gate = s.gate
    ∧ (s.addressFrame f k).scanner = s.scanner ∧ (s.addressFrame f k).supervisor = s.supervisor
    ∧ (s.addressFrame f k).setup = s.setup ∧ (s.addressFrame f k).store = s.store := by
  unfold State.addressFrame
  (try dsimp only)
  (repeat' split) <;> first | (simp; done) | (simp [*]; done)

@[simp] theorem State.checkFrame_frame (s : State) (f : LineFrame) :
    (s.checkFrame f).pending = s.pending ∧ (s.checkFrame f).clock = s.clock ∧ (s.checkFrame f).draws = s.draws
    ∧ (s.checkFrame f).line.state = s.line.state ∧ (s.checkFrame f).line.tx = s.line.tx
    ∧ (s.checkFrame f).line.onLine = s.line.onLine ∧ (s.checkFrame f).line.altUrgent = s.line.altUrgent
    ∧ (s.checkFrame f).line.altOther = s.line.altOther ∧ (s.checkFrame f).line.headerParity = s.line.headerParity
    ∧ (s.checkFrame f).line.txPartial = s.line.txPartial ∧ (s.checkFrame f).line.txDropped = s.line.txDropped
    ∧ (s.checkFrame f).line.settle = s.line.settle ∧ (s.checkFrame f).line.lastDominant = s.line.lastDominant
    ∧ (s.checkFrame f).line.inReset = s.line.inReset ∧ (s.checkFrame f).line.sendingReset = s.line.sendingReset
    ∧ (s.checkFrame f).roster = s.roster ∧ (s.checkFrame f).verifier = s.verifier
    ∧ (s.checkFrame f).slotTable = s.slotTable ∧ (s.checkFrame f).phaseCtl = s.phaseCtl
    ∧ (s.checkFrame f).keyPort = s.keyPort ∧ (s.checkFrame f).purge = s.purge ∧ (s.checkFrame f).gate = s.gate
    ∧ (s.checkFrame f).scanner = s.scanner ∧ (s.checkFrame f).supervisor = s.supervisor
    ∧ (s.checkFrame f).setup = s.setup ∧ (s.checkFrame f).store = s.store := by
  unfold State.checkFrame
  (try dsimp only)
  (repeat' split) <;> first | (simp; done) | (simp [*]; done)

@[simp] theorem State.followFrame_frame (s : State) (f : LineFrame) :
    (s.followFrame f).pending = s.pending ∧ (s.followFrame f).clock = s.clock ∧ (s.followFrame f).draws = s.draws
    ∧ (s.followFrame f).line.tx = s.line.tx ∧ (s.followFrame f).line.onLine = s.line.onLine
    ∧ (s.followFrame f).line.altUrgent = s.line.altUrgent ∧ (s.followFrame f).line.altOther = s.line.altOther
    ∧ (s.followFrame f).line.txPartial = s.line.txPartial ∧ (s.followFrame f).line.txDropped = s.line.txDropped
    ∧ (s.followFrame f).line.settle = s.line.settle ∧ (s.followFrame f).line.lastDominant = s.line.lastDominant
    ∧ (s.followFrame f).line.inReset = s.line.inReset ∧ (s.followFrame f).line.sendingReset = s.line.sendingReset
    ∧ (s.followFrame f).roster = s.roster ∧ (s.followFrame f).verifier = s.verifier
    ∧ (s.followFrame f).slotTable = s.slotTable ∧ (s.followFrame f).phaseCtl = s.phaseCtl
    ∧ (s.followFrame f).keyPort = s.keyPort ∧ (s.followFrame f).purge = s.purge ∧ (s.followFrame f).gate = s.gate
    ∧ (s.followFrame f).scanner = s.scanner ∧ (s.followFrame f).supervisor = s.supervisor
    ∧ (s.followFrame f).setup = s.setup ∧ (s.followFrame f).store = s.store := by
  unfold State.followFrame
  (try dsimp only)
  (repeat' split) <;> first | (simp; done) | (simp [*]; done)

@[simp] theorem State.passFrame_frame (s : State) (f : LineFrame) :
    (s.passFrame f).pending = s.pending ∧ (s.passFrame f).clock = s.clock ∧ (s.passFrame f).draws = s.draws
    ∧ (s.passFrame f).line.tx = s.line.tx ∧ (s.passFrame f).line.onLine = s.line.onLine
    ∧ (s.passFrame f).line.altUrgent = s.line.altUrgent ∧ (s.passFrame f).line.altOther = s.line.altOther
    ∧ (s.passFrame f).line.txPartial = s.line.txPartial ∧ (s.passFrame f).line.txDropped = s.line.txDropped
    ∧ (s.passFrame f).line.settle = s.line.settle ∧ (s.passFrame f).line.inReset = s.line.inReset
    ∧ (s.passFrame f).line.sendingReset = s.line.sendingReset ∧ (s.passFrame f).roster = s.roster
    ∧ (s.passFrame f).verifier = s.verifier ∧ (s.passFrame f).slotTable = s.slotTable
    ∧ (s.passFrame f).phaseCtl = s.phaseCtl ∧ (s.passFrame f).keyPort = s.keyPort ∧ (s.passFrame f).purge = s.purge
    ∧ (s.passFrame f).gate = s.gate ∧ (s.passFrame f).scanner = s.scanner ∧ (s.passFrame f).supervisor = s.supervisor
    ∧ (s.passFrame f).setup = s.setup ∧ (s.passFrame f).store = s.store := by
  unfold State.passFrame
  (try dsimp only)
  (repeat' split) <;> first | (simp; done) | (simp [*]; done)

@[simp] theorem State.resetLine_frame (s : State) :
    s.resetLine.pending = s.pending ∧ s.resetLine.clock = s.clock ∧ s.resetLine.draws = s.draws
    ∧ s.resetLine.line.altUrgent = s.line.altUrgent ∧ s.resetLine.line.altOther = s.line.altOther
    ∧ s.resetLine.line.headerParity = s.line.headerParity ∧ s.resetLine.line.checkFail = s.line.checkFail
    ∧ s.resetLine.line.rxMissed = s.line.rxMissed ∧ s.resetLine.line.txPartial = s.line.txPartial
    ∧ s.resetLine.line.txDropped = s.line.txDropped ∧ s.resetLine.line.settle = s.line.settle
    ∧ s.resetLine.line.sendingReset = s.line.sendingReset ∧ s.resetLine.roster = s.roster
    ∧ s.resetLine.verifier = s.verifier ∧ s.resetLine.slotTable = s.slotTable ∧ s.resetLine.phaseCtl = s.phaseCtl
    ∧ s.resetLine.keyPort = s.keyPort ∧ s.resetLine.purge = s.purge ∧ s.resetLine.gate = s.gate
    ∧ s.resetLine.scanner = s.scanner ∧ s.resetLine.supervisor = s.supervisor ∧ s.resetLine.setup = s.setup
    ∧ s.resetLine.store = s.store := by
  unfold State.resetLine
  (try dsimp only)
  (repeat' split) <;> first | (simp; done) | (simp [*]; done)

@[simp] theorem State.resetRoster_frame (s : State) :
    s.resetRoster.pending = s.pending ∧ s.resetRoster.clock = s.clock ∧ s.resetRoster.draws = s.draws
    ∧ s.resetRoster.line = s.line ∧ s.resetRoster.roster.sn = s.roster.sn ∧ s.resetRoster.roster.kpd = s.roster.kpd
    ∧ s.resetRoster.roster.window = s.roster.window ∧ s.resetRoster.roster.announce = s.roster.announce
    ∧ s.resetRoster.verifier = s.verifier ∧ s.resetRoster.slotTable = s.slotTable
    ∧ s.resetRoster.phaseCtl = s.phaseCtl ∧ s.resetRoster.keyPort = s.keyPort ∧ s.resetRoster.purge = s.purge
    ∧ s.resetRoster.gate = s.gate ∧ s.resetRoster.scanner = s.scanner ∧ s.resetRoster.supervisor = s.supervisor
    ∧ s.resetRoster.setup = s.setup ∧ s.resetRoster.store = s.store := by
  unfold State.resetRoster
  (try dsimp only)
  (repeat' split) <;> first | (simp; done) | (simp [*]; done)

@[simp] theorem State.resetPhase_frame (s : State) :
    s.resetPhase.pending = s.pending ∧ s.resetPhase.clock = s.clock ∧ s.resetPhase.draws = s.draws
    ∧ s.resetPhase.line.repeatUrgent = s.line.repeatUrgent ∧ s.resetPhase.line.repeatOther = s.line.repeatOther
    ∧ s.resetPhase.line.headerParity = s.line.headerParity ∧ s.resetPhase.line.checkFail = s.line.checkFail
    ∧ s.resetPhase.line.rxMissed = s.line.rxMissed ∧ s.resetPhase.line.txPartial = s.line.txPartial
    ∧ s.resetPhase.line.settle = s.line.settle ∧ s.resetPhase.line.inReset = s.line.inReset
    ∧ s.resetPhase.line.receipt = s.line.receipt ∧ s.resetPhase.roster.sn = s.roster.sn
    ∧ s.resetPhase.roster.kpd = s.roster.kpd ∧ s.resetPhase.roster.startCause = s.roster.startCause
    ∧ s.resetPhase.roster.entries = s.roster.entries ∧ s.resetPhase.roster.answeredAt = s.roster.answeredAt
    ∧ s.resetPhase.roster.rollOwed = s.roster.rollOwed ∧ s.resetPhase.slotTable.salt = s.slotTable.salt
    ∧ s.resetPhase.purge.badBlocks = s.purge.badBlocks ∧ s.resetPhase.purge.waits = s.purge.waits
    ∧ s.resetPhase.gate.ranges = s.gate.ranges ∧ s.resetPhase.gate.waits = s.gate.waits
    ∧ s.resetPhase.gate.holder = s.gate.holder ∧ s.resetPhase.gate.flashBusy = s.gate.flashBusy
    ∧ s.resetPhase.gate.op = s.gate.op ∧ s.resetPhase.gate.driven = s.gate.driven
    ∧ s.resetPhase.gate.faultCount = s.gate.faultCount ∧ s.resetPhase.gate.channelFault = s.gate.channelFault
    ∧ s.resetPhase.supervisor.supplyValid = s.supervisor.supplyValid
    ∧ s.resetPhase.supervisor.dormant = s.supervisor.dormant
    ∧ s.resetPhase.supervisor.attached = s.supervisor.attached ∧ s.resetPhase.supervisor.band = s.supervisor.band
    ∧ s.resetPhase.supervisor.tamperAsserted = s.supervisor.tamperAsserted
    ∧ s.resetPhase.supervisor.tampered = s.supervisor.tampered ∧ s.resetPhase.setup = s.setup
    ∧ s.resetPhase.store.stored = s.store.stored ∧ s.resetPhase.store.deciding = s.store.deciding := by
  unfold State.resetPhase
  (try dsimp only)
  (repeat' split) <;> first | (simp; done) | (simp [*]; done)

@[simp] theorem State.answerRoll_frame (s : State) (calls : Bool) :
    (s.answerRoll calls).pending = s.pending ∧ (s.answerRoll calls).clock = s.clock
    ∧ (s.answerRoll calls).draws = s.draws ∧ (s.answerRoll calls).line.state = s.line.state
    ∧ (s.answerRoll calls).line.onLine = s.line.onLine ∧ (s.answerRoll calls).line.repeatUrgent = s.line.repeatUrgent
    ∧ (s.answerRoll calls).line.repeatOther = s.line.repeatOther
    ∧ (s.answerRoll calls).line.headerParity = s.line.headerParity
    ∧ (s.answerRoll calls).line.checkFail = s.line.checkFail ∧ (s.answerRoll calls).line.rxMissed = s.line.rxMissed
    ∧ (s.answerRoll calls).line.txPartial = s.line.txPartial ∧ (s.answerRoll calls).line.settle = s.line.settle
    ∧ (s.answerRoll calls).line.lastDominant = s.line.lastDominant
    ∧ (s.answerRoll calls).line.inReset = s.line.inReset
    ∧ (s.answerRoll calls).line.sendingReset = s.line.sendingReset
    ∧ (s.answerRoll calls).line.receipt = s.line.receipt ∧ (s.answerRoll calls).roster.sn = s.roster.sn
    ∧ (s.answerRoll calls).roster.kpd = s.roster.kpd ∧ (s.answerRoll calls).roster.startCause = s.roster.startCause
    ∧ (s.answerRoll calls).roster.entries = s.roster.entries ∧ (s.answerRoll calls).roster.window = s.roster.window
    ∧ (s.answerRoll calls).roster.announce = s.roster.announce
    ∧ (s.answerRoll calls).roster.rollOwed = s.roster.rollOwed ∧ (s.answerRoll calls).verifier = s.verifier
    ∧ (s.answerRoll calls).slotTable = s.slotTable ∧ (s.answerRoll calls).phaseCtl = s.phaseCtl
    ∧ (s.answerRoll calls).keyPort = s.keyPort ∧ (s.answerRoll calls).purge = s.purge
    ∧ (s.answerRoll calls).gate = s.gate ∧ (s.answerRoll calls).scanner = s.scanner
    ∧ (s.answerRoll calls).supervisor = s.supervisor ∧ (s.answerRoll calls).setup = s.setup
    ∧ (s.answerRoll calls).store = s.store := by
  unfold State.answerRoll
  (try dsimp only)
  (repeat' split) <;> first | (simp; done) | (simp [*]; done)

@[simp] theorem State.leaveLockedOn_frame (s : State) (halted : Bool) (epoch : Nat) :
    (s.leaveLockedOn halted epoch).pending = s.pending ∧ (s.leaveLockedOn halted epoch).clock = s.clock
    ∧ (s.leaveLockedOn halted epoch).draws = s.draws ∧ (s.leaveLockedOn halted epoch).line.state = s.line.state
    ∧ (s.leaveLockedOn halted epoch).line.onLine = s.line.onLine
    ∧ (s.leaveLockedOn halted epoch).line.repeatUrgent = s.line.repeatUrgent
    ∧ (s.leaveLockedOn halted epoch).line.repeatOther = s.line.repeatOther
    ∧ (s.leaveLockedOn halted epoch).line.headerParity = s.line.headerParity
    ∧ (s.leaveLockedOn halted epoch).line.checkFail = s.line.checkFail
    ∧ (s.leaveLockedOn halted epoch).line.rxMissed = s.line.rxMissed
    ∧ (s.leaveLockedOn halted epoch).line.txPartial = s.line.txPartial
    ∧ (s.leaveLockedOn halted epoch).line.settle = s.line.settle
    ∧ (s.leaveLockedOn halted epoch).line.lastDominant = s.line.lastDominant
    ∧ (s.leaveLockedOn halted epoch).line.inReset = s.line.inReset
    ∧ (s.leaveLockedOn halted epoch).line.sendingReset = s.line.sendingReset
    ∧ (s.leaveLockedOn halted epoch).line.receipt = s.line.receipt
    ∧ (s.leaveLockedOn halted epoch).roster.sn = s.roster.sn
    ∧ (s.leaveLockedOn halted epoch).roster.kpd = s.roster.kpd
    ∧ (s.leaveLockedOn halted epoch).roster.startCause = s.roster.startCause
    ∧ (s.leaveLockedOn halted epoch).roster.entries = s.roster.entries
    ∧ (s.leaveLockedOn halted epoch).roster.answeredAt = s.roster.answeredAt
    ∧ (s.leaveLockedOn halted epoch).roster.rollOwed = s.roster.rollOwed
    ∧ (s.leaveLockedOn halted epoch).verifier = s.verifier ∧ (s.leaveLockedOn halted epoch).slotTable = s.slotTable
    ∧ (s.leaveLockedOn halted epoch).keyPort = s.keyPort ∧ (s.leaveLockedOn halted epoch).purge = s.purge
    ∧ (s.leaveLockedOn halted epoch).gate.ranges = s.gate.ranges
    ∧ (s.leaveLockedOn halted epoch).gate.writes = s.gate.writes
    ∧ (s.leaveLockedOn halted epoch).gate.waits = s.gate.waits
    ∧ (s.leaveLockedOn halted epoch).gate.holder = s.gate.holder
    ∧ (s.leaveLockedOn halted epoch).gate.flashBusy = s.gate.flashBusy
    ∧ (s.leaveLockedOn halted epoch).gate.op = s.gate.op ∧ (s.leaveLockedOn halted epoch).gate.driven = s.gate.driven
    ∧ (s.leaveLockedOn halted epoch).gate.faultCount = s.gate.faultCount
    ∧ (s.leaveLockedOn halted epoch).gate.channelFault = s.gate.channelFault
    ∧ (s.leaveLockedOn halted epoch).gate.faultPeriod = s.gate.faultPeriod
    ∧ (s.leaveLockedOn halted epoch).gate.periodicDue = s.gate.periodicDue
    ∧ (s.leaveLockedOn halted epoch).gate.stepTimeout = s.gate.stepTimeout
    ∧ (s.leaveLockedOn halted epoch).supervisor = s.supervisor ∧ (s.leaveLockedOn halted epoch).setup = s.setup
    ∧ (s.leaveLockedOn halted epoch).store = s.store := by
  unfold State.leaveLockedOn
  (try dsimp only)
  (repeat' split) <;> first | (simp; done) | (simp [*]; done)

@[simp] theorem State.mergeRoll_frame (s : State) (r : GuardRecord) :
    (s.mergeRoll r).pending = s.pending ∧ (s.mergeRoll r).clock = s.clock ∧ (s.mergeRoll r).draws = s.draws
    ∧ (s.mergeRoll r).line.state = s.line.state ∧ (s.mergeRoll r).line.onLine = s.line.onLine
    ∧ (s.mergeRoll r).line.repeatUrgent = s.line.repeatUrgent ∧ (s.mergeRoll r).line.repeatOther = s.line.repeatOther
    ∧ (s.mergeRoll r).line.headerParity = s.line.headerParity ∧ (s.mergeRoll r).line.checkFail = s.line.checkFail
    ∧ (s.mergeRoll r).line.rxMissed = s.line.rxMissed ∧ (s.mergeRoll r).line.txPartial = s.line.txPartial
    ∧ (s.mergeRoll r).line.settle = s.line.settle ∧ (s.mergeRoll r).line.lastDominant = s.line.lastDominant
    ∧ (s.mergeRoll r).line.inReset = s.line.inReset ∧ (s.mergeRoll r).line.sendingReset = s.line.sendingReset
    ∧ (s.mergeRoll r).line.receipt = s.line.receipt ∧ (s.mergeRoll r).roster.sn = s.roster.sn
    ∧ (s.mergeRoll r).roster.kpd = s.roster.kpd ∧ (s.mergeRoll r).roster.startCause = s.roster.startCause
    ∧ (s.mergeRoll r).roster.entries = s.roster.entries ∧ (s.mergeRoll r).roster.answeredAt = s.roster.answeredAt
    ∧ (s.mergeRoll r).roster.rollOwed = s.roster.rollOwed ∧ (s.mergeRoll r).slotTable.slots = s.slotTable.slots
    ∧ (s.mergeRoll r).slotTable.salt = s.slotTable.salt ∧ (s.mergeRoll r).slotTable.blankKey = s.slotTable.blankKey
    ∧ (s.mergeRoll r).slotTable.waits = s.slotTable.waits
    ∧ (s.mergeRoll r).slotTable.slotDiverged = s.slotTable.slotDiverged
    ∧ (s.mergeRoll r).purge.badBlocks = s.purge.badBlocks ∧ (s.mergeRoll r).purge.waits = s.purge.waits
    ∧ (s.mergeRoll r).gate.ranges = s.gate.ranges ∧ (s.mergeRoll r).gate.waits = s.gate.waits
    ∧ (s.mergeRoll r).gate.holder = s.gate.holder ∧ (s.mergeRoll r).gate.flashBusy = s.gate.flashBusy
    ∧ (s.mergeRoll r).gate.op = s.gate.op ∧ (s.mergeRoll r).gate.driven = s.gate.driven
    ∧ (s.mergeRoll r).gate.faultCount = s.gate.faultCount ∧ (s.mergeRoll r).gate.channelFault = s.gate.channelFault
    ∧ (s.mergeRoll r).gate.faultPeriod = s.gate.faultPeriod ∧ (s.mergeRoll r).gate.periodicDue = s.gate.periodicDue
    ∧ (s.mergeRoll r).gate.stepTimeout = s.gate.stepTimeout ∧ (s.mergeRoll r).supervisor = s.supervisor
    ∧ (s.mergeRoll r).setup = s.setup ∧ (s.mergeRoll r).store.stored = s.store.stored
    ∧ (s.mergeRoll r).store.deciding = s.store.deciding := by
  unfold State.mergeRoll
  (try dsimp only)
  (repeat' split) <;> first | (simp; done) | (simp [*]; done)

@[simp] theorem State.testsAfterReport_frame (s : State) :
    s.testsAfterReport.pending = s.pending ∧ s.testsAfterReport.clock = s.clock ∧ s.testsAfterReport.draws = s.draws
    ∧ s.testsAfterReport.line.repeatUrgent = s.line.repeatUrgent
    ∧ s.testsAfterReport.line.repeatOther = s.line.repeatOther
    ∧ s.testsAfterReport.line.headerParity = s.line.headerParity
    ∧ s.testsAfterReport.line.checkFail = s.line.checkFail ∧ s.testsAfterReport.line.rxMissed = s.line.rxMissed
    ∧ s.testsAfterReport.line.txPartial = s.line.txPartial ∧ s.testsAfterReport.line.settle = s.line.settle
    ∧ s.testsAfterReport.line.inReset = s.line.inReset ∧ s.testsAfterReport.line.receipt = s.line.receipt
    ∧ s.testsAfterReport.roster.sn = s.roster.sn ∧ s.testsAfterReport.roster.kpd = s.roster.kpd
    ∧ s.testsAfterReport.roster.startCause = s.roster.startCause
    ∧ s.testsAfterReport.roster.entries = s.roster.entries
    ∧ s.testsAfterReport.roster.answeredAt = s.roster.answeredAt
    ∧ s.testsAfterReport.roster.rollOwed = s.roster.rollOwed ∧ s.testsAfterReport.slotTable.salt = s.slotTable.salt
    ∧ s.testsAfterReport.purge.badBlocks = s.purge.badBlocks ∧ s.testsAfterReport.purge.waits = s.purge.waits
    ∧ s.testsAfterReport.gate.ranges = s.gate.ranges ∧ s.testsAfterReport.gate.waits = s.gate.waits
    ∧ s.testsAfterReport.gate.holder = s.gate.holder ∧ s.testsAfterReport.gate.flashBusy = s.gate.flashBusy
    ∧ s.testsAfterReport.gate.op = s.gate.op ∧ s.testsAfterReport.gate.driven = s.gate.driven
    ∧ s.testsAfterReport.gate.faultCount = s.gate.faultCount
    ∧ s.testsAfterReport.gate.channelFault = s.gate.channelFault
    ∧ s.testsAfterReport.supervisor.supplyValid = s.supervisor.supplyValid
    ∧ s.testsAfterReport.supervisor.dormant = s.supervisor.dormant
    ∧ s.testsAfterReport.supervisor.attached = s.supervisor.attached
    ∧ s.testsAfterReport.supervisor.band = s.supervisor.band
    ∧ s.testsAfterReport.supervisor.tamperAsserted = s.supervisor.tamperAsserted
    ∧ s.testsAfterReport.supervisor.tampered = s.supervisor.tampered ∧ s.testsAfterReport.setup = s.setup
    ∧ s.testsAfterReport.store.stored = s.store.stored ∧ s.testsAfterReport.store.deciding = s.store.deciding := by
  unfold State.testsAfterReport
  (try dsimp only)
  (repeat' split) <;> first | (simp; done) | (simp [*]; done)

@[simp] theorem State.handleGuardRoll_frame (s : State) (n : StationNo) (role : Role) (r : GuardRecord) :
    (s.handleGuardRoll n role r).pending = s.pending ∧ (s.handleGuardRoll n role r).clock = s.clock
    ∧ (s.handleGuardRoll n role r).draws = s.draws
    ∧ (s.handleGuardRoll n role r).line.repeatUrgent = s.line.repeatUrgent
    ∧ (s.handleGuardRoll n role r).line.repeatOther = s.line.repeatOther
    ∧ (s.handleGuardRoll n role r).line.headerParity = s.line.headerParity
    ∧ (s.handleGuardRoll n role r).line.checkFail = s.line.checkFail
    ∧ (s.handleGuardRoll n role r).line.rxMissed = s.line.rxMissed
    ∧ (s.handleGuardRoll n role r).line.txPartial = s.line.txPartial
    ∧ (s.handleGuardRoll n role r).line.settle = s.line.settle
    ∧ (s.handleGuardRoll n role r).line.inReset = s.line.inReset
    ∧ (s.handleGuardRoll n role r).line.receipt = s.line.receipt
    ∧ (s.handleGuardRoll n role r).roster.sn = s.roster.sn ∧ (s.handleGuardRoll n role r).roster.kpd = s.roster.kpd
    ∧ (s.handleGuardRoll n role r).roster.startCause = s.roster.startCause
    ∧ (s.handleGuardRoll n role r).slotTable.salt = s.slotTable.salt
    ∧ (s.handleGuardRoll n role r).purge.badBlocks = s.purge.badBlocks
    ∧ (s.handleGuardRoll n role r).purge.waits = s.purge.waits
    ∧ (s.handleGuardRoll n role r).gate.holder = s.gate.holder
    ∧ (s.handleGuardRoll n role r).gate.flashBusy = s.gate.flashBusy
    ∧ (s.handleGuardRoll n role r).gate.op = s.gate.op ∧ (s.handleGuardRoll n role r).gate.driven = s.gate.driven
    ∧ (s.handleGuardRoll n role r).gate.faultCount = s.gate.faultCount
    ∧ (s.handleGuardRoll n role r).gate.channelFault = s.gate.channelFault
    ∧ (s.handleGuardRoll n role r).supervisor.supplyValid = s.supervisor.supplyValid
    ∧ (s.handleGuardRoll n role r).supervisor.dormant = s.supervisor.dormant
    ∧ (s.handleGuardRoll n role r).supervisor.attached = s.supervisor.attached
    ∧ (s.handleGuardRoll n role r).supervisor.band = s.supervisor.band
    ∧ (s.handleGuardRoll n role r).supervisor.tamperAsserted = s.supervisor.tamperAsserted
    ∧ (s.handleGuardRoll n role r).setup = s.setup ∧ (s.handleGuardRoll n role r).store.stored = s.store.stored
    ∧ (s.handleGuardRoll n role r).store.deciding = s.store.deciding := by
  unfold State.handleGuardRoll
  (try dsimp only)
  (repeat' split) <;> first | (simp; done) | (simp [*]; done)

@[simp] theorem State.handleControllerRoll_frame (s : State) (n : StationNo) :
    (s.handleControllerRoll n).pending = s.pending ∧ (s.handleControllerRoll n).clock = s.clock
    ∧ (s.handleControllerRoll n).draws = s.draws ∧ (s.handleControllerRoll n).line.repeatUrgent = s.line.repeatUrgent
    ∧ (s.handleControllerRoll n).line.repeatOther = s.line.repeatOther
    ∧ (s.handleControllerRoll n).line.headerParity = s.line.headerParity
    ∧ (s.handleControllerRoll n).line.checkFail = s.line.checkFail
    ∧ (s.handleControllerRoll n).line.rxMissed = s.line.rxMissed
    ∧ (s.handleControllerRoll n).line.txPartial = s.line.txPartial
    ∧ (s.handleControllerRoll n).line.settle = s.line.settle
    ∧ (s.handleControllerRoll n).line.inReset = s.line.inReset
    ∧ (s.handleControllerRoll n).line.receipt = s.line.receipt ∧ (s.handleControllerRoll n).roster.sn = s.roster.sn
    ∧ (s.handleControllerRoll n).roster.kpd = s.roster.kpd
    ∧ (s.handleControllerRoll n).roster.startCause = s.roster.startCause
    ∧ (s.handleControllerRoll n).roster.rollOwed = s.roster.rollOwed
    ∧ (s.handleControllerRoll n).slotTable.salt = s.slotTable.salt
    ∧ (s.handleControllerRoll n).purge.badBlocks = s.purge.badBlocks
    ∧ (s.handleControllerRoll n).purge.waits = s.purge.waits ∧ (s.handleControllerRoll n).gate.ranges = s.gate.ranges
    ∧ (s.handleControllerRoll n).gate.waits = s.gate.waits ∧ (s.handleControllerRoll n).gate.holder = s.gate.holder
    ∧ (s.handleControllerRoll n).gate.flashBusy = s.gate.flashBusy ∧ (s.handleControllerRoll n).gate.op = s.gate.op
    ∧ (s.handleControllerRoll n).gate.driven = s.gate.driven
    ∧ (s.handleControllerRoll n).gate.faultCount = s.gate.faultCount
    ∧ (s.handleControllerRoll n).gate.channelFault = s.gate.channelFault
    ∧ (s.handleControllerRoll n).supervisor.supplyValid = s.supervisor.supplyValid
    ∧ (s.handleControllerRoll n).supervisor.dormant = s.supervisor.dormant
    ∧ (s.handleControllerRoll n).supervisor.attached = s.supervisor.attached
    ∧ (s.handleControllerRoll n).supervisor.band = s.supervisor.band
    ∧ (s.handleControllerRoll n).supervisor.tamperAsserted = s.supervisor.tamperAsserted
    ∧ (s.handleControllerRoll n).supervisor.tampered = s.supervisor.tampered
    ∧ (s.handleControllerRoll n).setup = s.setup ∧ (s.handleControllerRoll n).store.stored = s.store.stored
    ∧ (s.handleControllerRoll n).store.deciding = s.store.deciding := by
  unfold State.handleControllerRoll
  (try dsimp only)
  (repeat' split) <;> first | (simp; done) | (simp [*]; done)

@[simp] theorem State.handleRoll_frame (s : State) (f : RxFrame) :
    (s.handleRoll f).pending = s.pending ∧ (s.handleRoll f).clock = s.clock ∧ (s.handleRoll f).draws = s.draws
    ∧ (s.handleRoll f).line.repeatUrgent = s.line.repeatUrgent
    ∧ (s.handleRoll f).line.repeatOther = s.line.repeatOther
    ∧ (s.handleRoll f).line.headerParity = s.line.headerParity ∧ (s.handleRoll f).line.checkFail = s.line.checkFail
    ∧ (s.handleRoll f).line.rxMissed = s.line.rxMissed ∧ (s.handleRoll f).line.txPartial = s.line.txPartial
    ∧ (s.handleRoll f).line.settle = s.line.settle ∧ (s.handleRoll f).line.inReset = s.line.inReset
    ∧ (s.handleRoll f).line.receipt = s.line.receipt ∧ (s.handleRoll f).roster.sn = s.roster.sn
    ∧ (s.handleRoll f).roster.kpd = s.roster.kpd ∧ (s.handleRoll f).roster.startCause = s.roster.startCause
    ∧ (s.handleRoll f).slotTable.salt = s.slotTable.salt ∧ (s.handleRoll f).purge.badBlocks = s.purge.badBlocks
    ∧ (s.handleRoll f).purge.waits = s.purge.waits ∧ (s.handleRoll f).gate.holder = s.gate.holder
    ∧ (s.handleRoll f).gate.flashBusy = s.gate.flashBusy ∧ (s.handleRoll f).gate.op = s.gate.op
    ∧ (s.handleRoll f).gate.driven = s.gate.driven ∧ (s.handleRoll f).gate.faultCount = s.gate.faultCount
    ∧ (s.handleRoll f).gate.channelFault = s.gate.channelFault
    ∧ (s.handleRoll f).supervisor.supplyValid = s.supervisor.supplyValid
    ∧ (s.handleRoll f).supervisor.dormant = s.supervisor.dormant
    ∧ (s.handleRoll f).supervisor.attached = s.supervisor.attached
    ∧ (s.handleRoll f).supervisor.band = s.supervisor.band
    ∧ (s.handleRoll f).supervisor.tamperAsserted = s.supervisor.tamperAsserted ∧ (s.handleRoll f).setup = s.setup
    ∧ (s.handleRoll f).store.stored = s.store.stored ∧ (s.handleRoll f).store.deciding = s.store.deciding := by
  unfold State.handleRoll
  (try dsimp only)
  (repeat' split) <;> first | (simp; done) | (simp [*]; done)

@[simp] theorem State.beginAttempt_frame (s : State) (n : StationNo) (e : EntryFields) (own : OwnResult) :
    (s.beginAttempt n e own).pending = s.pending ∧ (s.beginAttempt n e own).clock = s.clock
    ∧ (s.beginAttempt n e own).draws = s.draws ∧ (s.beginAttempt n e own).line.state = s.line.state
    ∧ (s.beginAttempt n e own).line.onLine = s.line.onLine
    ∧ (s.beginAttempt n e own).line.repeatUrgent = s.line.repeatUrgent
    ∧ (s.beginAttempt n e own).line.repeatOther = s.line.repeatOther
    ∧ (s.beginAttempt n e own).line.headerParity = s.line.headerParity
    ∧ (s.beginAttempt n e own).line.checkFail = s.line.checkFail
    ∧ (s.beginAttempt n e own).line.rxMissed = s.line.rxMissed
    ∧ (s.beginAttempt n e own).line.txPartial = s.line.txPartial
    ∧ (s.beginAttempt n e own).line.settle = s.line.settle
    ∧ (s.beginAttempt n e own).line.lastDominant = s.line.lastDominant
    ∧ (s.beginAttempt n e own).line.inReset = s.line.inReset
    ∧ (s.beginAttempt n e own).line.sendingReset = s.line.sendingReset
    ∧ (s.beginAttempt n e own).line.receipt = s.line.receipt ∧ (s.beginAttempt n e own).roster.sn = s.roster.sn
    ∧ (s.beginAttempt n e own).roster.kpd = s.roster.kpd
    ∧ (s.beginAttempt n e own).roster.startCause = s.roster.startCause
    ∧ (s.beginAttempt n e own).roster.entries = s.roster.entries
    ∧ (s.beginAttempt n e own).roster.answeredAt = s.roster.answeredAt
    ∧ (s.beginAttempt n e own).roster.rollOwed = s.roster.rollOwed
    ∧ (s.beginAttempt n e own).verifier.held = s.verifier.held
    ∧ (s.beginAttempt n e own).verifier.hold = s.verifier.hold ∧ (s.beginAttempt n e own).slotTable = s.slotTable
    ∧ (s.beginAttempt n e own).keyPort = s.keyPort ∧ (s.beginAttempt n e own).purge = s.purge
    ∧ (s.beginAttempt n e own).gate.ranges = s.gate.ranges ∧ (s.beginAttempt n e own).gate.writes = s.gate.writes
    ∧ (s.beginAttempt n e own).gate.waits = s.gate.waits ∧ (s.beginAttempt n e own).gate.holder = s.gate.holder
    ∧ (s.beginAttempt n e own).gate.flashBusy = s.gate.flashBusy ∧ (s.beginAttempt n e own).gate.op = s.gate.op
    ∧ (s.beginAttempt n e own).gate.driven = s.gate.driven
    ∧ (s.beginAttempt n e own).gate.faultCount = s.gate.faultCount
    ∧ (s.beginAttempt n e own).gate.channelFault = s.gate.channelFault
    ∧ (s.beginAttempt n e own).gate.faultPeriod = s.gate.faultPeriod
    ∧ (s.beginAttempt n e own).gate.periodicDue = s.gate.periodicDue
    ∧ (s.beginAttempt n e own).gate.stepTimeout = s.gate.stepTimeout
    ∧ (s.beginAttempt n e own).supervisor = s.supervisor ∧ (s.beginAttempt n e own).setup = s.setup
    ∧ (s.beginAttempt n e own).store = s.store := by
  unfold State.beginAttempt
  (try dsimp only)
  (repeat' split) <;> first | (simp; done) | (simp [*]; done)

@[simp] theorem State.countFailure_frame (s : State) (n : StationNo) (e : EntryFields) :
    (s.countFailure n e).pending = s.pending ∧ (s.countFailure n e).clock = s.clock
    ∧ (s.countFailure n e).draws = s.draws ∧ (s.countFailure n e).line.state = s.line.state
    ∧ (s.countFailure n e).line.onLine = s.line.onLine ∧ (s.countFailure n e).line.repeatUrgent = s.line.repeatUrgent
    ∧ (s.countFailure n e).line.repeatOther = s.line.repeatOther
    ∧ (s.countFailure n e).line.headerParity = s.line.headerParity
    ∧ (s.countFailure n e).line.checkFail = s.line.checkFail ∧ (s.countFailure n e).line.rxMissed = s.line.rxMissed
    ∧ (s.countFailure n e).line.txPartial = s.line.txPartial ∧ (s.countFailure n e).line.settle = s.line.settle
    ∧ (s.countFailure n e).line.lastDominant = s.line.lastDominant
    ∧ (s.countFailure n e).line.inReset = s.line.inReset
    ∧ (s.countFailure n e).line.sendingReset = s.line.sendingReset
    ∧ (s.countFailure n e).line.receipt = s.line.receipt ∧ (s.countFailure n e).roster.sn = s.roster.sn
    ∧ (s.countFailure n e).roster.kpd = s.roster.kpd ∧ (s.countFailure n e).roster.startCause = s.roster.startCause
    ∧ (s.countFailure n e).roster.entries = s.roster.entries
    ∧ (s.countFailure n e).roster.answeredAt = s.roster.answeredAt
    ∧ (s.countFailure n e).roster.rollOwed = s.roster.rollOwed ∧ (s.countFailure n e).verifier.hold = s.verifier.hold
    ∧ (s.countFailure n e).slotTable = s.slotTable ∧ (s.countFailure n e).keyPort = s.keyPort
    ∧ (s.countFailure n e).purge = s.purge ∧ (s.countFailure n e).gate.ranges = s.gate.ranges
    ∧ (s.countFailure n e).gate.writes = s.gate.writes ∧ (s.countFailure n e).gate.waits = s.gate.waits
    ∧ (s.countFailure n e).gate.holder = s.gate.holder ∧ (s.countFailure n e).gate.flashBusy = s.gate.flashBusy
    ∧ (s.countFailure n e).gate.op = s.gate.op ∧ (s.countFailure n e).gate.driven = s.gate.driven
    ∧ (s.countFailure n e).gate.faultCount = s.gate.faultCount
    ∧ (s.countFailure n e).gate.channelFault = s.gate.channelFault
    ∧ (s.countFailure n e).gate.faultPeriod = s.gate.faultPeriod
    ∧ (s.countFailure n e).gate.periodicDue = s.gate.periodicDue
    ∧ (s.countFailure n e).gate.stepTimeout = s.gate.stepTimeout ∧ (s.countFailure n e).supervisor = s.supervisor
    ∧ (s.countFailure n e).setup = s.setup ∧ (s.countFailure n e).store.stored = s.store.stored
    ∧ (s.countFailure n e).store.deciding = s.store.deciding := by
  unfold State.countFailure
  (try dsimp only)
  (repeat' split) <;> first | (simp; done) | (simp [*]; done)

@[simp] theorem State.showFinding_frame (s : State) (own : Bool) (finding : EntryFinding) :
    (s.showFinding own finding).pending = s.pending ∧ (s.showFinding own finding).clock = s.clock
    ∧ (s.showFinding own finding).draws = s.draws ∧ (s.showFinding own finding).line = s.line
    ∧ (s.showFinding own finding).roster = s.roster ∧ (s.showFinding own finding).verifier = s.verifier
    ∧ (s.showFinding own finding).slotTable = s.slotTable ∧ (s.showFinding own finding).phaseCtl = s.phaseCtl
    ∧ (s.showFinding own finding).keyPort = s.keyPort ∧ (s.showFinding own finding).purge = s.purge
    ∧ (s.showFinding own finding).gate = s.gate ∧ (s.showFinding own finding).scanner.key = s.scanner.key
    ∧ (s.showFinding own finding).scanner.digits = s.scanner.digits
    ∧ (s.showFinding own finding).scanner.seq = s.scanner.seq
    ∧ (s.showFinding own finding).scanner.entrySeq = s.scanner.entrySeq
    ∧ (s.showFinding own finding).supervisor = s.supervisor ∧ (s.showFinding own finding).setup = s.setup
    ∧ (s.showFinding own finding).store = s.store := by
  unfold State.showFinding
  (try dsimp only)
  (repeat' split) <;> first | (simp; done) | (simp [*]; done)

@[simp] theorem State.fileVerdict_frame (s : State) (a : Attempt) (n : StationNo) (v : Filed) :
    (s.fileVerdict a n v).pending = s.pending ∧ (s.fileVerdict a n v).clock = s.clock
    ∧ (s.fileVerdict a n v).line.state = s.line.state ∧ (s.fileVerdict a n v).line.onLine = s.line.onLine
    ∧ (s.fileVerdict a n v).line.repeatUrgent = s.line.repeatUrgent
    ∧ (s.fileVerdict a n v).line.repeatOther = s.line.repeatOther
    ∧ (s.fileVerdict a n v).line.headerParity = s.line.headerParity
    ∧ (s.fileVerdict a n v).line.checkFail = s.line.checkFail ∧ (s.fileVerdict a n v).line.rxMissed = s.line.rxMissed
    ∧ (s.fileVerdict a n v).line.txPartial = s.line.txPartial ∧ (s.fileVerdict a n v).line.settle = s.line.settle
    ∧ (s.fileVerdict a n v).line.lastDominant = s.line.lastDominant
    ∧ (s.fileVerdict a n v).line.inReset = s.line.inReset
    ∧ (s.fileVerdict a n v).line.sendingReset = s.line.sendingReset
    ∧ (s.fileVerdict a n v).line.receipt = s.line.receipt ∧ (s.fileVerdict a n v).roster.sn = s.roster.sn
    ∧ (s.fileVerdict a n v).roster.kpd = s.roster.kpd ∧ (s.fileVerdict a n v).roster.startCause = s.roster.startCause
    ∧ (s.fileVerdict a n v).roster.entries = s.roster.entries
    ∧ (s.fileVerdict a n v).roster.answeredAt = s.roster.answeredAt
    ∧ (s.fileVerdict a n v).slotTable.salt = s.slotTable.salt
    ∧ (s.fileVerdict a n v).slotTable.blankKey = s.slotTable.blankKey
    ∧ (s.fileVerdict a n v).slotTable.slotDiverged = s.slotTable.slotDiverged
    ∧ (s.fileVerdict a n v).purge.badBlocks = s.purge.badBlocks ∧ (s.fileVerdict a n v).purge.waits = s.purge.waits
    ∧ (s.fileVerdict a n v).gate.ranges = s.gate.ranges ∧ (s.fileVerdict a n v).gate.waits = s.gate.waits
    ∧ (s.fileVerdict a n v).gate.holder = s.gate.holder ∧ (s.fileVerdict a n v).gate.flashBusy = s.gate.flashBusy
    ∧ (s.fileVerdict a n v).gate.op = s.gate.op ∧ (s.fileVerdict a n v).gate.driven = s.gate.driven
    ∧ (s.fileVerdict a n v).gate.faultCount = s.gate.faultCount
    ∧ (s.fileVerdict a n v).gate.channelFault = s.gate.channelFault
    ∧ (s.fileVerdict a n v).gate.faultPeriod = s.gate.faultPeriod
    ∧ (s.fileVerdict a n v).gate.periodicDue = s.gate.periodicDue
    ∧ (s.fileVerdict a n v).gate.stepTimeout = s.gate.stepTimeout
    ∧ (s.fileVerdict a n v).supervisor.supplyValid = s.supervisor.supplyValid
    ∧ (s.fileVerdict a n v).supervisor.dormant = s.supervisor.dormant
    ∧ (s.fileVerdict a n v).supervisor.attached = s.supervisor.attached
    ∧ (s.fileVerdict a n v).supervisor.band = s.supervisor.band
    ∧ (s.fileVerdict a n v).supervisor.tamperAsserted = s.supervisor.tamperAsserted
    ∧ (s.fileVerdict a n v).supervisor.haltMark = s.supervisor.haltMark ∧ (s.fileVerdict a n v).setup = s.setup
    ∧ (s.fileVerdict a n v).store.stored = s.store.stored ∧ (s.fileVerdict a n v).store.deciding = s.store.deciding := by
  unfold State.fileVerdict
  (try dsimp only)
  (repeat' split) <;> first | (simp; done) | (simp [*]; done)

@[simp] theorem State.mergeVerdict_frame (s : State) (n : StationNo) (v : Filed) :
    (s.mergeVerdict n v).pending = s.pending ∧ (s.mergeVerdict n v).clock = s.clock
    ∧ (s.mergeVerdict n v).draws = s.draws ∧ (s.mergeVerdict n v).line.state = s.line.state
    ∧ (s.mergeVerdict n v).line.onLine = s.line.onLine ∧ (s.mergeVerdict n v).line.repeatUrgent = s.line.repeatUrgent
    ∧ (s.mergeVerdict n v).line.repeatOther = s.line.repeatOther
    ∧ (s.mergeVerdict n v).line.headerParity = s.line.headerParity
    ∧ (s.mergeVerdict n v).line.checkFail = s.line.checkFail ∧ (s.mergeVerdict n v).line.rxMissed = s.line.rxMissed
    ∧ (s.mergeVerdict n v).line.txPartial = s.line.txPartial ∧ (s.mergeVerdict n v).line.settle = s.line.settle
    ∧ (s.mergeVerdict n v).line.lastDominant = s.line.lastDominant
    ∧ (s.mergeVerdict n v).line.inReset = s.line.inReset
    ∧ (s.mergeVerdict n v).line.sendingReset = s.line.sendingReset
    ∧ (s.mergeVerdict n v).line.receipt = s.line.receipt ∧ (s.mergeVerdict n v).roster.sn = s.roster.sn
    ∧ (s.mergeVerdict n v).roster.kpd = s.roster.kpd ∧ (s.mergeVerdict n v).roster.startCause = s.roster.startCause
    ∧ (s.mergeVerdict n v).roster.entries = s.roster.entries
    ∧ (s.mergeVerdict n v).roster.answeredAt = s.roster.answeredAt
    ∧ (s.mergeVerdict n v).roster.rollOwed = s.roster.rollOwed
    ∧ (s.mergeVerdict n v).slotTable.slots = s.slotTable.slots
    ∧ (s.mergeVerdict n v).slotTable.salt = s.slotTable.salt
    ∧ (s.mergeVerdict n v).slotTable.blankKey = s.slotTable.blankKey
    ∧ (s.mergeVerdict n v).slotTable.waits = s.slotTable.waits
    ∧ (s.mergeVerdict n v).slotTable.slotDiverged = s.slotTable.slotDiverged
    ∧ (s.mergeVerdict n v).purge.badBlocks = s.purge.badBlocks ∧ (s.mergeVerdict n v).purge.waits = s.purge.waits
    ∧ (s.mergeVerdict n v).gate.ranges = s.gate.ranges ∧ (s.mergeVerdict n v).gate.waits = s.gate.waits
    ∧ (s.mergeVerdict n v).gate.holder = s.gate.holder ∧ (s.mergeVerdict n v).gate.flashBusy = s.gate.flashBusy
    ∧ (s.mergeVerdict n v).gate.op = s.gate.op ∧ (s.mergeVerdict n v).gate.driven = s.gate.driven
    ∧ (s.mergeVerdict n v).gate.faultCount = s.gate.faultCount
    ∧ (s.mergeVerdict n v).gate.channelFault = s.gate.channelFault
    ∧ (s.mergeVerdict n v).gate.faultPeriod = s.gate.faultPeriod
    ∧ (s.mergeVerdict n v).gate.periodicDue = s.gate.periodicDue
    ∧ (s.mergeVerdict n v).gate.stepTimeout = s.gate.stepTimeout ∧ (s.mergeVerdict n v).supervisor = s.supervisor
    ∧ (s.mergeVerdict n v).setup = s.setup ∧ (s.mergeVerdict n v).store.stored = s.store.stored
    ∧ (s.mergeVerdict n v).store.deciding = s.store.deciding := by
  unfold State.mergeVerdict
  (try dsimp only)
  (repeat' split) <;> first | (simp; done) | (simp [*]; done)

@[simp] theorem State.takeVerdict_frame (s : State) (n : StationNo) (v : VerdictFields) :
    (s.takeVerdict n v).pending = s.pending ∧ (s.takeVerdict n v).clock = s.clock
    ∧ (s.takeVerdict n v).line.state = s.line.state ∧ (s.takeVerdict n v).line.onLine = s.line.onLine
    ∧ (s.takeVerdict n v).line.repeatUrgent = s.line.repeatUrgent
    ∧ (s.takeVerdict n v).line.repeatOther = s.line.repeatOther
    ∧ (s.takeVerdict n v).line.headerParity = s.line.headerParity
    ∧ (s.takeVerdict n v).line.checkFail = s.line.checkFail ∧ (s.takeVerdict n v).line.rxMissed = s.line.rxMissed
    ∧ (s.takeVerdict n v).line.txPartial = s.line.txPartial ∧ (s.takeVerdict n v).line.settle = s.line.settle
    ∧ (s.takeVerdict n v).line.lastDominant = s.line.lastDominant ∧ (s.takeVerdict n v).line.inReset = s.line.inReset
    ∧ (s.takeVerdict n v).line.sendingReset = s.line.sendingReset ∧ (s.takeVerdict n v).line.receipt = s.line.receipt
    ∧ (s.takeVerdict n v).roster.sn = s.roster.sn ∧ (s.takeVerdict n v).roster.kpd = s.roster.kpd
    ∧ (s.takeVerdict n v).roster.startCause = s.roster.startCause
    ∧ (s.takeVerdict n v).roster.answeredAt = s.roster.answeredAt
    ∧ (s.takeVerdict n v).slotTable.salt = s.slotTable.salt
    ∧ (s.takeVerdict n v).slotTable.blankKey = s.slotTable.blankKey
    ∧ (s.takeVerdict n v).slotTable.slotDiverged = s.slotTable.slotDiverged
    ∧ (s.takeVerdict n v).purge.badBlocks = s.purge.badBlocks ∧ (s.takeVerdict n v).purge.waits = s.purge.waits
    ∧ (s.takeVerdict n v).gate.ranges = s.gate.ranges ∧ (s.takeVerdict n v).gate.waits = s.gate.waits
    ∧ (s.takeVerdict n v).gate.holder = s.gate.holder ∧ (s.takeVerdict n v).gate.flashBusy = s.gate.flashBusy
    ∧ (s.takeVerdict n v).gate.op = s.gate.op ∧ (s.takeVerdict n v).gate.driven = s.gate.driven
    ∧ (s.takeVerdict n v).gate.faultCount = s.gate.faultCount
    ∧ (s.takeVerdict n v).gate.channelFault = s.gate.channelFault
    ∧ (s.takeVerdict n v).gate.faultPeriod = s.gate.faultPeriod
    ∧ (s.takeVerdict n v).gate.periodicDue = s.gate.periodicDue
    ∧ (s.takeVerdict n v).gate.stepTimeout = s.gate.stepTimeout
    ∧ (s.takeVerdict n v).supervisor.supplyValid = s.supervisor.supplyValid
    ∧ (s.takeVerdict n v).supervisor.dormant = s.supervisor.dormant
    ∧ (s.takeVerdict n v).supervisor.attached = s.supervisor.attached
    ∧ (s.takeVerdict n v).supervisor.band = s.supervisor.band
    ∧ (s.takeVerdict n v).supervisor.tamperAsserted = s.supervisor.tamperAsserted
    ∧ (s.takeVerdict n v).supervisor.haltMark = s.supervisor.haltMark ∧ (s.takeVerdict n v).setup = s.setup
    ∧ (s.takeVerdict n v).store.stored = s.store.stored ∧ (s.takeVerdict n v).store.deciding = s.store.deciding := by
  unfold State.takeVerdict
  (try dsimp only)
  (repeat' split) <;> first | (simp; done) | (simp [*]; done)

@[simp] theorem State.handleVerdict_frame (s : State) (f : RxFrame) :
    (s.handleVerdict f).pending = s.pending ∧ (s.handleVerdict f).clock = s.clock
    ∧ (s.handleVerdict f).line.state = s.line.state ∧ (s.handleVerdict f).line.onLine = s.line.onLine
    ∧ (s.handleVerdict f).line.repeatUrgent = s.line.repeatUrgent
    ∧ (s.handleVerdict f).line.repeatOther = s.line.repeatOther
    ∧ (s.handleVerdict f).line.headerParity = s.line.headerParity
    ∧ (s.handleVerdict f).line.checkFail = s.line.checkFail ∧ (s.handleVerdict f).line.rxMissed = s.line.rxMissed
    ∧ (s.handleVerdict f).line.txPartial = s.line.txPartial ∧ (s.handleVerdict f).line.settle = s.line.settle
    ∧ (s.handleVerdict f).line.lastDominant = s.line.lastDominant ∧ (s.handleVerdict f).line.inReset = s.line.inReset
    ∧ (s.handleVerdict f).line.sendingReset = s.line.sendingReset ∧ (s.handleVerdict f).line.receipt = s.line.receipt
    ∧ (s.handleVerdict f).roster.sn = s.roster.sn ∧ (s.handleVerdict f).roster.kpd = s.roster.kpd
    ∧ (s.handleVerdict f).roster.startCause = s.roster.startCause
    ∧ (s.handleVerdict f).roster.answeredAt = s.roster.answeredAt
    ∧ (s.handleVerdict f).slotTable.salt = s.slotTable.salt
    ∧ (s.handleVerdict f).slotTable.blankKey = s.slotTable.blankKey
    ∧ (s.handleVerdict f).slotTable.slotDiverged = s.slotTable.slotDiverged
    ∧ (s.handleVerdict f).purge.badBlocks = s.purge.badBlocks ∧ (s.handleVerdict f).purge.waits = s.purge.waits
    ∧ (s.handleVerdict f).gate.ranges = s.gate.ranges ∧ (s.handleVerdict f).gate.waits = s.gate.waits
    ∧ (s.handleVerdict f).gate.holder = s.gate.holder ∧ (s.handleVerdict f).gate.flashBusy = s.gate.flashBusy
    ∧ (s.handleVerdict f).gate.op = s.gate.op ∧ (s.handleVerdict f).gate.driven = s.gate.driven
    ∧ (s.handleVerdict f).gate.faultCount = s.gate.faultCount
    ∧ (s.handleVerdict f).gate.channelFault = s.gate.channelFault
    ∧ (s.handleVerdict f).gate.faultPeriod = s.gate.faultPeriod
    ∧ (s.handleVerdict f).gate.periodicDue = s.gate.periodicDue
    ∧ (s.handleVerdict f).gate.stepTimeout = s.gate.stepTimeout
    ∧ (s.handleVerdict f).supervisor.supplyValid = s.supervisor.supplyValid
    ∧ (s.handleVerdict f).supervisor.dormant = s.supervisor.dormant
    ∧ (s.handleVerdict f).supervisor.attached = s.supervisor.attached
    ∧ (s.handleVerdict f).supervisor.band = s.supervisor.band
    ∧ (s.handleVerdict f).supervisor.tamperAsserted = s.supervisor.tamperAsserted
    ∧ (s.handleVerdict f).supervisor.haltMark = s.supervisor.haltMark ∧ (s.handleVerdict f).setup = s.setup
    ∧ (s.handleVerdict f).store.stored = s.store.stored ∧ (s.handleVerdict f).store.deciding = s.store.deciding := by
  unfold State.handleVerdict
  (try dsimp only)
  (repeat' split) <;> first | (simp; done) | (simp [*]; done)

@[simp] theorem State.storeIncrement_frame (s : State) (serial : Nat) (stored : AttemptRecord) :
    (s.storeIncrement serial stored).pending = s.pending ∧ (s.storeIncrement serial stored).clock = s.clock
    ∧ (s.storeIncrement serial stored).draws = s.draws ∧ (s.storeIncrement serial stored).line.state = s.line.state
    ∧ (s.storeIncrement serial stored).line.onLine = s.line.onLine
    ∧ (s.storeIncrement serial stored).line.repeatUrgent = s.line.repeatUrgent
    ∧ (s.storeIncrement serial stored).line.repeatOther = s.line.repeatOther
    ∧ (s.storeIncrement serial stored).line.headerParity = s.line.headerParity
    ∧ (s.storeIncrement serial stored).line.checkFail = s.line.checkFail
    ∧ (s.storeIncrement serial stored).line.rxMissed = s.line.rxMissed
    ∧ (s.storeIncrement serial stored).line.txPartial = s.line.txPartial
    ∧ (s.storeIncrement serial stored).line.settle = s.line.settle
    ∧ (s.storeIncrement serial stored).line.lastDominant = s.line.lastDominant
    ∧ (s.storeIncrement serial stored).line.inReset = s.line.inReset
    ∧ (s.storeIncrement serial stored).line.sendingReset = s.line.sendingReset
    ∧ (s.storeIncrement serial stored).line.receipt = s.line.receipt
    ∧ (s.storeIncrement serial stored).roster = s.roster
    ∧ (s.storeIncrement serial stored).verifier.held = s.verifier.held
    ∧ (s.storeIncrement serial stored).verifier.hold = s.verifier.hold
    ∧ (s.storeIncrement serial stored).slotTable = s.slotTable
    ∧ (s.storeIncrement serial stored).phaseCtl = s.phaseCtl ∧ (s.storeIncrement serial stored).keyPort = s.keyPort
    ∧ (s.storeIncrement serial stored).purge = s.purge ∧ (s.storeIncrement serial stored).gate = s.gate
    ∧ (s.storeIncrement serial stored).scanner = s.scanner
    ∧ (s.storeIncrement serial stored).supervisor = s.supervisor ∧ (s.storeIncrement serial stored).setup = s.setup
    ∧ (s.storeIncrement serial stored).store = s.store := by
  unfold State.storeIncrement
  (try dsimp only)
  (repeat' split) <;> first | (simp; done) | (simp [*]; done)

@[simp] theorem State.attemptStored_frame (s : State) (w : InFlight) :
    (s.attemptStored w).pending = s.pending ∧ (s.attemptStored w).clock = s.clock
    ∧ (s.attemptStored w).draws = s.draws ∧ (s.attemptStored w).line.state = s.line.state
    ∧ (s.attemptStored w).line.onLine = s.line.onLine ∧ (s.attemptStored w).line.repeatUrgent = s.line.repeatUrgent
    ∧ (s.attemptStored w).line.repeatOther = s.line.repeatOther
    ∧ (s.attemptStored w).line.headerParity = s.line.headerParity
    ∧ (s.attemptStored w).line.checkFail = s.line.checkFail ∧ (s.attemptStored w).line.rxMissed = s.line.rxMissed
    ∧ (s.attemptStored w).line.txPartial = s.line.txPartial ∧ (s.attemptStored w).line.settle = s.line.settle
    ∧ (s.attemptStored w).line.lastDominant = s.line.lastDominant ∧ (s.attemptStored w).line.inReset = s.line.inReset
    ∧ (s.attemptStored w).line.sendingReset = s.line.sendingReset ∧ (s.attemptStored w).line.receipt = s.line.receipt
    ∧ (s.attemptStored w).roster = s.roster ∧ (s.attemptStored w).verifier.held = s.verifier.held
    ∧ (s.attemptStored w).verifier.hold = s.verifier.hold ∧ (s.attemptStored w).slotTable = s.slotTable
    ∧ (s.attemptStored w).phaseCtl = s.phaseCtl ∧ (s.attemptStored w).keyPort = s.keyPort
    ∧ (s.attemptStored w).purge = s.purge ∧ (s.attemptStored w).gate = s.gate
    ∧ (s.attemptStored w).scanner = s.scanner ∧ (s.attemptStored w).supervisor = s.supervisor
    ∧ (s.attemptStored w).setup = s.setup ∧ (s.attemptStored w).store = s.store := by
  unfold State.attemptStored
  (try dsimp only)
  (repeat' split) <;> first | (simp; done) | (simp [*]; done)

@[simp] theorem State.awaitSlot_frame (s : State) (w : SlotWait) :
    (s.awaitSlot w).pending = s.pending ∧ (s.awaitSlot w).clock = s.clock ∧ (s.awaitSlot w).draws = s.draws
    ∧ (s.awaitSlot w).line = s.line ∧ (s.awaitSlot w).roster = s.roster ∧ (s.awaitSlot w).verifier = s.verifier
    ∧ (s.awaitSlot w).slotTable.slots = s.slotTable.slots ∧ (s.awaitSlot w).slotTable.salt = s.slotTable.salt
    ∧ (s.awaitSlot w).slotTable.blankKey = s.slotTable.blankKey
    ∧ (s.awaitSlot w).slotTable.unlockedKey = s.slotTable.unlockedKey
    ∧ (s.awaitSlot w).slotTable.writes = s.slotTable.writes
    ∧ (s.awaitSlot w).slotTable.enrollment = s.slotTable.enrollment
    ∧ (s.awaitSlot w).slotTable.slotDiverged = s.slotTable.slotDiverged ∧ (s.awaitSlot w).phaseCtl = s.phaseCtl
    ∧ (s.awaitSlot w).keyPort = s.keyPort ∧ (s.awaitSlot w).purge = s.purge ∧ (s.awaitSlot w).gate = s.gate
    ∧ (s.awaitSlot w).scanner = s.scanner ∧ (s.awaitSlot w).supervisor = s.supervisor
    ∧ (s.awaitSlot w).setup = s.setup ∧ (s.awaitSlot w).store = s.store := by
  unfold State.awaitSlot
  (try dsimp only)
  (repeat' split) <;> first | (simp; done) | (simp [*]; done)

@[simp] theorem State.changeAndWait_frame (s : State) (i : SlotNo) (v : Slot) (discards : Bool) (w : SlotWait) :
    (s.changeAndWait i v discards w).pending = s.pending ∧ (s.changeAndWait i v discards w).clock = s.clock
    ∧ (s.changeAndWait i v discards w).draws = s.draws ∧ (s.changeAndWait i v discards w).line = s.line
    ∧ (s.changeAndWait i v discards w).roster = s.roster ∧ (s.changeAndWait i v discards w).verifier = s.verifier
    ∧ (s.changeAndWait i v discards w).slotTable.salt = s.slotTable.salt
    ∧ (s.changeAndWait i v discards w).slotTable.blankKey = s.slotTable.blankKey
    ∧ (s.changeAndWait i v discards w).slotTable.unlockedKey = s.slotTable.unlockedKey
    ∧ (s.changeAndWait i v discards w).slotTable.enrollment = s.slotTable.enrollment
    ∧ (s.changeAndWait i v discards w).slotTable.slotDiverged = s.slotTable.slotDiverged
    ∧ (s.changeAndWait i v discards w).phaseCtl = s.phaseCtl ∧ (s.changeAndWait i v discards w).keyPort = s.keyPort
    ∧ (s.changeAndWait i v discards w).purge.journal = s.purge.journal
    ∧ (s.changeAndWait i v discards w).purge.badBlocks = s.purge.badBlocks
    ∧ (s.changeAndWait i v discards w).purge.nextBlock = s.purge.nextBlock ∧ (s.changeAndWait i v discards w).purge.plan = s.purge.plan
    ∧ (s.changeAndWait i v discards w).purge.begun = s.purge.begun ∧ (s.changeAndWait i v discards w).purge.closing = s.purge.closing
    ∧ (s.changeAndWait i v discards w).purge.suspended = s.purge.suspended
    ∧ (s.changeAndWait i v discards w).purge.heard = s.purge.heard ∧ (s.changeAndWait i v discards w).purge.reoffer = s.purge.reoffer
    ∧ (s.changeAndWait i v discards w).purge.pendingTarget = s.purge.pendingTarget
    ∧ (s.changeAndWait i v discards w).purge.waits = s.purge.waits ∧ (s.changeAndWait i v discards w).gate.ranges = s.gate.ranges
    ∧ (s.changeAndWait i v discards w).gate.waits = s.gate.waits ∧ (s.changeAndWait i v discards w).gate.owner = s.gate.owner
    ∧ (s.changeAndWait i v discards w).gate.holder = s.gate.holder ∧ (s.changeAndWait i v discards w).gate.handOver = s.gate.handOver
    ∧ (s.changeAndWait i v discards w).gate.command = s.gate.command
    ∧ (s.changeAndWait i v discards w).gate.flashBusy = s.gate.flashBusy ∧ (s.changeAndWait i v discards w).gate.op = s.gate.op
    ∧ (s.changeAndWait i v discards w).gate.driven = s.gate.driven
    ∧ (s.changeAndWait i v discards w).gate.faultCount = s.gate.faultCount
    ∧ (s.changeAndWait i v discards w).gate.channelFault = s.gate.channelFault
    ∧ (s.changeAndWait i v discards w).gate.faultPeriod = s.gate.faultPeriod
    ∧ (s.changeAndWait i v discards w).gate.periodicDue = s.gate.periodicDue
    ∧ (s.changeAndWait i v discards w).gate.grant = s.gate.grant ∧ (s.changeAndWait i v discards w).gate.gateDenied = s.gate.gateDenied
    ∧ (s.changeAndWait i v discards w).gate.stepTimeout = s.gate.stepTimeout ∧ (s.changeAndWait i v discards w).scanner = s.scanner
    ∧ (s.changeAndWait i v discards w).supervisor = s.supervisor ∧ (s.changeAndWait i v discards w).setup = s.setup
    ∧ (s.changeAndWait i v discards w).store.stored = s.store.stored
    ∧ (s.changeAndWait i v discards w).store.deciding = s.store.deciding := by
  unfold State.changeAndWait
  (try dsimp only)
  (repeat' split) <;> first | (simp; done) | (simp [*]; done)

@[simp] theorem State.stageSlot_frame (s : State) (n : StationNo) (e : StageFields) :
    (s.stageSlot n e).pending = s.pending ∧ (s.stageSlot n e).clock = s.clock ∧ (s.stageSlot n e).draws = s.draws
    ∧ (s.stageSlot n e).line.state = s.line.state ∧ (s.stageSlot n e).line.onLine = s.line.onLine
    ∧ (s.stageSlot n e).line.repeatUrgent = s.line.repeatUrgent
    ∧ (s.stageSlot n e).line.repeatOther = s.line.repeatOther
    ∧ (s.stageSlot n e).line.headerParity = s.line.headerParity ∧ (s.stageSlot n e).line.checkFail = s.line.checkFail
    ∧ (s.stageSlot n e).line.rxMissed = s.line.rxMissed ∧ (s.stageSlot n e).line.txPartial = s.line.txPartial
    ∧ (s.stageSlot n e).line.settle = s.line.settle ∧ (s.stageSlot n e).line.lastDominant = s.line.lastDominant
    ∧ (s.stageSlot n e).line.inReset = s.line.inReset ∧ (s.stageSlot n e).line.sendingReset = s.line.sendingReset
    ∧ (s.stageSlot n e).line.receipt = s.line.receipt ∧ (s.stageSlot n e).roster = s.roster
    ∧ (s.stageSlot n e).verifier = s.verifier ∧ (s.stageSlot n e).slotTable.salt = s.slotTable.salt
    ∧ (s.stageSlot n e).slotTable.blankKey = s.slotTable.blankKey
    ∧ (s.stageSlot n e).slotTable.unlockedKey = s.slotTable.unlockedKey
    ∧ (s.stageSlot n e).slotTable.slotDiverged = s.slotTable.slotDiverged ∧ (s.stageSlot n e).phaseCtl = s.phaseCtl
    ∧ (s.stageSlot n e).keyPort = s.keyPort ∧ (s.stageSlot n e).purge.journal = s.purge.journal
    ∧ (s.stageSlot n e).purge.badBlocks = s.purge.badBlocks ∧ (s.stageSlot n e).purge.nextBlock = s.purge.nextBlock
    ∧ (s.stageSlot n e).purge.plan = s.purge.plan ∧ (s.stageSlot n e).purge.begun = s.purge.begun
    ∧ (s.stageSlot n e).purge.closing = s.purge.closing ∧ (s.stageSlot n e).purge.suspended = s.purge.suspended
    ∧ (s.stageSlot n e).purge.heard = s.purge.heard ∧ (s.stageSlot n e).purge.reoffer = s.purge.reoffer
    ∧ (s.stageSlot n e).purge.pendingTarget = s.purge.pendingTarget ∧ (s.stageSlot n e).purge.waits = s.purge.waits
    ∧ (s.stageSlot n e).gate.ranges = s.gate.ranges ∧ (s.stageSlot n e).gate.waits = s.gate.waits
    ∧ (s.stageSlot n e).gate.owner = s.gate.owner ∧ (s.stageSlot n e).gate.holder = s.gate.holder
    ∧ (s.stageSlot n e).gate.handOver = s.gate.handOver ∧ (s.stageSlot n e).gate.command = s.gate.command
    ∧ (s.stageSlot n e).gate.flashBusy = s.gate.flashBusy ∧ (s.stageSlot n e).gate.op = s.gate.op
    ∧ (s.stageSlot n e).gate.driven = s.gate.driven ∧ (s.stageSlot n e).gate.faultCount = s.gate.faultCount
    ∧ (s.stageSlot n e).gate.channelFault = s.gate.channelFault
    ∧ (s.stageSlot n e).gate.faultPeriod = s.gate.faultPeriod
    ∧ (s.stageSlot n e).gate.periodicDue = s.gate.periodicDue ∧ (s.stageSlot n e).gate.grant = s.gate.grant
    ∧ (s.stageSlot n e).gate.gateDenied = s.gate.gateDenied ∧ (s.stageSlot n e).gate.stepTimeout = s.gate.stepTimeout
    ∧ (s.stageSlot n e).scanner.key = s.scanner.key ∧ (s.stageSlot n e).scanner.digits = s.scanner.digits
    ∧ (s.stageSlot n e).scanner.seq = s.scanner.seq ∧ (s.stageSlot n e).scanner.entrySeq = s.scanner.entrySeq
    ∧ (s.stageSlot n e).supervisor = s.supervisor ∧ (s.stageSlot n e).setup = s.setup
    ∧ (s.stageSlot n e).store.stored = s.store.stored ∧ (s.stageSlot n e).store.deciding = s.store.deciding := by
  unfold State.stageSlot
  (try dsimp only)
  (repeat' split) <;> first | (simp; done) | (simp [*]; done)

@[simp] theorem State.takeStage_frame (s : State) (f : RxFrame) :
    (s.takeStage f).pending = s.pending ∧ (s.takeStage f).clock = s.clock ∧ (s.takeStage f).draws = s.draws
    ∧ (s.takeStage f).line.state = s.line.state ∧ (s.takeStage f).line.onLine = s.line.onLine
    ∧ (s.takeStage f).line.repeatUrgent = s.line.repeatUrgent ∧ (s.takeStage f).line.repeatOther = s.line.repeatOther
    ∧ (s.takeStage f).line.headerParity = s.line.headerParity ∧ (s.takeStage f).line.checkFail = s.line.checkFail
    ∧ (s.takeStage f).line.rxMissed = s.line.rxMissed ∧ (s.takeStage f).line.txPartial = s.line.txPartial
    ∧ (s.takeStage f).line.settle = s.line.settle ∧ (s.takeStage f).line.lastDominant = s.line.lastDominant
    ∧ (s.takeStage f).line.inReset = s.line.inReset ∧ (s.takeStage f).line.sendingReset = s.line.sendingReset
    ∧ (s.takeStage f).line.receipt = s.line.receipt ∧ (s.takeStage f).roster = s.roster
    ∧ (s.takeStage f).verifier = s.verifier ∧ (s.takeStage f).slotTable.salt = s.slotTable.salt
    ∧ (s.takeStage f).slotTable.blankKey = s.slotTable.blankKey
    ∧ (s.takeStage f).slotTable.unlockedKey = s.slotTable.unlockedKey
    ∧ (s.takeStage f).slotTable.slotDiverged = s.slotTable.slotDiverged ∧ (s.takeStage f).phaseCtl = s.phaseCtl
    ∧ (s.takeStage f).keyPort = s.keyPort ∧ (s.takeStage f).purge.journal = s.purge.journal
    ∧ (s.takeStage f).purge.badBlocks = s.purge.badBlocks ∧ (s.takeStage f).purge.nextBlock = s.purge.nextBlock
    ∧ (s.takeStage f).purge.plan = s.purge.plan ∧ (s.takeStage f).purge.begun = s.purge.begun
    ∧ (s.takeStage f).purge.closing = s.purge.closing ∧ (s.takeStage f).purge.suspended = s.purge.suspended
    ∧ (s.takeStage f).purge.heard = s.purge.heard ∧ (s.takeStage f).purge.reoffer = s.purge.reoffer
    ∧ (s.takeStage f).purge.pendingTarget = s.purge.pendingTarget ∧ (s.takeStage f).purge.waits = s.purge.waits
    ∧ (s.takeStage f).gate.ranges = s.gate.ranges ∧ (s.takeStage f).gate.waits = s.gate.waits
    ∧ (s.takeStage f).gate.owner = s.gate.owner ∧ (s.takeStage f).gate.holder = s.gate.holder
    ∧ (s.takeStage f).gate.handOver = s.gate.handOver ∧ (s.takeStage f).gate.command = s.gate.command
    ∧ (s.takeStage f).gate.flashBusy = s.gate.flashBusy ∧ (s.takeStage f).gate.op = s.gate.op
    ∧ (s.takeStage f).gate.driven = s.gate.driven ∧ (s.takeStage f).gate.faultCount = s.gate.faultCount
    ∧ (s.takeStage f).gate.channelFault = s.gate.channelFault ∧ (s.takeStage f).gate.faultPeriod = s.gate.faultPeriod
    ∧ (s.takeStage f).gate.periodicDue = s.gate.periodicDue ∧ (s.takeStage f).gate.grant = s.gate.grant
    ∧ (s.takeStage f).gate.gateDenied = s.gate.gateDenied ∧ (s.takeStage f).gate.stepTimeout = s.gate.stepTimeout
    ∧ (s.takeStage f).scanner.key = s.scanner.key ∧ (s.takeStage f).scanner.digits = s.scanner.digits
    ∧ (s.takeStage f).scanner.seq = s.scanner.seq ∧ (s.takeStage f).scanner.entrySeq = s.scanner.entrySeq
    ∧ (s.takeStage f).supervisor = s.supervisor ∧ (s.takeStage f).setup = s.setup
    ∧ (s.takeStage f).store.stored = s.store.stored ∧ (s.takeStage f).store.deciding = s.store.deciding := by
  unfold State.takeStage
  (try dsimp only)
  (repeat' split) <;> first | (simp; done) | (simp [*]; done)

@[simp] theorem State.ownStage_frame (s : State) (f : RxFrame) :
    (s.ownStage f).pending = s.pending ∧ (s.ownStage f).clock = s.clock ∧ (s.ownStage f).draws = s.draws
    ∧ (s.ownStage f).line.state = s.line.state ∧ (s.ownStage f).line.onLine = s.line.onLine
    ∧ (s.ownStage f).line.repeatUrgent = s.line.repeatUrgent ∧ (s.ownStage f).line.repeatOther = s.line.repeatOther
    ∧ (s.ownStage f).line.headerParity = s.line.headerParity ∧ (s.ownStage f).line.checkFail = s.line.checkFail
    ∧ (s.ownStage f).line.rxMissed = s.line.rxMissed ∧ (s.ownStage f).line.txPartial = s.line.txPartial
    ∧ (s.ownStage f).line.settle = s.line.settle ∧ (s.ownStage f).line.lastDominant = s.line.lastDominant
    ∧ (s.ownStage f).line.inReset = s.line.inReset ∧ (s.ownStage f).line.sendingReset = s.line.sendingReset
    ∧ (s.ownStage f).line.receipt = s.line.receipt ∧ (s.ownStage f).roster = s.roster
    ∧ (s.ownStage f).verifier = s.verifier ∧ (s.ownStage f).slotTable.slots = s.slotTable.slots
    ∧ (s.ownStage f).slotTable.salt = s.slotTable.salt ∧ (s.ownStage f).slotTable.blankKey = s.slotTable.blankKey
    ∧ (s.ownStage f).slotTable.unlockedKey = s.slotTable.unlockedKey
    ∧ (s.ownStage f).slotTable.writes = s.slotTable.writes ∧ (s.ownStage f).slotTable.waits = s.slotTable.waits
    ∧ (s.ownStage f).slotTable.slotDiverged = s.slotTable.slotDiverged ∧ (s.ownStage f).phaseCtl = s.phaseCtl
    ∧ (s.ownStage f).keyPort = s.keyPort ∧ (s.ownStage f).purge = s.purge ∧ (s.ownStage f).gate = s.gate
    ∧ (s.ownStage f).scanner.key = s.scanner.key ∧ (s.ownStage f).scanner.digits = s.scanner.digits
    ∧ (s.ownStage f).scanner.seq = s.scanner.seq ∧ (s.ownStage f).scanner.entrySeq = s.scanner.entrySeq
    ∧ (s.ownStage f).supervisor = s.supervisor ∧ (s.ownStage f).setup = s.setup ∧ (s.ownStage f).store = s.store := by
  unfold State.ownStage
  (try dsimp only)
  (repeat' split) <;> first | (simp; done) | (simp [*]; done)

@[simp] theorem State.handleStage_frame (s : State) (f : RxFrame) :
    (s.handleStage f).pending = s.pending ∧ (s.handleStage f).clock = s.clock ∧ (s.handleStage f).draws = s.draws
    ∧ (s.handleStage f).line.state = s.line.state ∧ (s.handleStage f).line.onLine = s.line.onLine
    ∧ (s.handleStage f).line.repeatUrgent = s.line.repeatUrgent
    ∧ (s.handleStage f).line.repeatOther = s.line.repeatOther
    ∧ (s.handleStage f).line.headerParity = s.line.headerParity ∧ (s.handleStage f).line.checkFail = s.line.checkFail
    ∧ (s.handleStage f).line.rxMissed = s.line.rxMissed ∧ (s.handleStage f).line.txPartial = s.line.txPartial
    ∧ (s.handleStage f).line.settle = s.line.settle ∧ (s.handleStage f).line.lastDominant = s.line.lastDominant
    ∧ (s.handleStage f).line.inReset = s.line.inReset ∧ (s.handleStage f).line.sendingReset = s.line.sendingReset
    ∧ (s.handleStage f).line.receipt = s.line.receipt ∧ (s.handleStage f).roster = s.roster
    ∧ (s.handleStage f).verifier = s.verifier ∧ (s.handleStage f).slotTable.salt = s.slotTable.salt
    ∧ (s.handleStage f).slotTable.blankKey = s.slotTable.blankKey
    ∧ (s.handleStage f).slotTable.unlockedKey = s.slotTable.unlockedKey
    ∧ (s.handleStage f).slotTable.slotDiverged = s.slotTable.slotDiverged ∧ (s.handleStage f).phaseCtl = s.phaseCtl
    ∧ (s.handleStage f).keyPort = s.keyPort ∧ (s.handleStage f).purge.journal = s.purge.journal
    ∧ (s.handleStage f).purge.badBlocks = s.purge.badBlocks ∧ (s.handleStage f).purge.nextBlock = s.purge.nextBlock
    ∧ (s.handleStage f).purge.plan = s.purge.plan ∧ (s.handleStage f).purge.begun = s.purge.begun
    ∧ (s.handleStage f).purge.closing = s.purge.closing ∧ (s.handleStage f).purge.suspended = s.purge.suspended
    ∧ (s.handleStage f).purge.heard = s.purge.heard ∧ (s.handleStage f).purge.reoffer = s.purge.reoffer
    ∧ (s.handleStage f).purge.pendingTarget = s.purge.pendingTarget ∧ (s.handleStage f).purge.waits = s.purge.waits
    ∧ (s.handleStage f).gate.ranges = s.gate.ranges ∧ (s.handleStage f).gate.waits = s.gate.waits
    ∧ (s.handleStage f).gate.owner = s.gate.owner ∧ (s.handleStage f).gate.holder = s.gate.holder
    ∧ (s.handleStage f).gate.handOver = s.gate.handOver ∧ (s.handleStage f).gate.command = s.gate.command
    ∧ (s.handleStage f).gate.flashBusy = s.gate.flashBusy ∧ (s.handleStage f).gate.op = s.gate.op
    ∧ (s.handleStage f).gate.driven = s.gate.driven ∧ (s.handleStage f).gate.faultCount = s.gate.faultCount
    ∧ (s.handleStage f).gate.channelFault = s.gate.channelFault
    ∧ (s.handleStage f).gate.faultPeriod = s.gate.faultPeriod
    ∧ (s.handleStage f).gate.periodicDue = s.gate.periodicDue ∧ (s.handleStage f).gate.grant = s.gate.grant
    ∧ (s.handleStage f).gate.gateDenied = s.gate.gateDenied ∧ (s.handleStage f).gate.stepTimeout = s.gate.stepTimeout
    ∧ (s.handleStage f).scanner.key = s.scanner.key ∧ (s.handleStage f).scanner.digits = s.scanner.digits
    ∧ (s.handleStage f).scanner.seq = s.scanner.seq ∧ (s.handleStage f).scanner.entrySeq = s.scanner.entrySeq
    ∧ (s.handleStage f).supervisor = s.supervisor ∧ (s.handleStage f).setup = s.setup
    ∧ (s.handleStage f).store.stored = s.store.stored ∧ (s.handleStage f).store.deciding = s.store.deciding := by
  unfold State.handleStage
  (try dsimp only)
  (repeat' split) <;> first | (simp; done) | (simp [*]; done)

@[simp] theorem State.takeBlankKey_frame (s : State) (first : Bool) :
    (s.takeBlankKey first).pending = s.pending ∧ (s.takeBlankKey first).clock = s.clock
    ∧ (s.takeBlankKey first).draws = s.draws ∧ (s.takeBlankKey first).line = s.line
    ∧ (s.takeBlankKey first).roster = s.roster ∧ (s.takeBlankKey first).verifier = s.verifier
    ∧ (s.takeBlankKey first).slotTable.slots = s.slotTable.slots
    ∧ (s.takeBlankKey first).slotTable.salt = s.slotTable.salt
    ∧ (s.takeBlankKey first).slotTable.blankKey = s.slotTable.blankKey
    ∧ (s.takeBlankKey first).slotTable.writes = s.slotTable.writes
    ∧ (s.takeBlankKey first).slotTable.waits = s.slotTable.waits
    ∧ (s.takeBlankKey first).slotTable.enrollment = s.slotTable.enrollment
    ∧ (s.takeBlankKey first).slotTable.slotDiverged = s.slotTable.slotDiverged
    ∧ (s.takeBlankKey first).phaseCtl = s.phaseCtl ∧ (s.takeBlankKey first).keyPort = s.keyPort
    ∧ (s.takeBlankKey first).purge = s.purge ∧ (s.takeBlankKey first).gate = s.gate
    ∧ (s.takeBlankKey first).scanner = s.scanner ∧ (s.takeBlankKey first).supervisor = s.supervisor
    ∧ (s.takeBlankKey first).setup = s.setup ∧ (s.takeBlankKey first).store = s.store := by
  unfold State.takeBlankKey
  (try dsimp only)
  (repeat' split) <;> first | (simp; done) | (simp [*]; done)

@[simp] theorem State.adoptSlot_frame (s : State) (n : StationNo) (slot gen : Nat) :
    (s.adoptSlot n slot gen).pending = s.pending ∧ (s.adoptSlot n slot gen).clock = s.clock
    ∧ (s.adoptSlot n slot gen).draws = s.draws ∧ (s.adoptSlot n slot gen).line.state = s.line.state
    ∧ (s.adoptSlot n slot gen).line.onLine = s.line.onLine
    ∧ (s.adoptSlot n slot gen).line.repeatUrgent = s.line.repeatUrgent
    ∧ (s.adoptSlot n slot gen).line.repeatOther = s.line.repeatOther
    ∧ (s.adoptSlot n slot gen).line.headerParity = s.line.headerParity
    ∧ (s.adoptSlot n slot gen).line.checkFail = s.line.checkFail
    ∧ (s.adoptSlot n slot gen).line.rxMissed = s.line.rxMissed
    ∧ (s.adoptSlot n slot gen).line.txPartial = s.line.txPartial
    ∧ (s.adoptSlot n slot gen).line.settle = s.line.settle
    ∧ (s.adoptSlot n slot gen).line.lastDominant = s.line.lastDominant
    ∧ (s.adoptSlot n slot gen).line.inReset = s.line.inReset
    ∧ (s.adoptSlot n slot gen).line.sendingReset = s.line.sendingReset
    ∧ (s.adoptSlot n slot gen).line.receipt = s.line.receipt ∧ (s.adoptSlot n slot gen).roster = s.roster
    ∧ (s.adoptSlot n slot gen).verifier = s.verifier ∧ (s.adoptSlot n slot gen).slotTable.salt = s.slotTable.salt
    ∧ (s.adoptSlot n slot gen).slotTable.blankKey = s.slotTable.blankKey
    ∧ (s.adoptSlot n slot gen).slotTable.slotDiverged = s.slotTable.slotDiverged
    ∧ (s.adoptSlot n slot gen).phaseCtl = s.phaseCtl ∧ (s.adoptSlot n slot gen).keyPort = s.keyPort
    ∧ (s.adoptSlot n slot gen).purge.journal = s.purge.journal
    ∧ (s.adoptSlot n slot gen).purge.badBlocks = s.purge.badBlocks
    ∧ (s.adoptSlot n slot gen).purge.nextBlock = s.purge.nextBlock
    ∧ (s.adoptSlot n slot gen).purge.plan = s.purge.plan ∧ (s.adoptSlot n slot gen).purge.begun = s.purge.begun
    ∧ (s.adoptSlot n slot gen).purge.closing = s.purge.closing
    ∧ (s.adoptSlot n slot gen).purge.suspended = s.purge.suspended
    ∧ (s.adoptSlot n slot gen).purge.heard = s.purge.heard ∧ (s.adoptSlot n slot gen).purge.reoffer = s.purge.reoffer
    ∧ (s.adoptSlot n slot gen).purge.pendingTarget = s.purge.pendingTarget
    ∧ (s.adoptSlot n slot gen).purge.waits = s.purge.waits ∧ (s.adoptSlot n slot gen).gate.ranges = s.gate.ranges
    ∧ (s.adoptSlot n slot gen).gate.waits = s.gate.waits ∧ (s.adoptSlot n slot gen).gate.owner = s.gate.owner
    ∧ (s.adoptSlot n slot gen).gate.holder = s.gate.holder ∧ (s.adoptSlot n slot gen).gate.handOver = s.gate.handOver
    ∧ (s.adoptSlot n slot gen).gate.command = s.gate.command
    ∧ (s.adoptSlot n slot gen).gate.flashBusy = s.gate.flashBusy ∧ (s.adoptSlot n slot gen).gate.op = s.gate.op
    ∧ (s.adoptSlot n slot gen).gate.driven = s.gate.driven
    ∧ (s.adoptSlot n slot gen).gate.faultCount = s.gate.faultCount
    ∧ (s.adoptSlot n slot gen).gate.channelFault = s.gate.channelFault
    ∧ (s.adoptSlot n slot gen).gate.faultPeriod = s.gate.faultPeriod
    ∧ (s.adoptSlot n slot gen).gate.periodicDue = s.gate.periodicDue
    ∧ (s.adoptSlot n slot gen).gate.grant = s.gate.grant
    ∧ (s.adoptSlot n slot gen).gate.gateDenied = s.gate.gateDenied
    ∧ (s.adoptSlot n slot gen).gate.stepTimeout = s.gate.stepTimeout
    ∧ (s.adoptSlot n slot gen).scanner.key = s.scanner.key
    ∧ (s.adoptSlot n slot gen).scanner.digits = s.scanner.digits
    ∧ (s.adoptSlot n slot gen).scanner.seq = s.scanner.seq
    ∧ (s.adoptSlot n slot gen).scanner.entrySeq = s.scanner.entrySeq
    ∧ (s.adoptSlot n slot gen).supervisor = s.supervisor ∧ (s.adoptSlot n slot gen).setup = s.setup
    ∧ (s.adoptSlot n slot gen).store.stored = s.store.stored
    ∧ (s.adoptSlot n slot gen).store.deciding = s.store.deciding := by
  unfold State.adoptSlot
  (try dsimp only)
  (repeat' split) <;> first | (simp; done) | (simp [*]; done)

@[simp] theorem State.abandonSlot_frame (s : State) (n : StationNo) (slot gen : Nat) :
    (s.abandonSlot n slot gen).pending = s.pending ∧ (s.abandonSlot n slot gen).clock = s.clock
    ∧ (s.abandonSlot n slot gen).draws = s.draws ∧ (s.abandonSlot n slot gen).line.state = s.line.state
    ∧ (s.abandonSlot n slot gen).line.onLine = s.line.onLine
    ∧ (s.abandonSlot n slot gen).line.repeatUrgent = s.line.repeatUrgent
    ∧ (s.abandonSlot n slot gen).line.repeatOther = s.line.repeatOther
    ∧ (s.abandonSlot n slot gen).line.headerParity = s.line.headerParity
    ∧ (s.abandonSlot n slot gen).line.checkFail = s.line.checkFail
    ∧ (s.abandonSlot n slot gen).line.rxMissed = s.line.rxMissed
    ∧ (s.abandonSlot n slot gen).line.txPartial = s.line.txPartial
    ∧ (s.abandonSlot n slot gen).line.settle = s.line.settle
    ∧ (s.abandonSlot n slot gen).line.lastDominant = s.line.lastDominant
    ∧ (s.abandonSlot n slot gen).line.inReset = s.line.inReset
    ∧ (s.abandonSlot n slot gen).line.sendingReset = s.line.sendingReset
    ∧ (s.abandonSlot n slot gen).line.receipt = s.line.receipt ∧ (s.abandonSlot n slot gen).roster = s.roster
    ∧ (s.abandonSlot n slot gen).verifier = s.verifier ∧ (s.abandonSlot n slot gen).slotTable.salt = s.slotTable.salt
    ∧ (s.abandonSlot n slot gen).slotTable.blankKey = s.slotTable.blankKey
    ∧ (s.abandonSlot n slot gen).slotTable.unlockedKey = s.slotTable.unlockedKey
    ∧ (s.abandonSlot n slot gen).slotTable.slotDiverged = s.slotTable.slotDiverged
    ∧ (s.abandonSlot n slot gen).phaseCtl = s.phaseCtl ∧ (s.abandonSlot n slot gen).keyPort = s.keyPort
    ∧ (s.abandonSlot n slot gen).purge.journal = s.purge.journal
    ∧ (s.abandonSlot n slot gen).purge.badBlocks = s.purge.badBlocks
    ∧ (s.abandonSlot n slot gen).purge.nextBlock = s.purge.nextBlock
    ∧ (s.abandonSlot n slot gen).purge.plan = s.purge.plan ∧ (s.abandonSlot n slot gen).purge.begun = s.purge.begun
    ∧ (s.abandonSlot n slot gen).purge.closing = s.purge.closing
    ∧ (s.abandonSlot n slot gen).purge.suspended = s.purge.suspended
    ∧ (s.abandonSlot n slot gen).purge.heard = s.purge.heard
    ∧ (s.abandonSlot n slot gen).purge.reoffer = s.purge.reoffer
    ∧ (s.abandonSlot n slot gen).purge.pendingTarget = s.purge.pendingTarget
    ∧ (s.abandonSlot n slot gen).purge.waits = s.purge.waits ∧ (s.abandonSlot n slot gen).gate.ranges = s.gate.ranges
    ∧ (s.abandonSlot n slot gen).gate.waits = s.gate.waits ∧ (s.abandonSlot n slot gen).gate.owner = s.gate.owner
    ∧ (s.abandonSlot n slot gen).gate.holder = s.gate.holder
    ∧ (s.abandonSlot n slot gen).gate.handOver = s.gate.handOver
    ∧ (s.abandonSlot n slot gen).gate.command = s.gate.command
    ∧ (s.abandonSlot n slot gen).gate.flashBusy = s.gate.flashBusy ∧ (s.abandonSlot n slot gen).gate.op = s.gate.op
    ∧ (s.abandonSlot n slot gen).gate.driven = s.gate.driven
    ∧ (s.abandonSlot n slot gen).gate.faultCount = s.gate.faultCount
    ∧ (s.abandonSlot n slot gen).gate.channelFault = s.gate.channelFault
    ∧ (s.abandonSlot n slot gen).gate.faultPeriod = s.gate.faultPeriod
    ∧ (s.abandonSlot n slot gen).gate.periodicDue = s.gate.periodicDue
    ∧ (s.abandonSlot n slot gen).gate.grant = s.gate.grant
    ∧ (s.abandonSlot n slot gen).gate.gateDenied = s.gate.gateDenied
    ∧ (s.abandonSlot n slot gen).gate.stepTimeout = s.gate.stepTimeout
    ∧ (s.abandonSlot n slot gen).scanner.key = s.scanner.key
    ∧ (s.abandonSlot n slot gen).scanner.digits = s.scanner.digits
    ∧ (s.abandonSlot n slot gen).scanner.seq = s.scanner.seq
    ∧ (s.abandonSlot n slot gen).scanner.entrySeq = s.scanner.entrySeq
    ∧ (s.abandonSlot n slot gen).supervisor = s.supervisor ∧ (s.abandonSlot n slot gen).setup = s.setup
    ∧ (s.abandonSlot n slot gen).store.stored = s.store.stored
    ∧ (s.abandonSlot n slot gen).store.deciding = s.store.deciding := by
  unfold State.abandonSlot
  (try dsimp only)
  (repeat' split) <;> first | (simp; done) | (simp [*]; done)

@[simp] theorem State.retireSlot_frame (s : State) (n : StationNo) (slot gen : Nat) :
    (s.retireSlot n slot gen).pending = s.pending ∧ (s.retireSlot n slot gen).clock = s.clock
    ∧ (s.retireSlot n slot gen).draws = s.draws ∧ (s.retireSlot n slot gen).line.state = s.line.state
    ∧ (s.retireSlot n slot gen).line.onLine = s.line.onLine
    ∧ (s.retireSlot n slot gen).line.repeatUrgent = s.line.repeatUrgent
    ∧ (s.retireSlot n slot gen).line.repeatOther = s.line.repeatOther
    ∧ (s.retireSlot n slot gen).line.headerParity = s.line.headerParity
    ∧ (s.retireSlot n slot gen).line.checkFail = s.line.checkFail
    ∧ (s.retireSlot n slot gen).line.rxMissed = s.line.rxMissed
    ∧ (s.retireSlot n slot gen).line.txPartial = s.line.txPartial
    ∧ (s.retireSlot n slot gen).line.settle = s.line.settle
    ∧ (s.retireSlot n slot gen).line.lastDominant = s.line.lastDominant
    ∧ (s.retireSlot n slot gen).line.inReset = s.line.inReset
    ∧ (s.retireSlot n slot gen).line.sendingReset = s.line.sendingReset
    ∧ (s.retireSlot n slot gen).line.receipt = s.line.receipt ∧ (s.retireSlot n slot gen).roster = s.roster
    ∧ (s.retireSlot n slot gen).verifier = s.verifier ∧ (s.retireSlot n slot gen).slotTable.salt = s.slotTable.salt
    ∧ (s.retireSlot n slot gen).slotTable.blankKey = s.slotTable.blankKey
    ∧ (s.retireSlot n slot gen).slotTable.unlockedKey = s.slotTable.unlockedKey
    ∧ (s.retireSlot n slot gen).slotTable.slotDiverged = s.slotTable.slotDiverged
    ∧ (s.retireSlot n slot gen).phaseCtl = s.phaseCtl ∧ (s.retireSlot n slot gen).keyPort = s.keyPort
    ∧ (s.retireSlot n slot gen).purge.journal = s.purge.journal
    ∧ (s.retireSlot n slot gen).purge.badBlocks = s.purge.badBlocks
    ∧ (s.retireSlot n slot gen).purge.nextBlock = s.purge.nextBlock
    ∧ (s.retireSlot n slot gen).purge.plan = s.purge.plan ∧ (s.retireSlot n slot gen).purge.begun = s.purge.begun
    ∧ (s.retireSlot n slot gen).purge.closing = s.purge.closing
    ∧ (s.retireSlot n slot gen).purge.suspended = s.purge.suspended
    ∧ (s.retireSlot n slot gen).purge.heard = s.purge.heard
    ∧ (s.retireSlot n slot gen).purge.reoffer = s.purge.reoffer
    ∧ (s.retireSlot n slot gen).purge.pendingTarget = s.purge.pendingTarget
    ∧ (s.retireSlot n slot gen).purge.waits = s.purge.waits ∧ (s.retireSlot n slot gen).gate.ranges = s.gate.ranges
    ∧ (s.retireSlot n slot gen).gate.waits = s.gate.waits ∧ (s.retireSlot n slot gen).gate.owner = s.gate.owner
    ∧ (s.retireSlot n slot gen).gate.holder = s.gate.holder
    ∧ (s.retireSlot n slot gen).gate.handOver = s.gate.handOver
    ∧ (s.retireSlot n slot gen).gate.command = s.gate.command
    ∧ (s.retireSlot n slot gen).gate.flashBusy = s.gate.flashBusy ∧ (s.retireSlot n slot gen).gate.op = s.gate.op
    ∧ (s.retireSlot n slot gen).gate.driven = s.gate.driven
    ∧ (s.retireSlot n slot gen).gate.faultCount = s.gate.faultCount
    ∧ (s.retireSlot n slot gen).gate.channelFault = s.gate.channelFault
    ∧ (s.retireSlot n slot gen).gate.faultPeriod = s.gate.faultPeriod
    ∧ (s.retireSlot n slot gen).gate.periodicDue = s.gate.periodicDue
    ∧ (s.retireSlot n slot gen).gate.grant = s.gate.grant
    ∧ (s.retireSlot n slot gen).gate.gateDenied = s.gate.gateDenied
    ∧ (s.retireSlot n slot gen).gate.stepTimeout = s.gate.stepTimeout
    ∧ (s.retireSlot n slot gen).scanner.key = s.scanner.key
    ∧ (s.retireSlot n slot gen).scanner.digits = s.scanner.digits
    ∧ (s.retireSlot n slot gen).scanner.seq = s.scanner.seq
    ∧ (s.retireSlot n slot gen).scanner.entrySeq = s.scanner.entrySeq
    ∧ (s.retireSlot n slot gen).supervisor = s.supervisor ∧ (s.retireSlot n slot gen).setup = s.setup
    ∧ (s.retireSlot n slot gen).store.stored = s.store.stored
    ∧ (s.retireSlot n slot gen).store.deciding = s.store.deciding := by
  unfold State.retireSlot
  (try dsimp only)
  (repeat' split) <;> first | (simp; done) | (simp [*]; done)

@[simp] theorem State.handleRetire_frame (s : State) (f : RxFrame) :
    (s.handleRetire f).pending = s.pending ∧ (s.handleRetire f).clock = s.clock ∧ (s.handleRetire f).draws = s.draws
    ∧ (s.handleRetire f).line.state = s.line.state ∧ (s.handleRetire f).line.onLine = s.line.onLine
    ∧ (s.handleRetire f).line.repeatUrgent = s.line.repeatUrgent
    ∧ (s.handleRetire f).line.repeatOther = s.line.repeatOther
    ∧ (s.handleRetire f).line.headerParity = s.line.headerParity
    ∧ (s.handleRetire f).line.checkFail = s.line.checkFail ∧ (s.handleRetire f).line.rxMissed = s.line.rxMissed
    ∧ (s.handleRetire f).line.txPartial = s.line.txPartial ∧ (s.handleRetire f).line.settle = s.line.settle
    ∧ (s.handleRetire f).line.lastDominant = s.line.lastDominant ∧ (s.handleRetire f).line.inReset = s.line.inReset
    ∧ (s.handleRetire f).line.sendingReset = s.line.sendingReset ∧ (s.handleRetire f).line.receipt = s.line.receipt
    ∧ (s.handleRetire f).roster = s.roster ∧ (s.handleRetire f).verifier = s.verifier
    ∧ (s.handleRetire f).slotTable.salt = s.slotTable.salt
    ∧ (s.handleRetire f).slotTable.blankKey = s.slotTable.blankKey
    ∧ (s.handleRetire f).slotTable.unlockedKey = s.slotTable.unlockedKey
    ∧ (s.handleRetire f).slotTable.slotDiverged = s.slotTable.slotDiverged ∧ (s.handleRetire f).phaseCtl = s.phaseCtl
    ∧ (s.handleRetire f).keyPort = s.keyPort ∧ (s.handleRetire f).purge.journal = s.purge.journal
    ∧ (s.handleRetire f).purge.badBlocks = s.purge.badBlocks ∧ (s.handleRetire f).purge.nextBlock = s.purge.nextBlock
    ∧ (s.handleRetire f).purge.plan = s.purge.plan ∧ (s.handleRetire f).purge.begun = s.purge.begun
    ∧ (s.handleRetire f).purge.closing = s.purge.closing ∧ (s.handleRetire f).purge.suspended = s.purge.suspended
    ∧ (s.handleRetire f).purge.heard = s.purge.heard ∧ (s.handleRetire f).purge.reoffer = s.purge.reoffer
    ∧ (s.handleRetire f).purge.pendingTarget = s.purge.pendingTarget ∧ (s.handleRetire f).purge.waits = s.purge.waits
    ∧ (s.handleRetire f).gate.ranges = s.gate.ranges ∧ (s.handleRetire f).gate.waits = s.gate.waits
    ∧ (s.handleRetire f).gate.owner = s.gate.owner ∧ (s.handleRetire f).gate.holder = s.gate.holder
    ∧ (s.handleRetire f).gate.handOver = s.gate.handOver ∧ (s.handleRetire f).gate.command = s.gate.command
    ∧ (s.handleRetire f).gate.flashBusy = s.gate.flashBusy ∧ (s.handleRetire f).gate.op = s.gate.op
    ∧ (s.handleRetire f).gate.driven = s.gate.driven ∧ (s.handleRetire f).gate.faultCount = s.gate.faultCount
    ∧ (s.handleRetire f).gate.channelFault = s.gate.channelFault
    ∧ (s.handleRetire f).gate.faultPeriod = s.gate.faultPeriod
    ∧ (s.handleRetire f).gate.periodicDue = s.gate.periodicDue ∧ (s.handleRetire f).gate.grant = s.gate.grant
    ∧ (s.handleRetire f).gate.gateDenied = s.gate.gateDenied
    ∧ (s.handleRetire f).gate.stepTimeout = s.gate.stepTimeout ∧ (s.handleRetire f).scanner.key = s.scanner.key
    ∧ (s.handleRetire f).scanner.digits = s.scanner.digits ∧ (s.handleRetire f).scanner.seq = s.scanner.seq
    ∧ (s.handleRetire f).scanner.entrySeq = s.scanner.entrySeq ∧ (s.handleRetire f).supervisor = s.supervisor
    ∧ (s.handleRetire f).setup = s.setup ∧ (s.handleRetire f).store.stored = s.store.stored
    ∧ (s.handleRetire f).store.deciding = s.store.deciding := by
  unfold State.handleRetire
  (try dsimp only)
  (repeat' split) <;> first | (simp; done) | (simp [*]; done)

@[simp] theorem State.handleAnswer_frame (s : State) (f : RxFrame) :
    (s.handleAnswer f).pending = s.pending ∧ (s.handleAnswer f).clock = s.clock ∧ (s.handleAnswer f).draws = s.draws
    ∧ (s.handleAnswer f).line.state = s.line.state ∧ (s.handleAnswer f).line.onLine = s.line.onLine
    ∧ (s.handleAnswer f).line.repeatUrgent = s.line.repeatUrgent
    ∧ (s.handleAnswer f).line.repeatOther = s.line.repeatOther
    ∧ (s.handleAnswer f).line.headerParity = s.line.headerParity
    ∧ (s.handleAnswer f).line.checkFail = s.line.checkFail ∧ (s.handleAnswer f).line.rxMissed = s.line.rxMissed
    ∧ (s.handleAnswer f).line.txPartial = s.line.txPartial ∧ (s.handleAnswer f).line.settle = s.line.settle
    ∧ (s.handleAnswer f).line.lastDominant = s.line.lastDominant ∧ (s.handleAnswer f).line.inReset = s.line.inReset
    ∧ (s.handleAnswer f).line.sendingReset = s.line.sendingReset ∧ (s.handleAnswer f).line.receipt = s.line.receipt
    ∧ (s.handleAnswer f).roster = s.roster ∧ (s.handleAnswer f).verifier = s.verifier
    ∧ (s.handleAnswer f).slotTable.slots = s.slotTable.slots ∧ (s.handleAnswer f).slotTable.salt = s.slotTable.salt
    ∧ (s.handleAnswer f).slotTable.blankKey = s.slotTable.blankKey
    ∧ (s.handleAnswer f).slotTable.unlockedKey = s.slotTable.unlockedKey
    ∧ (s.handleAnswer f).slotTable.writes = s.slotTable.writes
    ∧ (s.handleAnswer f).slotTable.waits = s.slotTable.waits
    ∧ (s.handleAnswer f).slotTable.slotDiverged = s.slotTable.slotDiverged ∧ (s.handleAnswer f).phaseCtl = s.phaseCtl
    ∧ (s.handleAnswer f).keyPort = s.keyPort ∧ (s.handleAnswer f).purge = s.purge ∧ (s.handleAnswer f).gate = s.gate
    ∧ (s.handleAnswer f).scanner.key = s.scanner.key ∧ (s.handleAnswer f).scanner.digits = s.scanner.digits
    ∧ (s.handleAnswer f).scanner.seq = s.scanner.seq ∧ (s.handleAnswer f).scanner.entrySeq = s.scanner.entrySeq
    ∧ (s.handleAnswer f).supervisor = s.supervisor ∧ (s.handleAnswer f).setup = s.setup
    ∧ (s.handleAnswer f).store = s.store := by
  unfold State.handleAnswer
  (try dsimp only)
  (repeat' split) <;> first | (simp; done) | (simp [*]; done)

@[simp] theorem State.firstAdoption_frame (s : State) :
    s.firstAdoption.pending = s.pending ∧ s.firstAdoption.clock = s.clock ∧ s.firstAdoption.draws = s.draws
    ∧ s.firstAdoption.line.state = s.line.state ∧ s.firstAdoption.line.onLine = s.line.onLine
    ∧ s.firstAdoption.line.repeatUrgent = s.line.repeatUrgent ∧ s.firstAdoption.line.repeatOther = s.line.repeatOther
    ∧ s.firstAdoption.line.headerParity = s.line.headerParity ∧ s.firstAdoption.line.checkFail = s.line.checkFail
    ∧ s.firstAdoption.line.rxMissed = s.line.rxMissed ∧ s.firstAdoption.line.txPartial = s.line.txPartial
    ∧ s.firstAdoption.line.settle = s.line.settle ∧ s.firstAdoption.line.lastDominant = s.line.lastDominant
    ∧ s.firstAdoption.line.inReset = s.line.inReset ∧ s.firstAdoption.line.sendingReset = s.line.sendingReset
    ∧ s.firstAdoption.line.receipt = s.line.receipt ∧ s.firstAdoption.roster.sn = s.roster.sn
    ∧ s.firstAdoption.roster.kpd = s.roster.kpd ∧ s.firstAdoption.roster.startCause = s.roster.startCause
    ∧ s.firstAdoption.roster.entries = s.roster.entries ∧ s.firstAdoption.roster.answeredAt = s.roster.answeredAt
    ∧ s.firstAdoption.roster.rollOwed = s.roster.rollOwed ∧ s.firstAdoption.verifier.hold = s.verifier.hold
    ∧ s.firstAdoption.slotTable.slots = s.slotTable.slots ∧ s.firstAdoption.slotTable.salt = s.slotTable.salt
    ∧ s.firstAdoption.slotTable.waits = s.slotTable.waits
    ∧ s.firstAdoption.slotTable.slotDiverged = s.slotTable.slotDiverged
    ∧ s.firstAdoption.purge.journal = s.purge.journal ∧ s.firstAdoption.purge.badBlocks = s.purge.badBlocks
    ∧ s.firstAdoption.purge.nextBlock = s.purge.nextBlock ∧ s.firstAdoption.purge.plan = s.purge.plan
    ∧ s.firstAdoption.purge.begun = s.purge.begun ∧ s.firstAdoption.purge.closing = s.purge.closing
    ∧ s.firstAdoption.purge.suspended = s.purge.suspended ∧ s.firstAdoption.purge.heard = s.purge.heard
    ∧ s.firstAdoption.purge.reoffer = s.purge.reoffer ∧ s.firstAdoption.purge.pendingTarget = s.purge.pendingTarget
    ∧ s.firstAdoption.purge.waits = s.purge.waits ∧ s.firstAdoption.gate.ranges = s.gate.ranges
    ∧ s.firstAdoption.gate.waits = s.gate.waits ∧ s.firstAdoption.gate.holder = s.gate.holder
    ∧ s.firstAdoption.gate.flashBusy = s.gate.flashBusy ∧ s.firstAdoption.gate.op = s.gate.op
    ∧ s.firstAdoption.gate.driven = s.gate.driven ∧ s.firstAdoption.gate.faultCount = s.gate.faultCount
    ∧ s.firstAdoption.gate.channelFault = s.gate.channelFault ∧ s.firstAdoption.gate.faultPeriod = s.gate.faultPeriod
    ∧ s.firstAdoption.gate.periodicDue = s.gate.periodicDue ∧ s.firstAdoption.gate.stepTimeout = s.gate.stepTimeout
    ∧ s.firstAdoption.supervisor = s.supervisor ∧ s.firstAdoption.setup = s.setup
    ∧ s.firstAdoption.store.stored = s.store.stored ∧ s.firstAdoption.store.deciding = s.store.deciding := by
  unfold State.firstAdoption
  (try dsimp only)
  (repeat' split) <;> first | (simp; done) | (simp [*]; done)

@[simp] theorem State.settleWait_frame (s : State) (serial : Nat) (sl : Slot) (w : SlotWait) :
    (s.settleWait serial sl w).pending = s.pending ∧ (s.settleWait serial sl w).clock = s.clock
    ∧ (s.settleWait serial sl w).draws = s.draws ∧ (s.settleWait serial sl w).line.state = s.line.state
    ∧ (s.settleWait serial sl w).line.onLine = s.line.onLine
    ∧ (s.settleWait serial sl w).line.repeatUrgent = s.line.repeatUrgent
    ∧ (s.settleWait serial sl w).line.repeatOther = s.line.repeatOther
    ∧ (s.settleWait serial sl w).line.headerParity = s.line.headerParity
    ∧ (s.settleWait serial sl w).line.checkFail = s.line.checkFail
    ∧ (s.settleWait serial sl w).line.rxMissed = s.line.rxMissed
    ∧ (s.settleWait serial sl w).line.txPartial = s.line.txPartial
    ∧ (s.settleWait serial sl w).line.settle = s.line.settle
    ∧ (s.settleWait serial sl w).line.lastDominant = s.line.lastDominant
    ∧ (s.settleWait serial sl w).line.inReset = s.line.inReset
    ∧ (s.settleWait serial sl w).line.sendingReset = s.line.sendingReset
    ∧ (s.settleWait serial sl w).line.receipt = s.line.receipt ∧ (s.settleWait serial sl w).roster.sn = s.roster.sn
    ∧ (s.settleWait serial sl w).roster.kpd = s.roster.kpd
    ∧ (s.settleWait serial sl w).roster.startCause = s.roster.startCause
    ∧ (s.settleWait serial sl w).roster.entries = s.roster.entries
    ∧ (s.settleWait serial sl w).roster.answeredAt = s.roster.answeredAt
    ∧ (s.settleWait serial sl w).roster.rollOwed = s.roster.rollOwed
    ∧ (s.settleWait serial sl w).verifier.hold = s.verifier.hold
    ∧ (s.settleWait serial sl w).slotTable.slots = s.slotTable.slots
    ∧ (s.settleWait serial sl w).slotTable.salt = s.slotTable.salt
    ∧ (s.settleWait serial sl w).slotTable.waits = s.slotTable.waits
    ∧ (s.settleWait serial sl w).slotTable.slotDiverged = s.slotTable.slotDiverged
    ∧ (s.settleWait serial sl w).purge.journal = s.purge.journal
    ∧ (s.settleWait serial sl w).purge.badBlocks = s.purge.badBlocks
    ∧ (s.settleWait serial sl w).purge.nextBlock = s.purge.nextBlock
    ∧ (s.settleWait serial sl w).purge.plan = s.purge.plan ∧ (s.settleWait serial sl w).purge.begun = s.purge.begun
    ∧ (s.settleWait serial sl w).purge.closing = s.purge.closing
    ∧ (s.settleWait serial sl w).purge.suspended = s.purge.suspended
    ∧ (s.settleWait serial sl w).purge.heard = s.purge.heard
    ∧ (s.settleWait serial sl w).purge.reoffer = s.purge.reoffer
    ∧ (s.settleWait serial sl w).purge.pendingTarget = s.purge.pendingTarget
    ∧ (s.settleWait serial sl w).purge.waits = s.purge.waits ∧ (s.settleWait serial sl w).gate.ranges = s.gate.ranges
    ∧ (s.settleWait serial sl w).gate.waits = s.gate.waits ∧ (s.settleWait serial sl w).gate.holder = s.gate.holder
    ∧ (s.settleWait serial sl w).gate.flashBusy = s.gate.flashBusy ∧ (s.settleWait serial sl w).gate.op = s.gate.op
    ∧ (s.settleWait serial sl w).gate.driven = s.gate.driven
    ∧ (s.settleWait serial sl w).gate.faultCount = s.gate.faultCount
    ∧ (s.settleWait serial sl w).gate.channelFault = s.gate.channelFault
    ∧ (s.settleWait serial sl w).gate.faultPeriod = s.gate.faultPeriod
    ∧ (s.settleWait serial sl w).gate.periodicDue = s.gate.periodicDue
    ∧ (s.settleWait serial sl w).gate.stepTimeout = s.gate.stepTimeout
    ∧ (s.settleWait serial sl w).supervisor = s.supervisor ∧ (s.settleWait serial sl w).setup = s.setup
    ∧ (s.settleWait serial sl w).store.stored = s.store.stored
    ∧ (s.settleWait serial sl w).store.deciding = s.store.deciding := by
  unfold State.settleWait
  (try dsimp only)
  (repeat' split) <;> first | (simp; done) | (simp [*]; done)

@[simp] theorem State.settleHandOver_frame (s : State) (i : SlotNo) (serial : Nat) :
    (s.settleHandOver i serial).pending = s.pending ∧ (s.settleHandOver i serial).clock = s.clock
    ∧ (s.settleHandOver i serial).draws = s.draws ∧ (s.settleHandOver i serial).line.state = s.line.state
    ∧ (s.settleHandOver i serial).line.onLine = s.line.onLine
    ∧ (s.settleHandOver i serial).line.repeatUrgent = s.line.repeatUrgent
    ∧ (s.settleHandOver i serial).line.repeatOther = s.line.repeatOther
    ∧ (s.settleHandOver i serial).line.headerParity = s.line.headerParity
    ∧ (s.settleHandOver i serial).line.checkFail = s.line.checkFail
    ∧ (s.settleHandOver i serial).line.rxMissed = s.line.rxMissed
    ∧ (s.settleHandOver i serial).line.txPartial = s.line.txPartial
    ∧ (s.settleHandOver i serial).line.settle = s.line.settle
    ∧ (s.settleHandOver i serial).line.lastDominant = s.line.lastDominant
    ∧ (s.settleHandOver i serial).line.inReset = s.line.inReset
    ∧ (s.settleHandOver i serial).line.sendingReset = s.line.sendingReset
    ∧ (s.settleHandOver i serial).line.receipt = s.line.receipt ∧ (s.settleHandOver i serial).roster.sn = s.roster.sn
    ∧ (s.settleHandOver i serial).roster.kpd = s.roster.kpd
    ∧ (s.settleHandOver i serial).roster.startCause = s.roster.startCause
    ∧ (s.settleHandOver i serial).roster.entries = s.roster.entries
    ∧ (s.settleHandOver i serial).roster.answeredAt = s.roster.answeredAt
    ∧ (s.settleHandOver i serial).roster.rollOwed = s.roster.rollOwed
    ∧ (s.settleHandOver i serial).verifier.held = s.verifier.held
    ∧ (s.settleHandOver i serial).verifier.hold = s.verifier.hold
    ∧ (s.settleHandOver i serial).slotTable.slots = s.slotTable.slots
    ∧ (s.settleHandOver i serial).slotTable.salt = s.slotTable.salt
    ∧ (s.settleHandOver i serial).slotTable.blankKey = s.slotTable.blankKey
    ∧ (s.settleHandOver i serial).slotTable.writes = s.slotTable.writes
    ∧ (s.settleHandOver i serial).slotTable.waits = s.slotTable.waits
    ∧ (s.settleHandOver i serial).slotTable.enrollment = s.slotTable.enrollment
    ∧ (s.settleHandOver i serial).slotTable.slotDiverged = s.slotTable.slotDiverged
    ∧ (s.settleHandOver i serial).purge = s.purge ∧ (s.settleHandOver i serial).gate.ranges = s.gate.ranges
    ∧ (s.settleHandOver i serial).gate.writes = s.gate.writes ∧ (s.settleHandOver i serial).gate.waits = s.gate.waits
    ∧ (s.settleHandOver i serial).gate.holder = s.gate.holder
    ∧ (s.settleHandOver i serial).gate.flashBusy = s.gate.flashBusy ∧ (s.settleHandOver i serial).gate.op = s.gate.op
    ∧ (s.settleHandOver i serial).gate.driven = s.gate.driven
    ∧ (s.settleHandOver i serial).gate.faultCount = s.gate.faultCount
    ∧ (s.settleHandOver i serial).gate.channelFault = s.gate.channelFault
    ∧ (s.settleHandOver i serial).gate.faultPeriod = s.gate.faultPeriod
    ∧ (s.settleHandOver i serial).gate.periodicDue = s.gate.periodicDue
    ∧ (s.settleHandOver i serial).gate.stepTimeout = s.gate.stepTimeout
    ∧ (s.settleHandOver i serial).supervisor = s.supervisor ∧ (s.settleHandOver i serial).setup = s.setup
    ∧ (s.settleHandOver i serial).store = s.store := by
  unfold State.settleHandOver
  (try dsimp only)
  (repeat' split) <;> first | (simp; done) | (simp [*]; done)

@[simp] theorem foldl_settleWait_frame {l : List _} (serial : Nat) (sl : Slot) (s : State) :
    (List.foldl (fun s (x : SlotWait) => State.settleWait s serial sl x) s l).pending = s.pending
    ∧ (List.foldl (fun s (x : SlotWait) => State.settleWait s serial sl x) s l).clock = s.clock
    ∧ (List.foldl (fun s (x : SlotWait) => State.settleWait s serial sl x) s l).draws = s.draws
    ∧ (List.foldl (fun s (x : SlotWait) => State.settleWait s serial sl x) s l).line.state = s.line.state
    ∧ (List.foldl (fun s (x : SlotWait) => State.settleWait s serial sl x) s l).line.onLine = s.line.onLine
    ∧ (List.foldl (fun s (x : SlotWait) => State.settleWait s serial sl x) s l).line.repeatUrgent = s.line.repeatUrgent
    ∧ (List.foldl (fun s (x : SlotWait) => State.settleWait s serial sl x) s l).line.repeatOther = s.line.repeatOther
    ∧ (List.foldl (fun s (x : SlotWait) => State.settleWait s serial sl x) s l).line.headerParity = s.line.headerParity
    ∧ (List.foldl (fun s (x : SlotWait) => State.settleWait s serial sl x) s l).line.checkFail = s.line.checkFail
    ∧ (List.foldl (fun s (x : SlotWait) => State.settleWait s serial sl x) s l).line.rxMissed = s.line.rxMissed
    ∧ (List.foldl (fun s (x : SlotWait) => State.settleWait s serial sl x) s l).line.txPartial = s.line.txPartial
    ∧ (List.foldl (fun s (x : SlotWait) => State.settleWait s serial sl x) s l).line.settle = s.line.settle
    ∧ (List.foldl (fun s (x : SlotWait) => State.settleWait s serial sl x) s l).line.lastDominant = s.line.lastDominant
    ∧ (List.foldl (fun s (x : SlotWait) => State.settleWait s serial sl x) s l).line.inReset = s.line.inReset
    ∧ (List.foldl (fun s (x : SlotWait) => State.settleWait s serial sl x) s l).line.sendingReset = s.line.sendingReset
    ∧ (List.foldl (fun s (x : SlotWait) => State.settleWait s serial sl x) s l).line.receipt = s.line.receipt
    ∧ (List.foldl (fun s (x : SlotWait) => State.settleWait s serial sl x) s l).roster.sn = s.roster.sn
    ∧ (List.foldl (fun s (x : SlotWait) => State.settleWait s serial sl x) s l).roster.kpd = s.roster.kpd
    ∧ (List.foldl (fun s (x : SlotWait) => State.settleWait s serial sl x) s l).roster.startCause = s.roster.startCause
    ∧ (List.foldl (fun s (x : SlotWait) => State.settleWait s serial sl x) s l).roster.entries = s.roster.entries
    ∧ (List.foldl (fun s (x : SlotWait) => State.settleWait s serial sl x) s l).roster.answeredAt = s.roster.answeredAt
    ∧ (List.foldl (fun s (x : SlotWait) => State.settleWait s serial sl x) s l).roster.rollOwed = s.roster.rollOwed
    ∧ (List.foldl (fun s (x : SlotWait) => State.settleWait s serial sl x) s l).verifier.hold = s.verifier.hold
    ∧ (List.foldl (fun s (x : SlotWait) => State.settleWait s serial sl x) s l).slotTable.slots = s.slotTable.slots
    ∧ (List.foldl (fun s (x : SlotWait) => State.settleWait s serial sl x) s l).slotTable.salt = s.slotTable.salt
    ∧ (List.foldl (fun s (x : SlotWait) => State.settleWait s serial sl x) s l).slotTable.waits = s.slotTable.waits
    ∧ (List.foldl (fun s (x : SlotWait) => State.settleWait s serial sl x) s l).slotTable.slotDiverged = s.slotTable.slotDiverged
    ∧ (List.foldl (fun s (x : SlotWait) => State.settleWait s serial sl x) s l).purge.journal = s.purge.journal
    ∧ (List.foldl (fun s (x : SlotWait) => State.settleWait s serial sl x) s l).purge.badBlocks = s.purge.badBlocks
    ∧ (List.foldl (fun s (x : SlotWait) => State.settleWait s serial sl x) s l).purge.nextBlock = s.purge.nextBlock
    ∧ (List.foldl (fun s (x : SlotWait) => State.settleWait s serial sl x) s l).purge.plan = s.purge.plan
    ∧ (List.foldl (fun s (x : SlotWait) => State.settleWait s serial sl x) s l).purge.begun = s.purge.begun
    ∧ (List.foldl (fun s (x : SlotWait) => State.settleWait s serial sl x) s l).purge.closing = s.purge.closing
    ∧ (List.foldl (fun s (x : SlotWait) => State.settleWait s serial sl x) s l).purge.suspended = s.purge.suspended
    ∧ (List.foldl (fun s (x : SlotWait) => State.settleWait s serial sl x) s l).purge.heard = s.purge.heard
    ∧ (List.foldl (fun s (x : SlotWait) => State.settleWait s serial sl x) s l).purge.reoffer = s.purge.reoffer
    ∧ (List.foldl (fun s (x : SlotWait) => State.settleWait s serial sl x) s l).purge.pendingTarget = s.purge.pendingTarget
    ∧ (List.foldl (fun s (x : SlotWait) => State.settleWait s serial sl x) s l).purge.waits = s.purge.waits
    ∧ (List.foldl (fun s (x : SlotWait) => State.settleWait s serial sl x) s l).gate.ranges = s.gate.ranges
    ∧ (List.foldl (fun s (x : SlotWait) => State.settleWait s serial sl x) s l).gate.waits = s.gate.waits
    ∧ (List.foldl (fun s (x : SlotWait) => State.settleWait s serial sl x) s l).gate.holder = s.gate.holder
    ∧ (List.foldl (fun s (x : SlotWait) => State.settleWait s serial sl x) s l).gate.flashBusy = s.gate.flashBusy
    ∧ (List.foldl (fun s (x : SlotWait) => State.settleWait s serial sl x) s l).gate.op = s.gate.op
    ∧ (List.foldl (fun s (x : SlotWait) => State.settleWait s serial sl x) s l).gate.driven = s.gate.driven
    ∧ (List.foldl (fun s (x : SlotWait) => State.settleWait s serial sl x) s l).gate.faultCount = s.gate.faultCount
    ∧ (List.foldl (fun s (x : SlotWait) => State.settleWait s serial sl x) s l).gate.channelFault = s.gate.channelFault
    ∧ (List.foldl (fun s (x : SlotWait) => State.settleWait s serial sl x) s l).gate.faultPeriod = s.gate.faultPeriod
    ∧ (List.foldl (fun s (x : SlotWait) => State.settleWait s serial sl x) s l).gate.periodicDue = s.gate.periodicDue
    ∧ (List.foldl (fun s (x : SlotWait) => State.settleWait s serial sl x) s l).gate.stepTimeout = s.gate.stepTimeout
    ∧ (List.foldl (fun s (x : SlotWait) => State.settleWait s serial sl x) s l).supervisor = s.supervisor
    ∧ (List.foldl (fun s (x : SlotWait) => State.settleWait s serial sl x) s l).setup = s.setup
    ∧ (List.foldl (fun s (x : SlotWait) => State.settleWait s serial sl x) s l).store.stored = s.store.stored
    ∧ (List.foldl (fun s (x : SlotWait) => State.settleWait s serial sl x) s l).store.deciding = s.store.deciding := by
  induction l generalizing s with
  | nil => simp
  | cons a l ih => simp [ih]

@[simp] theorem State.slotStored_frame (s : State) (w : InFlight) :
    (s.slotStored w).pending = s.pending ∧ (s.slotStored w).clock = s.clock ∧ (s.slotStored w).draws = s.draws
    ∧ (s.slotStored w).roster.sn = s.roster.sn ∧ (s.slotStored w).roster.kpd = s.roster.kpd
    ∧ (s.slotStored w).roster.startCause = s.roster.startCause ∧ (s.slotStored w).roster.entries = s.roster.entries
    ∧ (s.slotStored w).roster.rollOwed = s.roster.rollOwed ∧ (s.slotStored w).verifier.hold = s.verifier.hold
    ∧ (s.slotStored w).slotTable.slots = s.slotTable.slots ∧ (s.slotStored w).slotTable.salt = s.slotTable.salt
    ∧ (s.slotStored w).slotTable.slotDiverged = s.slotTable.slotDiverged
    ∧ (s.slotStored w).purge.journal = s.purge.journal ∧ (s.slotStored w).purge.badBlocks = s.purge.badBlocks
    ∧ (s.slotStored w).purge.nextBlock = s.purge.nextBlock ∧ (s.slotStored w).purge.plan = s.purge.plan
    ∧ (s.slotStored w).purge.begun = s.purge.begun ∧ (s.slotStored w).purge.closing = s.purge.closing
    ∧ (s.slotStored w).purge.suspended = s.purge.suspended ∧ (s.slotStored w).purge.heard = s.purge.heard
    ∧ (s.slotStored w).purge.pendingTarget = s.purge.pendingTarget ∧ (s.slotStored w).purge.waits = s.purge.waits
    ∧ (s.slotStored w).gate.ranges = s.gate.ranges ∧ (s.slotStored w).gate.waits = s.gate.waits
    ∧ (s.slotStored w).gate.holder = s.gate.holder ∧ (s.slotStored w).gate.flashBusy = s.gate.flashBusy
    ∧ (s.slotStored w).gate.op = s.gate.op ∧ (s.slotStored w).gate.driven = s.gate.driven
    ∧ (s.slotStored w).gate.faultCount = s.gate.faultCount ∧ (s.slotStored w).gate.channelFault = s.gate.channelFault
    ∧ (s.slotStored w).supervisor = s.supervisor ∧ (s.slotStored w).setup = s.setup
    ∧ (s.slotStored w).store.stored = s.store.stored ∧ (s.slotStored w).store.deciding = s.store.deciding := by
  unfold State.slotStored
  (try dsimp only)
  (repeat' split) <;> first | (simp; done) | (simp [*]; done)

end Sys2Proof.Machine
end

