-- ==== Sys2Proof/Laws/FramesCommands.lean ====
section
/-! SUPPORT. What the steps of the single commands leave as it was, in the form of Laws/Frames.lean. -/

set_option Elab.async false
set_option linter.unusedTactic false
set_option linter.unreachableTactic false
set_option linter.unnecessarySeqFocus false

namespace Sys2Proof.Machine

@[simp] theorem State.actOnEntry_frame (s : State) (n : StationNo) (e : EntryFields) (f : EntryFinding) :
    (s.actOnEntry n e f).pending = s.pending ∧ (s.actOnEntry n e f).clock = s.clock
    ∧ (s.actOnEntry n e f).draws = s.draws ∧ (s.actOnEntry n e f).line.state = s.line.state
    ∧ (s.actOnEntry n e f).line.onLine = s.line.onLine ∧ (s.actOnEntry n e f).line.repeatUrgent = s.line.repeatUrgent
    ∧ (s.actOnEntry n e f).line.repeatOther = s.line.repeatOther
    ∧ (s.actOnEntry n e f).line.headerParity = s.line.headerParity
    ∧ (s.actOnEntry n e f).line.checkFail = s.line.checkFail ∧ (s.actOnEntry n e f).line.rxMissed = s.line.rxMissed
    ∧ (s.actOnEntry n e f).line.txPartial = s.line.txPartial ∧ (s.actOnEntry n e f).line.settle = s.line.settle
    ∧ (s.actOnEntry n e f).line.lastDominant = s.line.lastDominant
    ∧ (s.actOnEntry n e f).line.inReset = s.line.inReset
    ∧ (s.actOnEntry n e f).line.sendingReset = s.line.sendingReset
    ∧ (s.actOnEntry n e f).line.receipt = s.line.receipt ∧ (s.actOnEntry n e f).roster.sn = s.roster.sn
    ∧ (s.actOnEntry n e f).roster.kpd = s.roster.kpd ∧ (s.actOnEntry n e f).roster.startCause = s.roster.startCause
    ∧ (s.actOnEntry n e f).roster.entries = s.roster.entries
    ∧ (s.actOnEntry n e f).roster.answeredAt = s.roster.answeredAt
    ∧ (s.actOnEntry n e f).roster.rollOwed = s.roster.rollOwed ∧ (s.actOnEntry n e f).verifier.hold = s.verifier.hold
    ∧ (s.actOnEntry n e f).slotTable = s.slotTable ∧ (s.actOnEntry n e f).keyPort = s.keyPort
    ∧ (s.actOnEntry n e f).purge = s.purge ∧ (s.actOnEntry n e f).gate.ranges = s.gate.ranges
    ∧ (s.actOnEntry n e f).gate.writes = s.gate.writes ∧ (s.actOnEntry n e f).gate.waits = s.gate.waits
    ∧ (s.actOnEntry n e f).gate.holder = s.gate.holder ∧ (s.actOnEntry n e f).gate.flashBusy = s.gate.flashBusy
    ∧ (s.actOnEntry n e f).gate.op = s.gate.op ∧ (s.actOnEntry n e f).gate.driven = s.gate.driven
    ∧ (s.actOnEntry n e f).gate.faultCount = s.gate.faultCount
    ∧ (s.actOnEntry n e f).gate.channelFault = s.gate.channelFault
    ∧ (s.actOnEntry n e f).gate.faultPeriod = s.gate.faultPeriod
    ∧ (s.actOnEntry n e f).gate.periodicDue = s.gate.periodicDue
    ∧ (s.actOnEntry n e f).gate.stepTimeout = s.gate.stepTimeout ∧ (s.actOnEntry n e f).supervisor = s.supervisor
    ∧ (s.actOnEntry n e f).setup = s.setup ∧ (s.actOnEntry n e f).store.stored = s.store.stored
    ∧ (s.actOnEntry n e f).store.deciding = s.store.deciding := by
  unfold State.actOnEntry
  (try dsimp only)
  (repeat' split) <;> first | (simp; done) | (simp [*]; done)

@[simp] theorem State.takeEntry_frame (s : State) (f : RxFrame) :
    (s.takeEntry f).pending = s.pending ∧ (s.takeEntry f).clock = s.clock ∧ (s.takeEntry f).draws = s.draws
    ∧ (s.takeEntry f).line.state = s.line.state ∧ (s.takeEntry f).line.onLine = s.line.onLine
    ∧ (s.takeEntry f).line.repeatUrgent = s.line.repeatUrgent ∧ (s.takeEntry f).line.repeatOther = s.line.repeatOther
    ∧ (s.takeEntry f).line.headerParity = s.line.headerParity ∧ (s.takeEntry f).line.checkFail = s.line.checkFail
    ∧ (s.takeEntry f).line.rxMissed = s.line.rxMissed ∧ (s.takeEntry f).line.txPartial = s.line.txPartial
    ∧ (s.takeEntry f).line.settle = s.line.settle ∧ (s.takeEntry f).line.lastDominant = s.line.lastDominant
    ∧ (s.takeEntry f).line.inReset = s.line.inReset ∧ (s.takeEntry f).line.sendingReset = s.line.sendingReset
    ∧ (s.takeEntry f).line.receipt = s.line.receipt ∧ (s.takeEntry f).roster.sn = s.roster.sn
    ∧ (s.takeEntry f).roster.kpd = s.roster.kpd ∧ (s.takeEntry f).roster.startCause = s.roster.startCause
    ∧ (s.takeEntry f).roster.entries = s.roster.entries ∧ (s.takeEntry f).roster.answeredAt = s.roster.answeredAt
    ∧ (s.takeEntry f).roster.rollOwed = s.roster.rollOwed ∧ (s.takeEntry f).verifier.hold = s.verifier.hold
    ∧ (s.takeEntry f).slotTable = s.slotTable ∧ (s.takeEntry f).keyPort = s.keyPort ∧ (s.takeEntry f).purge = s.purge
    ∧ (s.takeEntry f).gate.ranges = s.gate.ranges ∧ (s.takeEntry f).gate.writes = s.gate.writes
    ∧ (s.takeEntry f).gate.waits = s.gate.waits ∧ (s.takeEntry f).gate.holder = s.gate.holder
    ∧ (s.takeEntry f).gate.flashBusy = s.gate.flashBusy ∧ (s.takeEntry f).gate.op = s.gate.op
    ∧ (s.takeEntry f).gate.driven = s.gate.driven ∧ (s.takeEntry f).gate.faultCount = s.gate.faultCount
    ∧ (s.takeEntry f).gate.channelFault = s.gate.channelFault ∧ (s.takeEntry f).gate.faultPeriod = s.gate.faultPeriod
    ∧ (s.takeEntry f).gate.periodicDue = s.gate.periodicDue ∧ (s.takeEntry f).gate.stepTimeout = s.gate.stepTimeout
    ∧ (s.takeEntry f).supervisor = s.supervisor ∧ (s.takeEntry f).setup = s.setup
    ∧ (s.takeEntry f).store.stored = s.store.stored ∧ (s.takeEntry f).store.deciding = s.store.deciding := by
  unfold State.takeEntry
  (try dsimp only)
  (repeat' split) <;> first | (simp; done) | (simp [*]; done)

@[simp] theorem State.handleEntry_frame (s : State) (f : RxFrame) :
    (s.handleEntry f).pending = s.pending ∧ (s.handleEntry f).clock = s.clock ∧ (s.handleEntry f).draws = s.draws
    ∧ (s.handleEntry f).line.state = s.line.state ∧ (s.handleEntry f).line.onLine = s.line.onLine
    ∧ (s.handleEntry f).line.repeatUrgent = s.line.repeatUrgent
    ∧ (s.handleEntry f).line.repeatOther = s.line.repeatOther
    ∧ (s.handleEntry f).line.headerParity = s.line.headerParity ∧ (s.handleEntry f).line.checkFail = s.line.checkFail
    ∧ (s.handleEntry f).line.rxMissed = s.line.rxMissed ∧ (s.handleEntry f).line.txPartial = s.line.txPartial
    ∧ (s.handleEntry f).line.settle = s.line.settle ∧ (s.handleEntry f).line.lastDominant = s.line.lastDominant
    ∧ (s.handleEntry f).line.inReset = s.line.inReset ∧ (s.handleEntry f).line.sendingReset = s.line.sendingReset
    ∧ (s.handleEntry f).line.receipt = s.line.receipt ∧ (s.handleEntry f).roster.sn = s.roster.sn
    ∧ (s.handleEntry f).roster.kpd = s.roster.kpd ∧ (s.handleEntry f).roster.startCause = s.roster.startCause
    ∧ (s.handleEntry f).roster.entries = s.roster.entries ∧ (s.handleEntry f).roster.answeredAt = s.roster.answeredAt
    ∧ (s.handleEntry f).roster.rollOwed = s.roster.rollOwed ∧ (s.handleEntry f).verifier.hold = s.verifier.hold
    ∧ (s.handleEntry f).slotTable = s.slotTable ∧ (s.handleEntry f).keyPort = s.keyPort
    ∧ (s.handleEntry f).purge = s.purge ∧ (s.handleEntry f).gate.ranges = s.gate.ranges
    ∧ (s.handleEntry f).gate.writes = s.gate.writes ∧ (s.handleEntry f).gate.waits = s.gate.waits
    ∧ (s.handleEntry f).gate.holder = s.gate.holder ∧ (s.handleEntry f).gate.flashBusy = s.gate.flashBusy
    ∧ (s.handleEntry f).gate.op = s.gate.op ∧ (s.handleEntry f).gate.driven = s.gate.driven
    ∧ (s.handleEntry f).gate.faultCount = s.gate.faultCount
    ∧ (s.handleEntry f).gate.channelFault = s.gate.channelFault
    ∧ (s.handleEntry f).gate.faultPeriod = s.gate.faultPeriod
    ∧ (s.handleEntry f).gate.periodicDue = s.gate.periodicDue
    ∧ (s.handleEntry f).gate.stepTimeout = s.gate.stepTimeout ∧ (s.handleEntry f).supervisor = s.supervisor
    ∧ (s.handleEntry f).setup = s.setup ∧ (s.handleEntry f).store.stored = s.store.stored
    ∧ (s.handleEntry f).store.deciding = s.store.deciding := by
  unfold State.handleEntry
  (try dsimp only)
  (repeat' split) <;> first | (simp; done) | (simp [*]; done)

@[simp] theorem State.settleWakingKey_frame (s : State) (w : WakeCause) :
    (s.settleWakingKey w).pending = s.pending ∧ (s.settleWakingKey w).clock = s.clock
    ∧ (s.settleWakingKey w).draws = s.draws ∧ (s.settleWakingKey w).line = s.line
    ∧ (s.settleWakingKey w).roster = s.roster ∧ (s.settleWakingKey w).verifier = s.verifier
    ∧ (s.settleWakingKey w).slotTable = s.slotTable ∧ (s.settleWakingKey w).phaseCtl = s.phaseCtl
    ∧ (s.settleWakingKey w).keyPort = s.keyPort ∧ (s.settleWakingKey w).purge = s.purge
    ∧ (s.settleWakingKey w).gate = s.gate ∧ (s.settleWakingKey w).scanner.digits = s.scanner.digits
    ∧ (s.settleWakingKey w).scanner.transient = s.scanner.transient
    ∧ (s.settleWakingKey w).scanner.seq = s.scanner.seq ∧ (s.settleWakingKey w).scanner.entrySeq = s.scanner.entrySeq
    ∧ (s.settleWakingKey w).supervisor = s.supervisor ∧ (s.settleWakingKey w).setup = s.setup
    ∧ (s.settleWakingKey w).store = s.store := by
  unfold State.settleWakingKey
  (try dsimp only)
  (repeat' split) <;> first | (simp; done) | (simp [*]; done)

@[simp] theorem State.handleLock_frame (s : State) (f : RxFrame) :
    (s.handleLock f).pending = s.pending ∧ (s.handleLock f).clock = s.clock ∧ (s.handleLock f).draws = s.draws
    ∧ (s.handleLock f).line.state = s.line.state ∧ (s.handleLock f).line.onLine = s.line.onLine
    ∧ (s.handleLock f).line.repeatUrgent = s.line.repeatUrgent
    ∧ (s.handleLock f).line.repeatOther = s.line.repeatOther
    ∧ (s.handleLock f).line.headerParity = s.line.headerParity ∧ (s.handleLock f).line.checkFail = s.line.checkFail
    ∧ (s.handleLock f).line.rxMissed = s.line.rxMissed ∧ (s.handleLock f).line.txPartial = s.line.txPartial
    ∧ (s.handleLock f).line.settle = s.line.settle ∧ (s.handleLock f).line.lastDominant = s.line.lastDominant
    ∧ (s.handleLock f).line.inReset = s.line.inReset ∧ (s.handleLock f).line.sendingReset = s.line.sendingReset
    ∧ (s.handleLock f).line.receipt = s.line.receipt ∧ (s.handleLock f).roster.sn = s.roster.sn
    ∧ (s.handleLock f).roster.kpd = s.roster.kpd ∧ (s.handleLock f).roster.startCause = s.roster.startCause
    ∧ (s.handleLock f).roster.entries = s.roster.entries ∧ (s.handleLock f).roster.answeredAt = s.roster.answeredAt
    ∧ (s.handleLock f).roster.rollOwed = s.roster.rollOwed ∧ (s.handleLock f).slotTable.slots = s.slotTable.slots
    ∧ (s.handleLock f).slotTable.salt = s.slotTable.salt ∧ (s.handleLock f).slotTable.blankKey = s.slotTable.blankKey
    ∧ (s.handleLock f).slotTable.waits = s.slotTable.waits
    ∧ (s.handleLock f).slotTable.slotDiverged = s.slotTable.slotDiverged
    ∧ (s.handleLock f).purge.badBlocks = s.purge.badBlocks ∧ (s.handleLock f).purge.waits = s.purge.waits
    ∧ (s.handleLock f).gate.ranges = s.gate.ranges ∧ (s.handleLock f).gate.waits = s.gate.waits
    ∧ (s.handleLock f).gate.holder = s.gate.holder ∧ (s.handleLock f).gate.flashBusy = s.gate.flashBusy
    ∧ (s.handleLock f).gate.op = s.gate.op ∧ (s.handleLock f).gate.driven = s.gate.driven
    ∧ (s.handleLock f).gate.faultCount = s.gate.faultCount ∧ (s.handleLock f).gate.channelFault = s.gate.channelFault
    ∧ (s.handleLock f).gate.faultPeriod = s.gate.faultPeriod ∧ (s.handleLock f).gate.periodicDue = s.gate.periodicDue
    ∧ (s.handleLock f).gate.stepTimeout = s.gate.stepTimeout ∧ (s.handleLock f).supervisor = s.supervisor
    ∧ (s.handleLock f).setup = s.setup ∧ (s.handleLock f).store.stored = s.store.stored
    ∧ (s.handleLock f).store.deciding = s.store.deciding := by
  unfold State.handleLock
  (try dsimp only)
  (repeat' split) <;> first | (simp; done) | (simp [*]; done)

@[simp] theorem State.handlePurge_frame (s : State) (f : RxFrame) :
    (s.handlePurge f).pending = s.pending ∧ (s.handlePurge f).clock = s.clock ∧ (s.handlePurge f).draws = s.draws
    ∧ (s.handlePurge f).line.state = s.line.state ∧ (s.handlePurge f).line.onLine = s.line.onLine
    ∧ (s.handlePurge f).line.repeatUrgent = s.line.repeatUrgent
    ∧ (s.handlePurge f).line.repeatOther = s.line.repeatOther
    ∧ (s.handlePurge f).line.headerParity = s.line.headerParity ∧ (s.handlePurge f).line.checkFail = s.line.checkFail
    ∧ (s.handlePurge f).line.rxMissed = s.line.rxMissed ∧ (s.handlePurge f).line.txPartial = s.line.txPartial
    ∧ (s.handlePurge f).line.settle = s.line.settle ∧ (s.handlePurge f).line.lastDominant = s.line.lastDominant
    ∧ (s.handlePurge f).line.inReset = s.line.inReset ∧ (s.handlePurge f).line.sendingReset = s.line.sendingReset
    ∧ (s.handlePurge f).line.receipt = s.line.receipt ∧ (s.handlePurge f).roster.sn = s.roster.sn
    ∧ (s.handlePurge f).roster.kpd = s.roster.kpd ∧ (s.handlePurge f).roster.startCause = s.roster.startCause
    ∧ (s.handlePurge f).roster.entries = s.roster.entries ∧ (s.handlePurge f).roster.answeredAt = s.roster.answeredAt
    ∧ (s.handlePurge f).slotTable.slots = s.slotTable.slots ∧ (s.handlePurge f).slotTable.salt = s.slotTable.salt
    ∧ (s.handlePurge f).slotTable.blankKey = s.slotTable.blankKey
    ∧ (s.handlePurge f).slotTable.waits = s.slotTable.waits
    ∧ (s.handlePurge f).slotTable.slotDiverged = s.slotTable.slotDiverged
    ∧ (s.handlePurge f).purge.badBlocks = s.purge.badBlocks ∧ (s.handlePurge f).purge.waits = s.purge.waits
    ∧ (s.handlePurge f).gate.holder = s.gate.holder ∧ (s.handlePurge f).gate.flashBusy = s.gate.flashBusy
    ∧ (s.handlePurge f).gate.op = s.gate.op ∧ (s.handlePurge f).gate.driven = s.gate.driven
    ∧ (s.handlePurge f).gate.faultCount = s.gate.faultCount
    ∧ (s.handlePurge f).gate.channelFault = s.gate.channelFault
    ∧ (s.handlePurge f).gate.faultPeriod = s.gate.faultPeriod
    ∧ (s.handlePurge f).gate.periodicDue = s.gate.periodicDue
    ∧ (s.handlePurge f).gate.stepTimeout = s.gate.stepTimeout
    ∧ (s.handlePurge f).supervisor.supplyValid = s.supervisor.supplyValid
    ∧ (s.handlePurge f).supervisor.dormant = s.supervisor.dormant
    ∧ (s.handlePurge f).supervisor.attached = s.supervisor.attached
    ∧ (s.handlePurge f).supervisor.band = s.supervisor.band
    ∧ (s.handlePurge f).supervisor.tamperAsserted = s.supervisor.tamperAsserted
    ∧ (s.handlePurge f).supervisor.haltMark = s.supervisor.haltMark ∧ (s.handlePurge f).setup = s.setup
    ∧ (s.handlePurge f).store.stored = s.store.stored ∧ (s.handlePurge f).store.deciding = s.store.deciding := by
  unfold State.handlePurge
  (try dsimp only)
  (repeat' split) <;> first | (simp; done) | (simp [*]; done)

@[simp] theorem State.answerPurge_frame (s : State) (n : StationNo) (r : AnswerResult) (target : Nat) :
    (s.answerPurge n r target).pending = s.pending ∧ (s.answerPurge n r target).clock = s.clock
    ∧ (s.answerPurge n r target).draws = s.draws ∧ (s.answerPurge n r target).line.state = s.line.state
    ∧ (s.answerPurge n r target).line.onLine = s.line.onLine
    ∧ (s.answerPurge n r target).line.repeatUrgent = s.line.repeatUrgent
    ∧ (s.answerPurge n r target).line.repeatOther = s.line.repeatOther
    ∧ (s.answerPurge n r target).line.headerParity = s.line.headerParity
    ∧ (s.answerPurge n r target).line.checkFail = s.line.checkFail
    ∧ (s.answerPurge n r target).line.rxMissed = s.line.rxMissed
    ∧ (s.answerPurge n r target).line.txPartial = s.line.txPartial
    ∧ (s.answerPurge n r target).line.settle = s.line.settle
    ∧ (s.answerPurge n r target).line.lastDominant = s.line.lastDominant
    ∧ (s.answerPurge n r target).line.inReset = s.line.inReset
    ∧ (s.answerPurge n r target).line.sendingReset = s.line.sendingReset
    ∧ (s.answerPurge n r target).line.receipt = s.line.receipt ∧ (s.answerPurge n r target).roster = s.roster
    ∧ (s.answerPurge n r target).verifier = s.verifier ∧ (s.answerPurge n r target).slotTable = s.slotTable
    ∧ (s.answerPurge n r target).phaseCtl = s.phaseCtl ∧ (s.answerPurge n r target).keyPort = s.keyPort
    ∧ (s.answerPurge n r target).purge = s.purge ∧ (s.answerPurge n r target).gate = s.gate
    ∧ (s.answerPurge n r target).scanner = s.scanner ∧ (s.answerPurge n r target).supervisor = s.supervisor
    ∧ (s.answerPurge n r target).setup = s.setup ∧ (s.answerPurge n r target).store = s.store := by
  unfold State.answerPurge
  (try dsimp only)
  (repeat' split) <;> first | (simp; done) | (simp [*]; done)

@[simp] theorem State.awaitPurge_frame (s : State) (n : StationNo) (target : Nat) :
    (s.awaitPurge n target).pending = s.pending ∧ (s.awaitPurge n target).clock = s.clock
    ∧ (s.awaitPurge n target).draws = s.draws ∧ (s.awaitPurge n target).line = s.line
    ∧ (s.awaitPurge n target).roster = s.roster ∧ (s.awaitPurge n target).verifier = s.verifier
    ∧ (s.awaitPurge n target).slotTable = s.slotTable ∧ (s.awaitPurge n target).phaseCtl = s.phaseCtl
    ∧ (s.awaitPurge n target).keyPort = s.keyPort ∧ (s.awaitPurge n target).purge.journal = s.purge.journal
    ∧ (s.awaitPurge n target).purge.badBlocks = s.purge.badBlocks
    ∧ (s.awaitPurge n target).purge.nextBlock = s.purge.nextBlock
    ∧ (s.awaitPurge n target).purge.writes = s.purge.writes ∧ (s.awaitPurge n target).purge.plan = s.purge.plan
    ∧ (s.awaitPurge n target).purge.begun = s.purge.begun ∧ (s.awaitPurge n target).purge.closing = s.purge.closing
    ∧ (s.awaitPurge n target).purge.suspended = s.purge.suspended
    ∧ (s.awaitPurge n target).purge.heard = s.purge.heard ∧ (s.awaitPurge n target).purge.reoffer = s.purge.reoffer
    ∧ (s.awaitPurge n target).purge.pendingTarget = s.purge.pendingTarget ∧ (s.awaitPurge n target).gate = s.gate
    ∧ (s.awaitPurge n target).scanner = s.scanner ∧ (s.awaitPurge n target).supervisor = s.supervisor
    ∧ (s.awaitPurge n target).setup = s.setup ∧ (s.awaitPurge n target).store = s.store := by
  unfold State.awaitPurge
  (try dsimp only)
  (repeat' split) <;> first | (simp; done) | (simp [*]; done)

@[simp] theorem State.handleControllerPurge_frame (s : State) (f : RxFrame) :
    (s.handleControllerPurge f).pending = s.pending ∧ (s.handleControllerPurge f).clock = s.clock
    ∧ (s.handleControllerPurge f).draws = s.draws ∧ (s.handleControllerPurge f).line.state = s.line.state
    ∧ (s.handleControllerPurge f).line.onLine = s.line.onLine
    ∧ (s.handleControllerPurge f).line.repeatUrgent = s.line.repeatUrgent
    ∧ (s.handleControllerPurge f).line.repeatOther = s.line.repeatOther
    ∧ (s.handleControllerPurge f).line.headerParity = s.line.headerParity
    ∧ (s.handleControllerPurge f).line.checkFail = s.line.checkFail
    ∧ (s.handleControllerPurge f).line.rxMissed = s.line.rxMissed
    ∧ (s.handleControllerPurge f).line.txPartial = s.line.txPartial
    ∧ (s.handleControllerPurge f).line.settle = s.line.settle
    ∧ (s.handleControllerPurge f).line.lastDominant = s.line.lastDominant
    ∧ (s.handleControllerPurge f).line.inReset = s.line.inReset
    ∧ (s.handleControllerPurge f).line.sendingReset = s.line.sendingReset
    ∧ (s.handleControllerPurge f).line.receipt = s.line.receipt ∧ (s.handleControllerPurge f).roster.sn = s.roster.sn
    ∧ (s.handleControllerPurge f).roster.kpd = s.roster.kpd
    ∧ (s.handleControllerPurge f).roster.startCause = s.roster.startCause
    ∧ (s.handleControllerPurge f).roster.entries = s.roster.entries
    ∧ (s.handleControllerPurge f).roster.answeredAt = s.roster.answeredAt
    ∧ (s.handleControllerPurge f).slotTable.slots = s.slotTable.slots
    ∧ (s.handleControllerPurge f).slotTable.salt = s.slotTable.salt
    ∧ (s.handleControllerPurge f).slotTable.blankKey = s.slotTable.blankKey
    ∧ (s.handleControllerPurge f).slotTable.waits = s.slotTable.waits
    ∧ (s.handleControllerPurge f).slotTable.slotDiverged = s.slotTable.slotDiverged
    ∧ (s.handleControllerPurge f).purge.badBlocks = s.purge.badBlocks
    ∧ (s.handleControllerPurge f).gate.holder = s.gate.holder
    ∧ (s.handleControllerPurge f).gate.flashBusy = s.gate.flashBusy ∧ (s.handleControllerPurge f).gate.op = s.gate.op
    ∧ (s.handleControllerPurge f).gate.driven = s.gate.driven
    ∧ (s.handleControllerPurge f).gate.faultCount = s.gate.faultCount
    ∧ (s.handleControllerPurge f).gate.channelFault = s.gate.channelFault
    ∧ (s.handleControllerPurge f).gate.faultPeriod = s.gate.faultPeriod
    ∧ (s.handleControllerPurge f).gate.periodicDue = s.gate.periodicDue
    ∧ (s.handleControllerPurge f).gate.stepTimeout = s.gate.stepTimeout
    ∧ (s.handleControllerPurge f).supervisor.supplyValid = s.supervisor.supplyValid
    ∧ (s.handleControllerPurge f).supervisor.dormant = s.supervisor.dormant
    ∧ (s.handleControllerPurge f).supervisor.attached = s.supervisor.attached
    ∧ (s.handleControllerPurge f).supervisor.band = s.supervisor.band
    ∧ (s.handleControllerPurge f).supervisor.tamperAsserted = s.supervisor.tamperAsserted
    ∧ (s.handleControllerPurge f).supervisor.haltMark = s.supervisor.haltMark
    ∧ (s.handleControllerPurge f).setup = s.setup ∧ (s.handleControllerPurge f).store.stored = s.store.stored
    ∧ (s.handleControllerPurge f).store.deciding = s.store.deciding := by
  unfold State.handleControllerPurge
  (try dsimp only)
  (repeat' split) <;> first | (simp; done) | (simp [*]; done)

@[simp] theorem State.handlePurged_frame (s : State) (f : RxFrame) :
    (s.handlePurged f).pending = s.pending ∧ (s.handlePurged f).clock = s.clock ∧ (s.handlePurged f).draws = s.draws
    ∧ (s.handlePurged f).line.repeatUrgent = s.line.repeatUrgent
    ∧ (s.handlePurged f).line.repeatOther = s.line.repeatOther
    ∧ (s.handlePurged f).line.headerParity = s.line.headerParity
    ∧ (s.handlePurged f).line.checkFail = s.line.checkFail ∧ (s.handlePurged f).line.rxMissed = s.line.rxMissed
    ∧ (s.handlePurged f).line.txPartial = s.line.txPartial ∧ (s.handlePurged f).line.settle = s.line.settle
    ∧ (s.handlePurged f).line.inReset = s.line.inReset ∧ (s.handlePurged f).line.receipt = s.line.receipt
    ∧ (s.handlePurged f).roster.sn = s.roster.sn ∧ (s.handlePurged f).roster.kpd = s.roster.kpd
    ∧ (s.handlePurged f).roster.startCause = s.roster.startCause
    ∧ (s.handlePurged f).roster.answeredAt = s.roster.answeredAt
    ∧ (s.handlePurged f).slotTable.salt = s.slotTable.salt ∧ (s.handlePurged f).purge.badBlocks = s.purge.badBlocks
    ∧ (s.handlePurged f).purge.waits = s.purge.waits ∧ (s.handlePurged f).gate.holder = s.gate.holder
    ∧ (s.handlePurged f).gate.flashBusy = s.gate.flashBusy ∧ (s.handlePurged f).gate.op = s.gate.op
    ∧ (s.handlePurged f).gate.driven = s.gate.driven ∧ (s.handlePurged f).gate.faultCount = s.gate.faultCount
    ∧ (s.handlePurged f).gate.channelFault = s.gate.channelFault
    ∧ (s.handlePurged f).supervisor.supplyValid = s.supervisor.supplyValid
    ∧ (s.handlePurged f).supervisor.dormant = s.supervisor.dormant
    ∧ (s.handlePurged f).supervisor.attached = s.supervisor.attached
    ∧ (s.handlePurged f).supervisor.band = s.supervisor.band
    ∧ (s.handlePurged f).supervisor.tamperAsserted = s.supervisor.tamperAsserted ∧ (s.handlePurged f).setup = s.setup
    ∧ (s.handlePurged f).store.stored = s.store.stored ∧ (s.handlePurged f).store.deciding = s.store.deciding := by
  unfold State.handlePurged
  (try dsimp only)
  (repeat' split) <;> first | (simp; done) | (simp [*]; done)

@[simp] theorem State.offerPurged_frame (s : State) :
    s.offerPurged.pending = s.pending ∧ s.offerPurged.clock = s.clock ∧ s.offerPurged.draws = s.draws
    ∧ s.offerPurged.line.state = s.line.state ∧ s.offerPurged.line.onLine = s.line.onLine
    ∧ s.offerPurged.line.repeatUrgent = s.line.repeatUrgent ∧ s.offerPurged.line.repeatOther = s.line.repeatOther
    ∧ s.offerPurged.line.headerParity = s.line.headerParity ∧ s.offerPurged.line.checkFail = s.line.checkFail
    ∧ s.offerPurged.line.rxMissed = s.line.rxMissed ∧ s.offerPurged.line.txPartial = s.line.txPartial
    ∧ s.offerPurged.line.settle = s.line.settle ∧ s.offerPurged.line.lastDominant = s.line.lastDominant
    ∧ s.offerPurged.line.inReset = s.line.inReset ∧ s.offerPurged.line.sendingReset = s.line.sendingReset
    ∧ s.offerPurged.line.receipt = s.line.receipt ∧ s.offerPurged.roster = s.roster
    ∧ s.offerPurged.verifier = s.verifier ∧ s.offerPurged.slotTable = s.slotTable
    ∧ s.offerPurged.phaseCtl = s.phaseCtl ∧ s.offerPurged.keyPort = s.keyPort ∧ s.offerPurged.purge = s.purge
    ∧ s.offerPurged.gate = s.gate ∧ s.offerPurged.scanner = s.scanner ∧ s.offerPurged.supervisor = s.supervisor
    ∧ s.offerPurged.setup = s.setup ∧ s.offerPurged.store = s.store := by
  unfold State.offerPurged
  (try dsimp only)
  (repeat' split) <;> first | (simp; done) | (simp [*]; done)

@[simp] theorem State.openPending_frame (s : State) :
    s.openPending.pending = s.pending ∧ s.openPending.clock = s.clock ∧ s.openPending.draws = s.draws
    ∧ s.openPending.line.state = s.line.state ∧ s.openPending.line.onLine = s.line.onLine
    ∧ s.openPending.line.repeatUrgent = s.line.repeatUrgent ∧ s.openPending.line.repeatOther = s.line.repeatOther
    ∧ s.openPending.line.headerParity = s.line.headerParity ∧ s.openPending.line.checkFail = s.line.checkFail
    ∧ s.openPending.line.rxMissed = s.line.rxMissed ∧ s.openPending.line.txPartial = s.line.txPartial
    ∧ s.openPending.line.settle = s.line.settle ∧ s.openPending.line.lastDominant = s.line.lastDominant
    ∧ s.openPending.line.inReset = s.line.inReset ∧ s.openPending.line.sendingReset = s.line.sendingReset
    ∧ s.openPending.line.receipt = s.line.receipt ∧ s.openPending.roster.sn = s.roster.sn
    ∧ s.openPending.roster.kpd = s.roster.kpd ∧ s.openPending.roster.startCause = s.roster.startCause
    ∧ s.openPending.roster.entries = s.roster.entries ∧ s.openPending.roster.answeredAt = s.roster.answeredAt
    ∧ s.openPending.roster.rollOwed = s.roster.rollOwed ∧ s.openPending.verifier.hold = s.verifier.hold
    ∧ s.openPending.slotTable.slots = s.slotTable.slots ∧ s.openPending.slotTable.salt = s.slotTable.salt
    ∧ s.openPending.slotTable.blankKey = s.slotTable.blankKey ∧ s.openPending.slotTable.waits = s.slotTable.waits
    ∧ s.openPending.slotTable.slotDiverged = s.slotTable.slotDiverged
    ∧ s.openPending.purge.badBlocks = s.purge.badBlocks ∧ s.openPending.purge.waits = s.purge.waits
    ∧ s.openPending.gate.ranges = s.gate.ranges ∧ s.openPending.gate.waits = s.gate.waits
    ∧ s.openPending.gate.holder = s.gate.holder ∧ s.openPending.gate.flashBusy = s.gate.flashBusy
    ∧ s.openPending.gate.op = s.gate.op ∧ s.openPending.gate.driven = s.gate.driven
    ∧ s.openPending.gate.faultCount = s.gate.faultCount ∧ s.openPending.gate.channelFault = s.gate.channelFault
    ∧ s.openPending.gate.faultPeriod = s.gate.faultPeriod ∧ s.openPending.gate.periodicDue = s.gate.periodicDue
    ∧ s.openPending.gate.stepTimeout = s.gate.stepTimeout ∧ s.openPending.supervisor = s.supervisor
    ∧ s.openPending.setup = s.setup ∧ s.openPending.store.stored = s.store.stored
    ∧ s.openPending.store.deciding = s.store.deciding := by
  unfold State.openPending
  (try dsimp only)
  (repeat' split) <;> first | (simp; done) | (simp [*]; done)

@[simp] theorem State.closePurge_frame (s : State) :
    s.closePurge.pending = s.pending ∧ s.closePurge.clock = s.clock ∧ s.closePurge.draws = s.draws
    ∧ s.closePurge.line.state = s.line.state ∧ s.closePurge.line.onLine = s.line.onLine
    ∧ s.closePurge.line.repeatUrgent = s.line.repeatUrgent ∧ s.closePurge.line.repeatOther = s.line.repeatOther
    ∧ s.closePurge.line.headerParity = s.line.headerParity ∧ s.closePurge.line.checkFail = s.line.checkFail
    ∧ s.closePurge.line.rxMissed = s.line.rxMissed ∧ s.closePurge.line.txPartial = s.line.txPartial
    ∧ s.closePurge.line.settle = s.line.settle ∧ s.closePurge.line.lastDominant = s.line.lastDominant
    ∧ s.closePurge.line.inReset = s.line.inReset ∧ s.closePurge.line.sendingReset = s.line.sendingReset
    ∧ s.closePurge.line.receipt = s.line.receipt ∧ s.closePurge.roster.sn = s.roster.sn
    ∧ s.closePurge.roster.kpd = s.roster.kpd ∧ s.closePurge.roster.startCause = s.roster.startCause
    ∧ s.closePurge.roster.entries = s.roster.entries ∧ s.closePurge.roster.answeredAt = s.roster.answeredAt
    ∧ s.closePurge.roster.rollOwed = s.roster.rollOwed ∧ s.closePurge.verifier.hold = s.verifier.hold
    ∧ s.closePurge.slotTable.slots = s.slotTable.slots ∧ s.closePurge.slotTable.salt = s.slotTable.salt
    ∧ s.closePurge.slotTable.blankKey = s.slotTable.blankKey ∧ s.closePurge.slotTable.waits = s.slotTable.waits
    ∧ s.closePurge.slotTable.slotDiverged = s.slotTable.slotDiverged
    ∧ s.closePurge.purge.badBlocks = s.purge.badBlocks ∧ s.closePurge.purge.waits = s.purge.waits
    ∧ s.closePurge.gate.ranges = s.gate.ranges ∧ s.closePurge.gate.waits = s.gate.waits
    ∧ s.closePurge.gate.holder = s.gate.holder ∧ s.closePurge.gate.flashBusy = s.gate.flashBusy
    ∧ s.closePurge.gate.op = s.gate.op ∧ s.closePurge.gate.driven = s.gate.driven
    ∧ s.closePurge.gate.faultCount = s.gate.faultCount ∧ s.closePurge.gate.channelFault = s.gate.channelFault
    ∧ s.closePurge.gate.faultPeriod = s.gate.faultPeriod ∧ s.closePurge.gate.periodicDue = s.gate.periodicDue
    ∧ s.closePurge.gate.stepTimeout = s.gate.stepTimeout ∧ s.closePurge.supervisor = s.supervisor
    ∧ s.closePurge.setup = s.setup ∧ s.closePurge.store.stored = s.store.stored
    ∧ s.closePurge.store.deciding = s.store.deciding := by
  unfold State.closePurge
  (try dsimp only)
  (repeat' split) <;> first | (simp; done) | (simp [*]; done)

@[simp] theorem State.planStored_frame (s : State) (rec : RecordId) :
    (s.planStored rec).pending = s.pending ∧ (s.planStored rec).clock = s.clock ∧ (s.planStored rec).draws = s.draws
    ∧ (s.planStored rec).line = s.line ∧ (s.planStored rec).roster.sn = s.roster.sn
    ∧ (s.planStored rec).roster.kpd = s.roster.kpd ∧ (s.planStored rec).roster.startCause = s.roster.startCause
    ∧ (s.planStored rec).roster.entries = s.roster.entries ∧ (s.planStored rec).roster.window = s.roster.window
    ∧ (s.planStored rec).roster.answeredAt = s.roster.answeredAt
    ∧ (s.planStored rec).roster.announce = s.roster.announce ∧ (s.planStored rec).verifier = s.verifier
    ∧ (s.planStored rec).slotTable.slots = s.slotTable.slots ∧ (s.planStored rec).slotTable.salt = s.slotTable.salt
    ∧ (s.planStored rec).slotTable.blankKey = s.slotTable.blankKey
    ∧ (s.planStored rec).slotTable.unlockedKey = s.slotTable.unlockedKey
    ∧ (s.planStored rec).slotTable.waits = s.slotTable.waits
    ∧ (s.planStored rec).slotTable.enrollment = s.slotTable.enrollment
    ∧ (s.planStored rec).slotTable.slotDiverged = s.slotTable.slotDiverged ∧ (s.planStored rec).phaseCtl = s.phaseCtl
    ∧ (s.planStored rec).keyPort = s.keyPort ∧ (s.planStored rec).purge.journal.isOpen = s.purge.journal.isOpen
    ∧ (s.planStored rec).purge.journal.target = s.purge.journal.target
    ∧ (s.planStored rec).purge.journal.cause = s.purge.journal.cause
    ∧ (s.planStored rec).purge.badBlocks = s.purge.badBlocks ∧ (s.planStored rec).purge.nextBlock = s.purge.nextBlock
    ∧ (s.planStored rec).purge.suspended = s.purge.suspended ∧ (s.planStored rec).purge.heard = s.purge.heard
    ∧ (s.planStored rec).purge.reoffer = s.purge.reoffer
    ∧ (s.planStored rec).purge.pendingTarget = s.purge.pendingTarget ∧ (s.planStored rec).purge.waits = s.purge.waits
    ∧ (s.planStored rec).gate.ranges = s.gate.ranges ∧ (s.planStored rec).gate.waits = s.gate.waits
    ∧ (s.planStored rec).gate.owner = s.gate.owner ∧ (s.planStored rec).gate.holder = s.gate.holder
    ∧ (s.planStored rec).gate.handOver = s.gate.handOver ∧ (s.planStored rec).gate.command = s.gate.command
    ∧ (s.planStored rec).gate.flashBusy = s.gate.flashBusy ∧ (s.planStored rec).gate.op = s.gate.op
    ∧ (s.planStored rec).gate.driven = s.gate.driven ∧ (s.planStored rec).gate.faultCount = s.gate.faultCount
    ∧ (s.planStored rec).gate.channelFault = s.gate.channelFault
    ∧ (s.planStored rec).gate.faultPeriod = s.gate.faultPeriod
    ∧ (s.planStored rec).gate.periodicDue = s.gate.periodicDue ∧ (s.planStored rec).gate.grant = s.gate.grant
    ∧ (s.planStored rec).gate.gateDenied = s.gate.gateDenied
    ∧ (s.planStored rec).gate.stepTimeout = s.gate.stepTimeout ∧ (s.planStored rec).scanner = s.scanner
    ∧ (s.planStored rec).supervisor.supplyValid = s.supervisor.supplyValid
    ∧ (s.planStored rec).supervisor.dormant = s.supervisor.dormant
    ∧ (s.planStored rec).supervisor.attached = s.supervisor.attached
    ∧ (s.planStored rec).supervisor.band = s.supervisor.band
    ∧ (s.planStored rec).supervisor.tamperAsserted = s.supervisor.tamperAsserted
    ∧ (s.planStored rec).supervisor.haltMark = s.supervisor.haltMark ∧ (s.planStored rec).setup = s.setup
    ∧ (s.planStored rec).store.stored = s.store.stored ∧ (s.planStored rec).store.deciding = s.store.deciding := by
  unfold State.planStored
  (try dsimp only)
  (repeat' split) <;> first | (simp; done) | (simp [*]; done)

@[simp] theorem State.finishErase_frame (s : State) (n : Nat) (failed : Bool) :
    (s.finishErase n failed).pending = s.pending ∧ (s.finishErase n failed).clock = s.clock
    ∧ (s.finishErase n failed).draws = s.draws ∧ (s.finishErase n failed).line = s.line
    ∧ (s.finishErase n failed).roster = s.roster ∧ (s.finishErase n failed).verifier = s.verifier
    ∧ (s.finishErase n failed).slotTable.slots = s.slotTable.slots
    ∧ (s.finishErase n failed).slotTable.salt = s.slotTable.salt
    ∧ (s.finishErase n failed).slotTable.blankKey = s.slotTable.blankKey
    ∧ (s.finishErase n failed).slotTable.unlockedKey = s.slotTable.unlockedKey
    ∧ (s.finishErase n failed).slotTable.waits = s.slotTable.waits
    ∧ (s.finishErase n failed).slotTable.enrollment = s.slotTable.enrollment
    ∧ (s.finishErase n failed).slotTable.slotDiverged = s.slotTable.slotDiverged
    ∧ (s.finishErase n failed).phaseCtl = s.phaseCtl ∧ (s.finishErase n failed).keyPort = s.keyPort
    ∧ (s.finishErase n failed).purge.journal.isOpen = s.purge.journal.isOpen
    ∧ (s.finishErase n failed).purge.journal.target = s.purge.journal.target
    ∧ (s.finishErase n failed).purge.journal.cause = s.purge.journal.cause
    ∧ (s.finishErase n failed).purge.plan = s.purge.plan ∧ (s.finishErase n failed).purge.closing = s.purge.closing
    ∧ (s.finishErase n failed).purge.heard = s.purge.heard ∧ (s.finishErase n failed).purge.reoffer = s.purge.reoffer
    ∧ (s.finishErase n failed).purge.pendingTarget = s.purge.pendingTarget
    ∧ (s.finishErase n failed).purge.waits = s.purge.waits ∧ (s.finishErase n failed).gate.ranges = s.gate.ranges
    ∧ (s.finishErase n failed).gate.waits = s.gate.waits ∧ (s.finishErase n failed).gate.owner = s.gate.owner
    ∧ (s.finishErase n failed).gate.holder = s.gate.holder ∧ (s.finishErase n failed).gate.command = s.gate.command
    ∧ (s.finishErase n failed).gate.flashBusy = s.gate.flashBusy
    ∧ (s.finishErase n failed).gate.channelFault = s.gate.channelFault
    ∧ (s.finishErase n failed).gate.faultPeriod = s.gate.faultPeriod
    ∧ (s.finishErase n failed).gate.grant = s.gate.grant
    ∧ (s.finishErase n failed).gate.gateDenied = s.gate.gateDenied
    ∧ (s.finishErase n failed).gate.stepTimeout = s.gate.stepTimeout ∧ (s.finishErase n failed).scanner = s.scanner
    ∧ (s.finishErase n failed).supervisor = s.supervisor ∧ (s.finishErase n failed).setup = s.setup
    ∧ (s.finishErase n failed).store.stored = s.store.stored
    ∧ (s.finishErase n failed).store.deciding = s.store.deciding := by
  unfold State.finishErase
  (try dsimp only)
  (repeat' split) <;> first | (simp; done) | (simp [*]; done)

@[simp] theorem State.cutCommand_frame (s : State) :
    s.cutCommand.pending = s.pending ∧ s.cutCommand.clock = s.clock ∧ s.cutCommand.draws = s.draws
    ∧ s.cutCommand.line = s.line ∧ s.cutCommand.roster = s.roster ∧ s.cutCommand.verifier = s.verifier
    ∧ s.cutCommand.slotTable = s.slotTable ∧ s.cutCommand.phaseCtl = s.phaseCtl ∧ s.cutCommand.keyPort = s.keyPort
    ∧ s.cutCommand.purge = s.purge ∧ s.cutCommand.gate.ranges = s.gate.ranges
    ∧ s.cutCommand.gate.writes = s.gate.writes ∧ s.cutCommand.gate.waits = s.gate.waits
    ∧ s.cutCommand.gate.owner = s.gate.owner ∧ s.cutCommand.gate.holder = s.gate.holder
    ∧ s.cutCommand.gate.handOver = s.gate.handOver ∧ s.cutCommand.gate.flashBusy = s.gate.flashBusy
    ∧ s.cutCommand.gate.op = s.gate.op ∧ s.cutCommand.gate.driven = s.gate.driven
    ∧ s.cutCommand.gate.faultCount = s.gate.faultCount ∧ s.cutCommand.gate.channelFault = s.gate.channelFault
    ∧ s.cutCommand.gate.faultPeriod = s.gate.faultPeriod ∧ s.cutCommand.gate.periodicDue = s.gate.periodicDue
    ∧ s.cutCommand.gate.grant = s.gate.grant ∧ s.cutCommand.gate.stepTimeout = s.gate.stepTimeout
    ∧ s.cutCommand.scanner = s.scanner ∧ s.cutCommand.supervisor = s.supervisor ∧ s.cutCommand.setup = s.setup
    ∧ s.cutCommand.store = s.store := by
  unfold State.cutCommand
  (try dsimp only)
  (repeat' split) <;> first | (simp; done) | (simp [*]; done)

@[simp] theorem State.expireDrain_frame (s : State) :
    s.expireDrain.pending = s.pending ∧ s.expireDrain.clock = s.clock ∧ s.expireDrain.draws = s.draws
    ∧ s.expireDrain.line.state = s.line.state ∧ s.expireDrain.line.onLine = s.line.onLine
    ∧ s.expireDrain.line.repeatUrgent = s.line.repeatUrgent ∧ s.expireDrain.line.repeatOther = s.line.repeatOther
    ∧ s.expireDrain.line.headerParity = s.line.headerParity ∧ s.expireDrain.line.checkFail = s.line.checkFail
    ∧ s.expireDrain.line.rxMissed = s.line.rxMissed ∧ s.expireDrain.line.txPartial = s.line.txPartial
    ∧ s.expireDrain.line.settle = s.line.settle ∧ s.expireDrain.line.lastDominant = s.line.lastDominant
    ∧ s.expireDrain.line.inReset = s.line.inReset ∧ s.expireDrain.line.sendingReset = s.line.sendingReset
    ∧ s.expireDrain.line.receipt = s.line.receipt ∧ s.expireDrain.roster = s.roster
    ∧ s.expireDrain.verifier = s.verifier ∧ s.expireDrain.slotTable.slots = s.slotTable.slots
    ∧ s.expireDrain.slotTable.salt = s.slotTable.salt ∧ s.expireDrain.slotTable.blankKey = s.slotTable.blankKey
    ∧ s.expireDrain.slotTable.unlockedKey = s.slotTable.unlockedKey
    ∧ s.expireDrain.slotTable.waits = s.slotTable.waits ∧ s.expireDrain.slotTable.enrollment = s.slotTable.enrollment
    ∧ s.expireDrain.slotTable.slotDiverged = s.slotTable.slotDiverged ∧ s.expireDrain.phaseCtl = s.phaseCtl
    ∧ s.expireDrain.keyPort = s.keyPort ∧ s.expireDrain.purge.badBlocks = s.purge.badBlocks
    ∧ s.expireDrain.purge.nextBlock = s.purge.nextBlock ∧ s.expireDrain.purge.plan = s.purge.plan
    ∧ s.expireDrain.purge.closing = s.purge.closing ∧ s.expireDrain.purge.heard = s.purge.heard
    ∧ s.expireDrain.purge.reoffer = s.purge.reoffer ∧ s.expireDrain.purge.pendingTarget = s.purge.pendingTarget
    ∧ s.expireDrain.purge.waits = s.purge.waits ∧ s.expireDrain.gate.ranges = s.gate.ranges
    ∧ s.expireDrain.gate.waits = s.gate.waits ∧ s.expireDrain.gate.holder = s.gate.holder
    ∧ s.expireDrain.gate.periodicDue = s.gate.periodicDue ∧ s.expireDrain.gate.grant = s.gate.grant
    ∧ s.expireDrain.scanner = s.scanner ∧ s.expireDrain.supervisor = s.supervisor ∧ s.expireDrain.setup = s.setup
    ∧ s.expireDrain.store.stored = s.store.stored ∧ s.expireDrain.store.deciding = s.store.deciding := by
  unfold State.expireDrain
  (try dsimp only)
  (repeat' split) <;> first | (simp; done) | (simp [*]; done)

@[simp] theorem State.controlCycle_frame (s : State) (code : Byte) :
    (s.controlCycle code).pending = s.pending ∧ (s.controlCycle code).clock = s.clock
    ∧ (s.controlCycle code).draws = s.draws ∧ (s.controlCycle code).line = s.line
    ∧ (s.controlCycle code).roster = s.roster ∧ (s.controlCycle code).verifier = s.verifier
    ∧ (s.controlCycle code).slotTable = s.slotTable ∧ (s.controlCycle code).phaseCtl = s.phaseCtl
    ∧ (s.controlCycle code).keyPort = s.keyPort ∧ (s.controlCycle code).purge = s.purge
    ∧ (s.controlCycle code).gate.ranges = s.gate.ranges ∧ (s.controlCycle code).gate.writes = s.gate.writes
    ∧ (s.controlCycle code).gate.waits = s.gate.waits ∧ (s.controlCycle code).gate.owner = s.gate.owner
    ∧ (s.controlCycle code).gate.holder = s.gate.holder ∧ (s.controlCycle code).gate.handOver = s.gate.handOver
    ∧ (s.controlCycle code).gate.op = s.gate.op ∧ (s.controlCycle code).gate.driven = s.gate.driven
    ∧ (s.controlCycle code).gate.faultCount = s.gate.faultCount
    ∧ (s.controlCycle code).gate.channelFault = s.gate.channelFault
    ∧ (s.controlCycle code).gate.faultPeriod = s.gate.faultPeriod
    ∧ (s.controlCycle code).gate.periodicDue = s.gate.periodicDue ∧ (s.controlCycle code).gate.grant = s.gate.grant
    ∧ (s.controlCycle code).gate.stepTimeout = s.gate.stepTimeout ∧ (s.controlCycle code).scanner = s.scanner
    ∧ (s.controlCycle code).supervisor = s.supervisor ∧ (s.controlCycle code).setup = s.setup
    ∧ (s.controlCycle code).store = s.store := by
  unfold State.controlCycle
  (try dsimp only)
  (repeat' split) <;> first | (simp; done) | (simp [*]; done)

@[simp] theorem State.endCommand_frame (s : State) (ready : Bool) :
    (s.endCommand ready).pending = s.pending ∧ (s.endCommand ready).clock = s.clock
    ∧ (s.endCommand ready).draws = s.draws ∧ (s.endCommand ready).line = s.line
    ∧ (s.endCommand ready).roster = s.roster ∧ (s.endCommand ready).verifier = s.verifier
    ∧ (s.endCommand ready).slotTable = s.slotTable ∧ (s.endCommand ready).phaseCtl = s.phaseCtl
    ∧ (s.endCommand ready).keyPort = s.keyPort ∧ (s.endCommand ready).purge = s.purge
    ∧ (s.endCommand ready).gate.ranges = s.gate.ranges ∧ (s.endCommand ready).gate.writes = s.gate.writes
    ∧ (s.endCommand ready).gate.waits = s.gate.waits ∧ (s.endCommand ready).gate.owner = s.gate.owner
    ∧ (s.endCommand ready).gate.holder = s.gate.holder ∧ (s.endCommand ready).gate.op = s.gate.op
    ∧ (s.endCommand ready).gate.driven = s.gate.driven ∧ (s.endCommand ready).gate.channelFault = s.gate.channelFault
    ∧ (s.endCommand ready).gate.faultPeriod = s.gate.faultPeriod
    ∧ (s.endCommand ready).gate.periodicDue = s.gate.periodicDue ∧ (s.endCommand ready).gate.grant = s.gate.grant
    ∧ (s.endCommand ready).gate.stepTimeout = s.gate.stepTimeout ∧ (s.endCommand ready).scanner = s.scanner
    ∧ (s.endCommand ready).supervisor = s.supervisor ∧ (s.endCommand ready).setup = s.setup
    ∧ (s.endCommand ready).store = s.store := by
  unfold State.endCommand
  (try dsimp only)
  (repeat' split) <;> first | (simp; done) | (simp [*]; done)

@[simp] theorem State.flashIsReady_frame (s : State) :
    s.flashIsReady.pending = s.pending ∧ s.flashIsReady.clock = s.clock ∧ s.flashIsReady.draws = s.draws
    ∧ s.flashIsReady.line = s.line ∧ s.flashIsReady.roster = s.roster ∧ s.flashIsReady.verifier = s.verifier
    ∧ s.flashIsReady.slotTable = s.slotTable ∧ s.flashIsReady.phaseCtl = s.phaseCtl
    ∧ s.flashIsReady.keyPort = s.keyPort ∧ s.flashIsReady.purge = s.purge ∧ s.flashIsReady.gate.ranges = s.gate.ranges
    ∧ s.flashIsReady.gate.writes = s.gate.writes ∧ s.flashIsReady.gate.waits = s.gate.waits
    ∧ s.flashIsReady.gate.owner = s.gate.owner ∧ s.flashIsReady.gate.holder = s.gate.holder
    ∧ s.flashIsReady.gate.op = s.gate.op ∧ s.flashIsReady.gate.driven = s.gate.driven
    ∧ s.flashIsReady.gate.channelFault = s.gate.channelFault ∧ s.flashIsReady.gate.faultPeriod = s.gate.faultPeriod
    ∧ s.flashIsReady.gate.periodicDue = s.gate.periodicDue ∧ s.flashIsReady.gate.grant = s.gate.grant
    ∧ s.flashIsReady.gate.gateDenied = s.gate.gateDenied ∧ s.flashIsReady.gate.stepTimeout = s.gate.stepTimeout
    ∧ s.flashIsReady.scanner = s.scanner ∧ s.flashIsReady.supervisor = s.supervisor ∧ s.flashIsReady.setup = s.setup
    ∧ s.flashIsReady.store = s.store := by
  unfold State.flashIsReady
  (try dsimp only)
  (repeat' split) <;> first | (simp; done) | (simp [*]; done)

@[simp] theorem State.answerRange_frame (s : State) (n : StationNo) (r : AnswerResult) (index : Nat) :
    (s.answerRange n r index).pending = s.pending ∧ (s.answerRange n r index).clock = s.clock
    ∧ (s.answerRange n r index).draws = s.draws ∧ (s.answerRange n r index).line.state = s.line.state
    ∧ (s.answerRange n r index).line.onLine = s.line.onLine
    ∧ (s.answerRange n r index).line.repeatUrgent = s.line.repeatUrgent
    ∧ (s.answerRange n r index).line.repeatOther = s.line.repeatOther
    ∧ (s.answerRange n r index).line.headerParity = s.line.headerParity
    ∧ (s.answerRange n r index).line.checkFail = s.line.checkFail
    ∧ (s.answerRange n r index).line.rxMissed = s.line.rxMissed
    ∧ (s.answerRange n r index).line.txPartial = s.line.txPartial
    ∧ (s.answerRange n r index).line.settle = s.line.settle
    ∧ (s.answerRange n r index).line.lastDominant = s.line.lastDominant
    ∧ (s.answerRange n r index).line.inReset = s.line.inReset
    ∧ (s.answerRange n r index).line.sendingReset = s.line.sendingReset
    ∧ (s.answerRange n r index).line.receipt = s.line.receipt ∧ (s.answerRange n r index).roster = s.roster
    ∧ (s.answerRange n r index).verifier = s.verifier ∧ (s.answerRange n r index).slotTable = s.slotTable
    ∧ (s.answerRange n r index).phaseCtl = s.phaseCtl ∧ (s.answerRange n r index).keyPort = s.keyPort
    ∧ (s.answerRange n r index).purge = s.purge ∧ (s.answerRange n r index).gate = s.gate
    ∧ (s.answerRange n r index).scanner = s.scanner ∧ (s.answerRange n r index).supervisor = s.supervisor
    ∧ (s.answerRange n r index).setup = s.setup ∧ (s.answerRange n r index).store = s.store := by
  unfold State.answerRange
  (try dsimp only)
  (repeat' split) <;> first | (simp; done) | (simp [*]; done)

@[simp] theorem State.changeRange_frame (s : State) (n : StationNo) (i : RangeNo) (v : RangeEntry) :
    (s.changeRange n i v).pending = s.pending ∧ (s.changeRange n i v).clock = s.clock
    ∧ (s.changeRange n i v).draws = s.draws ∧ (s.changeRange n i v).line = s.line
    ∧ (s.changeRange n i v).roster = s.roster ∧ (s.changeRange n i v).verifier = s.verifier
    ∧ (s.changeRange n i v).slotTable.slots = s.slotTable.slots
    ∧ (s.changeRange n i v).slotTable.salt = s.slotTable.salt
    ∧ (s.changeRange n i v).slotTable.blankKey = s.slotTable.blankKey
    ∧ (s.changeRange n i v).slotTable.unlockedKey = s.slotTable.unlockedKey
    ∧ (s.changeRange n i v).slotTable.waits = s.slotTable.waits
    ∧ (s.changeRange n i v).slotTable.enrollment = s.slotTable.enrollment
    ∧ (s.changeRange n i v).slotTable.slotDiverged = s.slotTable.slotDiverged
    ∧ (s.changeRange n i v).phaseCtl = s.phaseCtl ∧ (s.changeRange n i v).keyPort = s.keyPort
    ∧ (s.changeRange n i v).purge.journal = s.purge.journal
    ∧ (s.changeRange n i v).purge.badBlocks = s.purge.badBlocks
    ∧ (s.changeRange n i v).purge.nextBlock = s.purge.nextBlock ∧ (s.changeRange n i v).purge.plan = s.purge.plan
    ∧ (s.changeRange n i v).purge.begun = s.purge.begun ∧ (s.changeRange n i v).purge.closing = s.purge.closing
    ∧ (s.changeRange n i v).purge.suspended = s.purge.suspended ∧ (s.changeRange n i v).purge.heard = s.purge.heard
    ∧ (s.changeRange n i v).purge.reoffer = s.purge.reoffer
    ∧ (s.changeRange n i v).purge.pendingTarget = s.purge.pendingTarget
    ∧ (s.changeRange n i v).purge.waits = s.purge.waits ∧ (s.changeRange n i v).gate.owner = s.gate.owner
    ∧ (s.changeRange n i v).gate.holder = s.gate.holder ∧ (s.changeRange n i v).gate.handOver = s.gate.handOver
    ∧ (s.changeRange n i v).gate.command = s.gate.command ∧ (s.changeRange n i v).gate.flashBusy = s.gate.flashBusy
    ∧ (s.changeRange n i v).gate.op = s.gate.op ∧ (s.changeRange n i v).gate.driven = s.gate.driven
    ∧ (s.changeRange n i v).gate.faultCount = s.gate.faultCount
    ∧ (s.changeRange n i v).gate.channelFault = s.gate.channelFault
    ∧ (s.changeRange n i v).gate.faultPeriod = s.gate.faultPeriod
    ∧ (s.changeRange n i v).gate.periodicDue = s.gate.periodicDue ∧ (s.changeRange n i v).gate.grant = s.gate.grant
    ∧ (s.changeRange n i v).gate.gateDenied = s.gate.gateDenied
    ∧ (s.changeRange n i v).gate.stepTimeout = s.gate.stepTimeout ∧ (s.changeRange n i v).scanner = s.scanner
    ∧ (s.changeRange n i v).supervisor = s.supervisor ∧ (s.changeRange n i v).setup = s.setup
    ∧ (s.changeRange n i v).store.stored = s.store.stored ∧ (s.changeRange n i v).store.deciding = s.store.deciding := by
  unfold State.changeRange
  (try dsimp only)
  (repeat' split) <;> first | (simp; done) | (simp [*]; done)

@[simp] theorem State.takeRange_frame (s : State) (n : StationNo) (e : RangeFields) :
    (s.takeRange n e).pending = s.pending ∧ (s.takeRange n e).clock = s.clock ∧ (s.takeRange n e).draws = s.draws
    ∧ (s.takeRange n e).line.state = s.line.state ∧ (s.takeRange n e).line.onLine = s.line.onLine
    ∧ (s.takeRange n e).line.repeatUrgent = s.line.repeatUrgent
    ∧ (s.takeRange n e).line.repeatOther = s.line.repeatOther
    ∧ (s.takeRange n e).line.headerParity = s.line.headerParity ∧ (s.takeRange n e).line.checkFail = s.line.checkFail
    ∧ (s.takeRange n e).line.rxMissed = s.line.rxMissed ∧ (s.takeRange n e).line.txPartial = s.line.txPartial
    ∧ (s.takeRange n e).line.settle = s.line.settle ∧ (s.takeRange n e).line.lastDominant = s.line.lastDominant
    ∧ (s.takeRange n e).line.inReset = s.line.inReset ∧ (s.takeRange n e).line.sendingReset = s.line.sendingReset
    ∧ (s.takeRange n e).line.receipt = s.line.receipt ∧ (s.takeRange n e).roster = s.roster
    ∧ (s.takeRange n e).verifier = s.verifier ∧ (s.takeRange n e).slotTable.slots = s.slotTable.slots
    ∧ (s.takeRange n e).slotTable.salt = s.slotTable.salt
    ∧ (s.takeRange n e).slotTable.blankKey = s.slotTable.blankKey
    ∧ (s.takeRange n e).slotTable.unlockedKey = s.slotTable.unlockedKey
    ∧ (s.takeRange n e).slotTable.waits = s.slotTable.waits
    ∧ (s.takeRange n e).slotTable.enrollment = s.slotTable.enrollment
    ∧ (s.takeRange n e).slotTable.slotDiverged = s.slotTable.slotDiverged ∧ (s.takeRange n e).phaseCtl = s.phaseCtl
    ∧ (s.takeRange n e).keyPort = s.keyPort ∧ (s.takeRange n e).purge.journal = s.purge.journal
    ∧ (s.takeRange n e).purge.badBlocks = s.purge.badBlocks ∧ (s.takeRange n e).purge.nextBlock = s.purge.nextBlock
    ∧ (s.takeRange n e).purge.plan = s.purge.plan ∧ (s.takeRange n e).purge.begun = s.purge.begun
    ∧ (s.takeRange n e).purge.closing = s.purge.closing ∧ (s.takeRange n e).purge.suspended = s.purge.suspended
    ∧ (s.takeRange n e).purge.heard = s.purge.heard ∧ (s.takeRange n e).purge.reoffer = s.purge.reoffer
    ∧ (s.takeRange n e).purge.pendingTarget = s.purge.pendingTarget ∧ (s.takeRange n e).purge.waits = s.purge.waits
    ∧ (s.takeRange n e).gate.owner = s.gate.owner ∧ (s.takeRange n e).gate.holder = s.gate.holder
    ∧ (s.takeRange n e).gate.handOver = s.gate.handOver ∧ (s.takeRange n e).gate.command = s.gate.command
    ∧ (s.takeRange n e).gate.flashBusy = s.gate.flashBusy ∧ (s.takeRange n e).gate.op = s.gate.op
    ∧ (s.takeRange n e).gate.driven = s.gate.driven ∧ (s.takeRange n e).gate.faultCount = s.gate.faultCount
    ∧ (s.takeRange n e).gate.channelFault = s.gate.channelFault
    ∧ (s.takeRange n e).gate.faultPeriod = s.gate.faultPeriod
    ∧ (s.takeRange n e).gate.periodicDue = s.gate.periodicDue ∧ (s.takeRange n e).gate.grant = s.gate.grant
    ∧ (s.takeRange n e).gate.gateDenied = s.gate.gateDenied ∧ (s.takeRange n e).gate.stepTimeout = s.gate.stepTimeout
    ∧ (s.takeRange n e).scanner = s.scanner ∧ (s.takeRange n e).supervisor = s.supervisor
    ∧ (s.takeRange n e).setup = s.setup ∧ (s.takeRange n e).store.stored = s.store.stored
    ∧ (s.takeRange n e).store.deciding = s.store.deciding := by
  unfold State.takeRange
  (try dsimp only)
  (repeat' split) <;> first | (simp; done) | (simp [*]; done)

@[simp] theorem State.handleRange_frame (s : State) (f : RxFrame) :
    (s.handleRange f).pending = s.pending ∧ (s.handleRange f).clock = s.clock ∧ (s.handleRange f).draws = s.draws
    ∧ (s.handleRange f).line.state = s.line.state ∧ (s.handleRange f).line.onLine = s.line.onLine
    ∧ (s.handleRange f).line.repeatUrgent = s.line.repeatUrgent
    ∧ (s.handleRange f).line.repeatOther = s.line.repeatOther
    ∧ (s.handleRange f).line.headerParity = s.line.headerParity ∧ (s.handleRange f).line.checkFail = s.line.checkFail
    ∧ (s.handleRange f).line.rxMissed = s.line.rxMissed ∧ (s.handleRange f).line.txPartial = s.line.txPartial
    ∧ (s.handleRange f).line.settle = s.line.settle ∧ (s.handleRange f).line.lastDominant = s.line.lastDominant
    ∧ (s.handleRange f).line.inReset = s.line.inReset ∧ (s.handleRange f).line.sendingReset = s.line.sendingReset
    ∧ (s.handleRange f).line.receipt = s.line.receipt ∧ (s.handleRange f).roster = s.roster
    ∧ (s.handleRange f).verifier = s.verifier ∧ (s.handleRange f).slotTable.slots = s.slotTable.slots
    ∧ (s.handleRange f).slotTable.salt = s.slotTable.salt
    ∧ (s.handleRange f).slotTable.blankKey = s.slotTable.blankKey
    ∧ (s.handleRange f).slotTable.unlockedKey = s.slotTable.unlockedKey
    ∧ (s.handleRange f).slotTable.waits = s.slotTable.waits
    ∧ (s.handleRange f).slotTable.enrollment = s.slotTable.enrollment
    ∧ (s.handleRange f).slotTable.slotDiverged = s.slotTable.slotDiverged ∧ (s.handleRange f).phaseCtl = s.phaseCtl
    ∧ (s.handleRange f).keyPort = s.keyPort ∧ (s.handleRange f).purge.journal = s.purge.journal
    ∧ (s.handleRange f).purge.badBlocks = s.purge.badBlocks ∧ (s.handleRange f).purge.nextBlock = s.purge.nextBlock
    ∧ (s.handleRange f).purge.plan = s.purge.plan ∧ (s.handleRange f).purge.begun = s.purge.begun
    ∧ (s.handleRange f).purge.closing = s.purge.closing ∧ (s.handleRange f).purge.suspended = s.purge.suspended
    ∧ (s.handleRange f).purge.heard = s.purge.heard ∧ (s.handleRange f).purge.reoffer = s.purge.reoffer
    ∧ (s.handleRange f).purge.pendingTarget = s.purge.pendingTarget ∧ (s.handleRange f).purge.waits = s.purge.waits
    ∧ (s.handleRange f).gate.owner = s.gate.owner ∧ (s.handleRange f).gate.holder = s.gate.holder
    ∧ (s.handleRange f).gate.handOver = s.gate.handOver ∧ (s.handleRange f).gate.command = s.gate.command
    ∧ (s.handleRange f).gate.flashBusy = s.gate.flashBusy ∧ (s.handleRange f).gate.op = s.gate.op
    ∧ (s.handleRange f).gate.driven = s.gate.driven ∧ (s.handleRange f).gate.faultCount = s.gate.faultCount
    ∧ (s.handleRange f).gate.channelFault = s.gate.channelFault
    ∧ (s.handleRange f).gate.faultPeriod = s.gate.faultPeriod
    ∧ (s.handleRange f).gate.periodicDue = s.gate.periodicDue ∧ (s.handleRange f).gate.grant = s.gate.grant
    ∧ (s.handleRange f).gate.gateDenied = s.gate.gateDenied ∧ (s.handleRange f).gate.stepTimeout = s.gate.stepTimeout
    ∧ (s.handleRange f).scanner = s.scanner ∧ (s.handleRange f).supervisor = s.supervisor
    ∧ (s.handleRange f).setup = s.setup ∧ (s.handleRange f).store.stored = s.store.stored
    ∧ (s.handleRange f).store.deciding = s.store.deciding := by
  unfold State.handleRange
  (try dsimp only)
  (repeat' split) <;> first | (simp; done) | (simp [*]; done)

@[simp] theorem State.restartIdle_frame (s : State) :
    s.restartIdle.pending = s.pending ∧ s.restartIdle.clock = s.clock ∧ s.restartIdle.draws = s.draws
    ∧ s.restartIdle.line = s.line ∧ s.restartIdle.roster = s.roster ∧ s.restartIdle.verifier = s.verifier
    ∧ s.restartIdle.slotTable = s.slotTable ∧ s.restartIdle.phaseCtl = s.phaseCtl ∧ s.restartIdle.keyPort = s.keyPort
    ∧ s.restartIdle.purge = s.purge ∧ s.restartIdle.gate = s.gate ∧ s.restartIdle.scanner.key = s.scanner.key
    ∧ s.restartIdle.scanner.digits = s.scanner.digits ∧ s.restartIdle.scanner.transient = s.scanner.transient
    ∧ s.restartIdle.scanner.seq = s.scanner.seq ∧ s.restartIdle.scanner.entrySeq = s.scanner.entrySeq
    ∧ s.restartIdle.supervisor = s.supervisor ∧ s.restartIdle.setup = s.setup ∧ s.restartIdle.store = s.store := by
  unfold State.restartIdle
  (try dsimp only)
  (repeat' split) <;> first | (simp; done) | (simp [*]; done)

@[simp] theorem State.emptyBuffer_frame (s : State) :
    s.emptyBuffer.pending = s.pending ∧ s.emptyBuffer.clock = s.clock ∧ s.emptyBuffer.draws = s.draws
    ∧ s.emptyBuffer.line = s.line ∧ s.emptyBuffer.roster = s.roster ∧ s.emptyBuffer.verifier = s.verifier
    ∧ s.emptyBuffer.slotTable = s.slotTable ∧ s.emptyBuffer.phaseCtl = s.phaseCtl ∧ s.emptyBuffer.keyPort = s.keyPort
    ∧ s.emptyBuffer.purge = s.purge ∧ s.emptyBuffer.gate = s.gate ∧ s.emptyBuffer.supervisor = s.supervisor
    ∧ s.emptyBuffer.setup = s.setup ∧ s.emptyBuffer.store = s.store := by
  unfold State.emptyBuffer
  (try dsimp only)
  (repeat' split) <;> first | (simp; done) | (simp [*]; done)

@[simp] theorem State.setSeq_frame (s : State) (q : SeqState) :
    (s.setSeq q).pending = s.pending ∧ (s.setSeq q).clock = s.clock ∧ (s.setSeq q).draws = s.draws
    ∧ (s.setSeq q).line = s.line ∧ (s.setSeq q).roster = s.roster ∧ (s.setSeq q).verifier = s.verifier
    ∧ (s.setSeq q).slotTable = s.slotTable ∧ (s.setSeq q).phaseCtl = s.phaseCtl ∧ (s.setSeq q).keyPort = s.keyPort
    ∧ (s.setSeq q).purge = s.purge ∧ (s.setSeq q).gate = s.gate ∧ (s.setSeq q).scanner.key = s.scanner.key
    ∧ (s.setSeq q).scanner.digits = s.scanner.digits ∧ (s.setSeq q).scanner.transient = s.scanner.transient
    ∧ (s.setSeq q).scanner.entrySeq = s.scanner.entrySeq ∧ (s.setSeq q).supervisor = s.supervisor
    ∧ (s.setSeq q).setup = s.setup ∧ (s.setSeq q).store = s.store := by
  unfold State.setSeq
  (try dsimp only)
  (repeat' split) <;> first | (simp; done) | (simp [*]; done)

@[simp] theorem State.failSequence_frame (s : State) :
    s.failSequence.pending = s.pending ∧ s.failSequence.clock = s.clock ∧ s.failSequence.draws = s.draws
    ∧ s.failSequence.line = s.line ∧ s.failSequence.roster = s.roster ∧ s.failSequence.verifier = s.verifier
    ∧ s.failSequence.slotTable = s.slotTable ∧ s.failSequence.phaseCtl = s.phaseCtl
    ∧ s.failSequence.keyPort = s.keyPort ∧ s.failSequence.purge = s.purge ∧ s.failSequence.gate = s.gate
    ∧ s.failSequence.supervisor = s.supervisor ∧ s.failSequence.setup = s.setup ∧ s.failSequence.store = s.store := by
  unfold State.failSequence
  (try dsimp only)
  (repeat' split) <;> first | (simp; done) | (simp [*]; done)

@[simp] theorem State.digitInEntry_frame (s : State) (d : Fin 10) :
    (s.digitInEntry d).pending = s.pending ∧ (s.digitInEntry d).clock = s.clock ∧ (s.digitInEntry d).draws = s.draws
    ∧ (s.digitInEntry d).line = s.line ∧ (s.digitInEntry d).roster = s.roster
    ∧ (s.digitInEntry d).verifier = s.verifier ∧ (s.digitInEntry d).slotTable = s.slotTable
    ∧ (s.digitInEntry d).phaseCtl = s.phaseCtl ∧ (s.digitInEntry d).keyPort = s.keyPort
    ∧ (s.digitInEntry d).purge = s.purge ∧ (s.digitInEntry d).gate = s.gate
    ∧ (s.digitInEntry d).supervisor = s.supervisor ∧ (s.digitInEntry d).setup = s.setup
    ∧ (s.digitInEntry d).store = s.store := by
  unfold State.digitInEntry
  (try dsimp only)
  (repeat' split) <;> first | (simp; done) | (simp [*]; done)

@[simp] theorem State.digitKey_frame (s : State) (d : Fin 10) :
    (s.digitKey d).pending = s.pending ∧ (s.digitKey d).clock = s.clock ∧ (s.digitKey d).draws = s.draws
    ∧ (s.digitKey d).line = s.line ∧ (s.digitKey d).roster = s.roster ∧ (s.digitKey d).verifier = s.verifier
    ∧ (s.digitKey d).slotTable = s.slotTable ∧ (s.digitKey d).phaseCtl = s.phaseCtl
    ∧ (s.digitKey d).keyPort = s.keyPort ∧ (s.digitKey d).purge = s.purge ∧ (s.digitKey d).gate = s.gate
    ∧ (s.digitKey d).supervisor = s.supervisor ∧ (s.digitKey d).setup = s.setup ∧ (s.digitKey d).store = s.store := by
  unfold State.digitKey
  (try dsimp only)
  (repeat' split) <;> first | (simp; done) | (simp [*]; done)

@[simp] theorem State.lockInEntry_frame (s : State) :
    s.lockInEntry.pending = s.pending ∧ s.lockInEntry.clock = s.clock ∧ s.lockInEntry.draws = s.draws
    ∧ s.lockInEntry.line = s.line ∧ s.lockInEntry.roster = s.roster ∧ s.lockInEntry.verifier = s.verifier
    ∧ s.lockInEntry.slotTable = s.slotTable ∧ s.lockInEntry.phaseCtl = s.phaseCtl ∧ s.lockInEntry.keyPort = s.keyPort
    ∧ s.lockInEntry.purge = s.purge ∧ s.lockInEntry.gate = s.gate ∧ s.lockInEntry.supervisor = s.supervisor
    ∧ s.lockInEntry.setup = s.setup ∧ s.lockInEntry.store = s.store := by
  unfold State.lockInEntry
  (try dsimp only)
  (repeat' split) <;> first | (simp; done) | (simp [*]; done)

@[simp] theorem State.lockKey_frame (s : State) :
    s.lockKey.pending = s.pending ∧ s.lockKey.clock = s.clock ∧ s.lockKey.draws = s.draws ∧ s.lockKey.line = s.line
    ∧ s.lockKey.roster = s.roster ∧ s.lockKey.verifier = s.verifier ∧ s.lockKey.slotTable = s.slotTable
    ∧ s.lockKey.phaseCtl = s.phaseCtl ∧ s.lockKey.keyPort = s.keyPort ∧ s.lockKey.purge = s.purge
    ∧ s.lockKey.gate = s.gate ∧ s.lockKey.supervisor = s.supervisor ∧ s.lockKey.setup = s.setup
    ∧ s.lockKey.store = s.store := by
  unfold State.lockKey
  (try dsimp only)
  (repeat' split) <;> first | (simp; done) | (simp [*]; done)

@[simp] theorem State.discardEntry_frame (s : State) :
    s.discardEntry.pending = s.pending ∧ s.discardEntry.clock = s.clock ∧ s.discardEntry.draws = s.draws
    ∧ s.discardEntry.line = s.line ∧ s.discardEntry.roster = s.roster ∧ s.discardEntry.verifier = s.verifier
    ∧ s.discardEntry.slotTable = s.slotTable ∧ s.discardEntry.phaseCtl = s.phaseCtl
    ∧ s.discardEntry.keyPort = s.keyPort ∧ s.discardEntry.purge = s.purge ∧ s.discardEntry.gate = s.gate
    ∧ s.discardEntry.supervisor = s.supervisor ∧ s.discardEntry.setup = s.setup ∧ s.discardEntry.store = s.store := by
  unfold State.discardEntry
  (try dsimp only)
  (repeat' split) <;> first | (simp; done) | (simp [*]; done)

@[simp] theorem State.placeEntry_frame (s : State) (token : Token) (readOnly : Bool) :
    (s.placeEntry token readOnly).pending = s.pending ∧ (s.placeEntry token readOnly).clock = s.clock
    ∧ (s.placeEntry token readOnly).draws = s.draws ∧ (s.placeEntry token readOnly).line.state = s.line.state
    ∧ (s.placeEntry token readOnly).line.onLine = s.line.onLine
    ∧ (s.placeEntry token readOnly).line.repeatUrgent = s.line.repeatUrgent
    ∧ (s.placeEntry token readOnly).line.repeatOther = s.line.repeatOther
    ∧ (s.placeEntry token readOnly).line.headerParity = s.line.headerParity
    ∧ (s.placeEntry token readOnly).line.checkFail = s.line.checkFail
    ∧ (s.placeEntry token readOnly).line.rxMissed = s.line.rxMissed
    ∧ (s.placeEntry token readOnly).line.txPartial = s.line.txPartial
    ∧ (s.placeEntry token readOnly).line.settle = s.line.settle
    ∧ (s.placeEntry token readOnly).line.lastDominant = s.line.lastDominant
    ∧ (s.placeEntry token readOnly).line.inReset = s.line.inReset
    ∧ (s.placeEntry token readOnly).line.sendingReset = s.line.sendingReset
    ∧ (s.placeEntry token readOnly).line.receipt = s.line.receipt ∧ (s.placeEntry token readOnly).roster = s.roster
    ∧ (s.placeEntry token readOnly).verifier = s.verifier ∧ (s.placeEntry token readOnly).slotTable = s.slotTable
    ∧ (s.placeEntry token readOnly).phaseCtl = s.phaseCtl ∧ (s.placeEntry token readOnly).keyPort = s.keyPort
    ∧ (s.placeEntry token readOnly).purge = s.purge ∧ (s.placeEntry token readOnly).gate = s.gate
    ∧ (s.placeEntry token readOnly).scanner.key = s.scanner.key
    ∧ (s.placeEntry token readOnly).scanner.digits = s.scanner.digits
    ∧ (s.placeEntry token readOnly).scanner.transient = s.scanner.transient
    ∧ (s.placeEntry token readOnly).supervisor = s.supervisor ∧ (s.placeEntry token readOnly).setup = s.setup
    ∧ (s.placeEntry token readOnly).store = s.store := by
  unfold State.placeEntry
  (try dsimp only)
  (repeat' split) <;> first | (simp; done) | (simp [*]; done)

@[simp] theorem State.enterInEntry_frame (s : State) :
    s.enterInEntry.pending = s.pending ∧ s.enterInEntry.clock = s.clock ∧ s.enterInEntry.draws = s.draws
    ∧ s.enterInEntry.line.state = s.line.state ∧ s.enterInEntry.line.onLine = s.line.onLine
    ∧ s.enterInEntry.line.repeatUrgent = s.line.repeatUrgent ∧ s.enterInEntry.line.repeatOther = s.line.repeatOther
    ∧ s.enterInEntry.line.headerParity = s.line.headerParity ∧ s.enterInEntry.line.checkFail = s.line.checkFail
    ∧ s.enterInEntry.line.rxMissed = s.line.rxMissed ∧ s.enterInEntry.line.txPartial = s.line.txPartial
    ∧ s.enterInEntry.line.settle = s.line.settle ∧ s.enterInEntry.line.lastDominant = s.line.lastDominant
    ∧ s.enterInEntry.line.inReset = s.line.inReset ∧ s.enterInEntry.line.sendingReset = s.line.sendingReset
    ∧ s.enterInEntry.line.receipt = s.line.receipt ∧ s.enterInEntry.roster = s.roster
    ∧ s.enterInEntry.verifier = s.verifier ∧ s.enterInEntry.slotTable = s.slotTable
    ∧ s.enterInEntry.phaseCtl = s.phaseCtl ∧ s.enterInEntry.keyPort = s.keyPort ∧ s.enterInEntry.purge = s.purge
    ∧ s.enterInEntry.gate = s.gate ∧ s.enterInEntry.supervisor = s.supervisor ∧ s.enterInEntry.setup = s.setup
    ∧ s.enterInEntry.store = s.store := by
  unfold State.enterInEntry
  (try dsimp only)
  (repeat' split) <;> first | (simp; done) | (simp [*]; done)

@[simp] theorem State.enterInPrefix_frame (s : State) (selector : Option (Fin 10)) :
    (s.enterInPrefix selector).pending = s.pending ∧ (s.enterInPrefix selector).clock = s.clock
    ∧ (s.enterInPrefix selector).draws = s.draws ∧ (s.enterInPrefix selector).line = s.line
    ∧ (s.enterInPrefix selector).roster = s.roster ∧ (s.enterInPrefix selector).verifier = s.verifier
    ∧ (s.enterInPrefix selector).slotTable = s.slotTable ∧ (s.enterInPrefix selector).phaseCtl = s.phaseCtl
    ∧ (s.enterInPrefix selector).keyPort = s.keyPort ∧ (s.enterInPrefix selector).purge = s.purge
    ∧ (s.enterInPrefix selector).gate = s.gate ∧ (s.enterInPrefix selector).supervisor = s.supervisor
    ∧ (s.enterInPrefix selector).setup = s.setup ∧ (s.enterInPrefix selector).store = s.store := by
  unfold State.enterInPrefix
  (try dsimp only)
  (repeat' split) <;> first | (simp; done) | (simp [*]; done)

@[simp] theorem State.enroll_frame (s : State) (kind : ModeKind) (token : Token) :
    (s.enroll kind token).pending = s.pending ∧ (s.enroll kind token).clock = s.clock
    ∧ (s.enroll kind token).draws = s.draws ∧ (s.enroll kind token).line.state = s.line.state
    ∧ (s.enroll kind token).line.onLine = s.line.onLine
    ∧ (s.enroll kind token).line.repeatUrgent = s.line.repeatUrgent
    ∧ (s.enroll kind token).line.repeatOther = s.line.repeatOther
    ∧ (s.enroll kind token).line.headerParity = s.line.headerParity
    ∧ (s.enroll kind token).line.checkFail = s.line.checkFail ∧ (s.enroll kind token).line.rxMissed = s.line.rxMissed
    ∧ (s.enroll kind token).line.txPartial = s.line.txPartial ∧ (s.enroll kind token).line.settle = s.line.settle
    ∧ (s.enroll kind token).line.lastDominant = s.line.lastDominant
    ∧ (s.enroll kind token).line.inReset = s.line.inReset
    ∧ (s.enroll kind token).line.sendingReset = s.line.sendingReset
    ∧ (s.enroll kind token).line.receipt = s.line.receipt ∧ (s.enroll kind token).roster = s.roster
    ∧ (s.enroll kind token).verifier = s.verifier ∧ (s.enroll kind token).slotTable.slots = s.slotTable.slots
    ∧ (s.enroll kind token).slotTable.salt = s.slotTable.salt
    ∧ (s.enroll kind token).slotTable.blankKey = s.slotTable.blankKey
    ∧ (s.enroll kind token).slotTable.unlockedKey = s.slotTable.unlockedKey
    ∧ (s.enroll kind token).slotTable.writes = s.slotTable.writes
    ∧ (s.enroll kind token).slotTable.waits = s.slotTable.waits
    ∧ (s.enroll kind token).slotTable.slotDiverged = s.slotTable.slotDiverged
    ∧ (s.enroll kind token).phaseCtl = s.phaseCtl ∧ (s.enroll kind token).keyPort = s.keyPort
    ∧ (s.enroll kind token).purge = s.purge ∧ (s.enroll kind token).gate = s.gate
    ∧ (s.enroll kind token).supervisor = s.supervisor ∧ (s.enroll kind token).setup = s.setup
    ∧ (s.enroll kind token).store = s.store := by
  unfold State.enroll
  (try dsimp only)
  (repeat' split) <;> first | (simp; done) | (simp [*]; done)

@[simp] theorem State.enterInSecond_frame (s : State) (kind : ModeKind) (first : Token) :
    (s.enterInSecond kind first).pending = s.pending ∧ (s.enterInSecond kind first).clock = s.clock
    ∧ (s.enterInSecond kind first).draws = s.draws ∧ (s.enterInSecond kind first).line.state = s.line.state
    ∧ (s.enterInSecond kind first).line.onLine = s.line.onLine
    ∧ (s.enterInSecond kind first).line.repeatUrgent = s.line.repeatUrgent
    ∧ (s.enterInSecond kind first).line.repeatOther = s.line.repeatOther
    ∧ (s.enterInSecond kind first).line.headerParity = s.line.headerParity
    ∧ (s.enterInSecond kind first).line.checkFail = s.line.checkFail
    ∧ (s.enterInSecond kind first).line.rxMissed = s.line.rxMissed
    ∧ (s.enterInSecond kind first).line.txPartial = s.line.txPartial
    ∧ (s.enterInSecond kind first).line.settle = s.line.settle
    ∧ (s.enterInSecond kind first).line.lastDominant = s.line.lastDominant
    ∧ (s.enterInSecond kind first).line.inReset = s.line.inReset
    ∧ (s.enterInSecond kind first).line.sendingReset = s.line.sendingReset
    ∧ (s.enterInSecond kind first).line.receipt = s.line.receipt ∧ (s.enterInSecond kind first).roster = s.roster
    ∧ (s.enterInSecond kind first).verifier = s.verifier
    ∧ (s.enterInSecond kind first).slotTable.slots = s.slotTable.slots
    ∧ (s.enterInSecond kind first).slotTable.salt = s.slotTable.salt
    ∧ (s.enterInSecond kind first).slotTable.blankKey = s.slotTable.blankKey
    ∧ (s.enterInSecond kind first).slotTable.unlockedKey = s.slotTable.unlockedKey
    ∧ (s.enterInSecond kind first).slotTable.writes = s.slotTable.writes
    ∧ (s.enterInSecond kind first).slotTable.waits = s.slotTable.waits
    ∧ (s.enterInSecond kind first).slotTable.slotDiverged = s.slotTable.slotDiverged
    ∧ (s.enterInSecond kind first).phaseCtl = s.phaseCtl ∧ (s.enterInSecond kind first).keyPort = s.keyPort
    ∧ (s.enterInSecond kind first).purge = s.purge ∧ (s.enterInSecond kind first).gate = s.gate
    ∧ (s.enterInSecond kind first).supervisor = s.supervisor ∧ (s.enterInSecond kind first).setup = s.setup
    ∧ (s.enterInSecond kind first).store = s.store := by
  unfold State.enterInSecond
  (try dsimp only)
  (repeat' split) <;> first | (simp; done) | (simp [*]; done)

@[simp] theorem State.confirmPurge_frame (s : State) :
    s.confirmPurge.pending = s.pending ∧ s.confirmPurge.clock = s.clock ∧ s.confirmPurge.draws = s.draws
    ∧ s.confirmPurge.line.state = s.line.state ∧ s.confirmPurge.line.onLine = s.line.onLine
    ∧ s.confirmPurge.line.repeatUrgent = s.line.repeatUrgent ∧ s.confirmPurge.line.repeatOther = s.line.repeatOther
    ∧ s.confirmPurge.line.headerParity = s.line.headerParity ∧ s.confirmPurge.line.checkFail = s.line.checkFail
    ∧ s.confirmPurge.line.rxMissed = s.line.rxMissed ∧ s.confirmPurge.line.txPartial = s.line.txPartial
    ∧ s.confirmPurge.line.settle = s.line.settle ∧ s.confirmPurge.line.lastDominant = s.line.lastDominant
    ∧ s.confirmPurge.line.inReset = s.line.inReset ∧ s.confirmPurge.line.sendingReset = s.line.sendingReset
    ∧ s.confirmPurge.line.receipt = s.line.receipt ∧ s.confirmPurge.roster.sn = s.roster.sn
    ∧ s.confirmPurge.roster.kpd = s.roster.kpd ∧ s.confirmPurge.roster.startCause = s.roster.startCause
    ∧ s.confirmPurge.roster.entries = s.roster.entries ∧ s.confirmPurge.roster.answeredAt = s.roster.answeredAt
    ∧ s.confirmPurge.roster.rollOwed = s.roster.rollOwed ∧ s.confirmPurge.verifier.hold = s.verifier.hold
    ∧ s.confirmPurge.slotTable.slots = s.slotTable.slots ∧ s.confirmPurge.slotTable.salt = s.slotTable.salt
    ∧ s.confirmPurge.slotTable.blankKey = s.slotTable.blankKey ∧ s.confirmPurge.slotTable.waits = s.slotTable.waits
    ∧ s.confirmPurge.slotTable.slotDiverged = s.slotTable.slotDiverged
    ∧ s.confirmPurge.purge.badBlocks = s.purge.badBlocks ∧ s.confirmPurge.purge.waits = s.purge.waits
    ∧ s.confirmPurge.gate.ranges = s.gate.ranges ∧ s.confirmPurge.gate.waits = s.gate.waits
    ∧ s.confirmPurge.gate.holder = s.gate.holder ∧ s.confirmPurge.gate.flashBusy = s.gate.flashBusy
    ∧ s.confirmPurge.gate.op = s.gate.op ∧ s.confirmPurge.gate.driven = s.gate.driven
    ∧ s.confirmPurge.gate.faultCount = s.gate.faultCount ∧ s.confirmPurge.gate.channelFault = s.gate.channelFault
    ∧ s.confirmPurge.gate.faultPeriod = s.gate.faultPeriod ∧ s.confirmPurge.gate.periodicDue = s.gate.periodicDue
    ∧ s.confirmPurge.gate.stepTimeout = s.gate.stepTimeout ∧ s.confirmPurge.supervisor = s.supervisor
    ∧ s.confirmPurge.setup = s.setup ∧ s.confirmPurge.store.stored = s.store.stored
    ∧ s.confirmPurge.store.deciding = s.store.deciding := by
  unfold State.confirmPurge
  (try dsimp only)
  (repeat' split) <;> first | (simp; done) | (simp [*]; done)

@[simp] theorem State.enterKey_frame (s : State) :
    s.enterKey.pending = s.pending ∧ s.enterKey.clock = s.clock ∧ s.enterKey.draws = s.draws
    ∧ s.enterKey.line.state = s.line.state ∧ s.enterKey.line.onLine = s.line.onLine
    ∧ s.enterKey.line.repeatUrgent = s.line.repeatUrgent ∧ s.enterKey.line.repeatOther = s.line.repeatOther
    ∧ s.enterKey.line.headerParity = s.line.headerParity ∧ s.enterKey.line.checkFail = s.line.checkFail
    ∧ s.enterKey.line.rxMissed = s.line.rxMissed ∧ s.enterKey.line.txPartial = s.line.txPartial
    ∧ s.enterKey.line.settle = s.line.settle ∧ s.enterKey.line.lastDominant = s.line.lastDominant
    ∧ s.enterKey.line.inReset = s.line.inReset ∧ s.enterKey.line.sendingReset = s.line.sendingReset
    ∧ s.enterKey.line.receipt = s.line.receipt ∧ s.enterKey.roster.sn = s.roster.sn
    ∧ s.enterKey.roster.kpd = s.roster.kpd ∧ s.enterKey.roster.startCause = s.roster.startCause
    ∧ s.enterKey.roster.entries = s.roster.entries ∧ s.enterKey.roster.answeredAt = s.roster.answeredAt
    ∧ s.enterKey.roster.rollOwed = s.roster.rollOwed ∧ s.enterKey.verifier.hold = s.verifier.hold
    ∧ s.enterKey.slotTable.slots = s.slotTable.slots ∧ s.enterKey.slotTable.salt = s.slotTable.salt
    ∧ s.enterKey.slotTable.blankKey = s.slotTable.blankKey ∧ s.enterKey.slotTable.waits = s.slotTable.waits
    ∧ s.enterKey.slotTable.slotDiverged = s.slotTable.slotDiverged ∧ s.enterKey.purge.badBlocks = s.purge.badBlocks
    ∧ s.enterKey.purge.waits = s.purge.waits ∧ s.enterKey.gate.ranges = s.gate.ranges
    ∧ s.enterKey.gate.waits = s.gate.waits ∧ s.enterKey.gate.holder = s.gate.holder
    ∧ s.enterKey.gate.flashBusy = s.gate.flashBusy ∧ s.enterKey.gate.op = s.gate.op
    ∧ s.enterKey.gate.driven = s.gate.driven ∧ s.enterKey.gate.faultCount = s.gate.faultCount
    ∧ s.enterKey.gate.channelFault = s.gate.channelFault ∧ s.enterKey.gate.faultPeriod = s.gate.faultPeriod
    ∧ s.enterKey.gate.periodicDue = s.gate.periodicDue ∧ s.enterKey.gate.stepTimeout = s.gate.stepTimeout
    ∧ s.enterKey.supervisor = s.supervisor ∧ s.enterKey.setup = s.setup ∧ s.enterKey.store.stored = s.store.stored
    ∧ s.enterKey.store.deciding = s.store.deciding := by
  unfold State.enterKey
  (try dsimp only)
  (repeat' split) <;> first | (simp; done) | (simp [*]; done)

@[simp] theorem State.readStore_frame (s : State) :
    s.readStore.pending = s.pending ∧ s.readStore.clock = s.clock ∧ s.readStore.draws = s.draws
    ∧ s.readStore.line = s.line ∧ s.readStore.roster = s.roster ∧ s.readStore.verifier.attempt = s.verifier.attempt
    ∧ s.readStore.verifier.hold = s.verifier.hold ∧ s.readStore.slotTable.unlockedKey = s.slotTable.unlockedKey
    ∧ s.readStore.slotTable.writes = s.slotTable.writes ∧ s.readStore.slotTable.waits = s.slotTable.waits
    ∧ s.readStore.slotTable.enrollment = s.slotTable.enrollment
    ∧ s.readStore.slotTable.slotDiverged = s.slotTable.slotDiverged ∧ s.readStore.phaseCtl = s.phaseCtl
    ∧ s.readStore.keyPort = s.keyPort ∧ s.readStore.purge.writes = s.purge.writes
    ∧ s.readStore.purge.plan = s.purge.plan ∧ s.readStore.purge.begun = s.purge.begun
    ∧ s.readStore.purge.closing = s.purge.closing ∧ s.readStore.purge.suspended = s.purge.suspended
    ∧ s.readStore.purge.heard = s.purge.heard ∧ s.readStore.purge.reoffer = s.purge.reoffer
    ∧ s.readStore.purge.pendingTarget = s.purge.pendingTarget ∧ s.readStore.purge.waits = s.purge.waits
    ∧ s.readStore.gate.writes = s.gate.writes ∧ s.readStore.gate.waits = s.gate.waits
    ∧ s.readStore.gate.owner = s.gate.owner ∧ s.readStore.gate.holder = s.gate.holder
    ∧ s.readStore.gate.handOver = s.gate.handOver ∧ s.readStore.gate.command = s.gate.command
    ∧ s.readStore.gate.flashBusy = s.gate.flashBusy ∧ s.readStore.gate.op = s.gate.op
    ∧ s.readStore.gate.driven = s.gate.driven ∧ s.readStore.gate.faultCount = s.gate.faultCount
    ∧ s.readStore.gate.channelFault = s.gate.channelFault ∧ s.readStore.gate.faultPeriod = s.gate.faultPeriod
    ∧ s.readStore.gate.periodicDue = s.gate.periodicDue ∧ s.readStore.gate.grant = s.gate.grant
    ∧ s.readStore.gate.gateDenied = s.gate.gateDenied ∧ s.readStore.gate.stepTimeout = s.gate.stepTimeout
    ∧ s.readStore.scanner = s.scanner ∧ s.readStore.supervisor = s.supervisor
    ∧ s.readStore.setup.keyingLeft = s.setup.keyingLeft ∧ s.readStore.setup.replyTo = s.setup.replyTo
    ∧ s.readStore.store = s.store := by
  unfold State.readStore
  (try dsimp only)
  (repeat' split) <;> first | (simp; done) | (simp [*]; done)

@[simp] theorem State.startHalted_frame (s : State) :
    s.startHalted.pending = s.pending ∧ s.startHalted.clock = s.clock ∧ s.startHalted.draws = s.draws
    ∧ s.startHalted.line.state = s.line.state ∧ s.startHalted.line.onLine = s.line.onLine
    ∧ s.startHalted.line.repeatUrgent = s.line.repeatUrgent ∧ s.startHalted.line.repeatOther = s.line.repeatOther
    ∧ s.startHalted.line.headerParity = s.line.headerParity ∧ s.startHalted.line.checkFail = s.line.checkFail
    ∧ s.startHalted.line.rxMissed = s.line.rxMissed ∧ s.startHalted.line.txPartial = s.line.txPartial
    ∧ s.startHalted.line.settle = s.line.settle ∧ s.startHalted.line.lastDominant = s.line.lastDominant
    ∧ s.startHalted.line.inReset = s.line.inReset ∧ s.startHalted.line.sendingReset = s.line.sendingReset
    ∧ s.startHalted.line.receipt = s.line.receipt ∧ s.startHalted.roster.sn = s.roster.sn
    ∧ s.startHalted.roster.kpd = s.roster.kpd ∧ s.startHalted.roster.startCause = s.roster.startCause
    ∧ s.startHalted.roster.entries = s.roster.entries ∧ s.startHalted.roster.answeredAt = s.roster.answeredAt
    ∧ s.startHalted.roster.rollOwed = s.roster.rollOwed ∧ s.startHalted.verifier = s.verifier
    ∧ s.startHalted.slotTable = s.slotTable ∧ s.startHalted.keyPort = s.keyPort ∧ s.startHalted.purge = s.purge
    ∧ s.startHalted.gate.ranges = s.gate.ranges ∧ s.startHalted.gate.writes = s.gate.writes
    ∧ s.startHalted.gate.waits = s.gate.waits ∧ s.startHalted.gate.holder = s.gate.holder
    ∧ s.startHalted.gate.flashBusy = s.gate.flashBusy ∧ s.startHalted.gate.op = s.gate.op
    ∧ s.startHalted.gate.driven = s.gate.driven ∧ s.startHalted.gate.faultCount = s.gate.faultCount
    ∧ s.startHalted.gate.channelFault = s.gate.channelFault ∧ s.startHalted.gate.faultPeriod = s.gate.faultPeriod
    ∧ s.startHalted.gate.periodicDue = s.gate.periodicDue ∧ s.startHalted.gate.stepTimeout = s.gate.stepTimeout
    ∧ s.startHalted.supervisor.supplyValid = s.supervisor.supplyValid
    ∧ s.startHalted.supervisor.dormant = s.supervisor.dormant
    ∧ s.startHalted.supervisor.attached = s.supervisor.attached ∧ s.startHalted.supervisor.band = s.supervisor.band
    ∧ s.startHalted.supervisor.tamperAsserted = s.supervisor.tamperAsserted
    ∧ s.startHalted.supervisor.tampered = s.supervisor.tampered ∧ s.startHalted.setup = s.setup
    ∧ s.startHalted.store = s.store := by
  unfold State.startHalted
  (try dsimp only)
  (repeat' split) <;> first | (simp; done) | (simp [*]; done)

@[simp] theorem State.resumePurge_frame (s : State) :
    s.resumePurge.pending = s.pending ∧ s.resumePurge.clock = s.clock ∧ s.resumePurge.line.state = s.line.state
    ∧ s.resumePurge.line.onLine = s.line.onLine ∧ s.resumePurge.line.repeatUrgent = s.line.repeatUrgent
    ∧ s.resumePurge.line.repeatOther = s.line.repeatOther ∧ s.resumePurge.line.headerParity = s.line.headerParity
    ∧ s.resumePurge.line.checkFail = s.line.checkFail ∧ s.resumePurge.line.rxMissed = s.line.rxMissed
    ∧ s.resumePurge.line.txPartial = s.line.txPartial ∧ s.resumePurge.line.settle = s.line.settle
    ∧ s.resumePurge.line.lastDominant = s.line.lastDominant ∧ s.resumePurge.line.inReset = s.line.inReset
    ∧ s.resumePurge.line.sendingReset = s.line.sendingReset ∧ s.resumePurge.line.receipt = s.line.receipt
    ∧ s.resumePurge.roster.sn = s.roster.sn ∧ s.resumePurge.roster.kpd = s.roster.kpd
    ∧ s.resumePurge.roster.startCause = s.roster.startCause ∧ s.resumePurge.roster.entries = s.roster.entries
    ∧ s.resumePurge.roster.answeredAt = s.roster.answeredAt ∧ s.resumePurge.verifier.attempt = s.verifier.attempt
    ∧ s.resumePurge.slotTable.salt = s.slotTable.salt ∧ s.resumePurge.slotTable.unlockedKey = s.slotTable.unlockedKey
    ∧ s.resumePurge.slotTable.enrollment = s.slotTable.enrollment
    ∧ s.resumePurge.slotTable.slotDiverged = s.slotTable.slotDiverged ∧ s.resumePurge.keyPort = s.keyPort
    ∧ s.resumePurge.purge.journal.isOpen = s.purge.journal.isOpen
    ∧ s.resumePurge.purge.journal.target = s.purge.journal.target
    ∧ s.resumePurge.purge.journal.cause = s.purge.journal.cause
    ∧ s.resumePurge.purge.pendingTarget = s.purge.pendingTarget ∧ s.resumePurge.purge.waits = s.purge.waits
    ∧ s.resumePurge.gate.holder = s.gate.holder ∧ s.resumePurge.gate.flashBusy = s.gate.flashBusy
    ∧ s.resumePurge.gate.faultCount = s.gate.faultCount ∧ s.resumePurge.gate.channelFault = s.gate.channelFault
    ∧ s.resumePurge.gate.faultPeriod = s.gate.faultPeriod ∧ s.resumePurge.gate.periodicDue = s.gate.periodicDue
    ∧ s.resumePurge.gate.stepTimeout = s.gate.stepTimeout
    ∧ s.resumePurge.supervisor.supplyValid = s.supervisor.supplyValid
    ∧ s.resumePurge.supervisor.dormant = s.supervisor.dormant
    ∧ s.resumePurge.supervisor.attached = s.supervisor.attached ∧ s.resumePurge.supervisor.band = s.supervisor.band
    ∧ s.resumePurge.supervisor.tamperAsserted = s.supervisor.tamperAsserted
    ∧ s.resumePurge.supervisor.haltMark = s.supervisor.haltMark ∧ s.resumePurge.setup = s.setup
    ∧ s.resumePurge.store.stored = s.store.stored ∧ s.resumePurge.store.deciding = s.store.deciding := by
  unfold State.resumePurge
  (try dsimp only)
  (repeat' split) <;> first | (simp; done) | (simp [*]; done)

@[simp] theorem State.choosePhase_frame (s : State) (cause : StartCause) :
    (s.choosePhase cause).pending = s.pending ∧ (s.choosePhase cause).clock = s.clock
    ∧ (s.choosePhase cause).line.repeatUrgent = s.line.repeatUrgent
    ∧ (s.choosePhase cause).line.repeatOther = s.line.repeatOther
    ∧ (s.choosePhase cause).line.headerParity = s.line.headerParity
    ∧ (s.choosePhase cause).line.checkFail = s.line.checkFail ∧ (s.choosePhase cause).line.rxMissed = s.line.rxMissed
    ∧ (s.choosePhase cause).line.txPartial = s.line.txPartial ∧ (s.choosePhase cause).line.settle = s.line.settle
    ∧ (s.choosePhase cause).line.inReset = s.line.inReset ∧ (s.choosePhase cause).line.receipt = s.line.receipt
    ∧ (s.choosePhase cause).roster.sn = s.roster.sn ∧ (s.choosePhase cause).roster.kpd = s.roster.kpd
    ∧ (s.choosePhase cause).roster.startCause = s.roster.startCause
    ∧ (s.choosePhase cause).roster.entries = s.roster.entries
    ∧ (s.choosePhase cause).roster.answeredAt = s.roster.answeredAt
    ∧ (s.choosePhase cause).slotTable.salt = s.slotTable.salt ∧ (s.choosePhase cause).purge.waits = s.purge.waits
    ∧ (s.choosePhase cause).gate.holder = s.gate.holder ∧ (s.choosePhase cause).gate.flashBusy = s.gate.flashBusy
    ∧ (s.choosePhase cause).gate.faultCount = s.gate.faultCount
    ∧ (s.choosePhase cause).gate.channelFault = s.gate.channelFault
    ∧ (s.choosePhase cause).supervisor.supplyValid = s.supervisor.supplyValid
    ∧ (s.choosePhase cause).supervisor.dormant = s.supervisor.dormant
    ∧ (s.choosePhase cause).supervisor.attached = s.supervisor.attached
    ∧ (s.choosePhase cause).supervisor.band = s.supervisor.band
    ∧ (s.choosePhase cause).supervisor.tamperAsserted = s.supervisor.tamperAsserted
    ∧ (s.choosePhase cause).setup = s.setup ∧ (s.choosePhase cause).store.stored = s.store.stored
    ∧ (s.choosePhase cause).store.deciding = s.store.deciding := by
  unfold State.choosePhase
  (try dsimp only)
  (repeat' split) <;> first | (simp; done) | (simp [*]; done)

@[simp] theorem State.attachNow_frame (s : State) :
    s.attachNow.pending = s.pending ∧ s.attachNow.clock = s.clock ∧ s.attachNow.draws = s.draws
    ∧ s.attachNow.line = s.line ∧ s.attachNow.roster = s.roster ∧ s.attachNow.verifier = s.verifier
    ∧ s.attachNow.slotTable.slots = s.slotTable.slots ∧ s.attachNow.slotTable.salt = s.slotTable.salt
    ∧ s.attachNow.slotTable.blankKey = s.slotTable.blankKey
    ∧ s.attachNow.slotTable.unlockedKey = s.slotTable.unlockedKey ∧ s.attachNow.slotTable.waits = s.slotTable.waits
    ∧ s.attachNow.slotTable.enrollment = s.slotTable.enrollment
    ∧ s.attachNow.slotTable.slotDiverged = s.slotTable.slotDiverged ∧ s.attachNow.phaseCtl.phase = s.phaseCtl.phase
    ∧ s.attachNow.phaseCtl.grant = s.phaseCtl.grant ∧ s.attachNow.keyPort = s.keyPort
    ∧ s.attachNow.purge.journal.isOpen = s.purge.journal.isOpen
    ∧ s.attachNow.purge.journal.target = s.purge.journal.target
    ∧ s.attachNow.purge.journal.cause = s.purge.journal.cause ∧ s.attachNow.purge.badBlocks = s.purge.badBlocks
    ∧ s.attachNow.purge.nextBlock = s.purge.nextBlock ∧ s.attachNow.purge.plan = s.purge.plan
    ∧ s.attachNow.purge.closing = s.purge.closing ∧ s.attachNow.purge.heard = s.purge.heard
    ∧ s.attachNow.purge.reoffer = s.purge.reoffer ∧ s.attachNow.purge.pendingTarget = s.purge.pendingTarget
    ∧ s.attachNow.purge.waits = s.purge.waits ∧ s.attachNow.gate.ranges = s.gate.ranges
    ∧ s.attachNow.gate.waits = s.gate.waits ∧ s.attachNow.gate.owner = s.gate.owner
    ∧ s.attachNow.gate.holder = s.gate.holder ∧ s.attachNow.gate.handOver = s.gate.handOver
    ∧ s.attachNow.gate.command = s.gate.command ∧ s.attachNow.gate.flashBusy = s.gate.flashBusy
    ∧ s.attachNow.gate.faultCount = s.gate.faultCount ∧ s.attachNow.gate.channelFault = s.gate.channelFault
    ∧ s.attachNow.gate.faultPeriod = s.gate.faultPeriod ∧ s.attachNow.gate.periodicDue = s.gate.periodicDue
    ∧ s.attachNow.gate.grant = s.gate.grant ∧ s.attachNow.gate.gateDenied = s.gate.gateDenied
    ∧ s.attachNow.gate.stepTimeout = s.gate.stepTimeout ∧ s.attachNow.scanner = s.scanner
    ∧ s.attachNow.supervisor.supplyValid = s.supervisor.supplyValid
    ∧ s.attachNow.supervisor.dormant = s.supervisor.dormant ∧ s.attachNow.supervisor.band = s.supervisor.band
    ∧ s.attachNow.supervisor.tamperAsserted = s.supervisor.tamperAsserted
    ∧ s.attachNow.supervisor.tampered = s.supervisor.tampered
    ∧ s.attachNow.supervisor.haltMark = s.supervisor.haltMark ∧ s.attachNow.setup = s.setup
    ∧ s.attachNow.store.stored = s.store.stored ∧ s.attachNow.store.deciding = s.store.deciding := by
  unfold State.attachNow
  (try dsimp only)
  (repeat' split) <;> first | (simp; done) | (simp [*]; done)

@[simp] theorem State.actOnTamper_frame (s : State) :
    s.actOnTamper.pending = s.pending ∧ s.actOnTamper.clock = s.clock ∧ s.actOnTamper.draws = s.draws
    ∧ s.actOnTamper.line.state = s.line.state ∧ s.actOnTamper.line.onLine = s.line.onLine
    ∧ s.actOnTamper.line.repeatUrgent = s.line.repeatUrgent ∧ s.actOnTamper.line.repeatOther = s.line.repeatOther
    ∧ s.actOnTamper.line.headerParity = s.line.headerParity ∧ s.actOnTamper.line.checkFail = s.line.checkFail
    ∧ s.actOnTamper.line.rxMissed = s.line.rxMissed ∧ s.actOnTamper.line.txPartial = s.line.txPartial
    ∧ s.actOnTamper.line.settle = s.line.settle ∧ s.actOnTamper.line.lastDominant = s.line.lastDominant
    ∧ s.actOnTamper.line.inReset = s.line.inReset ∧ s.actOnTamper.line.sendingReset = s.line.sendingReset
    ∧ s.actOnTamper.line.receipt = s.line.receipt ∧ s.actOnTamper.roster.sn = s.roster.sn
    ∧ s.actOnTamper.roster.kpd = s.roster.kpd ∧ s.actOnTamper.roster.startCause = s.roster.startCause
    ∧ s.actOnTamper.roster.entries = s.roster.entries ∧ s.actOnTamper.roster.answeredAt = s.roster.answeredAt
    ∧ s.actOnTamper.roster.rollOwed = s.roster.rollOwed ∧ s.actOnTamper.slotTable.slots = s.slotTable.slots
    ∧ s.actOnTamper.slotTable.salt = s.slotTable.salt ∧ s.actOnTamper.slotTable.blankKey = s.slotTable.blankKey
    ∧ s.actOnTamper.slotTable.waits = s.slotTable.waits
    ∧ s.actOnTamper.slotTable.slotDiverged = s.slotTable.slotDiverged
    ∧ s.actOnTamper.purge.badBlocks = s.purge.badBlocks ∧ s.actOnTamper.purge.waits = s.purge.waits
    ∧ s.actOnTamper.gate.ranges = s.gate.ranges ∧ s.actOnTamper.gate.waits = s.gate.waits
    ∧ s.actOnTamper.gate.holder = s.gate.holder ∧ s.actOnTamper.gate.flashBusy = s.gate.flashBusy
    ∧ s.actOnTamper.gate.op = s.gate.op ∧ s.actOnTamper.gate.driven = s.gate.driven
    ∧ s.actOnTamper.gate.faultCount = s.gate.faultCount ∧ s.actOnTamper.gate.channelFault = s.gate.channelFault
    ∧ s.actOnTamper.gate.faultPeriod = s.gate.faultPeriod ∧ s.actOnTamper.gate.periodicDue = s.gate.periodicDue
    ∧ s.actOnTamper.gate.stepTimeout = s.gate.stepTimeout ∧ s.actOnTamper.supervisor = s.supervisor
    ∧ s.actOnTamper.setup = s.setup ∧ s.actOnTamper.store.stored = s.store.stored
    ∧ s.actOnTamper.store.deciding = s.store.deciding := by
  unfold State.actOnTamper
  (try dsimp only)
  (repeat' split) <;> first | (simp; done) | (simp [*]; done)

@[simp] theorem State.assertTamper_frame (s : State) :
    s.assertTamper.pending = s.pending ∧ s.assertTamper.clock = s.clock ∧ s.assertTamper.draws = s.draws
    ∧ s.assertTamper.line.state = s.line.state ∧ s.assertTamper.line.onLine = s.line.onLine
    ∧ s.assertTamper.line.repeatUrgent = s.line.repeatUrgent ∧ s.assertTamper.line.repeatOther = s.line.repeatOther
    ∧ s.assertTamper.line.headerParity = s.line.headerParity ∧ s.assertTamper.line.checkFail = s.line.checkFail
    ∧ s.assertTamper.line.rxMissed = s.line.rxMissed ∧ s.assertTamper.line.txPartial = s.line.txPartial
    ∧ s.assertTamper.line.settle = s.line.settle ∧ s.assertTamper.line.lastDominant = s.line.lastDominant
    ∧ s.assertTamper.line.inReset = s.line.inReset ∧ s.assertTamper.line.sendingReset = s.line.sendingReset
    ∧ s.assertTamper.line.receipt = s.line.receipt ∧ s.assertTamper.roster.sn = s.roster.sn
    ∧ s.assertTamper.roster.kpd = s.roster.kpd ∧ s.assertTamper.roster.startCause = s.roster.startCause
    ∧ s.assertTamper.roster.entries = s.roster.entries ∧ s.assertTamper.roster.answeredAt = s.roster.answeredAt
    ∧ s.assertTamper.slotTable.slots = s.slotTable.slots ∧ s.assertTamper.slotTable.salt = s.slotTable.salt
    ∧ s.assertTamper.slotTable.blankKey = s.slotTable.blankKey ∧ s.assertTamper.slotTable.waits = s.slotTable.waits
    ∧ s.assertTamper.slotTable.slotDiverged = s.slotTable.slotDiverged
    ∧ s.assertTamper.purge.badBlocks = s.purge.badBlocks ∧ s.assertTamper.purge.waits = s.purge.waits
    ∧ s.assertTamper.gate.ranges = s.gate.ranges ∧ s.assertTamper.gate.waits = s.gate.waits
    ∧ s.assertTamper.gate.holder = s.gate.holder ∧ s.assertTamper.gate.flashBusy = s.gate.flashBusy
    ∧ s.assertTamper.gate.op = s.gate.op ∧ s.assertTamper.gate.driven = s.gate.driven
    ∧ s.assertTamper.gate.faultCount = s.gate.faultCount ∧ s.assertTamper.gate.channelFault = s.gate.channelFault
    ∧ s.assertTamper.gate.faultPeriod = s.gate.faultPeriod ∧ s.assertTamper.gate.periodicDue = s.gate.periodicDue
    ∧ s.assertTamper.gate.stepTimeout = s.gate.stepTimeout
    ∧ s.assertTamper.supervisor.supplyValid = s.supervisor.supplyValid
    ∧ s.assertTamper.supervisor.dormant = s.supervisor.dormant
    ∧ s.assertTamper.supervisor.attached = s.supervisor.attached ∧ s.assertTamper.supervisor.band = s.supervisor.band
    ∧ s.assertTamper.supervisor.haltMark = s.supervisor.haltMark ∧ s.assertTamper.setup = s.setup
    ∧ s.assertTamper.store.stored = s.store.stored ∧ s.assertTamper.store.deciding = s.store.deciding := by
  unfold State.assertTamper
  (try dsimp only)
  (repeat' split) <;> first | (simp; done) | (simp [*]; done)

@[simp] theorem State.answerSetup_frame (s : State) (n : StationNo) (request : Kind) (r : AnswerResult) :
    (s.answerSetup n request r).pending = s.pending ∧ (s.answerSetup n request r).clock = s.clock
    ∧ (s.answerSetup n request r).draws = s.draws ∧ (s.answerSetup n request r).line.state = s.line.state
    ∧ (s.answerSetup n request r).line.onLine = s.line.onLine
    ∧ (s.answerSetup n request r).line.repeatUrgent = s.line.repeatUrgent
    ∧ (s.answerSetup n request r).line.repeatOther = s.line.repeatOther
    ∧ (s.answerSetup n request r).line.headerParity = s.line.headerParity
    ∧ (s.answerSetup n request r).line.checkFail = s.line.checkFail
    ∧ (s.answerSetup n request r).line.rxMissed = s.line.rxMissed
    ∧ (s.answerSetup n request r).line.txPartial = s.line.txPartial
    ∧ (s.answerSetup n request r).line.settle = s.line.settle
    ∧ (s.answerSetup n request r).line.lastDominant = s.line.lastDominant
    ∧ (s.answerSetup n request r).line.inReset = s.line.inReset
    ∧ (s.answerSetup n request r).line.sendingReset = s.line.sendingReset
    ∧ (s.answerSetup n request r).line.receipt = s.line.receipt ∧ (s.answerSetup n request r).roster = s.roster
    ∧ (s.answerSetup n request r).verifier = s.verifier ∧ (s.answerSetup n request r).slotTable = s.slotTable
    ∧ (s.answerSetup n request r).phaseCtl = s.phaseCtl ∧ (s.answerSetup n request r).keyPort = s.keyPort
    ∧ (s.answerSetup n request r).purge = s.purge ∧ (s.answerSetup n request r).gate = s.gate
    ∧ (s.answerSetup n request r).scanner = s.scanner ∧ (s.answerSetup n request r).supervisor = s.supervisor
    ∧ (s.answerSetup n request r).setup = s.setup ∧ (s.answerSetup n request r).store = s.store := by
  unfold State.answerSetup
  (try dsimp only)
  (repeat' split) <;> first | (simp; done) | (simp [*]; done)

@[simp] theorem State.storeSetup_frame (s : State) (n : StationNo) (r : SetupRecord) :
    (s.storeSetup n r).pending = s.pending ∧ (s.storeSetup n r).clock = s.clock ∧ (s.storeSetup n r).draws = s.draws
    ∧ (s.storeSetup n r).line = s.line ∧ (s.storeSetup n r).roster = s.roster
    ∧ (s.storeSetup n r).verifier = s.verifier ∧ (s.storeSetup n r).slotTable = s.slotTable
    ∧ (s.storeSetup n r).phaseCtl = s.phaseCtl ∧ (s.storeSetup n r).keyPort = s.keyPort
    ∧ (s.storeSetup n r).purge = s.purge ∧ (s.storeSetup n r).gate = s.gate ∧ (s.storeSetup n r).scanner = s.scanner
    ∧ (s.storeSetup n r).supervisor = s.supervisor ∧ (s.storeSetup n r).setup.keyingLeft = s.setup.keyingLeft
    ∧ (s.storeSetup n r).store.stored = s.store.stored ∧ (s.storeSetup n r).store.deciding = s.store.deciding := by
  unfold State.storeSetup
  (try dsimp only)
  (repeat' split) <;> first | (simp; done) | (simp [*]; done)

@[simp] theorem State.checkSetup_frame (s : State) (f : RxFrame) :
    (s.checkSetup f).pending = s.pending ∧ (s.checkSetup f).clock = s.clock ∧ (s.checkSetup f).draws = s.draws
    ∧ (s.checkSetup f).line.state = s.line.state ∧ (s.checkSetup f).line.onLine = s.line.onLine
    ∧ (s.checkSetup f).line.repeatUrgent = s.line.repeatUrgent
    ∧ (s.checkSetup f).line.repeatOther = s.line.repeatOther
    ∧ (s.checkSetup f).line.headerParity = s.line.headerParity ∧ (s.checkSetup f).line.checkFail = s.line.checkFail
    ∧ (s.checkSetup f).line.rxMissed = s.line.rxMissed ∧ (s.checkSetup f).line.txPartial = s.line.txPartial
    ∧ (s.checkSetup f).line.settle = s.line.settle ∧ (s.checkSetup f).line.lastDominant = s.line.lastDominant
    ∧ (s.checkSetup f).line.inReset = s.line.inReset ∧ (s.checkSetup f).line.sendingReset = s.line.sendingReset
    ∧ (s.checkSetup f).line.receipt = s.line.receipt ∧ (s.checkSetup f).roster = s.roster
    ∧ (s.checkSetup f).verifier = s.verifier ∧ (s.checkSetup f).slotTable = s.slotTable
    ∧ (s.checkSetup f).phaseCtl = s.phaseCtl ∧ (s.checkSetup f).keyPort = s.keyPort ∧ (s.checkSetup f).purge = s.purge
    ∧ (s.checkSetup f).gate = s.gate ∧ (s.checkSetup f).scanner = s.scanner
    ∧ (s.checkSetup f).supervisor = s.supervisor ∧ (s.checkSetup f).setup.keyingLeft = s.setup.keyingLeft
    ∧ (s.checkSetup f).store.stored = s.store.stored ∧ (s.checkSetup f).store.deciding = s.store.deciding := by
  unfold State.checkSetup
  (try dsimp only)
  (repeat' split) <;> first | (simp; done) | (simp [*]; done)

@[simp] theorem State.keyBlocks_frame (s : State) :
    s.keyBlocks.pending = s.pending ∧ s.keyBlocks.clock = s.clock ∧ s.keyBlocks.line = s.line
    ∧ s.keyBlocks.roster = s.roster ∧ s.keyBlocks.verifier.attempt = s.verifier.attempt
    ∧ s.keyBlocks.verifier.hold = s.verifier.hold ∧ s.keyBlocks.slotTable.unlockedKey = s.slotTable.unlockedKey
    ∧ s.keyBlocks.slotTable.writes = s.slotTable.writes ∧ s.keyBlocks.slotTable.waits = s.slotTable.waits
    ∧ s.keyBlocks.slotTable.enrollment = s.slotTable.enrollment
    ∧ s.keyBlocks.slotTable.slotDiverged = s.slotTable.slotDiverged ∧ s.keyBlocks.phaseCtl = s.phaseCtl
    ∧ s.keyBlocks.keyPort = s.keyPort ∧ s.keyBlocks.purge.writes = s.purge.writes
    ∧ s.keyBlocks.purge.plan = s.purge.plan ∧ s.keyBlocks.purge.begun = s.purge.begun
    ∧ s.keyBlocks.purge.closing = s.purge.closing ∧ s.keyBlocks.purge.suspended = s.purge.suspended
    ∧ s.keyBlocks.purge.heard = s.purge.heard ∧ s.keyBlocks.purge.reoffer = s.purge.reoffer
    ∧ s.keyBlocks.purge.pendingTarget = s.purge.pendingTarget ∧ s.keyBlocks.purge.waits = s.purge.waits
    ∧ s.keyBlocks.gate.writes = s.gate.writes ∧ s.keyBlocks.gate.waits = s.gate.waits
    ∧ s.keyBlocks.gate.holder = s.gate.holder ∧ s.keyBlocks.gate.flashBusy = s.gate.flashBusy
    ∧ s.keyBlocks.gate.op = s.gate.op ∧ s.keyBlocks.gate.driven = s.gate.driven
    ∧ s.keyBlocks.gate.faultCount = s.gate.faultCount ∧ s.keyBlocks.gate.channelFault = s.gate.channelFault
    ∧ s.keyBlocks.gate.faultPeriod = s.gate.faultPeriod ∧ s.keyBlocks.gate.periodicDue = s.gate.periodicDue
    ∧ s.keyBlocks.gate.grant = s.gate.grant ∧ s.keyBlocks.gate.stepTimeout = s.gate.stepTimeout
    ∧ s.keyBlocks.scanner = s.scanner ∧ s.keyBlocks.supervisor = s.supervisor ∧ s.keyBlocks.setup = s.setup
    ∧ s.keyBlocks.store = s.store := by
  unfold State.keyBlocks
  (try dsimp only)
  (repeat' split) <;> first | (simp; done) | (simp [*]; done)

@[simp] theorem State.requestKeying_frame (s : State) :
    s.requestKeying.pending = s.pending ∧ s.requestKeying.clock = s.clock ∧ s.requestKeying.draws = s.draws
    ∧ s.requestKeying.line = s.line ∧ s.requestKeying.roster = s.roster ∧ s.requestKeying.verifier = s.verifier
    ∧ s.requestKeying.slotTable = s.slotTable ∧ s.requestKeying.phaseCtl = s.phaseCtl
    ∧ s.requestKeying.keyPort = s.keyPort ∧ s.requestKeying.purge = s.purge ∧ s.requestKeying.gate = s.gate
    ∧ s.requestKeying.scanner = s.scanner ∧ s.requestKeying.supervisor = s.supervisor
    ∧ s.requestKeying.setup = s.setup ∧ s.requestKeying.store.stored = s.store.stored
    ∧ s.requestKeying.store.deciding = s.store.deciding := by
  unfold State.requestKeying
  (try dsimp only)
  (repeat' split) <;> first | (simp; done) | (simp [*]; done)

@[simp] theorem State.beginKeying_frame (s : State) (n : StationNo) :
    (s.beginKeying n).pending = s.pending ∧ (s.beginKeying n).clock = s.clock ∧ (s.beginKeying n).line = s.line
    ∧ (s.beginKeying n).roster = s.roster ∧ (s.beginKeying n).verifier.attempt = s.verifier.attempt
    ∧ (s.beginKeying n).verifier.hold = s.verifier.hold
    ∧ (s.beginKeying n).slotTable.unlockedKey = s.slotTable.unlockedKey
    ∧ (s.beginKeying n).slotTable.writes = s.slotTable.writes ∧ (s.beginKeying n).slotTable.waits = s.slotTable.waits
    ∧ (s.beginKeying n).slotTable.enrollment = s.slotTable.enrollment
    ∧ (s.beginKeying n).slotTable.slotDiverged = s.slotTable.slotDiverged ∧ (s.beginKeying n).phaseCtl = s.phaseCtl
    ∧ (s.beginKeying n).keyPort = s.keyPort ∧ (s.beginKeying n).purge.writes = s.purge.writes
    ∧ (s.beginKeying n).purge.plan = s.purge.plan ∧ (s.beginKeying n).purge.begun = s.purge.begun
    ∧ (s.beginKeying n).purge.closing = s.purge.closing ∧ (s.beginKeying n).purge.suspended = s.purge.suspended
    ∧ (s.beginKeying n).purge.heard = s.purge.heard ∧ (s.beginKeying n).purge.reoffer = s.purge.reoffer
    ∧ (s.beginKeying n).purge.pendingTarget = s.purge.pendingTarget ∧ (s.beginKeying n).purge.waits = s.purge.waits
    ∧ (s.beginKeying n).gate.writes = s.gate.writes ∧ (s.beginKeying n).gate.waits = s.gate.waits
    ∧ (s.beginKeying n).gate.holder = s.gate.holder ∧ (s.beginKeying n).gate.flashBusy = s.gate.flashBusy
    ∧ (s.beginKeying n).gate.op = s.gate.op ∧ (s.beginKeying n).gate.driven = s.gate.driven
    ∧ (s.beginKeying n).gate.faultCount = s.gate.faultCount
    ∧ (s.beginKeying n).gate.channelFault = s.gate.channelFault
    ∧ (s.beginKeying n).gate.faultPeriod = s.gate.faultPeriod
    ∧ (s.beginKeying n).gate.periodicDue = s.gate.periodicDue ∧ (s.beginKeying n).gate.grant = s.gate.grant
    ∧ (s.beginKeying n).gate.stepTimeout = s.gate.stepTimeout ∧ (s.beginKeying n).scanner = s.scanner
    ∧ (s.beginKeying n).supervisor = s.supervisor ∧ (s.beginKeying n).setup.held = s.setup.held
    ∧ (s.beginKeying n).store.stored = s.store.stored ∧ (s.beginKeying n).store.deciding = s.store.deciding := by
  unfold State.beginKeying
  (try dsimp only)
  (repeat' split) <;> first | (simp; done) | (simp [*]; done)

@[simp] theorem State.checkSetupLock_frame (s : State) (f : RxFrame) :
    (s.checkSetupLock f).pending = s.pending ∧ (s.checkSetupLock f).clock = s.clock
    ∧ (s.checkSetupLock f).line.state = s.line.state ∧ (s.checkSetupLock f).line.onLine = s.line.onLine
    ∧ (s.checkSetupLock f).line.repeatUrgent = s.line.repeatUrgent
    ∧ (s.checkSetupLock f).line.repeatOther = s.line.repeatOther
    ∧ (s.checkSetupLock f).line.headerParity = s.line.headerParity
    ∧ (s.checkSetupLock f).line.checkFail = s.line.checkFail ∧ (s.checkSetupLock f).line.rxMissed = s.line.rxMissed
    ∧ (s.checkSetupLock f).line.txPartial = s.line.txPartial ∧ (s.checkSetupLock f).line.settle = s.line.settle
    ∧ (s.checkSetupLock f).line.lastDominant = s.line.lastDominant
    ∧ (s.checkSetupLock f).line.inReset = s.line.inReset
    ∧ (s.checkSetupLock f).line.sendingReset = s.line.sendingReset
    ∧ (s.checkSetupLock f).line.receipt = s.line.receipt ∧ (s.checkSetupLock f).roster = s.roster
    ∧ (s.checkSetupLock f).verifier.attempt = s.verifier.attempt
    ∧ (s.checkSetupLock f).verifier.hold = s.verifier.hold
    ∧ (s.checkSetupLock f).slotTable.unlockedKey = s.slotTable.unlockedKey
    ∧ (s.checkSetupLock f).slotTable.writes = s.slotTable.writes
    ∧ (s.checkSetupLock f).slotTable.waits = s.slotTable.waits
    ∧ (s.checkSetupLock f).slotTable.enrollment = s.slotTable.enrollment
    ∧ (s.checkSetupLock f).slotTable.slotDiverged = s.slotTable.slotDiverged
    ∧ (s.checkSetupLock f).phaseCtl = s.phaseCtl ∧ (s.checkSetupLock f).keyPort = s.keyPort
    ∧ (s.checkSetupLock f).purge.writes = s.purge.writes ∧ (s.checkSetupLock f).purge.plan = s.purge.plan
    ∧ (s.checkSetupLock f).purge.begun = s.purge.begun ∧ (s.checkSetupLock f).purge.closing = s.purge.closing
    ∧ (s.checkSetupLock f).purge.suspended = s.purge.suspended ∧ (s.checkSetupLock f).purge.heard = s.purge.heard
    ∧ (s.checkSetupLock f).purge.reoffer = s.purge.reoffer
    ∧ (s.checkSetupLock f).purge.pendingTarget = s.purge.pendingTarget
    ∧ (s.checkSetupLock f).purge.waits = s.purge.waits ∧ (s.checkSetupLock f).gate.writes = s.gate.writes
    ∧ (s.checkSetupLock f).gate.waits = s.gate.waits ∧ (s.checkSetupLock f).gate.holder = s.gate.holder
    ∧ (s.checkSetupLock f).gate.flashBusy = s.gate.flashBusy ∧ (s.checkSetupLock f).gate.op = s.gate.op
    ∧ (s.checkSetupLock f).gate.driven = s.gate.driven ∧ (s.checkSetupLock f).gate.faultCount = s.gate.faultCount
    ∧ (s.checkSetupLock f).gate.channelFault = s.gate.channelFault
    ∧ (s.checkSetupLock f).gate.faultPeriod = s.gate.faultPeriod
    ∧ (s.checkSetupLock f).gate.periodicDue = s.gate.periodicDue ∧ (s.checkSetupLock f).gate.grant = s.gate.grant
    ∧ (s.checkSetupLock f).gate.stepTimeout = s.gate.stepTimeout ∧ (s.checkSetupLock f).scanner = s.scanner
    ∧ (s.checkSetupLock f).supervisor = s.supervisor ∧ (s.checkSetupLock f).setup.held = s.setup.held
    ∧ (s.checkSetupLock f).store.stored = s.store.stored ∧ (s.checkSetupLock f).store.deciding = s.store.deciding := by
  unfold State.checkSetupLock
  (try dsimp only)
  (repeat' split) <;> first | (simp; done) | (simp [*]; done)

@[simp] theorem State.keyed_frame (s : State) (rec : RecordId) :
    (s.keyed rec).pending = s.pending ∧ (s.keyed rec).clock = s.clock ∧ (s.keyed rec).draws = s.draws
    ∧ (s.keyed rec).line = s.line ∧ (s.keyed rec).roster = s.roster ∧ (s.keyed rec).verifier = s.verifier
    ∧ (s.keyed rec).slotTable = s.slotTable ∧ (s.keyed rec).phaseCtl = s.phaseCtl ∧ (s.keyed rec).keyPort = s.keyPort
    ∧ (s.keyed rec).purge = s.purge ∧ (s.keyed rec).gate = s.gate ∧ (s.keyed rec).scanner = s.scanner
    ∧ (s.keyed rec).supervisor = s.supervisor ∧ (s.keyed rec).setup.state = s.setup.state
    ∧ (s.keyed rec).setup.replyTo = s.setup.replyTo ∧ (s.keyed rec).store.stored = s.store.stored
    ∧ (s.keyed rec).store.deciding = s.store.deciding := by
  unfold State.keyed
  (try dsimp only)
  (repeat' split) <;> first | (simp; done) | (simp [*]; done)

@[simp] theorem State.lockedStored_frame (s : State) :
    s.lockedStored.pending = s.pending ∧ s.lockedStored.clock = s.clock ∧ s.lockedStored.draws = s.draws
    ∧ s.lockedStored.line.repeatUrgent = s.line.repeatUrgent ∧ s.lockedStored.line.repeatOther = s.line.repeatOther
    ∧ s.lockedStored.line.headerParity = s.line.headerParity ∧ s.lockedStored.line.checkFail = s.line.checkFail
    ∧ s.lockedStored.line.rxMissed = s.line.rxMissed ∧ s.lockedStored.line.txPartial = s.line.txPartial
    ∧ s.lockedStored.line.settle = s.line.settle ∧ s.lockedStored.line.inReset = s.line.inReset
    ∧ s.lockedStored.line.receipt = s.line.receipt ∧ s.lockedStored.roster.sn = s.roster.sn
    ∧ s.lockedStored.roster.kpd = s.roster.kpd ∧ s.lockedStored.roster.startCause = s.roster.startCause
    ∧ s.lockedStored.roster.entries = s.roster.entries ∧ s.lockedStored.roster.answeredAt = s.roster.answeredAt
    ∧ s.lockedStored.roster.rollOwed = s.roster.rollOwed ∧ s.lockedStored.slotTable.salt = s.slotTable.salt
    ∧ s.lockedStored.purge.badBlocks = s.purge.badBlocks ∧ s.lockedStored.purge.waits = s.purge.waits
    ∧ s.lockedStored.gate.ranges = s.gate.ranges ∧ s.lockedStored.gate.waits = s.gate.waits
    ∧ s.lockedStored.gate.holder = s.gate.holder ∧ s.lockedStored.gate.flashBusy = s.gate.flashBusy
    ∧ s.lockedStored.gate.op = s.gate.op ∧ s.lockedStored.gate.driven = s.gate.driven
    ∧ s.lockedStored.gate.faultCount = s.gate.faultCount ∧ s.lockedStored.gate.channelFault = s.gate.channelFault
    ∧ s.lockedStored.supervisor.supplyValid = s.supervisor.supplyValid
    ∧ s.lockedStored.supervisor.dormant = s.supervisor.dormant
    ∧ s.lockedStored.supervisor.attached = s.supervisor.attached ∧ s.lockedStored.supervisor.band = s.supervisor.band
    ∧ s.lockedStored.supervisor.tamperAsserted = s.supervisor.tamperAsserted
    ∧ s.lockedStored.supervisor.tampered = s.supervisor.tampered ∧ s.lockedStored.setup.held = s.setup.held
    ∧ s.lockedStored.setup.keyingLeft = s.setup.keyingLeft ∧ s.lockedStored.setup.replyTo = s.setup.replyTo
    ∧ s.lockedStored.store.stored = s.store.stored ∧ s.lockedStored.store.deciding = s.store.deciding := by
  unfold State.lockedStored
  (try dsimp only)
  (repeat' split) <;> first | (simp; done) | (simp [*]; done)

@[simp] theorem State.answerQuery_frame (s : State) (f : RxFrame) :
    (s.answerQuery f).pending = s.pending ∧ (s.answerQuery f).clock = s.clock ∧ (s.answerQuery f).draws = s.draws
    ∧ (s.answerQuery f).line.state = s.line.state ∧ (s.answerQuery f).line.onLine = s.line.onLine
    ∧ (s.answerQuery f).line.repeatUrgent = s.line.repeatUrgent
    ∧ (s.answerQuery f).line.repeatOther = s.line.repeatOther
    ∧ (s.answerQuery f).line.headerParity = s.line.headerParity ∧ (s.answerQuery f).line.checkFail = s.line.checkFail
    ∧ (s.answerQuery f).line.rxMissed = s.line.rxMissed ∧ (s.answerQuery f).line.txPartial = s.line.txPartial
    ∧ (s.answerQuery f).line.settle = s.line.settle ∧ (s.answerQuery f).line.lastDominant = s.line.lastDominant
    ∧ (s.answerQuery f).line.inReset = s.line.inReset ∧ (s.answerQuery f).line.sendingReset = s.line.sendingReset
    ∧ (s.answerQuery f).line.receipt = s.line.receipt ∧ (s.answerQuery f).roster = s.roster
    ∧ (s.answerQuery f).verifier = s.verifier ∧ (s.answerQuery f).slotTable = s.slotTable
    ∧ (s.answerQuery f).phaseCtl = s.phaseCtl ∧ (s.answerQuery f).keyPort = s.keyPort
    ∧ (s.answerQuery f).purge = s.purge ∧ (s.answerQuery f).gate = s.gate ∧ (s.answerQuery f).scanner = s.scanner
    ∧ (s.answerQuery f).supervisor = s.supervisor ∧ (s.answerQuery f).setup = s.setup
    ∧ (s.answerQuery f).store = s.store := by
  unfold State.answerQuery
  (try dsimp only)
  (repeat' split) <;> first | (simp; done) | (simp [*]; done)

@[simp] theorem State.answerClear_frame (s : State) (n : StationNo) (r : AnswerResult) :
    (s.answerClear n r).pending = s.pending ∧ (s.answerClear n r).clock = s.clock
    ∧ (s.answerClear n r).draws = s.draws ∧ (s.answerClear n r).line.state = s.line.state
    ∧ (s.answerClear n r).line.onLine = s.line.onLine ∧ (s.answerClear n r).line.repeatUrgent = s.line.repeatUrgent
    ∧ (s.answerClear n r).line.repeatOther = s.line.repeatOther
    ∧ (s.answerClear n r).line.headerParity = s.line.headerParity
    ∧ (s.answerClear n r).line.checkFail = s.line.checkFail ∧ (s.answerClear n r).line.rxMissed = s.line.rxMissed
    ∧ (s.answerClear n r).line.txPartial = s.line.txPartial ∧ (s.answerClear n r).line.settle = s.line.settle
    ∧ (s.answerClear n r).line.lastDominant = s.line.lastDominant ∧ (s.answerClear n r).line.inReset = s.line.inReset
    ∧ (s.answerClear n r).line.sendingReset = s.line.sendingReset ∧ (s.answerClear n r).line.receipt = s.line.receipt
    ∧ (s.answerClear n r).roster = s.roster ∧ (s.answerClear n r).verifier = s.verifier
    ∧ (s.answerClear n r).slotTable = s.slotTable ∧ (s.answerClear n r).phaseCtl = s.phaseCtl
    ∧ (s.answerClear n r).keyPort = s.keyPort ∧ (s.answerClear n r).purge = s.purge
    ∧ (s.answerClear n r).gate = s.gate ∧ (s.answerClear n r).scanner = s.scanner
    ∧ (s.answerClear n r).supervisor = s.supervisor ∧ (s.answerClear n r).setup = s.setup
    ∧ (s.answerClear n r).store = s.store := by
  unfold State.answerClear
  (try dsimp only)
  (repeat' split) <;> first | (simp; done) | (simp [*]; done)

@[simp] theorem State.handleClear_frame (s : State) (f : RxFrame) :
    (s.handleClear f).pending = s.pending ∧ (s.handleClear f).clock = s.clock ∧ (s.handleClear f).draws = s.draws
    ∧ (s.handleClear f).line.state = s.line.state ∧ (s.handleClear f).line.onLine = s.line.onLine
    ∧ (s.handleClear f).line.repeatUrgent = s.line.repeatUrgent
    ∧ (s.handleClear f).line.repeatOther = s.line.repeatOther ∧ (s.handleClear f).line.settle = s.line.settle
    ∧ (s.handleClear f).line.lastDominant = s.line.lastDominant ∧ (s.handleClear f).line.inReset = s.line.inReset
    ∧ (s.handleClear f).line.sendingReset = s.line.sendingReset ∧ (s.handleClear f).line.receipt = s.line.receipt
    ∧ (s.handleClear f).roster = s.roster ∧ (s.handleClear f).verifier = s.verifier
    ∧ (s.handleClear f).slotTable.slots = s.slotTable.slots ∧ (s.handleClear f).slotTable.salt = s.slotTable.salt
    ∧ (s.handleClear f).slotTable.blankKey = s.slotTable.blankKey
    ∧ (s.handleClear f).slotTable.unlockedKey = s.slotTable.unlockedKey
    ∧ (s.handleClear f).slotTable.writes = s.slotTable.writes ∧ (s.handleClear f).slotTable.waits = s.slotTable.waits
    ∧ (s.handleClear f).slotTable.enrollment = s.slotTable.enrollment ∧ (s.handleClear f).phaseCtl = s.phaseCtl
    ∧ (s.handleClear f).keyPort = s.keyPort ∧ (s.handleClear f).purge = s.purge
    ∧ (s.handleClear f).gate.ranges = s.gate.ranges ∧ (s.handleClear f).gate.writes = s.gate.writes
    ∧ (s.handleClear f).gate.waits = s.gate.waits ∧ (s.handleClear f).gate.owner = s.gate.owner
    ∧ (s.handleClear f).gate.holder = s.gate.holder ∧ (s.handleClear f).gate.handOver = s.gate.handOver
    ∧ (s.handleClear f).gate.command = s.gate.command ∧ (s.handleClear f).gate.flashBusy = s.gate.flashBusy
    ∧ (s.handleClear f).gate.op = s.gate.op ∧ (s.handleClear f).gate.driven = s.gate.driven
    ∧ (s.handleClear f).gate.faultCount = s.gate.faultCount
    ∧ (s.handleClear f).gate.channelFault = s.gate.channelFault
    ∧ (s.handleClear f).gate.faultPeriod = s.gate.faultPeriod
    ∧ (s.handleClear f).gate.periodicDue = s.gate.periodicDue ∧ (s.handleClear f).gate.grant = s.gate.grant
    ∧ (s.handleClear f).scanner = s.scanner ∧ (s.handleClear f).supervisor = s.supervisor
    ∧ (s.handleClear f).setup = s.setup ∧ (s.handleClear f).store = s.store := by
  unfold State.handleClear
  (try dsimp only)
  (repeat' split) <;> first | (simp; done) | (simp [*]; done)

@[simp] theorem State.stopBlocks_frame (s : State) :
    s.stopBlocks.pending = s.pending ∧ s.stopBlocks.clock = s.clock ∧ s.stopBlocks.draws = s.draws
    ∧ s.stopBlocks.supervisor = s.supervisor ∧ s.stopBlocks.store = s.store :=
  ⟨rfl, rfl, rfl, rfl, rfl⟩

@[simp] theorem foldl_answerPurge_frame {l : List _} (s : State) :
    (List.foldl (fun s (w : PurgeReply) => State.answerPurge s w.replyTo .done w.target) s l).pending = s.pending
    ∧ (List.foldl (fun s (w : PurgeReply) => State.answerPurge s w.replyTo .done w.target) s l).clock = s.clock
    ∧ (List.foldl (fun s (w : PurgeReply) => State.answerPurge s w.replyTo .done w.target) s l).draws = s.draws
    ∧ (List.foldl (fun s (w : PurgeReply) => State.answerPurge s w.replyTo .done w.target) s l).line.state = s.line.state
    ∧ (List.foldl (fun s (w : PurgeReply) => State.answerPurge s w.replyTo .done w.target) s l).line.onLine = s.line.onLine
    ∧ (List.foldl (fun s (w : PurgeReply) => State.answerPurge s w.replyTo .done w.target) s l).line.repeatUrgent = s.line.repeatUrgent
    ∧ (List.foldl (fun s (w : PurgeReply) => State.answerPurge s w.replyTo .done w.target) s l).line.repeatOther = s.line.repeatOther
    ∧ (List.foldl (fun s (w : PurgeReply) => State.answerPurge s w.replyTo .done w.target) s l).line.headerParity = s.line.headerParity
    ∧ (List.foldl (fun s (w : PurgeReply) => State.answerPurge s w.replyTo .done w.target) s l).line.checkFail = s.line.checkFail
    ∧ (List.foldl (fun s (w : PurgeReply) => State.answerPurge s w.replyTo .done w.target) s l).line.rxMissed = s.line.rxMissed
    ∧ (List.foldl (fun s (w : PurgeReply) => State.answerPurge s w.replyTo .done w.target) s l).line.txPartial = s.line.txPartial
    ∧ (List.foldl (fun s (w : PurgeReply) => State.answerPurge s w.replyTo .done w.target) s l).line.settle = s.line.settle
    ∧ (List.foldl (fun s (w : PurgeReply) => State.answerPurge s w.replyTo .done w.target) s l).line.lastDominant = s.line.lastDominant
    ∧ (List.foldl (fun s (w : PurgeReply) => State.answerPurge s w.replyTo .done w.target) s l).line.inReset = s.line.inReset
    ∧ (List.foldl (fun s (w : PurgeReply) => State.answerPurge s w.replyTo .done w.target) s l).line.sendingReset = s.line.sendingReset
    ∧ (List.foldl (fun s (w : PurgeReply) => State.answerPurge s w.replyTo .done w.target) s l).line.receipt = s.line.receipt
    ∧ (List.foldl (fun s (w : PurgeReply) => State.answerPurge s w.replyTo .done w.target) s l).roster = s.roster
    ∧ (List.foldl (fun s (w : PurgeReply) => State.answerPurge s w.replyTo .done w.target) s l).verifier = s.verifier
    ∧ (List.foldl (fun s (w : PurgeReply) => State.answerPurge s w.replyTo .done w.target) s l).slotTable = s.slotTable
    ∧ (List.foldl (fun s (w : PurgeReply) => State.answerPurge s w.replyTo .done w.target) s l).phaseCtl = s.phaseCtl
    ∧ (List.foldl (fun s (w : PurgeReply) => State.answerPurge s w.replyTo .done w.target) s l).keyPort = s.keyPort
    ∧ (List.foldl (fun s (w : PurgeReply) => State.answerPurge s w.replyTo .done w.target) s l).purge = s.purge
    ∧ (List.foldl (fun s (w : PurgeReply) => State.answerPurge s w.replyTo .done w.target) s l).gate = s.gate
    ∧ (List.foldl (fun s (w : PurgeReply) => State.answerPurge s w.replyTo .done w.target) s l).scanner = s.scanner
    ∧ (List.foldl (fun s (w : PurgeReply) => State.answerPurge s w.replyTo .done w.target) s l).supervisor = s.supervisor
    ∧ (List.foldl (fun s (w : PurgeReply) => State.answerPurge s w.replyTo .done w.target) s l).setup = s.setup
    ∧ (List.foldl (fun s (w : PurgeReply) => State.answerPurge s w.replyTo .done w.target) s l).store = s.store := by
  induction l generalizing s with
  | nil => simp
  | cons a l ih => simp [ih]

@[simp] theorem State.answerStored_frame (s : State) (target : Nat) :
    (s.answerStored target).pending = s.pending ∧ (s.answerStored target).clock = s.clock
    ∧ (s.answerStored target).draws = s.draws ∧ (s.answerStored target).roster = s.roster
    ∧ (s.answerStored target).verifier = s.verifier ∧ (s.answerStored target).slotTable = s.slotTable
    ∧ (s.answerStored target).phaseCtl = s.phaseCtl ∧ (s.answerStored target).keyPort = s.keyPort
    ∧ (s.answerStored target).purge.journal = s.purge.journal
    ∧ (s.answerStored target).purge.badBlocks = s.purge.badBlocks
    ∧ (s.answerStored target).purge.nextBlock = s.purge.nextBlock
    ∧ (s.answerStored target).purge.writes = s.purge.writes ∧ (s.answerStored target).purge.plan = s.purge.plan
    ∧ (s.answerStored target).purge.begun = s.purge.begun ∧ (s.answerStored target).purge.closing = s.purge.closing
    ∧ (s.answerStored target).purge.suspended = s.purge.suspended
    ∧ (s.answerStored target).purge.heard = s.purge.heard ∧ (s.answerStored target).purge.reoffer = s.purge.reoffer
    ∧ (s.answerStored target).purge.pendingTarget = s.purge.pendingTarget ∧ (s.answerStored target).gate = s.gate
    ∧ (s.answerStored target).scanner = s.scanner ∧ (s.answerStored target).supervisor = s.supervisor
    ∧ (s.answerStored target).setup = s.setup ∧ (s.answerStored target).store = s.store := by
  unfold State.answerStored
  (try dsimp only)
  (repeat' split) <;> first | (simp; done) | (simp [*]; done)

@[simp] theorem State.journalStored_frame (s : State) (j : Journal) :
    (s.journalStored j).pending = s.pending ∧ (s.journalStored j).clock = s.clock
    ∧ (s.journalStored j).roster.sn = s.roster.sn ∧ (s.journalStored j).roster.kpd = s.roster.kpd
    ∧ (s.journalStored j).roster.startCause = s.roster.startCause
    ∧ (s.journalStored j).roster.entries = s.roster.entries
    ∧ (s.journalStored j).roster.answeredAt = s.roster.answeredAt
    ∧ (s.journalStored j).slotTable.salt = s.slotTable.salt
    ∧ (s.journalStored j).slotTable.slotDiverged = s.slotTable.slotDiverged
    ∧ (s.journalStored j).gate.holder = s.gate.holder ∧ (s.journalStored j).gate.flashBusy = s.gate.flashBusy
    ∧ (s.journalStored j).gate.faultCount = s.gate.faultCount
    ∧ (s.journalStored j).gate.channelFault = s.gate.channelFault
    ∧ (s.journalStored j).gate.faultPeriod = s.gate.faultPeriod
    ∧ (s.journalStored j).gate.periodicDue = s.gate.periodicDue
    ∧ (s.journalStored j).gate.stepTimeout = s.gate.stepTimeout
    ∧ (s.journalStored j).supervisor.supplyValid = s.supervisor.supplyValid
    ∧ (s.journalStored j).supervisor.dormant = s.supervisor.dormant
    ∧ (s.journalStored j).supervisor.attached = s.supervisor.attached
    ∧ (s.journalStored j).supervisor.band = s.supervisor.band
    ∧ (s.journalStored j).supervisor.tamperAsserted = s.supervisor.tamperAsserted
    ∧ (s.journalStored j).supervisor.haltMark = s.supervisor.haltMark ∧ (s.journalStored j).setup = s.setup
    ∧ (s.journalStored j).store.stored = s.store.stored ∧ (s.journalStored j).store.deciding = s.store.deciding := by
  unfold State.journalStored
  (try dsimp only)
  (repeat' split) <;> first | (simp; done) | (simp [*]; done)

@[simp] theorem State.purgeGoesOn_frame (s : State) (again : Bool) (c : Contents) :
    (s.purgeGoesOn again c).pending = s.pending ∧ (s.purgeGoesOn again c).clock = s.clock
    ∧ (s.purgeGoesOn again c).roster.sn = s.roster.sn ∧ (s.purgeGoesOn again c).roster.kpd = s.roster.kpd
    ∧ (s.purgeGoesOn again c).roster.startCause = s.roster.startCause
    ∧ (s.purgeGoesOn again c).roster.entries = s.roster.entries
    ∧ (s.purgeGoesOn again c).roster.answeredAt = s.roster.answeredAt
    ∧ (s.purgeGoesOn again c).slotTable.salt = s.slotTable.salt
    ∧ (s.purgeGoesOn again c).slotTable.slotDiverged = s.slotTable.slotDiverged
    ∧ (s.purgeGoesOn again c).gate.holder = s.gate.holder ∧ (s.purgeGoesOn again c).gate.flashBusy = s.gate.flashBusy
    ∧ (s.purgeGoesOn again c).gate.faultCount = s.gate.faultCount
    ∧ (s.purgeGoesOn again c).gate.channelFault = s.gate.channelFault
    ∧ (s.purgeGoesOn again c).gate.faultPeriod = s.gate.faultPeriod
    ∧ (s.purgeGoesOn again c).gate.periodicDue = s.gate.periodicDue
    ∧ (s.purgeGoesOn again c).gate.stepTimeout = s.gate.stepTimeout
    ∧ (s.purgeGoesOn again c).supervisor.supplyValid = s.supervisor.supplyValid
    ∧ (s.purgeGoesOn again c).supervisor.dormant = s.supervisor.dormant
    ∧ (s.purgeGoesOn again c).supervisor.attached = s.supervisor.attached
    ∧ (s.purgeGoesOn again c).supervisor.band = s.supervisor.band
    ∧ (s.purgeGoesOn again c).supervisor.tamperAsserted = s.supervisor.tamperAsserted
    ∧ (s.purgeGoesOn again c).supervisor.haltMark = s.supervisor.haltMark ∧ (s.purgeGoesOn again c).setup = s.setup
    ∧ (s.purgeGoesOn again c).store.stored = s.store.stored
    ∧ (s.purgeGoesOn again c).store.deciding = s.store.deciding := by
  unfold State.purgeGoesOn
  (try dsimp only)
  (repeat' split) <;> first | (simp; done) | (simp [*]; done)

@[simp] theorem State.purgeStored_frame (s : State) (w : InFlight) :
    (s.purgeStored w).pending = s.pending ∧ (s.purgeStored w).clock = s.clock
    ∧ (s.purgeStored w).roster.sn = s.roster.sn ∧ (s.purgeStored w).roster.kpd = s.roster.kpd
    ∧ (s.purgeStored w).roster.startCause = s.roster.startCause ∧ (s.purgeStored w).roster.entries = s.roster.entries
    ∧ (s.purgeStored w).roster.answeredAt = s.roster.answeredAt ∧ (s.purgeStored w).slotTable.salt = s.slotTable.salt
    ∧ (s.purgeStored w).slotTable.slotDiverged = s.slotTable.slotDiverged
    ∧ (s.purgeStored w).gate.holder = s.gate.holder ∧ (s.purgeStored w).gate.flashBusy = s.gate.flashBusy
    ∧ (s.purgeStored w).gate.faultCount = s.gate.faultCount
    ∧ (s.purgeStored w).gate.channelFault = s.gate.channelFault
    ∧ (s.purgeStored w).gate.faultPeriod = s.gate.faultPeriod
    ∧ (s.purgeStored w).gate.periodicDue = s.gate.periodicDue
    ∧ (s.purgeStored w).gate.stepTimeout = s.gate.stepTimeout
    ∧ (s.purgeStored w).supervisor.supplyValid = s.supervisor.supplyValid
    ∧ (s.purgeStored w).supervisor.dormant = s.supervisor.dormant
    ∧ (s.purgeStored w).supervisor.attached = s.supervisor.attached
    ∧ (s.purgeStored w).supervisor.band = s.supervisor.band
    ∧ (s.purgeStored w).supervisor.tamperAsserted = s.supervisor.tamperAsserted
    ∧ (s.purgeStored w).supervisor.haltMark = s.supervisor.haltMark ∧ (s.purgeStored w).setup = s.setup
    ∧ (s.purgeStored w).store.stored = s.store.stored ∧ (s.purgeStored w).store.deciding = s.store.deciding := by
  unfold State.purgeStored
  (try dsimp only)
  (repeat' split) <;> first | (simp; done) | (simp [*]; done)

@[simp] theorem foldl_answerRange_frame {l : List _} (s : State) :
    (List.foldl (fun s (x : RangeWait) => State.answerRange s x.replyTo .done x.index.val) s l).pending = s.pending
    ∧ (List.foldl (fun s (x : RangeWait) => State.answerRange s x.replyTo .done x.index.val) s l).clock = s.clock
    ∧ (List.foldl (fun s (x : RangeWait) => State.answerRange s x.replyTo .done x.index.val) s l).draws = s.draws
    ∧ (List.foldl (fun s (x : RangeWait) => State.answerRange s x.replyTo .done x.index.val) s l).line.state = s.line.state
    ∧ (List.foldl (fun s (x : RangeWait) => State.answerRange s x.replyTo .done x.index.val) s l).line.onLine = s.line.onLine
    ∧ (List.foldl (fun s (x : RangeWait) => State.answerRange s x.replyTo .done x.index.val) s l).line.repeatUrgent = s.line.repeatUrgent
    ∧ (List.foldl (fun s (x : RangeWait) => State.answerRange s x.replyTo .done x.index.val) s l).line.repeatOther = s.line.repeatOther
    ∧ (List.foldl (fun s (x : RangeWait) => State.answerRange s x.replyTo .done x.index.val) s l).line.headerParity = s.line.headerParity
    ∧ (List.foldl (fun s (x : RangeWait) => State.answerRange s x.replyTo .done x.index.val) s l).line.checkFail = s.line.checkFail
    ∧ (List.foldl (fun s (x : RangeWait) => State.answerRange s x.replyTo .done x.index.val) s l).line.rxMissed = s.line.rxMissed
    ∧ (List.foldl (fun s (x : RangeWait) => State.answerRange s x.replyTo .done x.index.val) s l).line.txPartial = s.line.txPartial
    ∧ (List.foldl (fun s (x : RangeWait) => State.answerRange s x.replyTo .done x.index.val) s l).line.settle = s.line.settle
    ∧ (List.foldl (fun s (x : RangeWait) => State.answerRange s x.replyTo .done x.index.val) s l).line.lastDominant = s.line.lastDominant
    ∧ (List.foldl (fun s (x : RangeWait) => State.answerRange s x.replyTo .done x.index.val) s l).line.inReset = s.line.inReset
    ∧ (List.foldl (fun s (x : RangeWait) => State.answerRange s x.replyTo .done x.index.val) s l).line.sendingReset = s.line.sendingReset
    ∧ (List.foldl (fun s (x : RangeWait) => State.answerRange s x.replyTo .done x.index.val) s l).line.receipt = s.line.receipt
    ∧ (List.foldl (fun s (x : RangeWait) => State.answerRange s x.replyTo .done x.index.val) s l).roster = s.roster
    ∧ (List.foldl (fun s (x : RangeWait) => State.answerRange s x.replyTo .done x.index.val) s l).verifier = s.verifier
    ∧ (List.foldl (fun s (x : RangeWait) => State.answerRange s x.replyTo .done x.index.val) s l).slotTable = s.slotTable
    ∧ (List.foldl (fun s (x : RangeWait) => State.answerRange s x.replyTo .done x.index.val) s l).phaseCtl = s.phaseCtl
    ∧ (List.foldl (fun s (x : RangeWait) => State.answerRange s x.replyTo .done x.index.val) s l).keyPort = s.keyPort
    ∧ (List.foldl (fun s (x : RangeWait) => State.answerRange s x.replyTo .done x.index.val) s l).purge = s.purge
    ∧ (List.foldl (fun s (x : RangeWait) => State.answerRange s x.replyTo .done x.index.val) s l).gate = s.gate
    ∧ (List.foldl (fun s (x : RangeWait) => State.answerRange s x.replyTo .done x.index.val) s l).scanner = s.scanner
    ∧ (List.foldl (fun s (x : RangeWait) => State.answerRange s x.replyTo .done x.index.val) s l).supervisor = s.supervisor
    ∧ (List.foldl (fun s (x : RangeWait) => State.answerRange s x.replyTo .done x.index.val) s l).setup = s.setup
    ∧ (List.foldl (fun s (x : RangeWait) => State.answerRange s x.replyTo .done x.index.val) s l).store = s.store := by
  induction l generalizing s with
  | nil => simp
  | cons a l ih => simp [ih]

@[simp] theorem State.rangeStored_frame (s : State) (w : InFlight) :
    (s.rangeStored w).pending = s.pending ∧ (s.rangeStored w).clock = s.clock ∧ (s.rangeStored w).draws = s.draws
    ∧ (s.rangeStored w).roster = s.roster ∧ (s.rangeStored w).verifier = s.verifier
    ∧ (s.rangeStored w).slotTable.slots = s.slotTable.slots ∧ (s.rangeStored w).slotTable.salt = s.slotTable.salt
    ∧ (s.rangeStored w).slotTable.blankKey = s.slotTable.blankKey
    ∧ (s.rangeStored w).slotTable.unlockedKey = s.slotTable.unlockedKey
    ∧ (s.rangeStored w).slotTable.waits = s.slotTable.waits
    ∧ (s.rangeStored w).slotTable.enrollment = s.slotTable.enrollment
    ∧ (s.rangeStored w).slotTable.slotDiverged = s.slotTable.slotDiverged ∧ (s.rangeStored w).phaseCtl = s.phaseCtl
    ∧ (s.rangeStored w).keyPort = s.keyPort ∧ (s.rangeStored w).purge.journal = s.purge.journal
    ∧ (s.rangeStored w).purge.badBlocks = s.purge.badBlocks ∧ (s.rangeStored w).purge.nextBlock = s.purge.nextBlock
    ∧ (s.rangeStored w).purge.plan = s.purge.plan ∧ (s.rangeStored w).purge.begun = s.purge.begun
    ∧ (s.rangeStored w).purge.closing = s.purge.closing ∧ (s.rangeStored w).purge.suspended = s.purge.suspended
    ∧ (s.rangeStored w).purge.heard = s.purge.heard ∧ (s.rangeStored w).purge.reoffer = s.purge.reoffer
    ∧ (s.rangeStored w).purge.pendingTarget = s.purge.pendingTarget ∧ (s.rangeStored w).purge.waits = s.purge.waits
    ∧ (s.rangeStored w).gate.ranges = s.gate.ranges ∧ (s.rangeStored w).gate.owner = s.gate.owner
    ∧ (s.rangeStored w).gate.holder = s.gate.holder ∧ (s.rangeStored w).gate.handOver = s.gate.handOver
    ∧ (s.rangeStored w).gate.command = s.gate.command ∧ (s.rangeStored w).gate.flashBusy = s.gate.flashBusy
    ∧ (s.rangeStored w).gate.op = s.gate.op ∧ (s.rangeStored w).gate.driven = s.gate.driven
    ∧ (s.rangeStored w).gate.faultCount = s.gate.faultCount
    ∧ (s.rangeStored w).gate.channelFault = s.gate.channelFault
    ∧ (s.rangeStored w).gate.faultPeriod = s.gate.faultPeriod
    ∧ (s.rangeStored w).gate.periodicDue = s.gate.periodicDue ∧ (s.rangeStored w).gate.grant = s.gate.grant
    ∧ (s.rangeStored w).gate.gateDenied = s.gate.gateDenied ∧ (s.rangeStored w).gate.stepTimeout = s.gate.stepTimeout
    ∧ (s.rangeStored w).scanner = s.scanner ∧ (s.rangeStored w).supervisor = s.supervisor
    ∧ (s.rangeStored w).setup = s.setup ∧ (s.rangeStored w).store.stored = s.store.stored
    ∧ (s.rangeStored w).store.deciding = s.store.deciding := by
  unfold State.rangeStored
  (try dsimp only)
  (repeat' split) <;> first | (simp; done) | (simp [*]; done)

@[simp] theorem State.startBlocks_frame (s : State) (i : StartInputs) (cause : StartCause) :
    (s.startBlocks i cause).pending = s.pending ∧ (s.startBlocks i cause).clock = s.clock
    ∧ (s.startBlocks i cause).draws = s.draws ∧ (s.startBlocks i cause).store = s.store := by
  unfold State.startBlocks
  (try dsimp only)
  (repeat' split) <;> first | (simp; done) | (simp [*]; done)

@[simp] theorem State.start_frame (s : State) (i : StartInputs) (cause : StartCause) :
    (s.start i cause).pending = s.pending ∧ (s.start i cause).clock = s.clock
    ∧ (s.start i cause).store.stored = s.store.stored ∧ (s.start i cause).store.deciding = s.store.deciding := by
  unfold State.start
  (try dsimp only)
  (repeat' split) <;> first | (simp; done) | (simp [*]; done)

@[simp] theorem State.loseSupply_frame (s : State) (landed : Bool) :
    (s.loseSupply landed).pending = s.pending ∧ (s.loseSupply landed).clock = s.clock
    ∧ (s.loseSupply landed).draws = s.draws ∧ (s.loseSupply landed).supervisor.attached = s.supervisor.attached
    ∧ (s.loseSupply landed).supervisor.band = s.supervisor.band
    ∧ (s.loseSupply landed).supervisor.tampered = s.supervisor.tampered := by
  unfold State.loseSupply
  (try dsimp only)
  (repeat' split) <;> first | (simp; done) | (simp [*]; done)

@[simp] theorem State.sleep_frame (s : State) :
    s.sleep.pending = s.pending ∧ s.sleep.clock = s.clock ∧ s.sleep.draws = s.draws
    ∧ s.sleep.supervisor.supplyValid = s.supervisor.supplyValid ∧ s.sleep.supervisor.attached = s.supervisor.attached
    ∧ s.sleep.supervisor.band = s.supervisor.band ∧ s.sleep.supervisor.tamperAsserted = s.supervisor.tamperAsserted
    ∧ s.sleep.supervisor.tampered = s.supervisor.tampered ∧ s.sleep.supervisor.haltMark = s.supervisor.haltMark
    ∧ s.sleep.store = s.store := by
  unfold State.sleep
  (try dsimp only)
  (repeat' split) <;> first | (simp; done) | (simp [*]; done)

@[simp] theorem State.detachNow_frame (s : State) (landed : Bool) :
    (s.detachNow landed).pending = s.pending ∧ (s.detachNow landed).clock = s.clock
    ∧ (s.detachNow landed).draws = s.draws ∧ (s.detachNow landed).supervisor.band = s.supervisor.band
    ∧ (s.detachNow landed).supervisor.tampered = s.supervisor.tampered := by
  unfold State.detachNow
  (try dsimp only)
  (repeat' split) <;> first | (simp; done) | (simp [*]; done)

@[simp] theorem State.takeBand_frame (s : State) (b : Band) (landed : Bool) :
    (s.takeBand b landed).pending = s.pending ∧ (s.takeBand b landed).clock = s.clock
    ∧ (s.takeBand b landed).draws = s.draws ∧ (s.takeBand b landed).supervisor.attached = s.supervisor.attached
    ∧ (s.takeBand b landed).supervisor.tampered = s.supervisor.tampered := by
  unfold State.takeBand
  (try dsimp only)
  (repeat' split) <;> first | (simp; done) | (simp [*]; done)

end Sys2Proof.Machine
end

