-- ==== Sys2Proof/Laws/Operations.lean ====
section
/-! SUPPORT. What the shared operations do: where a phase change leaves phase, grant and owner, what an offer does to the queues, what a request does to the store, what the opening of a purge sets. A proof cites these beside the frames of Laws/Frames.lean. -/

namespace Sys2Proof.Machine

/-! ### Phase changes -/

@[simp] theorem State.movePhase_phaseCtl (s : State) (p : Phase) (g : Grant) (a : Option Micros) :
    (s.movePhase p g a).phaseCtl = ⟨p, g, a⟩ := by
  simp [State.movePhase]

@[simp] theorem State.enterPhase_phaseCtl (s : State) (p : Phase) :
    (s.enterPhase p).phaseCtl = ⟨s.carriedOn p, grantFor (s.carriedOn p), none⟩ := by
  simp [State.enterPhase]

@[simp] theorem State.movePhase_gateGrant (s : State) (p : Phase) (g : Grant) (a : Option Micros) :
    (s.movePhase p g a).gate.grant = g := by
  simp [State.movePhase]

@[simp] theorem State.enterPhase_gateGrant (s : State) (p : Phase) :
    (s.enterPhase p).gate.grant = grantFor (s.carriedOn p) := by
  simp [State.enterPhase]

/-- An OPEN journal gives the channel to the purge engine in every phase (Table 7-2, first row). -/
@[simp] theorem ownerFor_open (p : Phase) (fault : Bool) : ownerFor p true fault = .guard := rfl

/-- With a CLOSED journal HALTED and UNCOMMISSIONED have no owner (Table 7-2, second row). -/
theorem ownerFor_stopped (p : Phase) (fault : Bool) (h : p = .halted ∨ p = .uncommissioned) :
    ownerFor p false fault = .none := by
  simp [ownerFor, h]

/-- The owner after a recomputation is that of Table 7-2, whether or not it changed. -/
@[simp] theorem State.recomputeOwner_owner (s : State) :
    s.recomputeOwner.gate.owner = ownerFor s.phaseCtl.phase s.purge.journal.isOpen s.gate.channelFault := by
  unfold State.recomputeOwner
  dsimp only
  (repeat' split) <;> simp_all [State.ownerNow]

/-- Where the owner stays as it is, nothing follows (R140). -/
theorem State.recomputeOwner_same (s : State) (h : s.ownerNow = s.gate.owner) : s.recomputeOwner = s := by
  simp [State.recomputeOwner, h]

/-- A change of owner during a hand-over begins none (R147). -/
theorem State.recomputeOwner_underWay (s : State) (h : s.ownerNow ≠ s.gate.owner) (hh : s.gate.handOver ≠ .steady) :
    s.recomputeOwner = s.setGate { s.gate with owner := s.ownerNow } := by
  simp [State.recomputeOwner, h, hh]

/-- A change of owner in STEADY begins a hand-over (R147). -/
theorem State.recomputeOwner_begins (s : State) (h : s.ownerNow ≠ s.gate.owner) (hh : s.gate.handOver = .steady) :
    s.recomputeOwner = (s.setGate { s.gate with owner := s.ownerNow }).beginHandOver := by
  simp [State.recomputeOwner, h, hh]

@[simp] theorem State.movePhase_owner (s : State) (p : Phase) (g : Grant) (a : Option Micros) :
    (s.movePhase p g a).gate.owner = ownerFor p s.purge.journal.isOpen s.gate.channelFault := by
  simp [State.movePhase]

@[simp] theorem State.enterPhase_owner (s : State) (p : Phase) :
    (s.enterPhase p).gate.owner = ownerFor (s.carriedOn p) s.purge.journal.isOpen s.gate.channelFault := by
  simp [State.enterPhase]

/-- A move to a phase other than LOCKED goes where it names. -/
theorem State.carriedOn_other (s : State) (p : Phase) (h : p ≠ .locked) : s.carriedOn p = p := by
  simp [State.carriedOn, h]

/-- A move to LOCKED ends in LOCKED, or in INCOMPLETE with a member missing. -/
theorem State.carriedOn_locked (s : State) : s.carriedOn .locked = if s.memberMissing = true then .incomplete else .locked := by
  simp [State.carriedOn]

@[simp] theorem State.presenceMoved_phase (s : State) (left : Bool) :
    (s.presenceMoved left).phaseCtl.phase
      = if left = true ∧ s.phaseCtl.phase = .locked then .incomplete else s.phaseCtl.phase := by
  unfold State.presenceMoved
  dsimp only
  by_cases h : left = true ∧ s.phaseCtl.phase = .locked
  · simp [h, State.carriedOn]
  · have hn : ¬ ((left && decide (s.phase = .locked)) = true) := by simpa using h
    simp only [hn, h, if_false]
    (repeat' split) <;> simp_all

/-- What the scanner is told at a phase change other than one to LOCKED offers no frame. -/
theorem State.tellScanner_line (s : State) (old : Phase) (h : s.phase ≠ .locked) : (s.tellScanner old).line = s.line := by
  unfold State.tellScanner State.testPending
  (repeat' split) <;> simp_all

/-- A move to a phase other than LOCKED offers no frame: a pending entry waits or ends. -/
theorem State.movePhase_line (s : State) (p : Phase) (g : Grant) (a : Option Micros) (h : p ≠ .locked) :
    (s.movePhase p g a).line = s.line := by
  unfold State.movePhase
  dsimp only
  rw [State.tellScanner_line _ _ (by simpa using h)]
  simp

/-- A move to a phase other than LOCKED, and one to LOCKED with a member missing, offers no frame. -/
theorem State.enterPhase_line (s : State) (p : Phase) (h : s.carriedOn p ≠ .locked) : (s.enterPhase p).line = s.line :=
  State.movePhase_line s _ _ _ h

/-- Presence changes offer no frame. -/
@[simp] theorem State.presenceMoved_line (s : State) (left : Bool) : (s.presenceMoved left).line = s.line := by
  have h : (s.enterPhase .incomplete).line = s.line := State.enterPhase_line s _ (by simp [State.carriedOn])
  unfold State.presenceMoved
  dsimp only
  (repeat' split) <;> simp_all

/-- The missing stations become SILENT without a frame. -/
@[simp] theorem State.markSilent_line (s : State) (missing : List StationNo) : (s.markSilent missing).line = s.line := by
  have all (l : List StationNo) (t : State) : (l.foldl State.silence t).line = t.line := by
    induction l generalizing t with
    | nil => rfl
    | cons n l ih => rw [List.foldl_cons, ih]; simp
  unfold State.markSilent
  dsimp only
  split <;> simp [all]

/-! ### Purge -/

/-- An opening leaves the journal as R114 states. -/
@[simp] theorem State.openPurge_journal (s : State) (cause : PurgeCause) (target : Nat) :
    (s.openPurge cause target).purge.journal = Journal.opened target cause := by
  simp [State.openPurge]

@[simp] theorem State.openPurge_phaseCtl (s : State) (cause : PurgeCause) (target : Nat) :
    (s.openPurge cause target).phaseCtl = ⟨.purging, .none, none⟩ := by
  simp [State.openPurge, State.carriedOn, grantFor]

@[simp] theorem State.openPurge_owner (s : State) (cause : PurgeCause) (target : Nat) :
    (s.openPurge cause target).gate.owner = .guard := by
  simp [State.openPurge, Journal.opened]

@[simp] theorem State.openPurge_gateGrant (s : State) (cause : PurgeCause) (target : Nat) :
    (s.openPurge cause target).gate.grant = .none := by
  simp [State.openPurge, State.carriedOn, grantFor]

/-! ### The queues of the line -/

/-- The places of the receive queue are untouched by an own frame that returns. -/
@[simp] theorem State.returnOwn_placesTaken (s : State) (f : TxFrame) (o : SendOutcome) :
    (s.returnOwn f o).placesTaken = s.placesTaken := by
  unfold State.returnOwn State.placesTaken
  split <;> simp

@[simp] theorem State.dropFrame_placesTaken (s : State) (f : TxFrame) : (s.dropFrame f).placesTaken = s.placesTaken := by
  unfold State.dropFrame
  rw [State.returnOwn_placesTaken]
  simp [State.placesTaken]

@[simp] theorem State.takeOffer_placesTaken (s : State) (f : TxFrame) : (s.takeOffer f).placesTaken = s.placesTaken := by
  simp [State.takeOffer, State.placesTaken]

@[simp] theorem State.offer_placesTaken (s : State) (k : Kind) (target : Option StationNo) (payload : List Byte) :
    (s.offer k target payload).placesTaken = s.placesTaken := by
  unfold State.offer State.offerToFull
  dsimp only
  (repeat' split) <;> simp [State.placesTaken]
  all_goals
    unfold State.dropFrame State.returnOwn
    split <;> simp

/-- Where a predicate holds on a first part and stops at the head of the second, a list splits there. -/
theorem takeWhile_split (p : TxFrame → Bool) (a b : List TxFrame) (ha : ∀ g ∈ a, p g = true)
    (hb : ∀ g, b.head? = some g → p g = false) : (a ++ b).takeWhile p = a ∧ (a ++ b).dropWhile p = b := by
  induction a with
  | nil =>
    cases b with
    | nil => simp
    | cons x xs => simp at hb; simp [hb]
  | cons x xs ih =>
    have := ih (fun g hg => ha g (List.mem_cons_of_mem _ hg))
    have hx := ha x (List.mem_cons_self)
    simp [hx, this]

/-- Where an urgent frame goes: behind the frame on the line and the urgent frames after it, ahead of the others (R20). -/
theorem placeUrgent_split (onLine : Bool) (head ahead behind : List TxFrame) (f : TxFrame)
    (hh : head = (head ++ ahead ++ behind).take (if onLine = true then 1 else 0))
    (ha : ∀ g ∈ ahead, g.kind.urgent = true) (hb : ∀ g, behind.head? = some g → g.kind.urgent = false) :
    placeUrgent onLine (head ++ ahead ++ behind) f = head ++ ahead ++ f :: behind := by
  have hs := takeWhile_split (·.kind.urgent) ahead behind ha hb
  cases onLine
  · simp at hh; subst hh; simp [placeUrgent, hs]
  · simp at hh
    have h2 : (head ++ (ahead ++ behind)).drop 1 = ahead ++ behind := by
      match head, hh with
      | [], hh =>
        have : ahead ++ behind = [] := by
          cases h : ahead ++ behind with
          | nil => rfl
          | cons x xs => simp [h] at hh
        simp [this]
      | [x], _ => simp
      | x :: y :: l, hh => simp at hh
    simp [placeUrgent, ← hh, h2, hs]

/-- An urgent frame takes one more place. -/
theorem placeUrgent_length (onLine : Bool) (tx : List TxFrame) (f : TxFrame) :
    (placeUrgent onLine tx f).length = tx.length + 1 := by
  have h (l : List TxFrame) :
      (l.takeWhile (·.kind.urgent)).length + (l.dropWhile (·.kind.urgent)).length = l.length := by
    rw [← List.length_append, List.takeWhile_append_dropWhile]
  unfold placeUrgent
  cases onLine
  · have := h tx
    simp
    omega
  · cases tx with
    | nil => simp
    | cons a l =>
      have := h l
      simp
      omega

theorem State.takeOffer_length (s : State) (f : TxFrame) : (s.takeOffer f).line.tx.length = s.line.tx.length + 1 := by
  unfold State.takeOffer
  dsimp only
  split <;> simp [placeUrgent_length]

/-- An offer never takes the transmit queue past its four places. -/
theorem State.offer_length (s : State) (k : Kind) (target : Option StationNo) (payload : List Byte)
    (h : s.line.tx.length ≤ 4) : (s.offer k target payload).line.tx.length ≤ 4 := by
  unfold State.offer
  dsimp only
  split
  · rw [State.takeOffer_length]
    simp only [txPlaces] at *
    omega
  · unfold State.offerToFull
    split
    · split
      · rename_i out left hd
        rw [State.takeOffer_length]
        have hl : left.length + 1 ≤ s.line.tx.length := by
          unfold displaceable at hd
          split at hd
          · simp at hd
          · rename_i g hg
            split at hd
            · simp at hd
            · simp at hd
              have hne : s.line.tx ≠ [] := by
                intro h0
                simp [h0] at hg
              rw [← hd.2, List.length_dropLast]
              have := List.length_pos_iff.mpr hne
              omega
        simp
        omega
      · simpa using h
    · simpa using h

/-- Waiting urgent frames pass a head frame that waits; none is lost. -/
theorem urgentFirst_length (tx : List TxFrame) : (urgentFirst tx).length = tx.length := by
  unfold urgentFirst
  rw [List.length_append]
  induction tx with
  | nil => rfl
  | cons a l ih =>
    cases ha : a.kind.urgent <;> simp [ha] <;> omega

/-! ### The output pins -/

/-- A station without a supply drives no output (R181). -/
@[simp] theorem State.outputs_unpowered (s : State) (enable ready : Bool) (data : Byte) (h : s.supervisor.supplyValid = false) :
    s.outputs enable ready data = none := by
  simp [State.outputs, h]

/-- With a supply the outputs are those of the blocks. -/
theorem State.outputs_powered (s : State) (enable ready : Bool) (data : Byte) (h : s.supervisor.supplyValid = true) :
    s.outputs enable ready data
      = some ⟨!s.denyLow, s.kvalid, s.kdat, s.kclk, s.indicators, s.channelEnable enable, s.shownReady ready, s.shownData data⟩ := by
  simp [State.outputs, h]

/-! ### The record store -/

/-- A request with none of its own pending is granted at once by an idle store. -/
theorem State.request_idle (s : State) (r : Requester) (rec : RecordId) (h : s.store.requests.get r = none)
    (hi : s.store.inFlight = none) (hd : s.store.deciding = false) : s.request r rec = s.grantWrite r rec := by
  simp [State.request, h, hi, hd]

/-- A request with none of its own pending waits while a write is in flight. -/
theorem State.request_waits (s : State) (r : Requester) (rec : RecordId) (h : s.store.requests.get r = none)
    (hi : s.store.inFlight.isSome = true) :
    s.request r rec = s.setStore { s.store with requests := s.store.requests.put r (some rec) } := by
  have hn : s.store.inFlight.isNone = false := by
    cases hc : s.store.inFlight <;> simp_all
  simp [State.request, h, hn]

/-- A requester has one request pending at most. -/
theorem State.request_pending (s : State) (r : Requester) (rec : RecordId) (h : (s.store.requests.get r).isSome = true) :
    s.request r rec = s := by
  simp [State.request, h]

/-- No request changes what is stored. -/
theorem State.request_stored (s : State) (r : Requester) (rec : RecordId) : (s.request r rec).store.stored = s.store.stored := by
  simp

/-! ### The merge of completion -/

/-- The pair and the hold after the merge of completion: a pair that it changes is the largest reported, and restarts the hold (R43, R46, R71). -/
theorem State.mergeReported_verifier (s : State) :
    s.mergeReported.verifier
      = if pairLess s.pair.1 s.pair.2 s.bestReported.1 s.bestReported.2 then
          { s.verifier with
            held := { s.verifier.held with serial := s.bestReported.1, count := s.bestReported.2 }
            hold := (holdDuration s.bestReported.2).map (s.clock + ·) }
        else s.verifier := by
  unfold State.mergeReported
  split
  · simp_all [State.raisePair, State.restartHold, State.setPair]
  · rfl

/-! ### Slot changes -/

/-- A change of a slot that discards no staged part leaves every waiting answer as it is. -/
@[simp] theorem State.changeSlot_waits_kept (s : State) (i : SlotNo) (v : Slot) :
    (s.changeSlot i v false).slotTable.waits = s.slotTable.waits := by
  simp [State.changeSlot]

/-- A change that discards a staged part tells every answer that waits for it. -/
theorem State.changeSlot_waits_discard (s : State) (i : SlotNo) (v : Slot) :
    (s.changeSlot i v true).slotTable.waits
      = if (s.slotAt i).staged.isSome then s.slotTable.waits.map (·.discard i s.store.grants) else s.slotTable.waits := by
  simp [State.changeSlot]

/-- A change of a slot puts the new record in its place. -/
@[simp] theorem State.changeSlot_slots (s : State) (i : SlotNo) (v : Slot) (discards : Bool) :
    (s.changeSlot i v discards).slotTable.slots = s.slotTable.slots.set i v := by
  simp [State.changeSlot]

/-! ### The gate -/

/-- The held command that began in a drain is denied once its address is taken, whatever the pass rule says by then (R148). -/
theorem State.addressCommand_begunInDrain (s : State) (code : Byte) (ready : Bool) (row : Nat) (cycles : List Byte)
    (h : s.gate.holdsOpening code = true) (hd : s.gate.begunInDrain = true) :
    s.addressCommand code ready row cycles = (s.seeReady ready).denyCommand := by
  simp [State.addressCommand, h, hd]

/-- An opening code marks its command when the controller drains, and only then (R142, R148). -/
theorem State.openCommand_command (s : State) (code : Byte) (ready : Bool) :
    (s.openCommand code ready).gate.command = .takingAddress code s.denyTaking.denyLow s.gate.controllerDrains := by
  simp [State.openCommand]

/-! ### TAMPERED -/

/-- A change of TAMPERED owes a ROLL in every phase but UNCOMMISSIONED and HALTED; nothing else moves beside the flag (R37). -/
theorem State.setTampered_rollOwed (s : State) (b : Bool) :
    (s.setTampered b).roster.rollOwed
      = if s.supervisor.tampered ≠ b ∧ s.phase ≠ .uncommissioned ∧ s.phase ≠ .halted then true else s.roster.rollOwed := by
  by_cases hb : s.supervisor.tampered = b <;> by_cases hp : s.phase = .uncommissioned ∨ s.phase = .halted <;>
    simp_all [State.setTampered, State.oweRoll]
  exact fun h₁ h₂ => absurd hp (by simp [h₁, h₂])

/-! ### The key port -/

/-- Told to present, a port in CLEAR begins the key shift, and one in SHIFTING_ZERO has the request wait (R107). -/
theorem State.presentKey_clear (s : State) (h : s.keyPort.state = .clear) : s.presentKey = s.beginKeyShift := by
  simp [State.presentKey, h]
theorem State.presentKey_shiftingZero (s : State) (h : s.keyPort.state = .shiftingZero) :
    s.presentKey = s.setKeyPort { s.keyPort with waiting := true } := by
  simp [State.presentKey, h]

/-- A clear ends in a shift of zeros, or leaves CLEAR; no request waits behind it. -/
theorem KeyPort.cleared_state (p : KeyPort) (now : Micros) :
    (p.cleared now).state = if p.state = .clear then .clear else .shiftingZero := by
  unfold KeyPort.cleared KeyPort.stopKeyShift
  (repeat' split) <;> simp_all

/-- A clear presents nothing. -/
theorem KeyPort.cleared_presented (p : KeyPort) (now : Micros) (h : p.state = .presented ∨ p.state = .shiftingKey) :
    (p.cleared now).presented = 0 := by
  unfold KeyPort.cleared KeyPort.stopKeyShift
  (repeat' split) <;> simp_all

/-- A stopped key shift is over 512 to 514 microseconds after the clear: the bit being shifted, then the zeros. -/
theorem KeyPort.stopKeyShift_due (p : KeyPort) (now : Micros) (h : p.shiftStart ≤ now) :
    ∃ due, (p.stopKeyShift now).shiftDue = some due ∧ now + 512 ≤ due ∧ due ≤ now + 514 := by
  have pace (a b : Nat) (hab : a ≤ b) :
      b + 512 ≤ a + 2 * ((b - a) / 2 + 1) + 512 ∧ a + 2 * ((b - a) / 2 + 1) + 512 ≤ b + 514 := by
    omega
  unfold KeyPort.stopKeyShift
  split
  · exact ⟨_, rfl, pace p.shiftStart now h⟩
  · exact ⟨now + 512, rfl, Nat.le_refl _, Nat.add_le_add_left (by decide) now⟩

/-! ### Tokens -/

/-- The code of a digit string lies between the powers of ten that its length gives. -/
theorem foldl_entryCode (l : List (Fin 10)) (n : Nat) :
    n * 10 ^ l.length ≤ l.foldl (fun n d => n * 10 + d.val) n
      ∧ l.foldl (fun n d => n * 10 + d.val) n < (n + 1) * 10 ^ l.length := by
  induction l generalizing n with
  | nil => simp
  | cons d l ih =>
    obtain ⟨h1, h2⟩ := ih (n * 10 + d.val)
    have hd := d.isLt
    have hp : 0 < 10 ^ l.length := Nat.pow_pos (by decide)
    simp only [List.foldl, List.length_cons, Nat.pow_succ]
    constructor <;> nlinarith

/-- Codes over one length from different starts, or of different digits, differ. -/
theorem foldl_entryCode_inj (a b : List (Fin 10)) (hl : a.length = b.length) (n m : Nat)
    (h : a.foldl (fun n d => n * 10 + d.val) n = b.foldl (fun n d => n * 10 + d.val) m) : n = m ∧ a = b := by
  induction a generalizing b n m with
  | nil => cases b <;> simp_all
  | cons d a ih =>
    cases b with
    | nil => simp at hl
    | cons e b =>
      obtain ⟨h1, h2⟩ := ih b (by simpa using hl) _ _ h
      simp only at h1
      have hd := d.isLt
      have he := e.isLt
      have hv : d.val = e.val := by omega
      exact ⟨by omega, by rw [h2, Fin.ext hv]⟩

/-- Digit strings with one code are equal. -/
theorem entryCode_injective (a b : List (Fin 10)) (h : entryCode a = entryCode b) : a = b := by
  have ha := foldl_entryCode a 1
  have hb := foldl_entryCode b 1
  rw [entryCode, entryCode] at h
  have hl : a.length = b.length := by
    rcases Nat.lt_trichotomy a.length b.length with hc | hc | hc
    · have := Nat.pow_le_pow_right (n := 10) (by decide) hc
      rw [Nat.pow_succ] at this
      omega
    · exact hc
    · have := Nat.pow_le_pow_right (n := 10) (by decide) hc
      rw [Nat.pow_succ] at this
      omega
  exact (foldl_entryCode_inj a b hl 1 1 h).2

/-- Equal tokens come from equal strings, up to the 16 digits of the entry buffer (R168). -/
theorem tokenOf_injective (a b : List (Fin 10)) (ha : a.length ≤ 16) (hb : b.length ≤ 16) (h : tokenOf a = tokenOf b) :
    a = b := by
  have small (l : List (Fin 10)) (hl : l.length ≤ 16) : entryCode l < 2 ^ 64 := by
    have h1 := (foldl_entryCode l 1).2
    have h2 := Nat.pow_le_pow_right (n := 10) (by decide) hl
    rw [entryCode]
    omega
  have hc := congrArg BitVec.toNat (Config.tokenCipher.injective h)
  simp only [BitVec.toNat_ofNat] at hc
  rw [Nat.mod_eq_of_lt (small a ha), Nat.mod_eq_of_lt (small b hb)] at hc
  exact entryCode_injective a b hc

/-! ### The journal stays open under the work of its stages -/

@[simp] theorem State.checkpoint_isOpen (s : State) : s.checkpoint.purge.journal.isOpen = s.purge.journal.isOpen := by
  simp [State.checkpoint]

@[simp] theorem State.endErase_isOpen (s : State) (early : Bool) :
    (s.endErase early).purge.journal.isOpen = s.purge.journal.isOpen := by
  simp [State.endErase]

@[simp] theorem State.suspendOrResume_isOpen (s : State) :
    s.suspendOrResume.purge.journal.isOpen = s.purge.journal.isOpen := by
  unfold State.suspendOrResume
  (repeat' split) <;> simp

@[simp] theorem State.eraseAdvance_isOpen (s : State) :
    s.eraseAdvance.purge.journal.isOpen = s.purge.journal.isOpen := by
  unfold State.eraseAdvance
  dsimp only
  (repeat' split) <;> simp

@[simp] theorem State.addBadBlock_isOpen (s : State) (n : Nat) :
    (s.addBadBlock n).purge.journal.isOpen = s.purge.journal.isOpen := by
  unfold State.addBadBlock
  (repeat' split) <;> simp

@[simp] theorem State.blockDone_isOpen (s : State) (n : Nat) (bad : Bool) :
    (s.blockDone n bad).purge.journal.isOpen = s.purge.journal.isOpen := by
  unfold State.blockDone
  dsimp only
  (repeat' split) <;> simp

@[simp] theorem State.channelFree_isOpen (s : State) :
    s.channelFree.purge.journal.isOpen = s.purge.journal.isOpen := by
  simp [State.channelFree]

@[simp] theorem State.tellEngine_isOpen (s : State) : s.tellEngine.purge.journal.isOpen = s.purge.journal.isOpen := by
  unfold State.tellEngine
  split <;> simp

@[simp] theorem State.nextStage_isOpen (s : State) (stage : PurgeStage) :
    (s.nextStage stage).purge.journal.isOpen = s.purge.journal.isOpen := by
  simp [State.nextStage]

@[simp] theorem State.beginStage_isOpen (s : State) : s.beginStage.purge.journal.isOpen = s.purge.journal.isOpen := by
  unfold State.beginStage
  split <;> simp [State.beginErase]

@[simp] theorem State.planStored_isOpen (s : State) (rec : RecordId) :
    (s.planStored rec).purge.journal.isOpen = s.purge.journal.isOpen := by
  unfold State.planStored
  dsimp only
  (repeat' split) <;> simp

end Sys2Proof.Machine
end

