-- ==== Sys2Proof/Laws/PerInstr.lean ====
section
/-! SUPPORT. For every command: its operands pass the check of WellFormed exactly when they are such as the outside world can supply. -/

namespace Sys2Proof.Laws.Operands

/-- What the outside world can supply, as a proposition: a frame read without a framing failure has the payload length of its header unless header parity is odd, waking keys are distinct, a CONTROL code is none of the opening codes of the other classes, a move of the band shows three samples, a dominant run has a length. -/
def Supplied : Instr → Prop
  | .frameReceive f => f.framing = .correct → f.oddParity = true ∨ f.payload.length = f.lengthField
  | .wake (.key down) _ => down.Nodup
  | .controlCommand code => code ∉ openingCodes
  | .cellBandChange samples _ => 3 ≤ samples.length
  | .dominantRunOutsideFrame bits => 0 < bits
  | _ => True

/-- The check of WellFormed says what the outside world can supply. -/
def Statement (i : Instr) : Prop := i.wellFormed = true ↔ Supplied i

theorem powerUp (inputs : StartInputs) : Statement (.powerUp inputs) := ⟨fun _ => trivial, fun _ => rfl⟩
theorem supplyLost (landed : Bool) : Statement (.supplyLost landed) := ⟨fun _ => trivial, fun _ => rfl⟩
theorem wake (cause : WakeCause) (inputs : StartInputs) : Statement (.wake cause inputs) := by
  cases cause <;> simp [Statement, Instr.wellFormed, Supplied]
theorem dormancyEntry (atTest : Bool) (atRetest : Bool) : Statement (.dormancyEntry atTest atRetest) := ⟨fun _ => trivial, fun _ => rfl⟩
theorem startSettleEnd : Statement .startSettleEnd := ⟨fun _ => trivial, fun _ => rfl⟩
theorem frameAttemptStart (rival : Option Byte) : Statement (.frameAttemptStart rival) := ⟨fun _ => trivial, fun _ => rfl⟩
theorem bitError : Statement .bitError := ⟨fun _ => trivial, fun _ => rfl⟩
theorem attemptComplete (slots : Byte) : Statement (.attemptComplete slots) := ⟨fun _ => trivial, fun _ => rfl⟩
theorem frameReceive (frame : LineFrame) : Statement (.frameReceive frame) := by
  cases h : frame.framing <;> simp [Statement, Instr.wellFormed, Supplied, LineFrame.wellFormed, h]
theorem lineReset : Statement .lineReset := ⟨fun _ => trivial, fun _ => rfl⟩
theorem roll : Statement .roll := ⟨fun _ => trivial, fun _ => rfl⟩
theorem assemblySend : Statement .assemblySend := ⟨fun _ => trivial, fun _ => rfl⟩
theorem assemblyWindowEnd : Statement .assemblyWindowEnd := ⟨fun _ => trivial, fun _ => rfl⟩
theorem reannounce : Statement .reannounce := ⟨fun _ => trivial, fun _ => rfl⟩
theorem entry : Statement .entry := ⟨fun _ => trivial, fun _ => rfl⟩
theorem verdict : Statement .verdict := ⟨fun _ => trivial, fun _ => rfl⟩
theorem verdictWindowExpire : Statement .verdictWindowExpire := ⟨fun _ => trivial, fun _ => rfl⟩
theorem holdExpire : Statement .holdExpire := ⟨fun _ => trivial, fun _ => rfl⟩
theorem stage : Statement .stage := ⟨fun _ => trivial, fun _ => rfl⟩
theorem adopt : Statement .adopt := ⟨fun _ => trivial, fun _ => rfl⟩
theorem adoptAbandon : Statement .adoptAbandon := ⟨fun _ => trivial, fun _ => rfl⟩
theorem retire : Statement .retire := ⟨fun _ => trivial, fun _ => rfl⟩
theorem answer : Statement .answer := ⟨fun _ => trivial, fun _ => rfl⟩
theorem enrollmentTimeout : Statement .enrollmentTimeout := ⟨fun _ => trivial, fun _ => rfl⟩
theorem lock : Statement .lock := ⟨fun _ => trivial, fun _ => rfl⟩
theorem detach (landed : Bool) (sense : Nat) : Statement (.detach landed sense) := ⟨fun _ => trivial, fun _ => rfl⟩
theorem attach (sense : Nat) : Statement (.attach sense) := ⟨fun _ => trivial, fun _ => rfl⟩
theorem attachWindowExpire : Statement .attachWindowExpire := ⟨fun _ => trivial, fun _ => rfl⟩
theorem keyShiftEnd : Statement .keyShiftEnd := ⟨fun _ => trivial, fun _ => rfl⟩
theorem zeroShiftEnd : Statement .zeroShiftEnd := ⟨fun _ => trivial, fun _ => rfl⟩
theorem purge : Statement .purge := ⟨fun _ => trivial, fun _ => rfl⟩
theorem controllerPurge : Statement .controllerPurge := ⟨fun _ => trivial, fun _ => rfl⟩
theorem purgeReoffer : Statement .purgeReoffer := ⟨fun _ => trivial, fun _ => rfl⟩
theorem purged : Statement .purged := ⟨fun _ => trivial, fun _ => rfl⟩
theorem purgeWriteComplete : Statement .purgeWriteComplete := ⟨fun _ => trivial, fun _ => rfl⟩
theorem eraseStepReady (status : Byte) : Statement (.eraseStepReady status) := ⟨fun _ => trivial, fun _ => rfl⟩
theorem eraseStepTimeout : Statement .eraseStepTimeout := ⟨fun _ => trivial, fun _ => rfl⟩
theorem recoveryResetReady : Statement .recoveryResetReady := ⟨fun _ => trivial, fun _ => rfl⟩
theorem recoveryResetTimeout : Statement .recoveryResetTimeout := ⟨fun _ => trivial, fun _ => rfl⟩
theorem faultPeriod : Statement .faultPeriod := ⟨fun _ => trivial, fun _ => rfl⟩
theorem drainExpire : Statement .drainExpire := ⟨fun _ => trivial, fun _ => rfl⟩
theorem settleEnd : Statement .settleEnd := ⟨fun _ => trivial, fun _ => rfl⟩
theorem read00h (cycles : FlashCycles) (ready : Bool) : Statement (.read00h cycles ready) := ⟨fun _ => trivial, fun _ => rfl⟩
theorem read05h (cycles : FlashCycles) (ready : Bool) : Statement (.read05h cycles ready) := ⟨fun _ => trivial, fun _ => rfl⟩
theorem program80h (cycles : FlashCycles) (ready : Bool) : Statement (.program80h cycles ready) := ⟨fun _ => trivial, fun _ => rfl⟩
theorem program85h (cycles : FlashCycles) (ready : Bool) : Statement (.program85h cycles ready) := ⟨fun _ => trivial, fun _ => rfl⟩
theorem erase60h (cycles : RowCycles) (ready : Bool) : Statement (.erase60h cycles ready) := ⟨fun _ => trivial, fun _ => rfl⟩
theorem controlCommand (code : Byte) : Statement (.controlCommand code) := by simp [Statement, Instr.wellFormed, Supplied]
theorem commandEnd (ready : Bool) : Statement (.commandEnd ready) := ⟨fun _ => trivial, fun _ => rfl⟩
theorem flashReady : Statement .flashReady := ⟨fun _ => trivial, fun _ => rfl⟩
theorem range : Statement .range := ⟨fun _ => trivial, fun _ => rfl⟩
theorem rangeWriteComplete : Statement .rangeWriteComplete := ⟨fun _ => trivial, fun _ => rfl⟩
theorem slotWriteComplete : Statement .slotWriteComplete := ⟨fun _ => trivial, fun _ => rfl⟩
theorem attemptWriteComplete : Statement .attemptWriteComplete := ⟨fun _ => trivial, fun _ => rfl⟩
theorem tamperWriteComplete : Statement .tamperWriteComplete := ⟨fun _ => trivial, fun _ => rfl⟩
theorem setup : Statement .setup := ⟨fun _ => trivial, fun _ => rfl⟩
theorem setupWriteComplete : Statement .setupWriteComplete := ⟨fun _ => trivial, fun _ => rfl⟩
theorem setupLock : Statement .setupLock := ⟨fun _ => trivial, fun _ => rfl⟩
theorem keyingWriteComplete : Statement .keyingWriteComplete := ⟨fun _ => trivial, fun _ => rfl⟩
theorem setupLockComplete : Statement .setupLockComplete := ⟨fun _ => trivial, fun _ => rfl⟩
theorem query : Statement .query := ⟨fun _ => trivial, fun _ => rfl⟩
theorem status : Statement .status := ⟨fun _ => trivial, fun _ => rfl⟩
theorem clear : Statement .clear := ⟨fun _ => trivial, fun _ => rfl⟩
theorem keyDigit (d : Fin 10) : Statement (.keyDigit d) := ⟨fun _ => trivial, fun _ => rfl⟩
theorem keyLock : Statement .keyLock := ⟨fun _ => trivial, fun _ => rfl⟩
theorem keyEnter : Statement .keyEnter := ⟨fun _ => trivial, fun _ => rfl⟩
theorem keyRelease (otherDown : Bool) : Statement (.keyRelease otherDown) := ⟨fun _ => trivial, fun _ => rfl⟩
theorem idleTimerExpire : Statement .idleTimerExpire := ⟨fun _ => trivial, fun _ => rfl⟩
theorem pendingTimerExpire : Statement .pendingTimerExpire := ⟨fun _ => trivial, fun _ => rfl⟩
theorem lockTimerExpire : Statement .lockTimerExpire := ⟨fun _ => trivial, fun _ => rfl⟩
theorem prefixTimerExpire : Statement .prefixTimerExpire := ⟨fun _ => trivial, fun _ => rfl⟩
theorem modeTimerExpire : Statement .modeTimerExpire := ⟨fun _ => trivial, fun _ => rfl⟩
theorem confirmTimerExpire : Statement .confirmTimerExpire := ⟨fun _ => trivial, fun _ => rfl⟩
theorem transientEnd : Statement .transientEnd := ⟨fun _ => trivial, fun _ => rfl⟩
theorem cellBandChange (samples : List Nat) (landed : Bool) : Statement (.cellBandChange samples landed) := by simp [Statement, Instr.wellFormed, Supplied]
theorem tamperAssertion : Statement .tamperAssertion := ⟨fun _ => trivial, fun _ => rfl⟩
theorem tamperRelease : Statement .tamperRelease := ⟨fun _ => trivial, fun _ => rfl⟩
theorem lineIdleReached : Statement .lineIdleReached := ⟨fun _ => trivial, fun _ => rfl⟩
theorem dominantRunOutsideFrame (bits : Nat) : Statement (.dominantRunOutsideFrame bits) := by simp [Statement, Instr.wellFormed, Supplied]
theorem keySeenDown (key : Key) : Statement (.keySeenDown key) := ⟨fun _ => trivial, fun _ => rfl⟩
theorem keySeenUpSettling : Statement .keySeenUpSettling := ⟨fun _ => trivial, fun _ => rfl⟩
theorem addressTakingBroken : Statement .addressTakingBroken := ⟨fun _ => trivial, fun _ => rfl⟩

end Sys2Proof.Laws.Operands
end

