-- ==== Sys2Proof/Tests/Slice0.lean ====
section
/-! SUPPORT. Small checks of the model, one step each, and for every statement of the provers with hypotheses a concrete state and operands that meet them. -/

set_option Elab.async false

open Sys2Proof.Machine

namespace Sys2Proof.Tests

/-! ### Small stations -/

/-- A setup record: members 0 to 3, keypad station 0, controller 7. -/
def record : SetupRecord where
  members := 0x0F
  controller := some 7
  keypad := 0
  failureLimit := 10
  retryLimit := 3
  minDigits := 6
  hostEntry := true
  hostAdmin := true
  tamperPolicy := .lock
  faultPolicy := .all
  blocks := 1024
  pagesPerBlock := 64
  locked := true

/-- A token, a salt and a channel key. -/
def token : Token := 0x1122334455667788
def salt : Salt := 7
def theKey : ChannelKey := 0xABCDEF

/-- The credential of a token at this station. -/
def credential (t : Token) : Credential := ⟨⟨salt, t⟩, ⟨⟨salt, t⟩, theKey⟩, false, none⟩

/-- Slot 0 and slot 1 active at generation 1, slot 2 with a staged part, the others empty. -/
def slots : Vector Slot 6 :=
  #v[⟨1, .active (credential token), none⟩, ⟨1, .active (credential 2), none⟩, ⟨1, .active (credential 3), some ⟨2, credential 4⟩⟩,
     Slot.cleared, Slot.cleared, ⟨65535, .empty, none⟩]

/-- The report of another member. -/
def report : GuardRecord := ⟨1, 5, 0, .locked, record.digest, false, Vector.replicate 6 ⟨.empty, 0, false, none⟩⟩

/-- Station 0, the keypad station of a drive keyed at epoch 1, awake and attached, every member and the controller PRESENT, in a phase with a grant. -/
def station (phase : Phase) (grant : Grant) : State :=
  { State.reset with
    clock := 1000000
    line := { State.reset.line with state := .idle, settle := none }
    roster := { State.reset.roster with
      kpd := true
      entries := #v[RosterEntry.absent, ⟨.present, some (.guard report)⟩, ⟨.present, some (.guard report)⟩,
        ⟨.present, some (.guard report)⟩, .absent, .absent, .absent, ⟨.present, some .controller⟩] }
    verifier := ⟨⟨1, 5, 2⟩, none, none⟩
    slotTable := { State.reset.slotTable with slots := slots, salt := salt }
    phaseCtl := ⟨phase, grant, none⟩
    gate := { State.reset.gate with
      grant := grant, owner := ownerFor phase false false, holder := .controller, handOver := .steady
      ranges := (Vector.replicate 8 RangeEntry.disabled).set 0 ⟨true, 0, 99, true, true, .user, false⟩ }
    setup := { State.reset.setup with state := .locked, held := some record }
    store := { State.reset.store with stored := { Stored.newPart with setup := some record } } }

/-- The station LOCKED; UNLOCKED as ADMIN with its key presented; VERIFYING with an attempt of its own match. -/
def locked : State := station .locked .pub
def unlocked : State :=
  let s := station .unlocked (.admin 0 false)
  { s with slotTable := { s.slotTable with unlockedKey := some theKey }, keyPort := ⟨.presented, theKey, none, false, none, 256⟩ }
def matchOn1 : Filed := ⟨.matched, 1, 2, 5⟩
def attempt : Attempt :=
  ⟨0, 9, false, .matched 1 theKey, some 1250000, (Vector.replicate 8 (some matchOn1)).set 3 none, none⟩
def verifying : State := let s := station .verifying .pub; { s with verifier := { s.verifier with attempt := some attempt } }

/-- A purge of epoch 2 under way in a stage. -/
def purging (stage : PurgeStage) : State :=
  let s := station .purging .none
  { s with
    purge := { s.purge with journal := ⟨true, some 2, some .request, some stage, 0, false, false⟩ }
    gate := { s.gate with owner := .guard, holder := .guard } }

/-- The station with a received frame, the only one of its queue. -/
def frame (k : Kind) (n : StationNo) (p : List Byte) : RxFrame := ⟨k, n, k.directed, p, none⟩
def holding (s : State) (f : RxFrame) : State := s.setLine { s.line with rx := [f] }

/-- The state after a command that gives a next state; the state itself otherwise. -/
def after (c : Instr) (s : State) : State :=
  match exec c s with
  | .next t => t
  | .fault _ => s
  | .refused _ => s

/-! ### Operands that no event has (WellFormed) -/

/-- Start inputs that give supply. -/
def inputs : StartInputs := ⟨false, false, false, true, 5000, 4000⟩

theorem test_frame_of_another_length_is_ill_formed :
    (Instr.frameReceive ⟨.correct, 0x96, 0xA0, 0x04, [], 0⟩).wellFormed = true
    ∧ (Instr.frameReceive ⟨.correct, 0x96, 0xA0, 0x05, [], 0⟩).wellFormed = false
    ∧ (Instr.frameReceive ⟨.correct, 0x96, 0xA0, 0x00, [], 0⟩).wellFormed = true
    ∧ (Instr.frameReceive ⟨.abandonMark false, 0x96, 0xA0, 0x05, [], 0⟩).wellFormed = true := by decide
theorem test_a_key_twice_down_is_ill_formed :
    (Instr.wake (.key [.lock, .lock]) inputs).wellFormed = false
    ∧ (Instr.wake (.key [.lock, .enter]) inputs).wellFormed = true := by decide
theorem test_an_opening_code_of_another_class_is_ill_formed :
    (Instr.controlCommand 0x60).wellFormed = false ∧ (Instr.controlCommand 0x70).wellFormed = true := by decide
theorem test_two_samples_move_no_band :
    (Instr.cellBandChange [3000, 3000] false).wellFormed = false
    ∧ (Instr.cellBandChange [3000, 3000, 3000] false).wellFormed = true := by decide
theorem test_a_run_of_no_length_is_ill_formed :
    (Instr.dominantRunOutsideFrame 0).wellFormed = false ∧ (Instr.dominantRunOutsideFrame 1).wellFormed = true := by decide

/-! ### The queue, and the spec's own numbers -/

theorem test_no_word_spells_a_command : decodeTableWord 8 0 = none ∧ State.reset.withFetchWord 8 0 = State.reset :=
  ⟨rfl, rfl⟩
theorem test_a_run_reaches_the_end_of_the_settle : ∃ t, Reached t ∧ t.clock = 20000 ∧ t.line.settle = none :=
  ⟨_, .step (.reset [.startSettleEnd]) rfl, by decide +kernel, by decide +kernel⟩
theorem test_empty_queue_ticks : step State.reset = .next (State.reset.setClock 1) := rfl
theorem test_front_command_runs :
    step (State.reset.setPending [.startSettleEnd, .status])
      = exec .startSettleEnd (State.reset.setPending [.status]) := rfl

/-- The spec's QUERY of station 6 to station 2: 96h A0h 00h, and its second attempt A4h 01h. -/
theorem test_query_header :
    let f : TxFrame := ⟨.query, true, 2, [], false, 0⟩
    headChar0 f.kind 6 = 0x96 ∧ headChar1 f = 0xA0 ∧ headChar2 0x96 0xA0 0 = 0x00
    ∧ headChar1 { f with attempt := 1 } = 0xA4 ∧ headChar2 0x96 0xA4 0 = 0x01 := by decide +kernel
/-- The check of the nine digits is that of the common check function, 29B1h. -/
theorem test_check_function : crc [0x31, 0x32, 0x33, 0x34, 0x35, 0x36, 0x37, 0x38, 0x39] = 0x29B1 := by decide +kernel
theorem test_kinds_round : ∀ k ∈ [Kind.purge, .lock, .purged, .verdict, .entry, .roll, .stage, .adopt, .retire, .answer, .range,
    .query, .status, .clear, .setup, .setupLock], Kind.ofCode k.code = some k := by decide
theorem test_bands : bandOf 3700 = .good ∧ bandOf 3000 ≠ .cutoff := by decide
theorem test_row_address : rowAddress 0x40 0x01 0x00 / 64 = 5 := by decide

/-! ### One step each -/

theorem test_lock_ends_the_unlock :
    let t := after .lock (holding unlocked (frame .lock 0 [0]))
    t.phase = .locked ∧ t.gate.grant = .pub ∧ t.keyPort.state = .shiftingZero ∧ t.slotTable.unlockedKey = none := by
  decide +kernel
theorem test_entry_begins_verifying :
    let t := after .entry (holding locked (frame .entry 0 (1 :: bytes2 1 ++ [0] ++ tokenBytes 2)))
    t.phase = .verifying ∧ (t.line.tx.map (·.kind)) = [.verdict] := by decide +kernel
theorem test_last_verdict_unlocks :
    let t := after .verdict (holding verifying (frame .verdict 3 ([0, 9, 0, 1, 2] ++ bytes4 5)))
    t.phase = .unlocked ∧ t.gate.grant = .user 1 false ∧ t.verifier.held = ⟨1, 6, 0⟩ ∧ t.keyPort.presented = theKey := by
  decide +kernel
theorem test_unnamed_result_voids :
    (after .verdict (holding verifying (frame .verdict 3 ([0, 9, 4, 0, 2] ++ bytes4 5)))).phase = .locked := by decide +kernel
theorem test_read_is_passed_and_denied :
    (after (.read00h (.address 0 0 0xC0 0x18 0) true) unlocked).gate.command = .passed [0x00, 0, 0, 0xC0, 0x18, 0] false
    ∧ (after (.read00h (.address 0 0 0x00 0x19 0) true) unlocked).gate.command = .denied
    ∧ (after (.read00h (.address 0 0 0xC0 0x18 0) true) locked).gate.gateDenied = true := by decide +kernel
theorem test_digit_is_buffered :
    (after (.keyDigit 7) (locked.setScanner { locked.scanner with key := .settling (.digit 7) 1020000 })).scanner.digits = [7] := by
  decide +kernel
theorem test_tamper_ends_the_unlock :
    let t := after .tamperAssertion unlocked
    t.phase = .locked ∧ t.supervisor.tampered = true ∧ t.store.inFlight.isSome = true := by decide +kernel
theorem test_clear_leaves_what_is_not_named :
    let s := locked.setLine { locked.line with headerParity := true, checkFail := true, rx := [frame .clear 7 [0x80, 0]] }
    (after .clear s).line.headerParity = false ∧ (after .clear s).line.checkFail = true := by decide +kernel
theorem test_cutoff_loses_the_supply :
    (after (.cellBandChange [2000, 2000, 2000] false)
      (locked.setSupervisor { locked.supervisor with attached := false })).supervisor.supplyValid = false := by decide +kernel

/-- Tables 7-7 and 7-8: B = 4,096 blocks of 128 pages. -/
def exampleRanges : Vector RangeEntry 8 :=
  #v[⟨true, 0, 255, true, false, .pub, false⟩, ⟨true, 256, 3583, true, true, .user, false⟩,
    ⟨true, 3584, 4095, true, true, .admin, true⟩, .disabled, .disabled, .disabled, .disabled, .disabled]
def exampleRecord : SetupRecord := { record with blocks := 4096, pagesPerBlock := 128 }
def exampleStation (g : Grant) : State :=
  { unlocked with
    phaseCtl := ⟨.unlocked, g, none⟩, gate := { unlocked.gate with grant := g, ranges := exampleRanges }
    setup := { unlocked.setup with held := some exampleRecord } }
def isPassed (s : State) : Bool :=
  match s.gate.command with
  | .passed _ _ => true
  | .idle => false
  | .takingAddress _ _ _ => false
  | .denied => false
/-- The decisions of the four commands of Table 7-8 under a grant: row addresses 1,000, 40,000, 460,800 and 600,000. -/
def decisions (g : Grant) : List Bool :=
  [isPassed (after (.read00h (.address 0 0 0xE8 0x03 0) true) (exampleStation g)),
   isPassed (after (.program80h (.address 0 0 0x40 0x9C 0) true) (exampleStation g)),
   isPassed (after (.erase60h (.address 0x00 0x08 0x07) true) (exampleStation g)),
   isPassed (after (.read05h (.address 0 0 0xC0 0x27 0x09) true) (exampleStation g))]
theorem test_table_7_8 :
    decisions .pub = [true, false, false, false] ∧ decisions (.user 1 false) = [true, true, false, false]
    ∧ decisions (.user 1 true) = [true, false, false, false] ∧ decisions (.admin 0 false) = [true, true, true, false] := by
  decide +kernel
/-- The five requests of Table 7-9. -/
theorem test_table_7_9 :
    let s := exampleStation (.admin 0 false)
    let s' := s.setGate { s.gate with ranges := s.gate.ranges.set 1 ⟨true, 256, 2999, true, true, .user, false⟩ }
    s.rangeRefusal 2 ⟨2, 3584, 4095, true, false, false, some .admin⟩ = some .lockedEntry
    ∧ s.rangeRefusal 3 ⟨3, 3000, 3100, true, true, false, some .admin⟩ = some .overlap
    ∧ s.rangeRefusal 3 ⟨3, 3000, 4096, true, false, false, some .user⟩ = some .invalid
    ∧ s.rangeRefusal 1 ⟨1, 256, 2999, true, true, false, some .user⟩ = none
    ∧ s'.rangeRefusal 3 ⟨3, 3000, 3583, true, false, true, some .admin⟩ = none := by decide +kernel

/-! ### Witnesses: what the hypotheses of the statements ask for is met -/

theorem test_witness_StepRunsFrontCommand : State.reset.pending = [] := rfl

theorem test_witness_AsleepStationTakesNoPart :
    let s := State.reset.setSupervisor { State.reset.supervisor with supplyValid := false }
    s.awake = false ∧ (∀ i, Instr.roll ≠ .powerUp i) ∧ (∀ b, Instr.roll ≠ .supplyLost b) ∧ (∀ w i, Instr.roll ≠ .wake w i)
    ∧ ∀ l b, Instr.roll ≠ .cellBandChange l b := ⟨rfl, nofun, nofun, nofun, nofun⟩

def owing (s : State) : State := s.setRoster { s.roster with rollOwed := true }
def rollFrame : TxFrame := ⟨.roll, false, 0, [], false, 0⟩
theorem test_witness_OwedRollIsPaid :
    State.reset.roster.rollOwed = false
    ∧ ((owing State.reset).roster.rollOwed = true ∧ (owing State.reset).phase = .uncommissioned)
    ∧ (let s := owing (locked.setLine { locked.line with tx := [rollFrame] })
       s.roster.rollOwed = true ∧ s.phase = .locked ∧ ∃ f ∈ s.line.tx, f.kind = .roll)
    ∧ ((owing locked).roster.rollOwed = true ∧ ∀ f ∈ (owing locked).line.tx, f.kind ≠ .roll) := by decide +kernel

/-- The locked station with a transmit queue of some kinds, its head on the line or not. -/
def queueing (kinds : List Kind) (onLine : Bool) : State :=
  locked.setLine
    { locked.line with
      tx := kinds.map fun k => ⟨k, false, 0, [], false, 0⟩, onLine := if onLine then some [] else none }
/-- What an offer leaves: the kinds in the queue, TX_DROPPED, what has come back, and both alternation bits (R4, R19, R20). -/
structure Offered where
  (queue : List Kind) (txDropped : Bool) (back : List (Kind × Option SendOutcome)) (altUrgent altOther : Bool)
  deriving DecidableEq
def offered (s : State) (k : Kind) : Offered :=
  let l := (s.offer k none []).line
  ⟨l.tx.map (·.kind), l.txDropped, l.rx.map (fun f => (f.kind, f.own)), l.altUrgent, l.altOther⟩
theorem test_witness_OwedRollIsPaid_offer :
    offered (queueing [.roll] false) .entry = ⟨[.roll, .entry], false, [], false, true⟩
    ∧ offered (queueing [.purge, .roll] false) .lock = ⟨[.purge, .lock, .roll], false, [], true, false⟩
    ∧ offered (queueing [.roll, .purge, .entry] true) .lock = ⟨[.roll, .purge, .lock, .entry], false, [], true, false⟩
    ∧ ((queueing [.roll] false).offer .answer (some 7) []).line.tx.map (·.directed) = [false, true] := by decide +kernel
theorem test_offer_to_a_full_queue :
    offered (queueing [.lock, .purge, .lock, .roll] false) .entry
        = ⟨[.lock, .purge, .lock, .roll], true, [(.entry, some .dropped)], false, false⟩
    ∧ offered (queueing [.roll, .purge, .entry, .stage] true) .lock
        = ⟨[.roll, .purge, .lock, .entry], true, [(.stage, some .dropped)], true, false⟩
    ∧ offered (queueing [.roll, .lock, .purge, .lock] true) .lock
        = ⟨[.roll, .lock, .purge, .lock], true, [(.lock, some .dropped)], false, false⟩ := by decide +kernel

/-- An unlocked station with a LOCK of the keypad station to handle, and the step that handles it. -/
def locking : State := (holding unlocked (frame .lock 0 [0])).setPending [.lock]
theorem test_witness_KeyStaysBehindThePhase : locking.keyFenced ∧ ∃ t, Steps locking t ∧ t.phase = .locked :=
  ⟨by unfold State.keyFenced; decide +kernel, _, rfl, by decide +kernel⟩
theorem test_witness_GateFollowsThePhase : locking.gateFollows ∧ ∃ t, Steps locking t ∧ t.gate.grant = .pub :=
  ⟨⟨by decide +kernel, by decide +kernel, by decide +kernel, fun _ => ⟨0, false, .inr rfl⟩⟩, _, rfl, by decide +kernel⟩
theorem test_witness_QueuesStayBounded : locking.queuesBounded ∧ ∃ t, Steps locking t ∧ t.line.rx = [] :=
  ⟨by decide +kernel, _, rfl, by decide +kernel⟩
theorem test_witness_LockedStationStaysCommissioned :
    locking.lockedIsCommissioned ∧ locking.setup.state = .locked ∧ ∃ t, Steps locking t :=
  ⟨by decide +kernel, by decide +kernel, _, rfl⟩

/-- A RANGE of the controller for entry 1, blocks 100 to 199, read and write, visibility USER. -/
def rangeFrame : RxFrame := frame .range 7 (1 :: bytes2 100 ++ bytes2 199 ++ [0xC8])
theorem test_witness_EnabledRangesStayApart :
    let s := (holding unlocked rangeFrame).setPending [.range]
    disjointRanges s.gate.ranges ∧ disjointRanges s.store.stored.ranges
    ∧ ∃ t, Steps s t ∧ t.gate.ranges[1].limit = 199 ∧ t.gate.ranges[0].limit = 99 :=
  ⟨by decide +kernel, by decide +kernel, _, rfl, by decide +kernel, by decide +kernel⟩

/-- The locked station with its line in a state. -/
def lined (l : LineState) : State := locked.setLine { locked.line with state := l }
theorem test_witness_LineMovesOutsideFrames :
    let sending := (lined .tracking).setLine { (lined .tracking).line with onLine := some [] }
    (State.reset.awake = true ∧ State.reset.line.settle = some 20000)
    ∧ ((lined .gap).awake = true ∧ (lined .gap).line.state = .gap ∧ (lined .gap).line.inReset = false
        ∧ (lined .gap).line.sendingReset = false)
    ∧ ((lined .lost).line.onLine = none ∧ (lined .lost).line.inReset = false ∧ (lined .lost).line.state ≠ .tracking)
    ∧ ((lined .tracking).line.onLine = none ∧ (lined .tracking).line.inReset = false ∧ (lined .tracking).line.state = .tracking)
    ∧ sending.line.onLine.isSome = true := by decide +kernel
theorem test_dominant_runs :
    (after (.dominantRunOutsideFrame 12) (lined .lost)).line.state = .gap
    ∧ (after (.dominantRunOutsideFrame 39) (lined .tracking)).line.state = .gap
    ∧ (after (.dominantRunOutsideFrame 40) (lined .idle)).line.state = .gap
    ∧ (after (.dominantRunOutsideFrame 11) (lined .idle)).line.state = .lost
    ∧ (after (.dominantRunOutsideFrame 10) (lined .tracking)).line.state = .lost
    ∧ (after (.dominantRunOutsideFrame 9) (lined .tracking)).line.state = .tracking := by decide +kernel

/-- An own frame at the head of the queue, waiting or with its attempt on the line. -/
def sending (f : TxFrame) (l : LineState) (on : Option (List Byte)) : State :=
  locked.setLine { locked.line with state := l, tx := [f], onLine := on }
def lockFrame (attempt : Nat) : TxFrame := ⟨.lock, false, 0, [2], false, attempt⟩
def answerFrame (attempt : Nat) : TxFrame := ⟨.answer, true, 7, [10, 0, 1, 0, 2], false, attempt⟩
theorem test_witness_HeadFrameStartsAndArbitrates :
    let s := sending (lockFrame 0) .idle none
    (s.awake = true ∧ s.line.tx = [lockFrame 0])
    ∧ (s.line.state = .idle ∧ s.line.settle = none ∧ s.line.sendingReset = false ∧ s.line.inReset = false
        ∧ (∀ g ∈ s.line.rx, g.own = none) ∧ s.line.onLine = none)
    ∧ (¬ (headChar0 .lock s.sn).toNat < (headChar0 .lock s.sn).toNat)
    ∧ ((0x10 : Byte).toNat < (headChar0 .lock s.sn).toNat)
    ∧ (sending (lockFrame 0) .gap none).line.state ≠ .idle := by decide +kernel

theorem test_witness_AttemptsEndByTheirOutcome :
    let s := sending (lockFrame 2) .tracking (some [])
    let last := sending (lockFrame 3) .tracking (some [])
    let directed := sending (answerFrame 3) .tracking (some [])
    let own := sending rollFrame .tracking (some [])
    (s.isOnLine (lockFrame 2) [] ∧ (lockFrame 2).kind ≠ .roll ∧ (lockFrame 2).attempt < s.retryLimit)
    ∧ (last.isOnLine (lockFrame 3) [] ∧ last.retryLimit ≤ (lockFrame 3).attempt ∧ (lockFrame 3).directed = false)
    ∧ (directed.isOnLine (answerFrame 3) [] ∧ directed.retryLimit ≤ (answerFrame 3).attempt ∧ (answerFrame 3).directed = true)
    ∧ (own.isOnLine rollFrame [] ∧ rollFrame.kind = .roll ∧ rollFrame.directed = false)
    ∧ (0xFE : Byte).getLsbD (7 - (answerFrame 3).target.val) = false
    ∧ (∀ n : StationNo, n ≠ s.sn → s.roster.entries[n].presence = .present → (0x8E : Byte).getLsbD (7 - n.val) = false)
    ∧ s.missing (lockFrame 2) 0xFF ≠ [] ∧ own.missing rollFrame 0xFF ≠ [] := by decide +kernel

theorem test_witness_LastPartialAttemptSilences :
    let s := sending (lockFrame 3) .tracking (some [])
    let directed := sending (answerFrame 3) .tracking (some [])
    (s.isOnLine (lockFrame 3) [] ∧ s.missing (lockFrame 3) 0xEE = [1, 2] ∧ (lockFrame 3).kind ≠ .roll
      ∧ s.retryLimit ≤ (lockFrame 3).attempt ∧ s.roster.entries[(1 : StationNo)].presence = .present
      ∧ (3 : StationNo) ∉ s.missing (lockFrame 3) 0xEE ∧ s.roster.rollOwed = false)
    ∧ (directed.isOnLine (answerFrame 3) [] ∧ directed.missing (answerFrame 3) 0xFF = [7]
      ∧ directed.retryLimit ≤ (answerFrame 3).attempt ∧ directed.roster.rollOwed = false) := by decide +kernel
theorem test_the_sender_drives_its_own_slot :
    (after (.attemptComplete 0xFF) (sending (lockFrame 3) .tracking (some []))).line.receipt = true
    ∧ (after (.attemptComplete 0x8E) (sending (lockFrame 0) .tracking (some []))).line.receipt = true
    ∧ (sending (lockFrame 3) .tracking (some [])).line.receipt = false := by decide +kernel

/-- Frames on the line: a QUERY of station 6 with an odd header; its payloads and checks right or wrong. -/
def wire (h0 h1 h2 : Byte) (p : List Byte) : LineFrame := ⟨.correct, h0, h1, h2, p, checkOf h0 h1 h2 p⟩
theorem test_witness_OddHeaderLosesTheLine :
    let f := wire 0x96 0xA0 0x01 []
    locked.awake = true ∧ locked.line.onLine = none ∧ locked.line.state = .idle ∧ oddHeader f.head0 f.head1 f.head2 = true
    ∧ (after (.frameReceive f) locked).line.headerParity = true
    ∧ (after (.frameReceive { f with framing := .broken true }) locked).line.headerParity = true
    ∧ (after (.frameReceive { f with framing := .abandonMark true }) locked).line.headerParity = true
    ∧ (after (.frameReceive { f with payload := [1] }) locked).line.headerParity = true := by
  decide +kernel

/-- The hypotheses of a frame with a good header and no framing failure. -/
def headed (s : State) (f : LineFrame) : Bool :=
  s.awake && s.line.onLine.isNone && (s.line.state = .idle || s.line.state = .tracking) && f.framing = .correct && f.wellFormed
    && !oddHeader f.head0 f.head1 f.head2
theorem test_witness_RefusedFramesGetNoReceipt :
    (locked.awake = true ∧ locked.line.onLine = none ∧ locked.line.state = .idle ∧ (lined .gap).line.state = .gap)
    ∧ (headed locked (wire 0x00 0x00 0x00 []) = true ∧ Kind.ofCode ((0x00 : Byte).toNat / 8) = none)
    ∧ (headed locked (wire 0x10 0x00 0x01 []) = true ∧ Kind.ofCode ((0x10 : Byte).toNat / 8) = some .purge
        ∧ 0 ∉ Kind.purge.lengths)
    ∧ (headed locked ⟨.correct, 0x96, 0xA0, 0x00, [], 0⟩ = true ∧ Kind.ofCode ((0x96 : Byte).toNat / 8) = some .query
        ∧ 0 ∈ Kind.query.lengths ∧ 0 ≠ checkOf 0x96 0xA0 0x00 [])
    ∧ (headed locked (wire 0x96 0xA0 0x00 []) = true ∧ directedOf (wire 0x96 0xA0 0x00 []) = true
        ∧ targetOf (wire 0x96 0xA0 0x00 []) ≠ locked.sn)
    ∧ (headed locked (wire 0x90 0x80 0x01 []) = true ∧ targetOf (wire 0x90 0x80 0x01 []) = locked.sn
        ∧ senderOf (wire 0x90 0x80 0x01 []) = locked.sn) := by decide +kernel
theorem test_framing_failures_leave_gap_or_lost :
    let f (framing : Framing) : LineFrame := { wire 0x96 0xA0 0x01 [] with framing := framing }
    let end_ (framing : Framing) (l : LineState) := (after (.frameReceive (f framing)) (lined l)).line
    (end_ (.abandonMark false) .idle).state = .gap ∧ (end_ (.abandonMark false) .idle).headerParity = false
    ∧ (end_ (.abandonMark true) .idle).state = .gap ∧ (end_ (.broken false) .tracking).state = .lost
    ∧ (end_ (.broken false) .tracking).headerParity = false
    ∧ (end_ (.abandonMark true) .lost).state = .gap ∧ (end_ (.abandonMark false) .gap).state = .gap
    ∧ (end_ .correct .gap).state = .lost ∧ (end_ (.broken true) .lost).state = .lost
    ∧ (after (.frameReceive { wire 0x96 0xA0 0x00 [] with framing := .abandonMark true }) locked).line.headerParity = false := by
  decide +kernel

/-- A QUERY of station 7 to station 0, first and second attempt. -/
def query : LineFrame := wire 0x97 0x80 0x00 []
def queryAgain : LineFrame := wire 0x97 0x84 0x01 []
def remembering : State := after (.frameReceive query) locked
theorem test_witness_AcceptedFrameIsQueuedOrRepeat :
    let full := locked.setLine { locked.line with rx := List.replicate 4 (frame .query 7 []) }
    (headed locked query = true ∧ Kind.ofCode (query.head0.toNat / 8) = some .query ∧ 0 ∈ Kind.query.lengths
        ∧ targetOf query = locked.sn ∧ senderOf query ≠ locked.sn ∧ attemptOf query = 0 ∧ locked.placesTaken < 4)
    ∧ (headed full query = true ∧ 4 ≤ full.placesTaken)
    ∧ (let s := remembering.setLine { remembering.line with state := .idle }
       headed s queryAgain = true ∧ targetOf queryAgain = s.sn ∧ senderOf queryAgain ≠ s.sn ∧ 1 ≤ attemptOf queryAgain
       ∧ s.repeatEntry false (senderOf queryAgain) = some ⟨.query, queryAgain.check⟩) := by decide +kernel

theorem test_witness_LineResetStartsAssemblyAgain :
    let again := locked.setLine { locked.line with inReset := true }
    let calm (p : Phase) := (station p .none).awake && !(station p .none).line.inReset && (station p .none).phase = p
    (again.awake = true ∧ again.line.inReset = true)
    ∧ (unlocked.awake = true ∧ unlocked.line.inReset = false ∧ unlocked.phase = .unlocked ∧ unlocked.others ≠ [])
    ∧ ((purging .erase).awake = true ∧ (purging .erase).line.inReset = false ∧ (purging .erase).phase = .purging
      ∧ (purging .erase).others ≠ [])
    ∧ calm .uncommissioned = true ∧ calm .purgeWait = true ∧ calm .halted = true ∧ calm .blank = true := by
  decide +kernel
theorem test_line_reset_keeps_the_records :
    let s := (unlocked.setVerifier { unlocked.verifier with hold := some 1500000 }).setPurge { unlocked.purge with badBlocks := [3] }
    let t := after .lineReset s
    (s.awake = true ∧ s.line.inReset = false ∧ s.others ≠ [] ∧ s.phase = .unlocked)
    ∧ (t.verifier.held = s.verifier.held ∧ t.verifier.hold = some 1500000 ∧ t.slotTable.slots = s.slotTable.slots
      ∧ t.purge.badBlocks = [3] ∧ t.gate = { s.gate with grant := .pub } ∧ t.slotTable.unlockedKey = none)
    ∧ (t.line.tx.map (·.payload) = [t.rollPayload]) := by decide +kernel
theorem test_line_reset_opens_a_window :
    let s := unlocked.setRoster { unlocked.roster with answeredAt := some 900000 }
    let alone := locked.setSetup { locked.setup with held := some { record with members := 1 } }
    let t := after .lineReset s
    (alone.others = [] ∧ alone.purge.journal.isOpen = false ∧ alone.epoch ≠ 65535)
    ∧ (t.phase = .assembling ∧ t.roster.window = some ⟨1000000, 0⟩ ∧ t.roster.announce = none ∧ t.roster.answeredAt = none)
    ∧ (after .lineReset alone).roster.window = none := by decide +kernel
theorem test_a_roll_is_read_back :
    let s := (station .incomplete .pub).setSlotTable { (station .incomplete .pub).slotTable with slots := slots.set 5 Slot.cleared }
    (s.roleOf s.sn = .keypadGuard ∧ s.rollEpoch < 65536 ∧ s.verifier.held.serial < 4294967296 ∧ s.verifier.held.count < 256
      ∧ s.progressPercent ≤ 100 ∧ ∀ i : SlotNo, (s.slotAt i).gen < 65536 ∧ (s.slotAt i).uses = none)
    ∧ readRoll s.rollPayload = some (.guard .keypadGuard ⟨1, 5, 2, .incomplete, record.digest, false, s.summaries⟩) := by
  decide +kernel
theorem test_line_reset_of_a_drive_of_one :
    let alone := locked.setSetup { locked.setup with held := some { record with members := 1 } }
    let spent := alone.setVerifier { alone.verifier with held := ⟨1, 5, 10⟩ }
    alone.others = [] ∧ (after .lineReset alone).line.tx.map (·.kind) = [.roll] ∧ (after .lineReset alone).phase = .locked
    ∧ (after .lineReset spent).line.tx.map (·.kind) = [.purge, .roll] := by decide +kernel
/-- The kinds in the transmit queue after a line reset of a station with two frames queued. -/
def rolledAt (p : Phase) : List Kind :=
  let s := station p .none
  (after .lineReset (s.setLine { s.line with tx := [lockFrame 0, answerFrame 1], rx := [frame .lock 1 [2]] })).line.tx.map (·.kind)
theorem test_line_reset_leaves_one_roll :
    rolledAt .purgeWait = [.roll] ∧ rolledAt .halted = [.roll] ∧ rolledAt .blank = [.roll] ∧ rolledAt .incomplete = [.roll]
    ∧ rolledAt .uncommissioned = [] := by decide +kernel
theorem test_line_reset_hands_the_grant_back :
    unlocked.keyFenced ∧ (after .lineReset unlocked).keyPort.state = .shiftingZero ∧ (after .lineReset unlocked).phase = .assembling :=
  ⟨by unfold State.keyFenced; decide +kernel, by decide +kernel, by decide +kernel⟩

/-- A ROLL payload of a member: role GUARD, epoch 1, serial 5, no failures, LOCKED, six empty slots. -/
def rollPayload : List Byte :=
  0x00 :: bytes2 1 ++ bytes4 5 ++ [0, 0x50, 100] ++ bytes2 record.digest.toNat ++ List.replicate 24 0
/-- ASSEMBLING with its window and member 1 missing. -/
def assembling : State :=
  let s := station .assembling .pub
  s.setRoster { s.roster with window := some ⟨900000, 1⟩, entries := s.roster.entries.set 1 RosterEntry.absent }
theorem test_witness_ReportsAndWindowMoveTheRoster :
    let roll := frame .roll 1 rollPayload
    let controller := frame .roll 7 [0x80, 0]
    let unknown := frame .roll 1 [0xC0, 0]
    let wrong := frame .roll 7 rollPayload
    let purged := frame .purged 1 (bytes2 2 ++ [0, 0])
    ((holding assembling roll).isFront roll [] ∧ readRoll roll.payload = some (.guard .guard report)
        ∧ (holding assembling roll).roleOf roll.sender = .guard ∧ roll.sender ≠ assembling.sn)
    ∧ ((holding locked controller).isFront controller [] ∧ readRoll controller.payload = some .controller
        ∧ locked.roleOf controller.sender = .controller)
    ∧ ((holding locked unknown).isFront unknown [] ∧ readRoll unknown.payload = none)
    ∧ ((holding locked wrong).isFront wrong [] ∧ readRoll wrong.payload = some (.guard .guard report)
        ∧ locked.roleOf wrong.sender ≠ .guard)
    ∧ ((holding locked purged).isFront purged [] ∧ locked.isMember purged.sender = true ∧ purged.sender ≠ locked.sn
        ∧ locked.roster.entries[purged.sender].last = some (.guard report) ∧ locked.epoch < u16 purged.payload 0)
    ∧ ((holding assembling purged).isFront purged [] ∧ assembling.roster.entries[purged.sender].last = none)
    ∧ (assembling.awake = true ∧ assembling.roster.window = some ⟨900000, 1⟩ ∧ assembling.phase = .assembling
        ∧ assembling.memberMissing = true ∧ assembling.digestConflict = false) := by decide +kernel

/-- A ROLL of member 1 with an epoch, a pair, a phase and a setup digest, and the report that it carries. -/
def rollOf (epoch serial count : Nat) (p : Phase) (digest : Word16) : RxFrame :=
  frame .roll 1 (0x00 :: bytes2 epoch ++ bytes4 serial ++ [byte count, byte (p.code * 16), 100] ++ bytes2 digest.toNat
    ++ List.replicate 24 0)
def reportOf (epoch serial count : Nat) (p : Phase) (digest : Word16) : GuardRecord :=
  { report with epoch := epoch, serial := serial, count := count, phase := p, digest := digest }
/-- A PURGED of member 1. -/
def purgedOf (epoch : Nat) : RxFrame := frame .purged 1 (bytes2 epoch ++ [0, 0])
/-- INCOMPLETE with member 2 missing; ASSEMBLING with its window and every member's report alike but for the pair. -/
def incomplete : State :=
  let s := station .incomplete .pub
  s.setRoster { s.roster with entries := s.roster.entries.set 2 RosterEntry.absent }
def completing (serial count : Nat) : State :=
  let s := station .assembling .pub
  s.setRoster { s.roster with
    window := some ⟨900000, 1⟩
    entries := s.roster.entries.set 1 ⟨.present, some (.guard { report with serial := serial, count := count })⟩ }
theorem test_witness_ReportsAndWindowMoveTheRoster_clauses :
    let d := record.digest
    let reads (f : RxFrame) (r : GuardRecord) := readRoll f.payload == some (.guard .guard r)
    (reads (rollOf 1 5 3 .locked d) (reportOf 1 5 3 .locked d) = true ∧ locked.raises 5 3 ∧ 3 < locked.failureLimit
      ∧ locked.store.requests.roster = none ∧ locked.store.inFlight = none ∧ locked.store.deciding = false)
    ∧ (reads (rollOf 1 6 10 .locked d) (reportOf 1 6 10 .locked d) = true ∧ locked.raises 6 10 ∧ locked.failureLimit ≤ 10
      ∧ locked.epoch ≠ 65535 ∧ ¬ 10 ≤ 9)
    ∧ (verifying.raises 6 0 ∧ ¬ locked.raises 5 2)
    ∧ (reads (rollOf 2 0 0 .locked d) (reportOf 2 0 0 .locked d) = true ∧ locked.epoch < 2 ∧ locked.purge.journal.isOpen = false)
    ∧ (reads (rollOf 0 0 0 .locked d) (reportOf 0 0 0 .locked d) = true ∧ 0 < locked.epoch)
    ∧ reads (rollOf 1 5 0 .halted d) (reportOf 1 5 0 .halted d) = true
    ∧ (reads (rollOf 1 5 0 .locked (d + 1)) (reportOf 1 5 0 .locked (d + 1)) = true ∧ d + 1 ≠ incomplete.digest
      ∧ incomplete.roster.startCause ≠ .reseat ∧ (2 : StationNo) ≠ 1 ∧ incomplete.isMember 2 = true
      ∧ incomplete.roster.entries[(2 : StationNo)].presence ≠ .present)
    ∧ (u16 (purgedOf 0).payload 0 < locked.epoch) := by decide +kernel
theorem test_reports_move_the_phase :
    let d := record.digest
    let then_ (s : State) (f : RxFrame) := after .roll (holding s f)
    (then_ locked (rollOf 1 5 3 .locked d)).verifier = ⟨⟨1, 5, 3⟩, none, some 6000000⟩
    ∧ (then_ locked (rollOf 1 6 10 .locked d)).purge.journal.cause = some .limit
    ∧ (then_ verifying (rollOf 1 6 0 .locked d)).phase = .verifying
    ∧ (then_ locked (rollOf 2 0 0 .locked d)).purge.journal.cause = some .epoch
    ∧ (then_ locked (rollOf 0 0 0 .locked d)).phase = .incomplete
    ∧ (then_ locked (rollOf 1 5 0 .halted d)).phase = .incomplete
    ∧ (then_ incomplete (rollOf 1 5 0 .locked (d + 1))).phase = .halted
    ∧ (then_ incomplete (rollOf 1 5 0 .locked (d + 1))).line.sendingReset = true
    ∧ (after .purged (holding locked (purgedOf 2))).purge.journal.target = some 2
    ∧ (after .purged (holding locked (purgedOf 0))).phase = .incomplete := by decide +kernel
theorem test_assembly_completes :
    (completing 5 3).awake = true ∧ (completing 5 3).phase = .assembling ∧ (completing 5 3).purge.journal.isOpen = false
    ∧ (completing 5 3).bestReported = (5, 3) ∧ (completing 6 10).bestReported = (6, 10)
    ∧ (∀ n : StationNo, (completing 6 10).isMember n = true → n ≠ 0 →
        ((completing 6 10).lastGuard n).any (fun r => r.epoch = 1 && r.phase = .locked && r.digest = record.digest) = true)
    ∧ (after .assemblyWindowEnd (completing 5 3)).phase = .locked
    ∧ (after .assemblyWindowEnd (completing 5 3)).verifier.held = ⟨1, 5, 3⟩
    ∧ (after .assemblyWindowEnd (completing 5 3)).verifier.hold = some 6200000
    ∧ (after .assemblyWindowEnd (completing 6 10)).phase = .purging
    ∧ (completing 6 10).raises 6 10 ∧ (after .assemblyWindowEnd (completing 6 10)).verifier.hold = some 321200000 := by decide +kernel
/-- The member whose record is missing comes last, and the controller's ROLL makes the test that completes assembly. -/
theorem test_the_controllers_roll_completes :
    (after .roll (holding (station .incomplete .pub) (frame .roll 7 [0x80, 0]))).phase = .locked
    ∧ (after .roll (holding incomplete (frame .roll 7 [0x80, 0]))).phase = .incomplete := by decide +kernel
theorem test_others_agree : (completing 5 3).othersAgree := by
  intro n hm hn
  match n, hm, hn with
  | 0, _, h => exact absurd rfl h
  | 1, _, _ => exact ⟨{ report with serial := 5, count := 3 }, by decide +kernel⟩
  | 2, _, _ => exact ⟨report, by decide +kernel⟩
  | 3, _, _ => exact ⟨report, by decide +kernel⟩
  | 4, h, _ => exact absurd h (by decide +kernel)
  | 5, h, _ => exact absurd h (by decide +kernel)
  | 6, h, _ => exact absurd h (by decide +kernel)
  | 7, h, _ => exact absurd h (by decide +kernel)
theorem test_assembly_completes_at_a_report :
    let d := record.digest
    let at_ (c : Instr) (f : RxFrame) (s : State) := after c (holding s f)
    let own : RxFrame := { frame .roll 0 (0x40 :: rollPayload.drop 1) with own := some .delivered }
    (at_ .roll (rollOf 1 6 3 .incomplete d) (completing 5 3)).verifier = ⟨⟨1, 6, 3⟩, none, some 6000000⟩
    ∧ (at_ .roll (rollOf 1 6 3 .incomplete d) (completing 5 3)).phase = .locked
    ∧ ((completing 5 3).raises 6 10 ∧ (at_ .roll (rollOf 1 6 10 .locked d) (completing 5 3)).phase = .purging)
    ∧ (at_ .purged (purgedOf 1) (completing 5 3)).verifier.held = ⟨1, 5, 2⟩
    ∧ (at_ .purged (purgedOf 1) (completing 5 3)).phase = .locked
    ∧ ((holding (completing 5 3) own).isFront own [] ∧ readRoll own.payload = some (.guard .keypadGuard report))
    ∧ (at_ .roll own (completing 5 3)).phase = .locked ∧ (at_ .roll (frame .roll 7 [0x80, 0]) (completing 5 3)).phase = .locked := by
  decide +kernel

theorem test_witness_ScheduledRollsGoOut :
    (assembling.awake = true ∧ assembling.roster.window = some ⟨900000, 1⟩ ∧ 1 < 2)
    ∧ (let s := locked.setRoster { locked.roster with announce := some 1000000, announced := 14 }
       s.awake = true ∧ s.roster.announce = some 1000000) := by decide +kernel
/-- The station that answered a ROLL at a time. -/
def answeredAt (s : State) (t : Micros) : State := s.setRoster { s.roster with answeredAt := some t }
theorem test_witness_ScheduledRollsGoOut_answer :
    let d := record.digest
    let f := rollOf 1 5 2 .incomplete d
    let host := frame .roll 7 [0x80, 0]
    let own : RxFrame := ⟨.roll, 0, false, rollPayload, some .delivered⟩
    let waits (s : State) (sender : StationNo) : Bool := s.isMember 2 && decide ((2 : StationNo) ≠ sender) && decide ((2 : StationNo) ≠ s.sn)
      && decide (s.roster.entries[(2 : StationNo)].presence ≠ .present) && !s.digestConflict
    ((holding locked f).isFront f [] ∧ readRoll f.payload = some (.guard .guard (reportOf 1 5 2 .incomplete d))
      ∧ locked.roleOf 1 = .guard ∧ (1 : StationNo) ≠ locked.sn ∧ 1 ≤ locked.epoch ∧ ¬ locked.raises 5 2
      ∧ locked.roster.rollOwed = false ∧ locked.line.tx = [] ∧ locked.roster.answeredAt = none)
    ∧ (waits incomplete 1 = true ∧ (holding incomplete f).isFront f [] ∧ d = incomplete.digest)
    ∧ ((holding locked host).isFront host [] ∧ readRoll host.payload = some .controller ∧ locked.roleOf 7 = .controller
      ∧ waits incomplete 7 = true)
    ∧ ((holding locked own).isFront own [] ∧ readRoll own.payload = some (.guard .guard report)
      ∧ (∃ s : State, s.isFront own [] ∧ s.phase = .locked ∧ s.roleOf own.sender = .guard ∧ own.sender = s.sn)) :=
  ⟨by decide +kernel, by decide +kernel, by decide +kernel, by decide +kernel, by decide +kernel,
    holding (locked.setSetup { locked.setup with held := some { record with keypad := 1 } })
      ⟨.roll, 0, false, rollPayload, some .delivered⟩, by decide +kernel⟩
theorem test_rolls_are_answered :
    let d := record.digest
    let sent (s : State) (f : RxFrame) := ((after .roll (holding s f)).line.tx.map (·.kind), (after .roll (holding s f)).roster.answeredAt)
    let host := frame .roll 7 [0x80, 0]
    sent locked (rollOf 1 5 2 .incomplete d) = ([.roll], some 1000000)
    ∧ sent locked (rollOf 1 5 2 .locked d) = ([], none)
    ∧ sent (answeredAt locked 500000) (rollOf 1 5 2 .incomplete d) = ([.roll], some 1000000)
    ∧ sent (answeredAt locked 500001) (rollOf 1 5 2 .incomplete d) = ([], some 500001)
    ∧ sent locked host = ([], none)
    ∧ sent (locked.setRoster { locked.roster with entries := locked.roster.entries.set 7 RosterEntry.absent }) host
        = ([.roll], some 1000000)
    ∧ (after .roll ((holding locked (rollOf 1 5 2 .incomplete d)).setLine
        { (holding locked (rollOf 1 5 2 .incomplete d)).line with tx := [rollFrame] })).line.tx.length = 1 := by decide +kernel

/-- A station whose re-announcements have run down, with or without a timer, and where they stand after a ROLL of member 1. -/
def announcing (s : State) (due : Option Micros) : State := s.setRoster { s.roster with announce := due, announced := 14 }
def absent (s : State) (l : List StationNo) : State :=
  s.setRoster { s.roster with entries := l.foldl (fun (e : Vector RosterEntry 8) (n : StationNo) => e.set n RosterEntry.absent) s.roster.entries }
theorem test_witness_ScheduledRollsGoOut_runs :
    let f := rollOf 1 5 2 .locked record.digest
    let run (s : State) := ((after .roll (holding s f)).roster.announced, (after .roll (holding s f)).roster.announce)
    let last (s : State) := (s.setLine (sending (lockFrame 3) .tracking (some [])).line)
    let left (s : State) := ((after (.attemptComplete 0xEE) (last s)).roster.announced, (after (.attemptComplete 0xEE) (last s)).roster.announce)
    ((holding unlocked f).isFront f [] ∧ readRoll f.payload = some (.guard .guard (reportOf 1 5 2 .locked record.digest))
      ∧ unlocked.roleOf 1 = .guard ∧ (1 : StationNo) ≠ unlocked.sn ∧ ¬ unlocked.raises 5 2
      ∧ incomplete.digestConflict = false ∧ record.digest = incomplete.digest)
    ∧ run (announcing (absent unlocked [1, 2]) (some 1900000)) = (0, some 1900000)
    ∧ run (announcing (absent unlocked [1, 2]) none) = (0, some 3000000)
    ∧ run (announcing (absent unlocked [1]) (some 1900000)) = (0, none)
    ∧ run (announcing (absent unlocked [2]) (some 1900000)) = (14, some 1900000)
    ∧ run (announcing (absent incomplete [1]) (some 1900000)) = (0, some 1900000)
    ∧ (last unlocked).isOnLine (lockFrame 3) [] ∧ (last unlocked).missing (lockFrame 3) 0xEE = [1, 2]
    ∧ left (announcing unlocked none) = (0, some 3000000)
    ∧ left (announcing incomplete (some 1900000)) = (0, some 1900000)
    ∧ left locked = (0, some 3000000)
    ∧ left (announcing (station .purgeWait .none) (some 1900000)) = (14, some 1900000) := by decide +kernel

theorem test_contents :
    contentAt 2 [⟨.active, 2, false, none⟩, ⟨.empty, 1, false, none⟩] = .active
    ∧ contentAt 2 [⟨.empty, 2, false, none⟩, ⟨.active, 1, false, none⟩] = .emptied
    ∧ contentAt 2 [⟨.empty, 2, false, none⟩, ⟨.active, 2, false, none⟩] = .disagreed := by decide

/-- The locked station, member 1 showing one summary of a slot and members 2 and 3 another. -/
def shown (s : State) (i : SlotNo) (a b : Summary) : State :=
  let entry (m : Summary) : RosterEntry := ⟨.present, some (.guard { report with slots := report.slots.set i m })⟩
  s.setRoster { s.roster with entries := ((s.roster.entries.set 1 (entry a)).set 2 (entry b)).set 3 (entry b) }
def emptyAt (g : Nat) : Summary := ⟨.empty, g, false, none⟩
def activeAt (g : Nat) (uses : Option Nat) : Summary := ⟨.active, g, false, uses⟩
/-- Slot 2's staged part carries a token that slot 1 holds. -/
def twin : State := unlocked.setSlotTable { unlocked.slotTable with slots := slots.set 2 ⟨1, .active (credential 3), some ⟨2, credential 2⟩⟩ }
/-- Slot 1 has ten uses left. -/
def counted : State :=
  locked.setSlotTable { locked.slotTable with slots := slots.set 1 ⟨1, .active { credential 2 with uses := some 10 }, none⟩ }
theorem test_witness_ContentAtTheLargestGeneration :
    let c (s : State) (i : SlotNo) := (largestGen (s.slotSummaries i), contentAt (largestGen (s.slotSummaries i)) (s.slotSummaries i))
    locked.isMember locked.sn = true
    ∧ (c locked 3 = (0, .emptied) ∧ (locked.slotAt 3).gen = 0)
    ∧ (c (shown locked 1 (emptyAt 1) (emptyAt 1)) 1 = (1, .disagreed) ∧ (locked.slotAt 1).gen = 1)
    ∧ (c (shown locked 1 (emptyAt 2) (emptyAt 0)) 1 = (2, .emptied))
    ∧ (c (shown locked 1 (emptyAt 2) (activeAt 2 none)) 1 = (2, .disagreed))
    ∧ (c (shown locked 1 (activeAt 2 none) (emptyAt 0)) 1 = (2, .active) ∧ (locked.slotAt 1).staged = none)
    ∧ (c (shown locked 2 (activeAt 2 none) (emptyAt 0)) 2 = (2, .active) ∧ (locked.slotAt 2).staged = some ⟨2, credential 4⟩
      ∧ locked.duplicate 2 (credential 4).verifier = false ∧ (twin.slotAt 2).staged = some ⟨2, credential 2⟩
      ∧ twin.duplicate 2 (credential 2).verifier = true) := by decide +kernel
theorem test_reconciliation :
    let t (s : State) (i : SlotNo) (a b : Summary) := (shown s i a b).reconcileSlot i
    (t locked 1 (emptyAt 1) (emptyAt 1)).slotAt 1 = ⟨1, .diverged, none⟩
    ∧ (t locked 1 (emptyAt 1) (emptyAt 1)).slotTable.slotDiverged = true
    ∧ (t locked 1 (emptyAt 2) (emptyAt 0)).slotAt 1 = ⟨2, .empty, none⟩
    ∧ (t locked 1 (emptyAt 2) (emptyAt 0)).slotTable.slotDiverged = false
    ∧ (t locked 1 (activeAt 2 none) (emptyAt 0)).slotAt 1 = ⟨2, .diverged, none⟩
    ∧ (t locked 2 (activeAt 2 none) (activeAt 2 none)).slotAt 2 = ⟨2, .active (credential 4), none⟩
    ∧ (t twin 2 (activeAt 2 none) (activeAt 2 none)).slotAt 2 = ⟨2, .diverged, none⟩
    ∧ (t counted 1 (activeAt 1 (some 4)) (activeAt 1 (some 7))).slotAt 1
        = ⟨1, .active { credential 2 with uses := some 4 }, none⟩ := by decide +kernel

/-! ### Witnesses: verification -/

/-- An ENTRY payload: sequence 1, the epoch, no read-only flag, the token. -/
def entryPayload (epoch : Nat) (t : Token) : List Byte := 1 :: bytes2 epoch ++ [0] ++ tokenBytes t
/-- The locked station with a pair or a hold. -/
def counting (serial count : Nat) : State := locked.setVerifier { locked.verifier with held := ⟨1, serial, count⟩ }
def heldUp : State := locked.setVerifier { locked.verifier with hold := some 1000001 }
theorem test_witness_EntriesAreCheckedInOrder :
    let e := readEntry (entryPayload 1 2)
    let f := frame .entry 0 (entryPayload 1 2)
    let same := frame .entry 0 (9 :: bytes2 1 ++ [0] ++ tokenBytes 2)
    (locked.entryRefusal 1 e = some .refused ∧ locked.roleOf 1 = .guard)
    ∧ (verifying.roleOf 0 = .keypadGuard ∧ verifying.entryRefusal 0 e = some .busy)
    ∧ (unlocked.roleOf 7 = .controller ∧ unlocked.hostEntry = true ∧ unlocked.entryRefusal 7 e = some .refused)
    ∧ (locked.entryRefusal 0 (readEntry (entryPayload 0 2)) = some .refused)
    ∧ (heldUp.holdActive = true ∧ heldUp.entryRefusal 0 e = some .hold)
    ∧ ((counting 4294967295 0).entryRefusal 0 e = some .refused ∧ (counting 4294967294 0).entryRefusal 0 e = none)
    ∧ ((counting 0 10).entryRefusal 0 e = some .refused ∧ (counting 0 9).entryRefusal 0 e = none)
    ∧ ((holding locked f).isFront f [] ∧ f.own = none ∧ locked.phase ≠ .halted ∧ locked.repeatsEntry f.sender e = false)
    ∧ ((holding unlocked f).isFront f [] ∧ unlocked.entryRefusal f.sender e = some .refused)
    ∧ ((holding verifying same).isFront same [] ∧ verifying.repeatsEntry same.sender (readEntry same.payload) = true) := by
  decide +kernel
/-- The keypad station's own ENTRY, returned with an outcome. -/
def returned (o : SendOutcome) (epoch : Nat) (t : Token) : RxFrame := ⟨.entry, 0, false, entryPayload epoch t, some o⟩
/-- The station with a pending entry. -/
def pendingEntry (s : State) : State := s.setScanner { s.scanner with seq := .pending token false 1020000 }
theorem test_witness_EntriesAreCheckedInOrder_own :
    let f := returned .delivered 0 2
    let again : RxFrame := ⟨.entry, 0, false, 9 :: bytes2 1 ++ [0] ++ tokenBytes 2, some .partially⟩
    ((holding locked (returned .dropped 1 2)).isFront (returned .dropped 1 2) [] ∧ locked.phase ≠ .halted)
    ∧ ((holding locked f).isFront f [] ∧ locked.repeatsEntry f.sender (readEntry f.payload) = false
      ∧ locked.entryRefusal f.sender (readEntry f.payload) = some .refused)
    ∧ ((holding verifying f).isFront f [] ∧ verifying.entryRefusal f.sender (readEntry f.payload) = some .busy)
    ∧ ((holding heldUp (returned .delivered 1 2)).isFront (returned .delivered 1 2) []
      ∧ heldUp.entryRefusal 0 (readEntry (returned .delivered 1 2).payload) = some .hold)
    ∧ ((holding verifying again).isFront again [] ∧ verifying.repeatsEntry again.sender (readEntry again.payload) = true)
    ∧ (locked.scanner.seq = .entry ∧ (pendingEntry unlocked).phase ≠ .locked
      ∧ (pendingEntry (sending ⟨.entry, false, 0, [], false, 0⟩ .idle none)).ownOutstanding .entry = true
      ∧ (pendingEntry locked).phase = .locked ∧ (pendingEntry locked).ownOutstanding .entry = false
      ∧ (pendingEntry locked).holdActive = false ∧ (pendingEntry heldUp).holdActive = true) := by decide +kernel
theorem test_own_entries :
    (after .entry (holding locked (returned .dropped 1 2))).scanner.transient = some (.amber, 3000000)
    ∧ (after .entry (holding locked (returned .delivered 0 2))).scanner.transient = some (.amber, 3000000)
    ∧ (after .entry (holding heldUp (returned .delivered 1 2))).scanner.transient = none
    ∧ (after .entry (holding locked (returned .delivered 1 2))).phase = .verifying
    ∧ (pendingEntry locked).testPending.line.tx.map (·.kind) = [.entry]
    ∧ (pendingEntry heldUp).testPending.line.tx = [] ∧ (pendingEntry heldUp).testPending.scanner.seq = .entry := by decide +kernel

/-- TAMPERED is latched. -/
def tampered (s : State) : State := s.setSupervisor { s.supervisor with tampered := true }
theorem test_witness_AcceptedEntryBeginsVerifying :
    let f := frame .entry 0 (entryPayload 1 2)
    let own := returned .delivered 1 2
    let unknown := frame .entry 0 (entryPayload 1 9)
    let e := readEntry f.payload
    let busy := locked.setStore { locked.store with inFlight := some ⟨.supervisor, .tamper true, 1⟩ }
    let pending := busy.setStore { busy.store with requests := busy.store.requests.put .verifier (some .attempt) }
    ((holding locked f).isFront f [] ∧ f.own ≠ some .dropped ∧ locked.verifier.attempt = none
        ∧ locked.entryRefusal f.sender e = none
        ∧ locked.checkToken e.token = some (1, theKey) ∧ locked.showsTamper = false)
    ∧ ((holding (tampered locked) f).isFront f [] ∧ (tampered locked).entryRefusal f.sender e = none
        ∧ (tampered locked).checkToken e.token = some (1, theKey) ∧ (1 : SlotNo) ≠ 0 ∧ (tampered locked).showsTamper = true)
    ∧ ((holding (tampered locked) own).isFront own [] ∧ own.own.isSome = true ∧ own.own ≠ some .dropped)
    ∧ ((holding locked unknown).isFront unknown [] ∧ locked.entryRefusal unknown.sender (readEntry unknown.payload) = none
        ∧ locked.checkToken (readEntry unknown.payload).token = none
        ∧ locked.store.requests.verifier = none ∧ locked.store.inFlight = none ∧ locked.store.deciding = false
        ∧ locked.roster.rollOwed = false)
    ∧ (busy.store.requests.verifier = none ∧ busy.store.inFlight.isSome = true)
    ∧ pending.store.requests.verifier.isSome = true := by decide +kernel
theorem test_a_token_opens_its_slot :
    locked.tokenOpens token 0 theKey ∧ locked.tokenOpens 2 1 theKey
    ∧ locked.checkToken token = some (0, theKey) ∧ locked.checkToken 4 = none :=
  ⟨⟨credential token, rfl, rfl, rfl⟩, ⟨credential 2, rfl, rfl, rfl⟩, by decide +kernel, by decide +kernel⟩
theorem test_a_wrap_under_another_token_does_not_open :
    let s := locked.setSlotTable { locked.slotTable with slots := slots.set 1 ⟨1, .active { credential 2 with wrapped := (credential 3).wrapped }, none⟩ }
    s.checkToken 2 = none ∧ s.checkToken 3 = some (2, theKey) := by decide +kernel
theorem test_no_slot_below_opens (k : ChannelKey) (j : SlotNo) (h : j < 1) : ¬ (tampered locked).tokenOpens 2 j k := by
  have hj : j = 0 := Fin.ext (Nat.lt_one_iff.mp h)
  subst hj
  rintro ⟨c, hb, hv, _⟩
  have : c = credential token := by injection hb with h; exact h.symm
  subst this
  exact absurd hv (by decide +kernel)
theorem test_a_mismatch_counts :
    let unknown := frame .entry 0 (entryPayload 1 9)
    (after .entry (holding locked unknown)).verifier.held = ⟨1, 5, 3⟩
    ∧ (after .entry (holding locked unknown)).line.tx = [] ∧ (after .entry (holding locked unknown)).phase = .verifying
    ∧ (after .entry (holding (tampered locked) (returned .delivered 1 2))).scanner.transient = some (.amber, 3000000) := by
  decide +kernel

/-- The station with a write in flight. -/
def writes (s : State) (r : Requester) (c : Contents) : State := s.setStore { s.store with inFlight := some ⟨r, c, 1⟩ }
/-- VERIFYING an entry that matched no slot; its increment waits for its write. -/
def failing : State :=
  let s := station .verifying .pub
  s.setVerifier { s.verifier with attempt := some { attempt with own := .mismatched false 0 } }
theorem test_witness_StoredIncrementIsReported :
    ((writes locked .verifier (.attempt ⟨1, 5, 3⟩)).writing .verifier (.attempt ⟨1, 5, 3⟩) 1 ∧ locked.verifier.attempt = none)
    ∧ ((writes failing .verifier (.attempt ⟨1, 5, 3⟩)).writing .verifier (.attempt ⟨1, 5, 3⟩) 1
        ∧ failing.verifier.attempt = some { attempt with own := .mismatched false 0 } ∧ 0 < 1) := by decide +kernel
theorem test_the_arbiter_takes_the_highest :
    let s := locked.setStore
      { locked.store with
        deciding := true
        requests := (locked.store.requests.put .setup (some .setup)).put .verifier (some .attempt) }
    ([Requester.purge, .supervisor, .verifier, .slotTable, .gate, .roster, .setup]
        = [.purge, .supervisor] ++ .verifier :: [.slotTable, .gate, .roster, .setup])
    ∧ (∀ q ∈ [Requester.purge, .supervisor], s.store.requests.get q = none) ∧ s.store.requests.get .verifier = some .attempt
    ∧ s.arbitrate.store.inFlight.map (·.requester) = some .verifier
    ∧ s.arbitrate.store.requests.get .setup = some .setup
    ∧ (locked.store.requests = Requests.none ∧ locked.store.requests.get .gate = none ∧ locked.store.inFlight = none)
    ∧ ((writes locked .verifier (.attempt ⟨1, 5, 3⟩)).store.inFlight.isSome = true) := by decide +kernel
theorem test_increment_is_offered :
    ((after .attemptWriteComplete (writes failing .verifier (.attempt ⟨1, 5, 3⟩))).line.tx.map (·.kind)) = [.verdict] := by
  decide +kernel

/-- The VERDICT of station 3 or 1 for the attempt: a match on slot 1. -/
def verdictFrame (n : StationNo) : RxFrame := frame .verdict n ([0, 9, 0, 1, 2] ++ bytes4 5)
theorem test_witness_VerdictIsFiledOnce :
    let v : VerdictFields := ⟨0, 9, matchOn1⟩
    let early := verifying.setVerifier
      { verifying.verifier with attempt := some { attempt with filed := Vector.replicate 8 none } }
    (readVerdict (verdictFrame 3).payload = some v ∧ attempt.waiting = none ∧ attempt.origin = v.origin ∧ attempt.seq = v.seq)
    ∧ ((holding early (verdictFrame 3)).isFront (verdictFrame 3) [] ∧ early.isMember 3 = true ∧ early.isMember 1 = true)
    ∧ ((holding verifying (verdictFrame 1)).isFront (verdictFrame 1) [] ∧ verifying.isMember 1 = true
        ∧ attempt.filed[(1 : StationNo)] = some matchOn1) := by decide +kernel
/-- A VERDICT of station 1 for another entry, with a result, a slot and a pair. -/
def otherVerdict (result slot : Byte) (serial count : Nat) : RxFrame :=
  frame .verdict 1 ([0, 8, result, slot, byte count] ++ bytes4 serial)
theorem test_witness_VerdictIsFiledOnce_merge :
    let f := otherVerdict 1 0 5 3
    ((holding locked f).isFront f [] ∧ readVerdict f.payload = some ⟨0, 8, ⟨.mismatch, 0, 3, 5⟩⟩ ∧ f.sender ≠ locked.sn
      ∧ locked.isMember f.sender = true ∧ locked.roster.entries[f.sender].last = some (.guard report) ∧ report.epoch = locked.epoch
      ∧ locked.raises 5 3 ∧ 3 < locked.failureLimit ∧ ¬ locked.raises 5 2)
    ∧ ((holding verifying f).isFront f [] ∧ attempt.seq ≠ 8)
    ∧ (readVerdict (otherVerdict 1 0 5 10).payload = some ⟨0, 8, ⟨.mismatch, 0, 10, 5⟩⟩ ∧ locked.raises 5 10
      ∧ locked.failureLimit ≤ 10 ∧ locked.purge.journal.isOpen = false ∧ locked.epoch ≠ 65535)
    ∧ ((holding locked (otherVerdict 2 6 5 3)).isFront (otherVerdict 2 6 5 3) []
      ∧ readVerdict (otherVerdict 2 6 5 3).payload = none)
    ∧ locked.isMember 5 = false := by decide +kernel
theorem test_verdicts_merge :
    (after .verdict (holding locked (otherVerdict 1 0 5 3))).verifier = ⟨⟨1, 5, 3⟩, none, some 6000000⟩
    ∧ (after .verdict (holding verifying (otherVerdict 1 0 5 3))).verifier.held = ⟨1, 5, 3⟩
    ∧ (after .verdict (holding locked (otherVerdict 1 0 5 10))).purge.journal.cause = some .limit
    ∧ (after .verdict (holding locked (otherVerdict 2 6 5 3))).verifier = locked.verifier := by decide +kernel

/-- An own VERDICT that comes back with the pair of an epoch that a purge has closed since (log entry 74). -/
theorem test_an_own_verdict_is_not_merged :
    let f : RxFrame := { otherVerdict 1 0 9 3 with sender := 0, own := some .delivered }
    (holding locked f).isFront f [] ∧ readVerdict f.payload = some ⟨0, 8, ⟨.mismatch, 0, 3, 9⟩⟩ ∧ f.sender = locked.sn
    ∧ locked.isMember f.sender = true ∧ locked.raises 9 3
    ∧ (after .verdict (holding locked f)).verifier = locked.verifier := by decide +kernel

theorem test_witness_OutcomeAndHoldFollowTheirTables :
    outcomeOf true [matchOn1, ⟨.mismatch, 0, 3, 5⟩] = .failure
    ∧ outcomeOf true [matchOn1, ⟨.matched, 2, 2, 5⟩] = .failure
    ∧ outcomeOf true [matchOn1, matchOn1] = .unlock ∧ outcomeOf true [matchOn1, ⟨.hold, 0, 3, 5⟩] = .void
    ∧ (heldUp.awake = true ∧ heldUp.verifier.hold = some 1000001)
    ∧ verifying.bestFiled (attempt.filed.set 1 (some ⟨.mismatch, 0, 0, 6⟩)) verifying.mergers = (6, 0)
    ∧ verifying.mergers = [0, 1, 2, 3] := by decide +kernel

theorem test_witness_FullSetOfMatchesUnlocks :
    let f := verdictFrame 3
    let s := holding verifying f
    let filed := attempt.filed.set f.sender (some matchOn1)
    (s.isFront f [] ∧ f.kind = .verdict ∧ readVerdict f.payload = some ⟨0, 9, matchOn1⟩ ∧ s.isMember f.sender = true
      ∧ s.verifier.attempt = some attempt ∧ attempt.waiting = none ∧ attempt.filed[f.sender] = none
      ∧ attempt.own = .matched 1 theKey ∧ (s.slotAt 1).body = .active (credential 2) ∧ (credential 2).uses = none
      ∧ s.keyPort.state = .clear ∧ s.verifier.held.serial < 4294967295)
    ∧ (∀ n : StationNo, s.isMember n = true → ∃ w, filed[n] = some w ∧ w.result = .matched ∧ w.slot = (1 : SlotNo).val)
    ∧ (∀ (n : StationNo) w, s.isMember n = true → filed[n] = some w → w.serial < 4294967295) := by
  have all : ∀ n : StationNo, (attempt.filed.set (verdictFrame 3).sender (some matchOn1))[n] = some matchOn1 := by decide +kernel
  exact ⟨by decide +kernel, fun n _ => ⟨matchOn1, all n, rfl, rfl⟩,
    fun n w _ h => by rw [all n] at h; cases h; decide⟩
theorem test_the_unlocked_key_waits_behind_zeros :
    let zeros : KeyPort := ⟨.shiftingZero, 0, some 1000300, false, none, 256⟩
    let top := (verifying.setVerifier { verifying.verifier with held := { verifying.verifier.held with serial := 4294967295 } }).setKeyPort zeros
    let t := after .verdict (holding top (verdictFrame 3))
    (after .verdict (holding (verifying.setKeyPort zeros) (verdictFrame 3))).phase = .unlocked
    ∧ (after .verdict (holding (verifying.setKeyPort zeros) (verdictFrame 3))).keyPort = { zeros with waiting := true }
    ∧ (t.phase = .unlocked ∧ t.draws = top.draws + 1 ∧ t.verifier.held.count = 0) := by decide +kernel
/-- VERIFYING on slot 1, which has some uses left. -/
def counting1 (u : Nat) : State :=
  verifying.setSlotTable
    { verifying.slotTable with slots := slots.set 1 ⟨1, .active { credential 2 with uses := some u }, none⟩ }
/-- The unlock waits for the write of slot 1. -/
def handingOver : State :=
  let a : Attempt := { attempt with filed := Vector.replicate 8 (some matchOn1), window := none, waiting := some ⟨1, false, 0⟩ }
  verifying.setVerifier { verifying.verifier with attempt := some a }
theorem test_uses_are_spent :
    let t (u : Nat) := after .verdict (holding (counting1 u) (verdictFrame 3))
    ((t 2).slotAt 1 = ⟨1, .active { credential 2 with uses := some 1 }, none⟩ ∧ (t 2).phase = .verifying)
    ∧ (t 1).slotAt 1 = ⟨2, .empty, none⟩ ∧ (t 1).verifier.held = ⟨1, 6, 0⟩ := by decide +kernel
/-- VERIFYING on slot 0 with TAMPERED latched; the merged pair equal to the held one, or raised by a filed verdict. -/
def adminVerifying (serial : Nat) : State :=
  let m : Filed := ⟨.matched, 0, 2, 5⟩
  let a : Attempt :=
    { attempt with own := .matched 0 theKey, filed := ((Vector.replicate 8 (some m)).set 1 (some { m with serial := serial })).set 3 none }
  (tampered verifying).setVerifier { verifying.verifier with attempt := some a }
theorem test_an_unlock_requests_its_writes :
    let f := frame .verdict 3 ([0, 9, 0, 0, 2] ++ bytes4 5)
    let t (s : State) := (after .verdict (holding s f)).store
    let busy (s : State) := s.setStore { s.store with inFlight := some ⟨.gate, .range 1 .disabled, 1⟩, grants := 1 }
    let left (s : State) := ((t s).requests.verifier, (t s).requests.supervisor)
    (after .verdict (holding (adminVerifying 5) f)).phase = .unlocked
    ∧ ((t (adminVerifying 5)).inFlight = some ⟨.verifier, .attempt ⟨1, 6, 0⟩, 1⟩ ∧ left (adminVerifying 5) = (none, some .tamper))
    ∧ ((t (adminVerifying 6)).inFlight = some ⟨.verifier, .attempt ⟨1, 6, 2⟩, 1⟩
      ∧ left (adminVerifying 6) = (some .attempt, some .tamper))
    ∧ ((t (busy (adminVerifying 5))).inFlight = some ⟨.gate, .range 1 .disabled, 1⟩
      ∧ left (busy (adminVerifying 5)) = (some .attempt, some .tamper))
    ∧ (after .verdict (holding verifying (verdictFrame 3))).store.requests.supervisor = none := by decide +kernel
theorem test_the_stored_use_unlocks :
    let sl : Slot := ⟨1, .active { credential 2 with uses := some 1 }, none⟩
    let s := writes handingOver .slotTable (.slot 1 sl)
    (s.writing .slotTable (.slot 1 sl) 1 ∧ s.slotTable.waits = [] ∧ s.keyPort.state = .clear ∧ 0 < 1)
    ∧ (after .slotWriteComplete s).phase = .unlocked ∧ (after .slotWriteComplete s).gate.grant = .user 1 false := by
  decide +kernel

theorem test_witness_ExpiredWindowVoids :
    let few := verifying.setVerifier { verifying.verifier with held := ⟨1, 5, 10⟩ }
    (verifying.awake = true ∧ verifying.phase = .verifying ∧ verifying.verifier.attempt = some attempt
      ∧ attempt.window = some 1250000 ∧ verifying.fullSet attempt = false ∧ verifying.purge.journal.isOpen = false)
    ∧ (few.verifier.attempt = some attempt ∧ few.fullSet attempt = false ∧ few.failureLimit ≤ 10 ∧ few.epoch ≠ 65535)
    ∧ (after .verdictWindowExpire verifying).phase = .locked
    ∧ (after .verdictWindowExpire few).phase = .purging := by decide +kernel
/-- A VERDICT of station 3 for the attempt that completes no match: REFUSED, or MISMATCH with a count. -/
def completingVerdict (result : Byte) (count : Nat) : RxFrame := frame .verdict 3 ([0, 9, result, 0, byte count] ++ bytes4 5)
theorem test_witness_ExpiredWindowVoids_full_set :
    let f := completingVerdict 1 3
    let filed := attempt.filed.set f.sender (some ⟨.mismatch, 0, 3, 5⟩)
    (holding verifying f).isFront f [] ∧ readVerdict f.payload = some ⟨0, 9, ⟨.mismatch, 0, 3, 5⟩⟩
    ∧ attempt.filed[f.sender] = none ∧ (∀ n : StationNo, filed[n].isSome = true)
    ∧ verifying.bestFiled filed verifying.mergers = (5, 3)
    ∧ (after .verdict (holding verifying f)).verifier = ⟨⟨1, 5, 3⟩, none, some 6000000⟩
    ∧ (after .verdict (holding verifying f)).phase = .locked
    ∧ (after .verdict (holding verifying (completingVerdict 4 10))).phase = .purging := by decide +kernel

/-! ### Witnesses: slots and enrollment -/

def stagePayload (slot gen : Nat) (t : Token) : List Byte := byte slot :: bytes2 gen ++ [0, 0] ++ tokenBytes t
def adoptPayload (slot gen flag : Nat) : List Byte := byte slot :: bytes2 gen ++ [byte flag]
def retirePayload (slot gen : Nat) : List Byte := byte slot :: bytes2 gen
def stage3 : RxFrame := frame .stage 7 (stagePayload 3 1 8)
def adopt2 : RxFrame := frame .adopt 7 (adoptPayload 2 2 0)
def abandon2 : RxFrame := frame .adopt 7 (adoptPayload 2 2 128)
def retire1 : RxFrame := frame .retire 7 (retirePayload 1 2)
theorem test_witness_AdminRequestsNeedTheirRights :
    let alone := locked.setRoster { locked.roster with entries := Vector.replicate 8 RosterEntry.absent }
    ((holding locked stage3).isAsked stage3 [] .stage ∧ locked.phaseCtl.grant.isAdmin = false ∧ locked.phase ≠ .blank)
    ∧ ((holding alone stage3).isAsked stage3 [] .stage ∧ alone.phaseCtl.grant.isAdmin = false ∧ alone.memberMissing = true) := by
  decide +kernel
theorem test_witness_AdminRequestsNeedTheirRights_adopt_retire :
    ((holding locked adopt2).isAsked adopt2 [] .adopt ∧ abandonFlag adopt2.payload = false)
    ∧ ((holding locked abandon2).isAsked abandon2 [] .adopt ∧ abandonFlag abandon2.payload = true)
    ∧ (holding locked retire1).isAsked retire1 [] .retire
    ∧ ((holding (tampered unlocked) retire1).isAsked retire1 [] .retire ∧ (tampered unlocked).supervisor.tampered = true) := by
  decide +kernel

theorem test_an_equal_verifier_is_one_of_another_slot :
    unlocked.duplicate 3 (credential 2).verifier = true ∧ unlocked.duplicate 3 (credential 4).verifier = true
    ∧ unlocked.duplicate 1 (credential 2).verifier = false ∧ unlocked.duplicate 2 (credential 4).verifier = false
    ∧ unlocked.duplicate 3 (credential 9).verifier = false := by decide +kernel
theorem test_witness_StageIsCheckedAndHeld :
    let far := frame .stage 7 (stagePayload 6 1 8)
    let twice := frame .stage 7 (stagePayload 3 1 2)
    let uses (u : Nat) : StageFields := ⟨3, 1, false, some u, 8⟩
    (unlocked.stageRefusal 0 ⟨0, 2, true, none, 8⟩ = some .invalid ∧ unlocked.stageRefusal 3 (uses 0) = some .invalid
      ∧ unlocked.stageRefusal 3 (uses 100) = some .invalid ∧ unlocked.stageRefusal 3 (uses 1) = none
      ∧ unlocked.stageRefusal 3 (uses 99) = none ∧ unlocked.stageRefusal 5 ⟨5, 65536, false, none, 8⟩ = some .invalid
      ∧ unlocked.stageRefusal 2 ⟨2, 2, false, none, 8⟩ = some .busy
      ∧ unlocked.stageRefusal 3 ⟨3, 1, false, none, 2⟩ = some .duplicate)
    ∧ ((holding unlocked far).isAsked far [] .stage ∧ unlocked.mayAdminister 7 ∧ unlocked.phaseCtl.grant.isAdmin = true
      ∧ 5 < (readStage far.payload).slot)
    ∧ ((holding unlocked twice).isAsked twice [] .stage ∧ unlocked.stageRefusal 3 (readStage twice.payload) = some .duplicate)
    ∧ ((holding unlocked stage3).isAsked stage3 [] .stage ∧ (readStage stage3.payload).slot = (3 : SlotNo).val
      ∧ unlocked.stageRefusal 3 (readStage stage3.payload) = none ∧ unlocked.phase ≠ .blank
      ∧ unlocked.slotTable.unlockedKey = some theKey) := by decide +kernel

theorem test_witness_AdoptAndRetireChangeTheSlot :
    let gone := frame .adopt 7 (adoptPayload 2 3 0)
    ((holding unlocked adopt2).isAsked adopt2 [] .adopt ∧ abandonFlag adopt2.payload = false
      ∧ u8 adopt2.payload 0 = (2 : SlotNo).val ∧ unlocked.mayAdminister 7 ∧ unlocked.phaseCtl.grant.isAdmin = true
      ∧ (unlocked.slotAt 2).staged = some ⟨2, credential 4⟩ ∧ unlocked.duplicate 2 (credential 4).verifier = false)
    ∧ ((holding unlocked gone).isAsked gone [] .adopt ∧ u16 gone.payload 1 = 3)
    ∧ ((holding twin adopt2).isAsked adopt2 [] .adopt ∧ (twin.slotAt 2).staged = some ⟨2, credential 2⟩
      ∧ twin.duplicate 2 (credential 2).verifier = true) := by decide +kernel
theorem test_no_such_staged_part : ∀ c, (unlocked.slotAt 2).staged ≠ some ⟨3, c⟩ := fun c h =>
  absurd (congrArg (Option.map Staged.gen) h)
    (show (unlocked.slotAt 2).staged.map Staged.gen ≠ some 3 by decide +kernel)
theorem test_slot_requests_are_met :
    let t := after .adopt (holding unlocked adopt2)
    let u := after .adopt (holding twin adopt2)
    (t.slotAt 2 = ⟨2, .active (credential 4), none⟩ ∧ t.store.inFlight.map (·.requester) = some .slotTable)
    ∧ ((u.slotAt 2).staged = none ∧ u.line.tx.map (·.payload) = [[11, 4, 2, 0, 2]])
    ∧ (after .retire (holding unlocked retire1)).slotAt 1 = ⟨2, .empty, none⟩ := by decide +kernel
theorem test_witness_AdoptAndRetireChangeTheSlot_retire :
    let bad := frame .retire 7 (retirePayload 5 0)
    ((holding unlocked retire1).isAsked retire1 [] .retire ∧ u8 retire1.payload 0 = (1 : SlotNo).val
      ∧ (unlocked.slotAt 1).gen ≠ 65535 ∧ u16 retire1.payload 1 = (unlocked.slotAt 1).gen + 1
      ∧ unlocked.supervisor.tampered = false)
    ∧ ((holding unlocked bad).isAsked bad [] .retire ∧ u8 bad.payload 0 = (5 : SlotNo).val ∧ (unlocked.slotAt 5).gen = 65535) := by
  decide +kernel

theorem test_witness_AbandonDiscardsTheStagedPart :
    let f := frame .adopt 7 (adoptPayload 2 2 128)
    let s := holding unlocked f
    (s.isAsked f [] .adopt ∧ abandonFlag f.payload = true ∧ u8 f.payload 0 = (2 : SlotNo).val ∧ s.mayAdminister f.sender
      ∧ s.phaseCtl.grant.isAdmin = true ∧ (s.slotAt 2).staged = some ⟨u16 f.payload 1, credential 4⟩
      ∧ s.store.requests.slotTable = none ∧ s.slotTable.writes.changed = [] ∧ s.store.inFlight = none
      ∧ s.store.deciding = false ∧ s.roster.rollOwed = false)
    ∧ (after .adoptAbandon s).slotAt 2 = { s.slotAt 2 with staged := none } := by decide +kernel

/-- A RETIRE of slot 1 stored; the first adoption of slot 0 stored in BLANK. -/
def storing (s : State) (i : SlotNo) (sl : Slot) (w : SlotWait) : State :=
  writes (s.setSlotTable { s.slotTable with waits := [w], unlockedKey := some theKey }) .slotTable (.slot i sl)
theorem test_witness_StoredSlotsAreAnswered :
    let w : SlotWait := ⟨1, 2, .retire, false, 7, 0, none⟩
    let sl : Slot := ⟨2, .empty, none⟩
    let s := storing unlocked 1 sl w
    let gone : SlotWait := ⟨2, 2, .stage, false, 7, 0, some 0⟩
    let s2 := storing unlocked 2 ⟨1, .active (credential 3), none⟩ gone
    let w0 : SlotWait := ⟨0, 1, .adopt, true, 0, 0, none⟩
    let sl0 : Slot := ⟨1, .active (credential token), none⟩
    let s0 := storing (station .blank .none) 0 sl0 w0
    (s.writing .slotTable (.slot 1 sl) 1 ∧ s.slotTable.waits = [w] ∧ w.slot = 1 ∧ w.changedAt < 1 ∧ w.discardedAt = none
      ∧ w.first = false ∧ w.replyTo ≠ s.sn ∧ s.verifier.attempt = none ∧ s.roster.rollOwed = false
      ∧ (after .slotWriteComplete s).line.tx.map (·.kind) = [.answer])
    ∧ (s2.writing .slotTable (.slot 2 ⟨1, .active (credential 3), none⟩) 1 ∧ ¬ 1 ≤ 0
      ∧ (after .slotWriteComplete s2).line.tx = [] ∧ (after .slotWriteComplete s2).slotTable.waits = [])
    ∧ (s0.writing .slotTable (.slot 0 sl0) 1 ∧ s0.slotTable.waits = [w0] ∧ w0.discardedAt = none ∧ w0.first = true
      ∧ sl0.gen = w0.gen ∧ s0.verifier.attempt = none ∧ s0.phase = .blank ∧ s0.slotTable.unlockedKey = some theKey
      ∧ s0.keyPort.state = .clear ∧ (storing locked 0 sl0 w0).phase ≠ .blank)
    ∧ (after .slotWriteComplete s0).phase = .unlocked ∧ (after .slotWriteComplete (storing locked 0 sl0 w0)).phase = .locked := by
  decide +kernel
/-- The first adoption of slot 0 in flight, its key port in the zeros of an earlier unlock. -/
def adopting (p : Phase) (key : Option ChannelKey) : State :=
  let s := storing (station p .none) 0 ⟨1, .active (credential token), none⟩ ⟨0, 1, .adopt, true, 7, 0, none⟩
  (s.setSlotTable { s.slotTable with unlockedKey := key, blankKey := some 3 }).setKeyPort
    ⟨.shiftingZero, 0, some 1000300, false, none, 256⟩
theorem test_the_first_adoption_is_answered_and_its_key_waits :
    let t := after .slotWriteComplete (adopting .blank (some 3))
    (adopting .blank (some 3)).writing .slotTable (.slot 0 ⟨1, .active (credential token), none⟩) 1
    ∧ t.keyPort = ⟨.shiftingZero, 0, some 1000300, true, none, 256⟩ ∧ t.phase = .unlocked
    ∧ t.line.tx.map (·.payload) = [[11, 0, 0, 0, 1]] := by decide +kernel
theorem test_an_adoption_after_blank_keeps_the_phase :
    let t := after .slotWriteComplete (adopting .assembling none)
    (adopting .assembling none).slotTable.unlockedKey = none ∧ t.phase = .assembling ∧ t.slotTable.blankKey = none
    ∧ t.line.tx.map (·.payload) = [[11, 0, 0, 0, 1]]
    ∧ (adopting .blank (some 3)).leavePhase.slotTable.unlockedKey = none := by decide +kernel

/-- The enrollment of slot 3 at generation 1, with the answers filed so far. -/
def enrolling (places : Vector (Option Byte) 8) : State :=
  unlocked.setSlotTable { unlocked.slotTable with enrollment := some ⟨3, 1, false, some 3000000, places⟩ }
theorem test_witness_EnrollmentEndsWithAdopt :
    let f (r : Byte) : RxFrame := ⟨.answer, 1, true, [10, r, 3, 0, 1], none⟩
    let most : Vector (Option Byte) 8 := (Vector.replicate 8 (some 0)).set 1 none
    let s (places : Vector (Option Byte) 8) (r : Byte) := holding (enrolling places) (f r)
    ((s most 1).isFront (f 1) [] ∧ u8 (f 1).payload 0 % 32 = 10 ∧ (s most 1).isMember 1 = true ∧ u8 (f 1).payload 2 = 3
      ∧ u16 (f 1).payload 3 = 1 ∧ most[(1 : StationNo)] = none ∧ byteAt (f 1).payload 1 ≠ 0)
    ∧ ((s most 0).isFront (f 0) [] ∧ byteAt (f 0).payload 1 = 0
      ∧ ∀ n : StationNo, (s most 0).isMember n = true → n ≠ 1 → most[n] = some 0)
    ∧ ((s (Vector.replicate 8 none) 0).isFront (f 0) []
      ∧ ∃ n : StationNo, (s (Vector.replicate 8 none) 0).isMember n = true ∧ n ≠ 1 ∧ (Vector.replicate 8 (none : Option Byte))[n] ≠ some 0)
    ∧ (enrolling most).awake = true := by decide +kernel
/-- An own frame returned with an outcome. -/
def back (k : Kind) (p : List Byte) (o : SendOutcome) : RxFrame := ⟨k, 0, k.directed, p, some o⟩
theorem test_witness_EnrollmentEndsWithAdopt_own_stage :
    let open_ := enrolling (Vector.replicate 8 none)
    let f (o : SendOutcome) := back .stage (stagePayload 3 1 8) o
    let twice := back .stage (stagePayload 3 1 2) .delivered
    let sl : Slot := ⟨0, .empty, some ⟨1, credential 8⟩⟩
    let w : SlotWait := ⟨3, 1, .stage, false, 0, 0, none⟩
    let s (places : Vector (Option Byte) 8) := writes ((enrolling places).setSlotTable
      { (enrolling places).slotTable with waits := [w], slots := slots.set 3 sl }) .slotTable (.slot 3 sl)
    let most : Vector (Option Byte) 8 := (Vector.replicate 8 (some 0)).set 0 none
    ((holding open_ (f .delivered)).isFront (f .delivered) [] ∧ (f .delivered).sender = open_.sn
      ∧ u8 (f .delivered).payload 0 = 3 ∧ u16 (f .delivered).payload 1 = 1 ∧ open_.roleOf open_.sn = .keypadGuard
      ∧ open_.phaseCtl.grant.isAdmin = true ∧ open_.stageRefusal 3 (readStage (f .delivered).payload) = none
      ∧ open_.slotTable.unlockedKey = some theKey ∧ open_.phase ≠ .blank ∧ open_.roster.rollOwed = false)
    ∧ ((holding open_ twice).isFront twice [] ∧ open_.stageRefusal 3 (readStage twice.payload) = some .duplicate)
    ∧ (holding open_ (f .dropped)).isFront (f .dropped) []
    ∧ ((s most).writing .slotTable (.slot 3 sl) 1 ∧ (s most).slotTable.waits = [w] ∧ w.changedAt < 1
      ∧ (s most).isMember (s most).sn = true ∧ most[(0 : StationNo)] = none ∧ (s most).verifier.attempt = none
      ∧ ∀ n : StationNo, n ≠ (s most).sn → most[n] = some 0)
    ∧ ((s (Vector.replicate 8 none)).writing .slotTable (.slot 3 sl) 1 ∧ (s (Vector.replicate 8 none)).isMember 1 = true
      ∧ (after .slotWriteComplete (s (Vector.replicate 8 none))).slotTable.enrollment.map (·.places)
          = some ((Vector.replicate 8 none).set 0 (some 0)))
    ∧ ((after .slotWriteComplete (s most)).slotTable.enrollment = none
      ∧ (after .slotWriteComplete (s most)).line.tx.map (·.payload) = [adoptPayload 3 1 0]) := by decide +kernel
theorem test_own_stages :
    let open_ := enrolling (Vector.replicate 8 none)
    let t (p : List Byte) (o : SendOutcome) := after .stage (holding open_ (back .stage p o))
    (t (stagePayload 3 1 8) .delivered).slotTable.enrollment.bind (·.timer) = some 1500000
    ∧ ((t (stagePayload 3 1 8) .partially).slotAt 3).staged = some ⟨1, credential 8⟩
    ∧ ((t (stagePayload 3 1 8) .dropped).slotTable.enrollment = none
      ∧ (t (stagePayload 3 1 8) .dropped).line.tx.map (·.payload) = [adoptPayload 3 1 128])
    ∧ ((t (stagePayload 3 1 2) .delivered).slotTable.enrollment = none
      ∧ (t (stagePayload 3 1 2) .delivered).line.tx.map (·.payload) = [adoptPayload 3 1 128]) := by decide +kernel
theorem test_witness_EnrollmentEndsWithAdopt_own_adopt_retire :
    let adopt (o : SendOutcome) := back .adopt (adoptPayload 2 2 0) o
    let abandon := back .adopt (adoptPayload 2 2 128) .delivered
    let retire := back .retire (retirePayload 1 2) .delivered
    ((holding unlocked (adopt .dropped)).isFront (adopt .dropped) [] ∧ unlocked.phase = .unlocked
      ∧ abandonFlag (adopt .dropped).payload = false ∧ (adopt .dropped).sender = unlocked.sn)
    ∧ ((holding unlocked (adopt .delivered)).isFront (adopt .delivered) [] ∧ unlocked.roleOf unlocked.sn = .keypadGuard
      ∧ u8 (adopt .delivered).payload 0 = (2 : SlotNo).val ∧ u16 (adopt .delivered).payload 1 = 2
      ∧ (unlocked.slotAt 2).staged = some ⟨2, credential 4⟩ ∧ unlocked.duplicate 2 (credential 4).verifier = false
      ∧ unlocked.phaseCtl.grant.isAdmin = true ∧ unlocked.roster.rollOwed = false)
    ∧ ((holding unlocked abandon).isFront abandon [] ∧ abandonFlag abandon.payload = true)
    ∧ ((holding unlocked retire).isFront retire [] ∧ u8 retire.payload 0 = (1 : SlotNo).val ∧ unlocked.supervisor.tampered = false
      ∧ (unlocked.slotAt 1).gen ≠ 65535 ∧ u16 retire.payload 1 = (unlocked.slotAt 1).gen + 1)
    ∧ (unlocked.slotAt 5).gen = 65535
    ∧ ((after .adopt (holding unlocked (adopt .dropped))).slotAt 2 = unlocked.slotAt 2)
    ∧ ((after .adopt (holding unlocked (adopt .delivered))).slotAt 2 = ⟨2, .active (credential 4), none⟩)
    ∧ ((after .adoptAbandon (holding unlocked abandon)).slotAt 2 = ⟨1, .active (credential 3), none⟩)
    ∧ ((after .retire (holding unlocked retire)).slotAt 1 = ⟨2, .empty, none⟩
      ∧ (after .retire (holding unlocked retire)).line.tx = []) := by decide +kernel
theorem test_witness_EnrollmentEndsWithAdopt_own_refused :
    let open_ (slot : Nat) (s : State) := s.setSlotTable { s.slotTable with enrollment := some ⟨slot, 1, false, none, Vector.replicate 8 none⟩ }
    let stage (slot : Nat) := back .stage (stagePayload slot 1 8) .delivered
    let adopt (slot : Nat) := back .adopt (adoptPayload slot 2 0) .delivered
    let retire := back .retire (retirePayload 1 2) .delivered
    ((holding (open_ 3 locked) (stage 3)).isFront (stage 3) [] ∧ locked.phaseCtl.grant.isAdmin = false ∧ locked.phase ≠ .blank
      ∧ (after .stage (holding (open_ 3 locked) (stage 3))).slotTable.enrollment = none)
    ∧ ((holding (open_ 6 unlocked) (stage 6)).isFront (stage 6) []
      ∧ (after .stage (holding (open_ 6 unlocked) (stage 6))).line.tx.map (·.payload) = [adoptPayload 6 1 128])
    ∧ ((holding unlocked (adopt 6)).isFront (adopt 6) [] ∧ (holding locked (adopt 2)).isFront (adopt 2) []
      ∧ (holding (tampered unlocked) retire).isFront retire []
      ∧ ((after .retire (holding (tampered unlocked) retire)).slotAt 1 = unlocked.slotAt 1))
    ∧ ((holding twin (adopt 2)).isFront (adopt 2) [] ∧ (twin.slotAt 2).staged = some ⟨2, credential 2⟩
      ∧ twin.duplicate 2 (credential 2).verifier = true
      ∧ ((after .adopt (holding twin (adopt 2))).slotAt 2).staged = none ∧ (after .adopt (holding twin (adopt 2))).line.tx = []) := by
  decide +kernel

theorem test_witness_AdminRequestsNeedTheirRights_own_and_accepted :
    let stage := back .stage (stagePayload 3 1 8) .partially
    let adopt := back .adopt (adoptPayload 2 2 0) .delivered
    let abandon := back .adopt (adoptPayload 2 2 128) .delivered
    let retire := back .retire (retirePayload 1 2) .delivered
    let halted := station .halted .none
    let raw := holding State.reset stage3
    ((holding locked stage).isFront stage [] ∧ stage.sender = locked.sn ∧ stage.own ≠ some .dropped)
    ∧ ((holding locked adopt).isFront adopt [] ∧ (holding locked abandon).isFront abandon []
      ∧ (holding (tampered unlocked) retire).isFront retire [])
    ∧ (unlocked.mayAdminister 7 ∧ unlocked.mayAdminister 0 ∧ unlocked.phaseCtl.grant.isAdmin = true)
    ∧ ((holding (tampered unlocked) stage3).isAsked stage3 [] .stage
      ∧ ((after .stage (holding (tampered unlocked) stage3)).slotAt 3).staged.isSome = true)
    ∧ ((holding unlocked adopt2).isAsked adopt2 [] .adopt ∧ (holding unlocked abandon2).isAsked abandon2 [] .adopt
      ∧ (holding unlocked retire1).isAsked retire1 [] .retire ∧ unlocked.supervisor.tampered = false)
    ∧ (raw.awake = true ∧ raw.phase = .uncommissioned ∧ (after .stage raw).line.rx = [] ∧ (after .stage raw).line.tx = [])
    ∧ (halted.awake = true ∧ (after .adopt (holding halted adopt2)).line.tx = []
      ∧ (after .adoptAbandon (holding halted abandon2)).line.tx = [] ∧ (after .retire (holding halted retire1)).line.tx = [])
    ∧ (locked.gateFollows ∧ locked.phase ≠ .unlocked) := by
  refine ⟨?_, ?_, ?_, ?_, ?_, ?_, ?_, ⟨by decide +kernel, by decide +kernel, fun _ => by decide +kernel, fun h => absurd h (by decide +kernel)⟩, by decide +kernel⟩ <;>
    decide +kernel

/-! ### Witnesses: phases, key port, purge -/

theorem test_witness_LockEndsTheUnlock :
    let f (n : StationNo) (cause : Byte) := frame .lock n [cause]
    let raw := holding State.reset (f 0 0)
    (raw.awake = true ∧ raw.line.rx = [f 0 0] ∧ raw.phase = .uncommissioned)
    ∧ ((holding locked (f 5 0)).line.rx = [f 5 0] ∧ locked.roleOf 5 = .none)
    ∧ (LockCause.ofCode (u8 (f 0 3).payload 0) = none)
    ∧ ((holding unlocked (f 0 0)).handles (f 0 0) = true ∧ LockCause.ofCode (u8 (f 0 0).payload 0) = some .key
      ∧ unlocked.roleOf 0 = .keypadGuard ∧ unlocked.phase = .unlocked)
    ∧ ((holding verifying (f 1 2)).handles (f 1 2) = true ∧ LockCause.ofCode (u8 (f 1 2).payload 0) = some .fault
      ∧ verifying.roleOf 1 = .guard ∧ verifying.phase = .verifying ∧ verifying.verifier.attempt = some attempt
      ∧ verifying.bestFiled attempt.filed (verifying.others.filter verifying.sameEpoch) = (5, 2)
      ∧ 2 < verifying.failureLimit ∧ verifying.purge.journal.isOpen = false ∧ verifying.epoch ≠ 65535)
    ∧ (unlocked.roleOf 7 = .controller ∧ LockCause.ofCode 1 = some .request ∧ LockCause.ofCode 0 = some .key)
    ∧ ((holding locked (f 0 0)).handles (f 0 0) = true ∧ locked.phase ≠ .unlocked ∧ locked.phase ≠ .verifying) := by
  decide +kernel
/-- The unlocked station with its key port at work. -/
def shifting (k : KeyPortState) (w : Bool) : State := unlocked.setKeyPort ⟨k, theKey, some 1000512, w, none, 0⟩
theorem test_locks :
    let f (n : StationNo) (cause : Byte) := frame .lock n [cause]
    (after .lock (holding verifying (f 1 2))).phase = .locked ∧ (after .lock (holding verifying (f 1 2))).verifier.attempt = none
    ∧ (after .lock (holding unlocked (f 0 0))).keyPort = ⟨.shiftingZero, 0, some 1000512, false, none, 256⟩
    ∧ (after .lock (holding (shifting .shiftingKey false) (f 0 0))).keyPort
        = ⟨.shiftingZero, 0, some 1000514, false, some (theKey.getMsbD 0), 1⟩
    ∧ (after .lock (holding (shifting .shiftingZero true) (f 0 0))).keyPort = ⟨.shiftingZero, theKey, some 1000512, false, none, 0⟩
    ∧ (after .lock (holding unlocked (f 1 0))).phase = .unlocked := by decide +kernel

theorem test_witness_DetachWindowAndTamperEndTheUnlock :
    let s := unlocked.setPhaseCtl { unlocked.phaseCtl with attachWindow := some 1000000 }
    (unlocked.awake = true ∧ unlocked.phase = .unlocked ∧ unlocked.supervisor.attached = true ∧ 4199 < 4200
      ∧ unlocked.supervisor.band ≠ .cutoff ∧ unlocked.purge.journal.isOpen = false)
    ∧ (s.awake = true ∧ s.phase = .unlocked ∧ s.phaseCtl.attachWindow = some 1000000)
    ∧ (unlocked.supervisor.tamperAsserted = false ∧ unlocked.purgesOnTamper = false)
    ∧ (after (.detach false 4199) unlocked).phase = .locked ∧ (after (.detach false 4200) unlocked).phase = .unlocked := by
  decide +kernel
theorem test_witness_DetachWindowAndTamperEndTheUnlock_verifying :
    let few := verifying.setVerifier { verifying.verifier with held := ⟨1, 5, 10⟩ }
    let p := verifying.setSetup { verifying.setup with held := some { record with tamperPolicy := .purge } }
    (verifying.awake = true ∧ verifying.phase = .verifying ∧ verifying.verifier.attempt = some attempt
      ∧ verifying.purge.journal.isOpen = false ∧ verifying.supervisor.attached = true ∧ verifying.supervisor.band ≠ .cutoff
      ∧ verifying.supervisor.tamperAsserted = false ∧ verifying.purgesOnTamper = false
      ∧ verifying.bestFiled attempt.filed (verifying.others.filter verifying.sameEpoch) = (5, 2) ∧ 2 < verifying.failureLimit)
    ∧ (few.bestFiled attempt.filed (few.others.filter few.sameEpoch) = (5, 10) ∧ few.failureLimit ≤ 10 ∧ few.epoch ≠ 65535)
    ∧ (p.purgesOnTamper = true ∧ p.verifier.attempt = some attempt ∧ p.epoch ≠ 65535)
    ∧ ((after (.detach false 4199) verifying).phase = .locked ∧ (after (.detach false 4199) verifying).verifier.attempt = none)
    ∧ (after .tamperAssertion verifying).phase = .locked
    ∧ (after (.detach false 0) few).purge.journal.cause = some .limit
    ∧ (after .tamperAssertion p).purge.journal.cause = some .tamper := by decide +kernel

/-- A station under policy PURGE; and one of the last epoch. -/
def purgingOnTamper (s : State) : State := s.setSetup { s.setup with held := some { record with tamperPolicy := .purge } }
def lastEpochOf (s : State) : State :=
  (purgingOnTamper s).setVerifier { s.verifier with held := { s.verifier.held with epoch := 65535 } }
theorem test_tamper_under_policy_purge :
    let s := purgingOnTamper unlocked
    let t := after .tamperAssertion s
    let e := lastEpochOf verifying
    let few := e.setVerifier { e.verifier with held := ⟨65535, 5, 10⟩ }
    (s.awake = true ∧ s.phase = .unlocked ∧ s.purgesOnTamper = true ∧ s.purge.journal.isOpen = false ∧ s.epoch ≠ 65535
      ∧ s.supervisor.tamperAsserted = false)
    ∧ (t.phase = .purging ∧ t.purge.journal.cause = some .tamper ∧ t.keyPort = ⟨.shiftingZero, 0, some 1000512, false, none, 256⟩
      ∧ t.slotTable.unlockedKey = none)
    ∧ ((after .tamperAssertion (lastEpochOf unlocked)).phase = .locked
      ∧ (after .tamperAssertion (lastEpochOf unlocked)).keyPort.state = .shiftingZero)
    ∧ (few.bestFiled attempt.filed (few.others.filter few.sameEpoch) = (5, 10) ∧ few.failureLimit ≤ 10 ∧ few.epoch = 65535
      ∧ (after .tamperAssertion few).phase = .locked) := by decide +kernel

theorem test_witness_KeyPortShiftsEnd :
    ((shifting .shiftingKey false).awake = true ∧ (shifting .shiftingKey false).keyPort.shiftDue = some 1000512
      ∧ (shifting .shiftingKey false).keyPort.state = .shiftingKey)
    ∧ ((shifting .shiftingZero false).keyPort.state = .shiftingZero ∧ (shifting .shiftingZero false).keyPort.waiting = false)
    ∧ ((shifting .shiftingZero true).keyPort.state = .shiftingZero ∧ (shifting .shiftingZero true).keyPort.waiting = true)
    ∧ unlocked.keyPort.state = .presented ∧ locked.keyPort.state = .clear := by
  decide +kernel
/-- The key 1000...0001b on the pins: its first and its last bit, in both halves; then the stopped bit before the zeros. -/
theorem test_key_bits_on_the_pins :
    let p : KeyPort := ⟨.shiftingKey, 1 + 2 ^ 255, some 512, false, none, 0⟩
    let z : KeyPort := ⟨.shiftingZero, 0, some 514, false, some true, 1⟩
    (p.kdat 0 = true ∧ p.kclk 0 = false ∧ p.kclk 1 = true ∧ p.kdat 2 = false ∧ p.kdat 509 = false ∧ p.kdat 510 = true
      ∧ p.kclk 511 = true ∧ p.kdat 512 = false)
    ∧ (z.kdat 0 = true ∧ z.kclk 1 = true ∧ z.kdat 2 = false ∧ z.kclk 2 = false ∧ z.kclk 513 = true) := by decide +kernel

def purgeFrame (n : StationNo) (cause : Byte) (target : Nat) : RxFrame := frame .purge n (cause :: bytes2 target)
theorem test_witness_MemberPurgeOpensThePurge :
    let p := (purging .erase)
    let c := (purging .close).setPurge { (purging .close).purge with begun := true }
    let closing := c.setPurge { c.purge with closing := true, pendingTarget := some 4 }
    let raise_ := purgeFrame 1 1 3
    ((holding unlocked (purgeFrame 0 1 2)).isFront (purgeFrame 0 1 2) [] ∧ unlocked.roleOf 0 ≠ .controller
      ∧ PurgeCause.ofCode (u8 (purgeFrame 0 1 2).payload 0) = some .request ∧ unlocked.phase ≠ .uncommissioned
      ∧ unlocked.phase ≠ .halted ∧ unlocked.purge.journal.isOpen = false
      ∧ unlocked.verifier.held.epoch < u16 (purgeFrame 0 1 2).payload 1)
    ∧ ((holding unlocked (purgeFrame 1 0 1)).isFront (purgeFrame 1 0 1) [] ∧ PurgeCause.ofCode 0 = some .limit
      ∧ u16 (purgeFrame 1 0 1).payload 1 ≤ unlocked.verifier.held.epoch)
    ∧ ((holding p raise_).isFront raise_ [] ∧ p.isMember 1 = true ∧ p.purge.journal.isOpen = true
      ∧ p.purge.journal.target = some 2 ∧ u16 raise_.payload 1 = 3 ∧ p.purge.closing = false)
    ∧ (c.purge.journal.stage = some .close ∧ c.purge.begun = true ∧ closing.purge.closing = true)
    ∧ (u16 (purgeFrame 1 1 2).payload 1 = 2 ∧ (1 : StationNo) ≠ p.sn ∧ u16 (purgeFrame 1 1 1).payload 1 < 2)
    ∧ ((holding (station .halted .none) raise_).isFront raise_ [] ∧ PurgeCause.ofCode 9 = none)
    ∧ (after .purge (holding p raise_)).purge.journal = { p.purge.journal with target := some 3 }
    ∧ (after .purge (holding closing raise_)).purge.pendingTarget = some 4
    ∧ (after .purge (holding c raise_)).verifier.held.epoch = 3
    ∧ (after .purge (holding p (purgeFrame 1 1 2))).purge.heard[(1 : StationNo)] = true := by decide +kernel
theorem test_purge_opens :
    let t := after .purge (holding unlocked (purgeFrame 0 1 2))
    t.phase = .purging ∧ t.gate.owner = .guard ∧ t.keyPort.state = .shiftingZero ∧ t.purge.journal.target = some 2
    ∧ t.purge.journal.cause = some .request := by decide +kernel
theorem test_an_opening_is_written_and_offered :
    let s := unlocked
    let t := after .purge (holding s (purgeFrame 0 1 2))
    (s.store.requests.purge = none ∧ s.purge.writes.changed = [] ∧ s.store.inFlight = none ∧ s.store.deciding = false
      ∧ s.ownOutstanding .purge = false ∧ s.line.tx.length < 4 ∧ s.phase ≠ .verifying)
    ∧ t.store.inFlight = some ⟨.purge, .journal ⟨true, some 2, some .request, some .destroy, 0, false, false⟩, s.store.grants + 1⟩
    ∧ (t.line.tx.map fun f => (f.kind, f.payload)) = [(.purge, [1, 0, 2])]
    ∧ t.purge.reoffer = some 3000000 ∧ t.purge.reoffered = 0 ∧ t.slotTable.unlockedKey = none := by decide +kernel

theorem test_witness_ControllerPurgeAndReoffers :
    let f := purgeFrame 7 1 2
    let wrong := purgeFrame 7 0 2
    let old := purgeFrame 7 1 1
    let above := purgeFrame 7 1 3
    let last := locked.setVerifier { locked.verifier with held := ⟨65535, 0, 0⟩ }
    let s := (purging .erase).setPurge { (purging .erase).purge with reoffer := some 1000000, reoffered := 14 }
    let closing := (purging .close).setPurge { (purging .close).purge with closing := true }
    ((holding locked f).isFront f [] ∧ locked.roleOf f.sender = .controller ∧ locked.phase ≠ .uncommissioned
      ∧ locked.phase ≠ .halted ∧ locked.hostAdmin = true ∧ u8 f.payload 0 = 1 ∧ locked.purge.journal.isOpen = false
      ∧ locked.verifier.held.epoch < u16 f.payload 1)
    ∧ ((holding locked wrong).isFront wrong [] ∧ u8 wrong.payload 0 ≠ 1)
    ∧ ((holding locked old).isFront old [] ∧ u16 old.payload 1 ≤ locked.verifier.held.epoch)
    ∧ ((holding last f).isFront f [] ∧ last.verifier.held.epoch = 65535)
    ∧ ((holding s f).isFront f [] ∧ s.purge.journal.isOpen = true ∧ u16 f.payload 1 ≤ s.purge.journal.target.getD 0)
    ∧ ((holding s above).isFront above [] ∧ s.purge.journal.target.getD 0 < u16 above.payload 1 ∧ s.purge.closing = false)
    ∧ ((holding closing above).isFront above [] ∧ closing.purge.closing = true ∧ closing.purge.journal.isOpen = true)
    ∧ (s.awake = true ∧ s.purge.reoffer = some 1000000 ∧ s.ownOutstanding .purge = false
      ∧ s.purge.journal.cause = some .request ∧ s.purge.journal.target = some 2)
    ∧ (s.setLine { s.line with tx := [⟨.purge, false, 0, [1, 0, 2], false, 0⟩] }).ownOutstanding .purge = true := by
  decide +kernel
theorem test_witness_ControllerPurgeAndReoffers_done :
    let p := purging .erase
    let w (target : Nat) := p.setPurge { p.purge with waits := [⟨7, target⟩], begun := true }
    let s (target : Nat) := writes (w target) .purge (.journal p.purge.journal)
    ((s 2).writing .purge (.journal p.purge.journal) 1 ∧ (s 2).phase = .purging ∧ p.purge.journal.isOpen = true
      ∧ p.purge.journal.target = some 2 ∧ (s 2).purge.waits = [⟨7, 2⟩] ∧ (s 2).roster.rollOwed = false)
    ∧ (after .purgeWriteComplete (s 2)).line.tx.map (·.payload) = [[2, 0, 0, 0, 2]]
    ∧ (after .purgeWriteComplete (s 3)).line.tx = [] ∧ (after .purgeWriteComplete (s 3)).purge.waits = [⟨7, 3⟩] := by
  decide +kernel

theorem test_witness_StoredJournalMovesThePurge :
    let p := purging .destroy
    let s := writes (p.setPurge { p.purge with writes := ⟨[.journal], false⟩ }) .purge (.journal p.purge.journal)
    let c := purging .close
    let closed : Journal := { c.purge.journal with isOpen := false }
    let s' := writes ((c.setPurge { c.purge with writes := ⟨[.journal], false⟩, closing := true }).setRoster
      { c.roster with entries := Vector.replicate 8 RosterEntry.absent }) .purge (.journal closed)
    (s.writing .purge (.journal p.purge.journal) 1 ∧ s.phase = .purging ∧ s.purge.journal = p.purge.journal
      ∧ p.purge.journal.isOpen = true ∧ p.purge.journal.stage = some .destroy ∧ s.purge.begun = false ∧ s.purge.closing = false
      ∧ s.purge.waits = [] ∧ s.purge.writes = ⟨[.journal], false⟩ ∧ s.store.requests.purge = none)
    ∧ (s'.writing .purge (.journal closed) 1 ∧ s'.phase = .purging ∧ closed.isOpen = false ∧ s'.purge.closing = true
      ∧ s'.purge.journal.isOpen = true ∧ s'.purge.waits = [] ∧ s'.purge.pendingTarget = none
      ∧ s'.purge.writes = ⟨[.journal], false⟩ ∧ ∀ n ∈ s'.others, s'.roster.entries[n].last = none)
    ∧ (after .purgeWriteComplete s').phase = .purgeWait := by decide +kernel
/-- The stored journal of a stage, which the purge requested. -/
def journaled (s : State) : State :=
  writes (s.setPurge { s.purge with writes := ⟨[.journal], false⟩ }) .purge (.journal s.purge.journal)
/-- A purge whose stored record is the first of a plan. -/
def planned (stage : PurgeStage) (c : Contents) (rest : List RecordId) : State :=
  let p := purging stage
  writes (p.setPurge { p.purge with writes := ⟨[c.record], false⟩, plan := c.record :: rest, begun := true }) .purge c
/-- The purge whose journal is written CLOSED, with the last report of member 1. -/
def closingWith (r : Option GuardRecord) (pending : Option Nat) : State :=
  let c := purging .close
  let s := (c.setPurge { c.purge with writes := ⟨[.journal], false⟩, closing := true, pendingTarget := pending }).setRoster
    { c.roster with entries := c.roster.entries.set 1 ⟨.present, r.map .guard⟩ }
  writes s .purge (.journal { c.purge.journal with isOpen := false })
theorem test_witness_StoredJournalMovesThePurge_stages :
    let e (n : Nat) := journaled ((purging .erase).setPurge
      { (purging .erase).purge with journal := { (purging .erase).purge.journal with nextBlock := n } })
    let begun (s : State) : Bool := s.phase = .purging && s.purge.begun = false && s.purge.closing = false
      && s.purge.waits = [] && s.purge.writes = ⟨[.journal], false⟩ && s.store.requests.purge = none
    (begun (e 1023) = true ∧ (e 1023).purge.journal.nextBlock < (e 1023).blocks ∧ (e 1023).gate.channelFault = false
      ∧ (e 1023).eraseCellOk = true ∧ (e 1023).gate.holder = .guard ∧ (e 1023).gate.handOver = .steady
      ∧ (e 1023).gate.op = none ∧ (e 1023).gate.periodicDue = false
      ∧ (after .purgeWriteComplete (e 1023)).gate.driven = [0x60, 0xC0, 0xFF, 0, 0xD0])
    ∧ (begun (e 1024) = true ∧ (e 1024).blocks ≤ (e 1024).purge.journal.nextBlock ∧ (e 1024).gate.stepInFlight = false
      ∧ (after .purgeWriteComplete (e 1024)).purge.journal.stage = some .rekey)
    ∧ (begun (journaled (purging .rekey)) = true
      ∧ (after .purgeWriteComplete (journaled (purging .rekey))).store.inFlight.map (·.contents.record) = some .blankKey
      ∧ (after .purgeWriteComplete (journaled (purging .rekey))).draws = 1)
    ∧ (begun (journaled (purging .close)) = true ∧ (purging .close).purge.journal.target = some 2
      ∧ (after .purgeWriteComplete (journaled (purging .close))).verifier = ⟨⟨2, 0, 0⟩, none, none⟩
      ∧ (after .purgeWriteComplete (journaled (purging .close))).gate.ranges[0].limit = 1023) := by decide +kernel
theorem test_witness_StoredJournalMovesThePurge_plans :
    let meets (s : State) (c : Contents) (rest : List RecordId) : Bool :=
      decide (s.writing .purge c 1) && s.phase = .purging && c.record ≠ .journal && s.purge.plan = c.record :: rest
        && s.purge.journal.isOpen && !s.purge.closing && s.purge.writes = ⟨[c.record], false⟩ && s.store.requests.purge = none
    let t (stage : PurgeStage) (c : Contents) (rest : List RecordId) := after .purgeWriteComplete (planned stage c rest)
    let requested (s : State) := s.store.inFlight.map (·.contents.record)
    let sl : Contents := .slot 5 Slot.cleared
    let key : Contents := .blankKey (some theKey)
    (meets (planned .destroy (.badBlocks []) destroyPlan.tail) (.badBlocks []) destroyPlan.tail = true
      ∧ destroyPlan.head? = some .badBlocks
      ∧ requested (t .destroy (.badBlocks []) destroyPlan.tail) = destroyPlan.tail.head?)
    ∧ (meets (planned .close (.attempt ⟨2, 0, 0⟩) [.tamper]) (.attempt ⟨2, 0, 0⟩) [.tamper] = true
      ∧ requested (t .close (.attempt ⟨2, 0, 0⟩) [.tamper]) = some .tamper)
    ∧ (meets (planned .close (.tamper false) [.journal]) (.tamper false) [.journal] = true
      ∧ (t .close (.tamper false) [.journal]).purge.closing = true ∧ requested (t .close (.tamper false) [.journal]) = some .journal)
    ∧ (meets (planned .destroy sl []) sl [] = true ∧ (t .destroy sl []).purge.journal.stage = some .erase)
    ∧ (meets (planned .rekey key []) key [] = true ∧ (t .rekey key []).purge.journal.stage = some .close
      ∧ requested (t .rekey key []) = some .journal) := by decide +kernel
theorem test_witness_StoredJournalMovesThePurge_close :
    let j : Journal := { (purging .close).purge.journal with isOpen := false }
    let meets (s : State) : Bool := decide (s.writing .purge (.journal j) 1) && s.phase = .purging && !j.isOpen && s.purge.closing
      && s.purge.journal.isOpen && s.purge.waits = [] && s.purge.writes = ⟨[.journal], false⟩
    let last (r : GuardRecord) (s : State) : Bool := s.others.all (fun n => decide (n = 1) || s.roster.entries[n].last = some (.guard report))
      && s.roster.entries[(1 : StationNo)].last = some (.guard r)
    let purgingReport := { report with phase := .purging }
    (meets (closingWith (some report) none) = true ∧ last report (closingWith (some report) none) = true ∧ 1 ≤ report.epoch
      ∧ report.phase ≠ .purging ∧ (after .purgeWriteComplete (closingWith (some report) none)).phase = .blank
      ∧ (after .purgeWriteComplete (closingWith (some report) none)).line.tx.map (·.kind) = [.purged]
      ∧ (after .purgeWriteComplete (closingWith (some report) none)).gate.owner = .controller)
    ∧ (meets (closingWith (some purgingReport) none) = true ∧ last purgingReport (closingWith (some purgingReport) none) = true
      ∧ (after .purgeWriteComplete (closingWith (some purgingReport) none)).phase = .purgeWait)
    ∧ (after .purgeWriteComplete (closingWith none none)).phase = .purgeWait
    ∧ (after .purgeWriteComplete (closingWith (some { report with epoch := 0 }) none)).phase = .purgeWait
    ∧ (meets (closingWith (some report) (some 4)) = true
      ∧ (after .purgeWriteComplete (closingWith (some report) (some 4))).phase = .purging
      ∧ (after .purgeWriteComplete (closingWith (some report) (some 4))).purge.journal.target = some 4) := by decide +kernel
/-- PURGE_WAIT with the last report of member 1 in a phase. -/
def waiting (p : Phase) : State :=
  let s := station .purgeWait .none
  s.setRoster { s.roster with entries := s.roster.entries.set 1 ⟨.present, some (.guard { report with phase := p })⟩ }
theorem test_witness_StoredJournalMovesThePurge_wait :
    let d := record.digest
    let f (p : Phase) := rollOf 1 5 2 p d
    let host := frame .roll 7 [0x80, 0]
    let own : RxFrame := ⟨.roll, 0, false, 0x40 :: rollPayload.tail, some .delivered⟩
    let s := waiting .purging
    ((holding s (f .blank)).isFront (f .blank) [] ∧ readRoll (f .blank).payload = some (.guard .guard (reportOf 1 5 2 .blank d))
      ∧ s.roleOf 1 = .guard ∧ s.epoch = 1 ∧ ¬ s.raises 5 2 ∧ s.phase = .purgeWait)
    ∧ ((holding s host).isFront host [] ∧ readRoll host.payload = some .controller ∧ s.roleOf 7 = .controller)
    ∧ ((holding s (purgedOf 1)).isFront (purgedOf 1) [] ∧ s.isMember 1 = true ∧ u16 (purgedOf 1).payload 0 ≤ s.epoch)
    ∧ ((holding s own).isFront own [] ∧ (readRoll own.payload).isSome = true ∧ own.sender = s.sn)
    ∧ (after .roll (holding s (f .blank))).phase = .blank ∧ (after .roll (holding s (f .purging))).phase = .purgeWait
    ∧ (after .roll (holding (waiting .blank) host)).phase = .blank ∧ (after .roll (holding s host)).phase = .purgeWait
    ∧ (after .purged (holding s (purgedOf 1))).phase = .blank ∧ (after .purged (holding s (purgedOf 0))).phase = .purgeWait := by
  decide +kernel

/-- A purge in ERASE with the gate's own work on the channel. -/
def erasing (op : Option ChannelOp) : State :=
  ((purging .erase).setPurge { (purging .erase).purge with begun := true }).setGate { (purging .erase).gate with op := op }
theorem test_witness_EraseStepsEnd :
    let s := erasing (some (.eraseStep 0 1020000))
    s.awake = true ∧ s.gate.op = some (.eraseStep 0 1020000) ∧ s.gate.channelFault = false ∧ s.gate.faultCount < 2
    ∧ (after (.eraseStepReady 1) s).purge.badBlocks = [0] ∧ (after (.eraseStepReady 0) s).purge.badBlocks = []
    ∧ (after (.eraseStepReady 0) s).purge.nextBlock = 1
    ∧ (after (.eraseStepReady 0) s).gate.driven = [0x60, 64, 0, 0, 0xD0]
    ∧ (after .eraseStepTimeout s).gate.driven = [0xFF] := by decide +kernel
theorem test_the_last_block_ends_the_erase :
    let e := erasing (some (.eraseStep 1023 1020000))
    let s := e.setPurge { e.purge with nextBlock := 1023 }
    (s.erasing = true ∧ s.blocks ≤ s.purge.nextBlock + 1)
    ∧ (after (.eraseStepReady 1) s).purge.journal.stage = some .rekey
    ∧ (after (.eraseStepReady 1) s).purge.journal.nextBlock = 1024 ∧ (after (.eraseStepReady 1) s).purge.badBlocks = [1023]
    ∧ (after (.eraseStepReady 1) s).store.inFlight.map (·.contents.record) = some .badBlocks := by decide +kernel
theorem test_erase_checkpoints_and_a_full_list :
    let e (n next : Nat) (bad : List Nat) :=
      (erasing (some (.eraseStep n 1020000))).setPurge { (erasing none).purge with nextBlock := next, badBlocks := bad }
    (after (.eraseStepReady 0) (e 63 63 [])).purge.journal.nextBlock = 64
    ∧ (after (.eraseStepReady 0) (e 63 63 [])).store.inFlight.map (·.contents.record) = some .journal
    ∧ (after (.eraseStepReady 0) (e 62 62 [])).purge.journal.nextBlock = 0
    ∧ (after (.eraseStepReady 1) (e 40 40 (List.range 32))).purge.journal.listFull = true
    ∧ (after (.eraseStepReady 1) (e 40 40 (List.range 31))).purge.journal.listFull = false
    ∧ (after (.eraseStepReady 1) (e 5 5 (List.range 32))).purge.journal.listFull = false := by decide +kernel
theorem test_the_third_expiry_ends_the_erase_with_its_reset :
    let e := erasing (some (.eraseStep 5 1020000))
    let s := (e.setGate { e.gate with faultCount := 2 }).setPurge { e.purge with nextBlock := 5 }
    let t := after .eraseStepTimeout s
    let u := after .recoveryResetReady t
    (s.gate.faultCount = 2 ∧ s.gate.channelFault = false ∧ s.purge.journal.isOpen = true ∧ s.gate.owner = .guard
      ∧ s.faultPolicyAll = true ∧ s.ownOutstanding .lock = false)
    ∧ (t.gate.channelFault = true ∧ t.purge.journal.stage = some .erase ∧ (t.line.tx.map fun f => (f.kind, f.payload)) = [(.lock, [2])])
    ∧ (t.gate.op = some (.recoveryReset (.erase 5) 1040000) ∧ t.erasing = true ∧ t.purge.nextBlock + 1 < t.blocks)
    ∧ (u.purge.journal.stage = some .rekey ∧ u.purge.journal.eraseIncomplete = true ∧ u.purge.journal.nextBlock = 6
      ∧ u.purge.badBlocks = [5]) := by decide +kernel

theorem test_witness_PurgeAndGateTables :
    let s := (purging .erase).setPurge { (purging .erase).purge with nextBlock := 512 }
    let asleep := s.setPurge { s.purge with suspended := true }
    (locked.purge.journal.isOpen = false) ∧ (s.purge.journal.isOpen = true ∧ s.purge.journal.stage = some .erase
      ∧ s.progressPercent = 50) ∧ (purging .destroy).purge.journal.stage = some .destroy
    ∧ (purging .close).purge.journal.stage = some .close
    ∧ byteAt s.rollPayload 8 = 0x80 ∧ byteAt asleep.rollPayload 8 = 0x88 ∧ byteAt s.rollPayload 9 = 50
    ∧ byteAt s.statusPayload 1 = 2 ∧ byteAt asleep.statusPayload 1 = 3 := by decide +kernel

/-! ### Witnesses: channel gate -/

/-- The unlocked station with a gate command, a hand-over or work of its own. -/
def commanding (c : ControllerCommand) (h : HandOver) : State := unlocked.setGate { unlocked.gate with command := c, handOver := h }
theorem test_witness_FlashCommandsAreDecidedOnce :
    let s (c : ControllerCommand) := commanding c .steady
    ((s .idle).awake = true ∧ (s .idle).gate.flashBusy = false ∧ (s .idle).gate.command = .idle
      ∧ (s .idle).gate.holder = .controller ∧ (s .idle).gate.handOver = .steady)
    ∧ (s (.takingAddress 0x60 false false)).gate.command = .takingAddress 0x60 false false
    ∧ ((0x70 : Byte) ∉ openingCodes ∧ (commanding .idle (.settling 1)).gate.handOver ≠ .steady)
    ∧ (s (.passed [0x70] false)).gate.command = .passed [0x70] false ∧ (s (.passed [0x70] true)).gate.command = .passed [0x70] true
    ∧ (s .denied).gate.command = .denied ∧ (s (.passed [0x70] false)).gate.op = none
    ∧ (locked.setGate { locked.gate with holder := .none }).gate.holder ≠ .controller ∧ (erasing (some (.eraseStep 0 1))).gate.op.isSome = true
    ∧ (State.reset.setSupervisor { State.reset.supervisor with dormant := true }).awake = false := by decide +kernel
theorem test_flash_commands :
    let s (c : ControllerCommand) := commanding c .steady
    (after (.controlCommand 0x10) (s (.passed [0x80] false))).gate.command = .passed [0x80, 0x10] false
    ∧ (after (.controlCommand 0x10) (s (.takingAddress 0x80 false false))).gate.command = .denied
    ∧ ((s .denied).shownData 7 = 0xFF ∧ (s .denied).shownReady false = true ∧ (s .denied).channelEnable true = false)
    ∧ ((s (.passed [0x70] false)).shownData 7 = 7 ∧ (s (.passed [0x70] false)).shownReady false = false
      ∧ (s (.passed [0x70] false)).channelEnable true = true) := by decide +kernel
theorem test_deny_stays_low_through_the_boundary :
    let denied := commanding .denied .steady
    let opening := after (.erase60h .opening false) denied
    opening.gate.command = .takingAddress 0x60 true false ∧ opening.denyLow = true
    ∧ (after (.erase60h .opening false) (commanding .idle .steady)).denyLow = false
    ∧ (after (.controlCommand 0x10) opening).denyLow = true
    ∧ (after (.erase60h (.address 0x40 0x01 0x00) true) opening).denyLow = false ∧ (after (.commandEnd false) denied).denyLow = false := by decide +kernel
theorem test_witness_FlashCommandsAreDecidedOnce_boundary :
    let s (c : ControllerCommand) (busy : Bool) (h : HandOver) := (commanding c h).setGate { (commanding c h).gate with flashBusy := busy }
    let passed := s (.passed [0x60] false) false .steady
    let draining := s (.passed [0x60] false) false (.draining (some 1030000))
    let opened := s (.takingAddress 0x60 false false) true (.draining (some 1030000))
    (passed.awake = true ∧ passed.gate.handOver = .steady ∧ (s (.takingAddress 0x60 false false) false .steady).gate.flashBusy = false
      ∧ (0x80 : Byte) ≠ 0x60)
    ∧ (draining.gate.handOver = .draining (some 1030000) ∧ draining.gate.channelFault = false ∧ opened.gate.flashBusy = true)
    ∧ ((after (.read00h .opening false) passed).gate.flashBusy = true
      ∧ (after (.read00h .opening false) passed).gate.command = .takingAddress 0x00 false false)
    ∧ ((after (.read00h .opening true) (s (.takingAddress 0x60 false false) false .steady)).gate.gateDenied = true)
    ∧ ((after (.read00h .opening true) draining).gate.handOver = .settling 1001000)
    ∧ (after (.erase60h (.address 0 0 0) false) opened).gate.command = .denied := by decide +kernel
theorem test_a_command_begun_in_a_drain_is_denied :
    let draining := commanding (.passed [0x60] true) (.draining (some 1030000))
    let opened := after (.erase60h .opening true) draining
    let back := opened.setGate { opened.gate with handOver := .steady, holder := .controller }
    (opened.gate.command = .takingAddress 0x60 false true ∧ opened.gate.handOver = .settling 1001000)
    ∧ (back.gate.controllerHolds = true ∧ (after (.erase60h (.address 0x40 0x01 0x00) true) back).gate.command = .denied)
    ∧ isPassed (after (.erase60h (.address 0x40 0x01 0x00) true) (commanding (.takingAddress 0x60 false false) .steady)) = true := by
  decide +kernel
theorem test_no_outputs_without_a_supply :
    let dead := State.reset.setSupervisor { State.reset.supervisor with supplyValid := false }
    let s := commanding .denied .steady
    dead.outputs true true 7 = none ∧ s.supervisor.supplyValid = true
    ∧ (s.outputs true false 7).map (fun o => (o.deny, o.ready, o.data, o.channelEnable, o.kvalid)) = some (false, true, 0xFF, false, true) := by
  decide +kernel
theorem test_not_draining : ∀ due, (commanding .idle .steady).gate.handOver ≠ .draining (some due) := nofun

theorem test_witness_CommandsEndWithReady :
    let s (c : ControllerCommand) := commanding c .steady
    let d (c : ControllerCommand) := commanding c (.draining (some 1030000))
    ((s (.passed [0x00] true)).awake = true ∧ (s (.passed [0x00] true)).gate.flashBusy = false
      ∧ (s (.passed [0x00] true)).gate.command = .passed [0x00] true)
    ∧ (s (.passed [0x00] false)).gate.command = .passed [0x00] false ∧ (s .denied).gate.command = .denied
    ∧ (s (.takingAddress 0 false false)).gate.command = .takingAddress 0 false false
    ∧ ((d (.passed [0x00] true)).awake = true ∧ (d (.passed [0x00] true)).gate.handOver = .draining (some 1030000)
      ∧ (d (.passed [0x00] true)).gate.channelFault = false ∧ (d (.passed [0x00] true)).gate.command = .passed [0x00] true)
    ∧ (d (.passed [0x00] false)).gate.command = .passed [0x00] false := by decide +kernel

/-- A drain that waits for a flash which an ended command left busy, behind a command or with none. -/
def draining (c : ControllerCommand) (count : Nat) : State :=
  let s := commanding c (.draining (some 1030000))
  s.setGate { s.gate with flashBusy := true, faultCount := count }
theorem test_witness_CommandsEndWithReady_busy :
    let settles (c : Instr) (s : State) := (after c s).gate.handOver = .settling 1001000 ∧ (after c s).gate.faultCount = 0
      ∧ (after c s).gate.flashBusy = false
    ((draining .denied 1).awake = true ∧ (draining .denied 1).gate.channelFault = false)
    ∧ (settles .flashReady (draining .denied 1) ∧ (after .flashReady (draining .denied 1)).gate.command = .denied)
    ∧ settles .flashReady (draining .idle 1) ∧ settles (.commandEnd true) (draining .denied 1)
    ∧ (after (.commandEnd false) (draining .denied 1)).gate = { (draining .denied 1).gate with command := .idle }
    ∧ (settles (.commandEnd true) (draining (.takingAddress 0x60 false true) 1)
      ∧ (after (.commandEnd true) (draining (.takingAddress 0x60 false true) 1)).gate.gateDenied = true)
    ∧ (let s := commanding .denied .steady
       let b := s.setGate { s.gate with flashBusy := true }
       b.awake = true ∧ (after .flashReady b).gate = s.gate) := by decide +kernel
theorem test_nothing_left_to_cut : (draining .denied 1).gate.cutOffTo (draining .denied 1).gate := ⟨nofun, nofun, fun _ => rfl⟩
theorem test_a_busy_flash_is_reset :
    let t (c : ControllerCommand) (count : Nat) := (after .drainExpire (draining c count)).gate
    (t .denied 1 = { (draining .denied 1).gate with
        handOver := .resetting, flashBusy := false, op := some (.recoveryReset .drain 1050000), driven := [0xFF]
        stepTimeout := true, faultCount := 2 })
    ∧ ((t .idle 1).command = .idle ∧ (t .idle 1).gateDenied = false)
    ∧ ((t (.passed [0x60] true) 1).command = .idle ∧ (t (.passed [0x60] true) 1).gateDenied = false)
    ∧ ((t .denied 2).channelFault = true ∧ (t .denied 2).command = .denied ∧ (t .denied 2).gateDenied = false) := by
  decide +kernel

theorem test_witness_DrainAndSettleEnd :
    let d (count : Nat) := let s := commanding (.passed [0x60] false) (.draining (some 1030000))
      s.setGate { s.gate with faultCount := count }
    let e := (erasing none).setGate { (erasing none).gate with handOver := .settling 1000000, holder := .none }
    ((d 1).awake = true ∧ (d 1).gate.handOver = .draining (some 1030000) ∧ (d 1).gate.command = .passed [0x60] false
      ∧ (d 1).gate.channelFault = false ∧ (d 1).gate.faultCount < 2)
    ∧ ((d 2).gate.faultCount = 2 ∧ (d 2).faultPolicyAll = true ∧ (d 2).ownOutstanding .lock = false
      ∧ (d 2).line.tx.length < 4 ∧ (d 2).roster.rollOwed = false)
    ∧ (State.reset.awake = true ∧ State.reset.gate.handOver = .settling 1000 ∧ State.reset.gate.periodicDue = false
      ∧ State.reset.gate.op = none ∧ State.reset.erasing = false)
    ∧ (e.awake = true ∧ e.gate.handOver = .settling 1000000 ∧ e.gate.periodicDue = false ∧ e.gate.op = none
      ∧ e.erasing = true ∧ e.gate.owner = .guard ∧ e.gate.channelFault = false ∧ e.purge.suspended = false
      ∧ e.eraseCellOk = true ∧ e.purge.nextBlock < e.blocks)
    ∧ (after .drainExpire (d 2)).gate.channelFault = true := by decide +kernel
theorem test_witness_DrainAndSettleEnd_begin :
    let f := purgeFrame 0 1 2
    let s (c : ControllerCommand) := commanding c .steady
    let t (c : ControllerCommand) := (after .purge (holding (s c) f)).gate
    let begins (op : Option ChannelOp) (h : HandOver) : State :=
      (erasing op).setGate { (erasing op).gate with owner := .controller, handOver := h }
    ((holding (s .idle) f).isFront f [] ∧ (s .idle).roleOf f.sender ≠ .controller
      ∧ PurgeCause.ofCode (u8 f.payload 0) = some .request ∧ (s .idle).purge.journal.isOpen = false
      ∧ (s .idle).epoch < u16 f.payload 1 ∧ (s .idle).gate.owner ≠ .guard)
    ∧ (t (.passed [0x60] false)).handOver = .draining (some 1020000)
    ∧ ((t (.takingAddress 0x60 false false)).command = .denied ∧ (t (.takingAddress 0x60 false false)).gateDenied = true
      ∧ (t (.takingAddress 0x60 false false)).handOver = .settling 1001000)
    ∧ (t .idle).handOver = .settling 1001000 ∧ (t .denied).handOver = .settling 1001000
    ∧ (ownerFor (s .idle).phase (s .idle).purge.journal.isOpen (s .idle).gate.channelFault = (s .idle).gate.owner)
    ∧ ((begins none .steady).recomputeOwner.gate.handOver = .settling 1001000
      ∧ (begins (some (.eraseStep 0 1)) .steady).recomputeOwner.gate.handOver = .draining none
      ∧ (begins none .resetting).recomputeOwner.gate.handOver = .resetting
      ∧ (begins none .steady).gate.owner ≠ ownerFor .purging true false ∧ (begins none .steady).gate.holder = .guard) := by
  decide +kernel
theorem test_a_fault_ends_the_erase_at_once :
    let e := (erasing none).setGate
      { (erasing none).gate with
        holder := .controller, handOver := .draining (some 1030000), command := .passed [0x60] false, faultCount := 2 }
    let t := after .drainExpire e
    (e.awake = true ∧ e.gate.channelFault = false ∧ e.erasing = true)
    ∧ t.gate.channelFault = true ∧ t.purge.journal.stage = some .rekey ∧ t.purge.journal.eraseIncomplete = true
    ∧ t.gate.driven = [0xFF]
    ∧ (after .settleEnd ((erasing none).setGate { (erasing none).gate with handOver := .settling 1000000, holder := .none })).gate.driven
        = [0x60, 0, 0, 0, 0xD0] := by decide +kernel
theorem test_fault_policy_self :
    (unlocked.setSetup { unlocked.setup with held := some { record with faultPolicy := .self } }).faultPolicyAll = false := by
  decide +kernel

theorem test_witness_RecoveryResetsRunTheirCourse :
    let g (op : Option ChannelOp) (h : HandOver) (fault : Bool) := locked.setGate
      { locked.gate with
        op := op, handOver := h, channelFault := fault, faultCount := if fault then 3 else 0
        faultPeriod := if fault then some 1000000 else none, owner := if fault then .none else .controller }
    let drain := g (some (.recoveryReset .drain 1020000)) .resetting false
    let periodic := g (some (.recoveryReset .periodic 1020000)) .steady true
    (drain.awake = true ∧ drain.gate.op = some (.recoveryReset .drain 1020000) ∧ drain.gate.handOver = .resetting
      ∧ drain.erasing = false)
    ∧ (periodic.awake = true ∧ periodic.gate.op = some (.recoveryReset .periodic 1020000) ∧ periodic.gate.handOver = .steady
      ∧ periodic.gate.channelFault = true ∧ periodic.gate.periodicDue = false ∧ periodic.erasing = false)
    ∧ ((erasing (some (.recoveryReset (.erase 4) 1020000))).gate.op = some (.recoveryReset (.erase 4) 1020000)
      ∧ (erasing (some (.recoveryReset (.erase 4) 1020000))).purge.badBlocks.length < 32)
    ∧ ((g none .steady true).awake = true ∧ (g none .steady true).gate.faultPeriod = some 1000000
      ∧ (g none .steady true).gate.channelFault = true ∧ (g none .steady true).gate.op = none
      ∧ (g none .steady true).gate.handOver = .steady)
    ∧ periodic.gate.op.isSome = true := by decide +kernel

theorem test_witness_RangeIsCheckedHeldAndStored :
    let far := frame .range 7 (8 :: bytes2 100 ++ bytes2 199 ++ [0xC8])
    let inside := frame .range 7 (1 :: bytes2 99 ++ bytes2 199 ++ [0xC8])
    let e : RangeEntry := ⟨true, 100, 199, true, true, .user, false⟩
    let w : RangeWait := ⟨1, 7, 0⟩
    let s := writes (unlocked.setGate { unlocked.gate with waits := [w] }) .gate (.range 1 e)
    ((holding unlocked rangeFrame).isFront rangeFrame [] ∧ unlocked.phase ≠ .halted ∧ unlocked.mayAdminister 7
      ∧ unlocked.phaseCtl.grant.isAdmin = true ∧ unlocked.supervisor.tampered = false
      ∧ (readRange rangeFrame.payload).index = (1 : RangeNo).val ∧ unlocked.rangeRefusal 1 (readRange rangeFrame.payload) = none
      ∧ (readRange rangeFrame.payload).visibility = some .user ∧ unlocked.roster.rollOwed = false)
    ∧ ((holding locked rangeFrame).isFront rangeFrame [] ∧ locked.phaseCtl.grant.isAdmin = false)
    ∧ ((holding unlocked far).isFront far [] ∧ 7 < (readRange far.payload).index)
    ∧ ((holding unlocked inside).isFront inside [] ∧ unlocked.rangeRefusal 1 (readRange inside.payload) = some .overlap)
    ∧ (s.writing .gate (.range 1 e) 1 ∧ s.gate.waits = [w] ∧ w.index = 1 ∧ w.changedAt < 1 ∧ s.roster.rollOwed = false) := by
  decide +kernel
theorem test_range_checks :
    unlocked.rangeRefusal 1 ⟨1, 1024, 1023, true, true, false, some .user⟩ = some .invalid
    ∧ unlocked.rangeRefusal 1 ⟨1, 1023, 1024, true, true, false, some .user⟩ = some .invalid
    ∧ unlocked.rangeRefusal 1 ⟨1, 1023, 1023, true, true, false, none⟩ = some .invalid
    ∧ unlocked.rangeRefusal 1 ⟨1, 1023, 1023, false, true, false, some .user⟩ = some .illegal
    ∧ unlocked.rangeRefusal 1 ⟨1, 1023, 1023, true, true, false, some .user⟩ = none := by decide +kernel

/-! ### Witnesses: keypad -/

/-- A station with its scanner in a state, or with a key settled over it. -/
def scanning (s : State) (seq : SeqState) (digits : List (Fin 10)) : State := s.setScanner { s.scanner with seq := seq, digits := digits }
def pressing (s : State) (k : KeyState) : State := s.setScanner { s.scanner with key := k }
theorem test_witness_KeysSettleAndRelease :
    let guard := locked.setRoster { locked.roster with kpd := false }
    (locked.awake = true ∧ locked.roster.kpd = true ∧ locked.scanner.key = .idle)
    ∧ ((pressing locked (.settling .lock 1020000)).scanner.key = .settling .lock 1020000 ∧ Key.lock ≠ .enter)
    ∧ (pressing locked (.held .lock)).scanner.key = .held .lock ∧ (pressing locked .blocked).scanner.key = .blocked
    ∧ (guard.awake = true ∧ guard.roster.kpd = false) := by
  decide +kernel
theorem test_keys_do_not_overlap :
    (after (.keySeenDown .enter) (pressing locked (.held .lock))).scanner.key = .held .lock
    ∧ (after (.keyRelease true) (pressing locked (.held .lock))).scanner.key = .blocked
    ∧ (after (.keyRelease false) (pressing locked .blocked)).scanner.key = .idle
    ∧ (after (.keyDigit 5) (pressing locked .blocked)).scanner.digits = []
    ∧ (after (.keyDigit 5) locked).clock = 1020000 ∧ (after (.keyDigit 5) locked).scanner.key = .held (.digit 5) := by
  decide +kernel

/-- A station with a digit, LOCK or ENTER settled. -/
def settled (s : State) (k : Key) : State := pressing s (.settling k 1020000)
def sixteen : List (Fin 10) := List.replicate 16 1
theorem test_witness_DigitAndLockKeysFollowTheSequence :
    let on (s : State) (seq : SeqState) (k : Key) := settled (scanning s seq []) k
    ((settled (scanning locked .entry (List.replicate 15 1)) (.digit 5)).keyReady (.digit 5) 1020000
      ∧ locked.phase.takesEntry = true ∧ locked.scanner.overlong = false ∧ (List.replicate 15 (1 : Fin 10)).length < 16)
    ∧ (16 ≤ sixteen.length ∧ (settled (scanning locked .entry sixteen) (.digit 5)).keyReady (.digit 5) 1020000)
    ∧ (on unlocked (.adminPrefix none 1) (.digit 5)).scanner.seq = .adminPrefix none 1
    ∧ (on unlocked (.adminPrefix (some 1) 1) (.digit 5)).scanner.seq = .adminPrefix (some 1) 1
    ∧ (on unlocked (.purgeConfirm 1) (.digit 5)).scanner.seq = .purgeConfirm 1
    ∧ (on unlocked (.modeFirst .user 1) (.digit 5)).scanner.seq = .modeFirst .user 1
    ∧ (on unlocked (.modeSecond .user token 1) (.digit 5)).scanner.seq = .modeSecond .user token 1
    ∧ (on unlocked (.lockTiming 1) (.digit 5)).scanner.seq = .lockTiming 1
    ∧ ((settled unlocked (.digit 5)).keyReady (.digit 5) 1020000 ∧ unlocked.scanner.seq = .entry ∧ unlocked.phase = .unlocked)
    ∧ ((settled locked .lock).keyReady .lock 1020000 ∧ locked.scanner.seq = .entry ∧ locked.scanner.digits = []
      ∧ locked.scanner.readOnly = false)
    ∧ (scanning locked .entry [1]).scanner.digits ≠ [] ∧ (settled unlocked .lock).keyReady .lock 1020000
    ∧ unlocked.phaseCtl.grant.isAdmin = true ∧ (station .unlocked (.user 1 false)).phaseCtl.grant.isAdmin = false
    ∧ (settled (station .blank .none) .lock).phase = .blank
    ∧ (settled (scanning locked (.pending token false 1) []) .lock).scanner.seq = .pending token false 1 := by decide +kernel
theorem test_keys_are_discarded_outside_service :
    let taken (p : Phase) (k : Key) (c : Instr) :=
      let s := settled (station p .none) k
      let t := after c s
      s.keyReady k 1020000 ∧ s.scanner.seq = .entry ∧ t.scanner = { s.scanner with key := .held k } ∧ t.lights = s.lights
    taken .purging (.digit 5) (.keyDigit 5) ∧ taken .purgeWait (.digit 5) (.keyDigit 5) ∧ taken .halted (.digit 5) (.keyDigit 5)
    ∧ taken .uncommissioned (.digit 5) (.keyDigit 5) ∧ taken .purging .lock .keyLock ∧ taken .purgeWait .lock .keyLock
    ∧ taken .halted .lock .keyLock ∧ taken .uncommissioned .lock .keyLock := by decide +kernel
theorem test_the_seventeenth_digit_sets_overlong :
    (after (.keyDigit 5) (settled (scanning locked .entry sixteen) (.digit 5))).scanner.overlong = true
    ∧ (after (.keyDigit 5) (settled (scanning locked .entry (List.replicate 15 1)) (.digit 5))).scanner.digits.length = 16 := by
  decide +kernel
theorem test_digits_of_sequences :
    let on (seq : SeqState) (k : Key) := after (match k with | .digit d => .keyDigit d | .lock => .keyLock | .enter => .keyEnter)
      (settled (scanning unlocked seq []) k)
    (on (.adminPrefix none 1) (.digit 0)).scanner.seq = .adminPrefix (some 0) 6020000
    ∧ (on (.adminPrefix (some 1) 1) (.digit 5)).scanner.transient = some (.red, 3020000)
    ∧ (on (.purgeConfirm 1) .lock).scanner.seq = .entry ∧ (on (.modeFirst .user 1) (.digit 5)).scanner.digits = [5]
    ∧ (on (.lockTiming 1) .lock).scanner.seq = .adminPrefix none 6020000 := by decide +kernel

theorem test_witness_EnterGoesWhereTheSequenceSays :
    let six : List (Fin 10) := [1, 2, 3, 4, 5, 6]
    let s (base : State) (digits : List (Fin 10)) := settled (scanning base .entry digits) .enter
    let on (base : State) (seq : SeqState) := settled (scanning base seq []) .enter
    let h := (s locked six).withHeld .enter 1020000
    let queued := sending ⟨.entry, false, 0, [], false, 0⟩ .idle none
    ((s locked [1, 2, 3, 4, 5]).keyReady .enter 1020000 ∧ locked.phase.takesEntry = true ∧ 5 < locked.minDigits)
    ∧ ((s locked six).keyReady .enter 1020000 ∧ ¬ 6 < locked.minDigits ∧ (s locked six).scanner.overlong = false
      ∧ h.holdActive = false ∧ locked.ownOutstanding .entry = false)
    ∧ ((s (locked.setVerifier { locked.verifier with hold := some 1020001 }) six).withHeld .enter 1020000).holdActive = true
    ∧ ((s queued six).keyReady .enter 1020000 ∧ queued.phase = .locked ∧ queued.ownOutstanding .entry = true)
    ∧ ((s assembling six).keyReady .enter 1020000 ∧ assembling.phase.takesEntry = true ∧ assembling.phase ≠ .locked)
    ∧ ((s (station .blank .none) six).keyReady .enter 1020000 ∧ (station .blank .none).phase = .blank)
    ∧ ((s unlocked six).keyReady .enter 1020000 ∧ unlocked.phase.takesEntry = false)
    ∧ (on locked (.pending token false 1)).keyReady .enter 1020000 ∧ (on unlocked (.lockTiming 1)).keyReady .enter 1020000
    ∧ (on unlocked (.adminPrefix (some 9) 1)).keyReady .enter 1020000
    ∧ (on unlocked (.adminPrefix none 1)).scanner.seq = .adminPrefix none 1
    ∧ (settled (scanning unlocked (.modeFirst .user 1) six) .enter).scanner.seq = .modeFirst .user 1
    ∧ (settled (scanning unlocked (.modeSecond .user token 1) six) .enter).scanner.seq = .modeSecond .user token 1
    ∧ (on unlocked (.purgeConfirm 1)).keyReady .enter 1020000 := by
  decide +kernel
/-- The slots that an enrollment can choose: slot 3 is the lowest free one of the unlocked station; none is free where slots 3 and 4 are in use; slot 0 takes one unless a part is staged. -/
theorem test_witness_EnterGoesWhereTheSequenceSays_slots :
    let full := unlocked.setSlotTable { unlocked.slotTable with slots := (slots.set 3 slots[1]).set 4 slots[1] }
    let staged := unlocked.setSlotTable { unlocked.slotTable with slots := slots.set 0 { slots[0] with staged := some ⟨2, credential 4⟩ } }
    let free (s : State) (i : SlotNo) : Bool := i ≠ 0 && (s.slotAt i).body = .empty && (s.slotAt i).staged = none && (s.slotAt i).gen < 65535
    (free unlocked 3 = true ∧ ∀ j : SlotNo, j < 3 → free unlocked j = false)
    ∧ (∀ i : SlotNo, free full i = false)
    ∧ ((unlocked.slotAt 0).staged = none ∧ (unlocked.slotAt 0).gen < 65535 ∧ (staged.slotAt 0).staged ≠ none)
    ∧ ((station .blank .none).memberMissing = false ∧ unlocked.slotTable.enrollment = none)
    ∧ ((enrolling (Vector.replicate 8 none)).slotTable.enrollment.isSome = true) := by decide +kernel
theorem test_admin_sequences :
    let six : List (Fin 10) := [1, 2, 3, 4, 5, 6]
    let on (s : State) (seq : SeqState) (digits : List (Fin 10)) := after .keyEnter (settled (scanning s seq digits) .enter)
    let last := unlocked.setVerifier { unlocked.verifier with held := ⟨65535, 0, 0⟩ }
    (on unlocked (.adminPrefix (some 1) 1) []).scanner.seq = .modeFirst .user 21020000
    ∧ (on unlocked (.adminPrefix (some 2) 1) []).scanner.seq = .modeFirst .adminPin 21020000
    ∧ (on unlocked (.adminPrefix (some 9) 1) []).scanner.seq = .purgeConfirm 6020000
    ∧ (on unlocked (.adminPrefix (some 3) 1) []).scanner.transient = some (.red, 3020000)
    ∧ (on (enrolling (Vector.replicate 8 none)) (.adminPrefix (some 1) 1) []).scanner.seq = .entry
    ∧ (on unlocked (.purgeConfirm 1) []).purge.journal.cause = some .request
    ∧ (on last (.purgeConfirm 1) []).scanner.transient = some (.red, 3020000)
    ∧ (on unlocked (.modeFirst .user 1) six).scanner.digits = [] := by decide +kernel
theorem test_no_double_entry_in_blank_with_an_enrollment_open :
    let six : List (Fin 10) := [1, 2, 3, 4, 5, 6]
    let blank := station .blank .none
    let open_ := blank.setSlotTable { blank.slotTable with enrollment := some ⟨0, 1, true, none, Vector.replicate 8 none⟩ }
    let s := settled (scanning open_ .entry six) .enter
    (s.keyReady .enter 1020000 ∧ s.phase = .blank ∧ s.slotTable.enrollment.isSome = true ∧ ¬ 6 < s.minDigits ∧ s.scanner.overlong = false)
    ∧ (after .keyEnter s).scanner.seq = .entry ∧ (after .keyEnter s).scanner.digits = []
    ∧ (after .keyEnter s).scanner.transient = some (.red, 3020000) := by decide +kernel
theorem test_the_second_entry_stages :
    let six : List (Fin 10) := [1, 2, 3, 4, 5, 6]
    let s := scanning unlocked (.modeSecond .user (tokenOf six) 1) six
    (s.enroll .user (tokenOf six)).slotTable.enrollment.map (·.slot) = some 3
    ∧ (s.enroll .user (tokenOf six)).line.tx.map (·.kind) = [.stage] := by decide +kernel
/-- A first token that the second entry does not repeat. -/
theorem test_some_first_token_differs (digits : List (Fin 10)) : ∃ first : Token, tokenOf digits ≠ first :=
  ⟨tokenOf digits + 1, fun h => by simpa using congrArg (· - tokenOf digits) h⟩

theorem test_witness_ScannerTimersEnd :
    let s (seq : SeqState) := scanning unlocked seq []
    let idle := locked.setScanner { locked.scanner with idle := some 1000000 }
    let shown := locked.setScanner { locked.scanner with transient := some (.red, 1000000) }
    (idle.awake = true ∧ idle.scanner.idle = some 1000000)
    ∧ (s (.pending token false 1)).scanner.seq = .pending token false 1 ∧ (s (.lockTiming 1)).scanner.seq = .lockTiming 1
    ∧ (s (.adminPrefix none 1)).scanner.seq = .adminPrefix none 1 ∧ (s (.modeFirst .user 1)).scanner.seq = .modeFirst .user 1
    ∧ (s (.modeSecond .user token 1)).scanner.seq = .modeSecond .user token 1
    ∧ (s (.purgeConfirm 1)).scanner.seq = .purgeConfirm 1 ∧ shown.scanner.transient = some (.red, 1000000)
    ∧ (s .entry).awake = true := by decide +kernel
theorem test_witness_ScannerTimersEnd_indicators :
    let at_ (p : Phase) := station p .none
    let guard := locked.setRoster { locked.roster with kpd := false }
    let transient (t : Transient) := locked.setScanner { locked.scanner with transient := some (t, 1) }
    let user := station .unlocked (.user 1 true)
    let low := locked.setSupervisor { locked.supervisor with band := .low }
    (State.reset.setSupervisor { State.reset.supervisor with supplyValid := false }).awake = false ∧ guard.roster.kpd = false
    ∧ (locked.awake = true ∧ locked.roster.kpd = true ∧ locked.scanner.transient = none)
    ∧ (transient .amber).lights = ⟨.dark, .dark, .fast, false⟩ ∧ (transient .red).lights = ⟨.fast, .dark, .dark, false⟩
    ∧ (transient .green).lights = ⟨.dark, .fast, .dark, false⟩
    ∧ (at_ .uncommissioned).lights = ⟨.dark, .dark, .dark, false⟩ ∧ (at_ .halted).lights = ⟨.slowBlink, .dark, .dark, false⟩
    ∧ (at_ .assembling).lights = ⟨.dark, .dark, .steady, false⟩ ∧ heldUp.lights = ⟨.steady, .dark, .blink, false⟩
    ∧ low.lights = ⟨.steady, .dark, .dark, true⟩ ∧ incomplete.lights = ⟨.slowBlink, .dark, .dark, false⟩
    ∧ (at_ .purgeWait).lights = ⟨.alternating false, .dark, .alternating true, false⟩
    ∧ (at_ .blank).lights = ⟨.alternating false, .alternating true, .dark, false⟩
    ∧ (scanning (at_ .blank) (.modeSecond .adminPin token 1) []).lights = ⟨.dark, .steady, .dark, false⟩
    ∧ user.lights = ⟨.dark, .blink, .dark, false⟩ ∧ (scanning user (.lockTiming 1) []).lights = ⟨.steady, .blink, .dark, false⟩
    ∧ (scanning unlocked (.adminPrefix none 1) []).lights = ⟨.dark, .steady, .steady, false⟩
    ∧ (scanning unlocked (.purgeConfirm 1) []).lights = ⟨.blink, .steady, .blink, false⟩ := by decide +kernel

/-! ### Witnesses: supply, tamper, setup -/

/-- The unpowered and the dormant station, with a store. -/
def unpowered (t : Stored) : State :=
  { State.reset with
    supervisor := { State.reset.supervisor with supplyValid := false }, store := { State.reset.store with stored := t } }
def dormant (mark : Bool) : State :=
  { State.reset with
    supervisor := { State.reset.supervisor with dormant := true, attached := false, haltMark := mark }
    store := { State.reset.store with stored := locked.store.stored } }
def keyed : Stored := { locked.store.stored with attempt := ⟨1, 5, 2⟩ }
theorem test_witness_StartReadsPinsAndStore :
    (4400 ≤ inputs.attachMv ∧ (unpowered Stored.newPart).supervisor.supplyValid = false ∧ Stored.newPart.setup = none)
    ∧ (keyed.setup = some record ∧ record.locked = true ∧ strapConflict 0 inputs.kpd record = false
      ∧ keyed.journal.isOpen = false ∧ keyed.attempt.count < record.failureLimit ∧ record.members.getLsbD (1 : StationNo).val = true)
    ∧ (strapConflict 0 false record = true ∧ (unpowered keyed).supervisor.supplyValid = false)
    ∧ ((purging .erase).purge.journal.isOpen = true ∧ record.failureLimit ≤ 10)
    ∧ ((dormant true).supervisor.supplyValid = true ∧ (dormant true).supervisor.dormant = true
      ∧ (dormant true).supervisor.haltMark = true ∧ (dormant false).supervisor.haltMark = false
      ∧ inputs.kpd = true ∧ { inputs with kpd := false }.kpd = false) := by decide +kernel
theorem test_starts :
    (after (.powerUp inputs) (unpowered keyed)).phase = .assembling
    ∧ (after (.powerUp { inputs with kpd := false }) (unpowered keyed)).phase = .halted
    ∧ (after (.powerUp inputs) (unpowered { keyed with attempt := ⟨1, 5, 10⟩ })).phase = .purging
    ∧ (after (.powerUp inputs) (unpowered { keyed with journal := (purging .erase).purge.journal })).phase = .purging
    ∧ (after (.powerUp inputs) (unpowered Stored.newPart)).phase = .uncommissioned
    ∧ (after (.wake .line inputs) (dormant true)).phase = .halted
    ∧ (after (.wake (.key [.enter]) inputs) (dormant false)).scanner.key = .settling .enter 20000
    ∧ (after (.wake (.key [.enter]) { inputs with kpd := false }) (dormant false)).supervisor.dormant = true := by decide +kernel
theorem test_the_start_roll :
    let halted := after (.powerUp { inputs with kpd := false }) (unpowered keyed)
    let assembling := after (.powerUp inputs) (unpowered keyed)
    let limit := after (.powerUp inputs) (unpowered { keyed with attempt := ⟨1, 5, 10⟩ })
    halted.line.tx = [⟨.roll, false, 0, halted.rollPayload, true, 0⟩]
    ∧ assembling.line.tx = [⟨.roll, false, 0, assembling.rollPayload, true, 0⟩]
    ∧ limit.line.tx = [⟨.purge, false, 0, [0, 0, 2], true, 0⟩, ⟨.roll, false, 0, limit.rollPayload, true, 0⟩] := by
  decide +kernel
theorem test_a_drive_of_one_completes_at_its_start :
    let one := { keyed with setup := some { record with members := 1 }, slots := slots, blankKey := some 3 }
    let t := after (.powerUp inputs) (unpowered one)
    (strapConflict 0 true { record with members := 1 } = false ∧ one.journal.isOpen = false ∧ one.attempt.count < 10
      ∧ ∀ n : StationNo, (1 : Byte).getLsbD n.val = true → n = 0)
    ∧ t.phase = .locked ∧ t.slotTable.blankKey = none ∧ (t.slotAt 2).staged = none ∧ t.roster.window = none
    ∧ t.line.tx.map (fun f => (f.kind, byteAt f.payload 8)) = [(.roll, 0x20)]
    ∧ (after (.powerUp inputs) (unpowered { one with slots := Vector.replicate 6 Slot.cleared })).phase = .blank := by
  decide +kernel

/-- A locked station on its cell, its line silent for 10 s. -/
def silent : State :=
  { locked with clock := 20000000, supervisor := { locked.supervisor with attached := false } }
theorem test_witness_StoppedBlocksKeepTheStore :
    let w := writes locked .supervisor (.tamper true)
    let low := locked.setSupervisor { locked.supervisor with band := .cutoff }
    (w.supervisor.supplyValid = true ∧ w.store.inFlight = some ⟨.supervisor, .tamper true, 1⟩)
    ∧ (silent.awake = true ∧ silent.supervisor.attached = false ∧ silent.supervisor.band ≠ .cutoff
      ∧ bandAfter silent.supervisor.band [2999, 2999, 2999] = .cutoff)
    ∧ (low.awake = true ∧ low.supervisor.attached = true ∧ low.supervisor.band = .cutoff)
    ∧ (silent.maySleep = true) ∧ (after (.dormancyEntry false false) silent).supervisor.dormant = true := by decide +kernel
theorem test_witness_StoppedBlocksKeepTheStore_asleep :
    let d := dormant false
    let low : StartInputs := { inputs with attachMv := 4399, cellMv := 2999 }
    (d.supervisor.supplyValid = true ∧ d.supervisor.dormant = true ∧ d.supervisor.attached = false ∧ d.store.inFlight = none)
    ∧ (low.attachMv < 4400 ∧ low.cellMv < 3000 ∧ low.kpd = true)
    ∧ (after (.cellBandChange [3000, 2999, 2999, 2999] false) d).supervisor.supplyValid = false
    ∧ after (.cellBandChange [2999, 2999, 3000] false) d = d
    ∧ (after (.wake .line low) d).supervisor.supplyValid = false
    ∧ after (.powerUp low) (unpowered keyed) = unpowered keyed := by decide +kernel
theorem test_outputs_of_a_dormant_station :
    (after (.dormancyEntry false false) silent).outputs true false 7
      = some ⟨true, false, false, false, (false, false, false), false, true, 0xFF⟩ := by decide +kernel
theorem test_a_dominant_line_and_a_key_keep_it_awake :
    (silent.setLine { silent.line with inReset := true }).maySleep = false
    ∧ (pressing silent (.settling .lock 20020000)).maySleep = false
    ∧ (after (.dormancyEntry true false) silent).supervisor.dormant = false
    ∧ (after (.dormancyEntry false false) (pressing silent .blocked)).supervisor.dormant = false
    ∧ (after (.detach false 4199) (locked.setSupervisor { locked.supervisor with band := .cutoff })).supervisor.supplyValid = false := by
  decide +kernel

theorem test_witness_SensesAreTaken :
    (silent.awake = true ∧ silent.erasing = false ∧ silent.supervisor.attached = false)
    ∧ (locked.awake = true ∧ locked.erasing = false ∧ locked.supervisor.attached = true ∧ locked.supervisor.band ≠ .cutoff
      ∧ locked.phase ≠ .unlocked ∧ locked.phase ≠ .verifying)
    ∧ (bandAfter locked.supervisor.band [3449, 3300, 3000] = .low ∧ locked.supervisor.band = .good)
    ∧ ((bandOf 3449).level < locked.supervisor.band.level) := by decide +kernel
theorem test_the_attach_sense_keeps_its_state_between :
    (after (.attach 4400) silent).supervisor.attached = true ∧ (after (.attach 4399) silent).supervisor.attached = false
    ∧ (after (.detach false 4200) locked).supervisor.attached = true
    ∧ (after (.detach false 4199) locked).supervisor.attached = false := by decide +kernel
theorem test_bands_rise_after_a_second :
    bandAfter .floor (List.replicate 100 3450) = .good ∧ bandAfter .floor (List.replicate 99 3450) = .floor
    ∧ bandAfter .floor (3450 :: List.replicate 99 3300) = .low ∧ bandAfter .floor (List.replicate 99 3450 ++ [3299]) = .floor
    ∧ bandAfter .good [3500, 3299, 3000, 3300] = .low := by decide +kernel
theorem test_erase_is_suspended_and_resumed :
    let s (b : Band) (on held : Bool) (op : Option ChannelOp) :=
      let e := erasing op
      (e.setSupervisor { e.supervisor with attached := on, band := b }).setPurge { e.purge with nextBlock := 5, suspended := held }
    let off := after (.detach false 4199) (s .floor true false none)
    let fell := after (.cellBandChange [3299, 3299, 3299] false) (s .good false false (some (.eraseStep 5 1020000)))
    let on := after (.attach 4400) (s .floor false true none)
    let rose := after (.cellBandChange (List.replicate 100 3300) false) (s .floor false true none)
    ((s .floor true false none).erasing = true ∧ (s .floor true false none).purge.nextBlock < (s .floor true false none).blocks)
    ∧ (off.purge.suspended = true ∧ off.purge.journal.nextBlock = 5 ∧ off.gate.op = none)
    ∧ (fell.purge.suspended = true ∧ fell.purge.journal.nextBlock = 5 ∧ fell.gate.op = some (.eraseStep 5 1020000))
    ∧ (on.purge.suspended = false ∧ on.gate.op = some (.eraseStep 5 1020000))
    ∧ (rose.purge.suspended = false ∧ rose.gate.op = some (.eraseStep 5 1020000)) := by decide +kernel

theorem test_witness_TamperIsLatched :
    let p := locked.setSetup { locked.setup with held := some { record with tamperPolicy := .purge } }
    (locked.awake = true ∧ locked.supervisor.tamperAsserted = false ∧ locked.store.requests.supervisor = none
      ∧ locked.store.inFlight = none ∧ locked.store.deciding = false ∧ locked.purgesOnTamper = false
      ∧ locked.phase ≠ .unlocked ∧ locked.phase ≠ .verifying)
    ∧ (p.purgesOnTamper = true ∧ p.purge.journal.isOpen = false ∧ p.phase ≠ .uncommissioned ∧ p.phase ≠ .halted ∧ p.epoch ≠ 65535)
    ∧ (writes locked .supervisor (.tamper true)).writing .supervisor (.tamper true) 1 := by decide +kernel
theorem test_tamper_is_latched_only :
    let latched (s : State) :=
      let t := after .tamperAssertion s
      t.supervisor.tampered = true ∧ t.phaseCtl = s.phaseCtl ∧ t.purge = s.purge ∧ t.gate = s.gate ∧ t.keyPort = s.keyPort
    latched (purgingOnTamper (purging .erase)) ∧ latched (purgingOnTamper (station .halted .none))
      ∧ latched (purgingOnTamper (station .uncommissioned .none))
    ∧ latched (lastEpochOf locked) := by decide +kernel
theorem test_a_roll_carries_the_tamper_flag :
    let t := after .tamperAssertion locked
    let queued := locked.setLine { locked.line with tx := [rollFrame] }
    (locked.supervisor.tampered = false ∧ (∀ f ∈ locked.line.tx, f.kind ≠ .roll) ∧ locked.line.tx.length < 3)
    ∧ (t.line.tx.map (·.payload) = [t.rollPayload] ∧ bitAt t.rollPayload 0 3 = true ∧ t.roster.rollOwed = false)
    ∧ ((after .tamperAssertion queued).roster.rollOwed = true ∧ (after .tamperAssertion queued).line = queued.line)
    ∧ (after .tamperAssertion (tampered locked)).line = locked.line
    ∧ (after .tamperAssertion (station .halted .none)).line = (station .halted .none).line := by decide +kernel

theorem test_witness_UserMatchIsRefusedUnderTamper :
    let f := frame .entry 0 (entryPayload 1 2)
    let e := readEntry f.payload
    ((tampered locked).entryRefusal 0 e = none ∧ (tampered locked).checkToken e.token = some (1, theKey)
      ∧ (1 : SlotNo) ≠ 0 ∧ (tampered locked).showsTamper = true)
    ∧ ((holding (tampered locked) f).isFront f [] ∧ f.own = none ∧ (tampered locked).verifier.attempt = none)
    ∧ (locked.checkToken token = some (0, theKey) ∧ locked.showsTamper = false) := by decide +kernel

/-- A SETUP payload for members 0 to 3, controller 7, keypad station 0, B = 1,024 blocks of 64 pages. -/
def setupPayload (limit pages : Byte) : List Byte := [0x0F, 0x87, 0, limit, 3, 6, 0xC0] ++ bytes2 1023 ++ [pages]
/-- A new part strapped as the keypad station 0. -/
def newPart : State := State.reset.setRoster { State.reset.roster with kpd := true }
theorem test_witness_SetupIsCheckedAndHeld :
    let f := frame .setup 7 (setupPayload 4 0)
    let bad := frame .setup 7 (setupPayload 3 0)
    let unnamed := frame .setup 7 (setupPayload 4 3)
    let busy := newPart.setSetup { newPart.setup with state := .keying }
    let halted := holding (station .halted .none) f
    ((holding newPart f).isFront f [] ∧ newPart.phase = .uncommissioned ∧ newPart.setupBusy = false)
    ∧ ((readSetup f.payload).isSome = true ∧ ∀ r ∈ readSetup f.payload, r.valid = true ∧ strapConflict 0 true r = false)
    ∧ ((holding newPart bad).isFront bad [] ∧ ∀ r ∈ readSetup bad.payload, r.valid = false)
    ∧ ((holding newPart unnamed).isFront unnamed [] ∧ readSetup unnamed.payload = none)
    ∧ ((holding busy f).isFront f [] ∧ busy.setupBusy = true)
    ∧ (halted.isFront f [] ∧ halted.phase = .halted) ∧ (holding locked f).isFront f [] := by decide +kernel
theorem test_setup_checks :
    record.valid = true ∧ { record with members := 0, keypad := 0 }.valid = false ∧ { record with members := 0xFF }.valid = false
    ∧ { record with members := 0x7F }.valid = true ∧ { record with keypad := 4 }.valid = false ∧ { record with controller := some 3 }.valid = false
    ∧ { record with controller := none }.valid = true ∧ { record with failureLimit := 3 }.valid = false
    ∧ { record with failureLimit := 30 }.valid = true ∧ { record with failureLimit := 31 }.valid = false ∧ { record with retryLimit := 4 }.valid = false
    ∧ { record with minDigits := 5 }.valid = false ∧ { record with minDigits := 17 }.valid = false ∧ { record with blocks := 1023 }.valid = false
    ∧ { record with blocks := 65537 }.valid = false := by decide +kernel
theorem test_straps_and_fields_of_a_setup :
    (strapConflict 0 true record = false ∧ strapConflict 0 false record = true ∧ strapConflict 1 true record = true
      ∧ strapConflict 1 false record = false ∧ strapConflict 7 false record = true)
    ∧ readSetup (setupPayload 10 0) = some { record with locked := false, faultPolicy := .self }
    ∧ readSetup (setupPayload 10 2) = some { record with locked := false, faultPolicy := .self, pagesPerBlock := 256 }
    ∧ readSetup (setupPayload 10 3) = none := by decide +kernel

/-- A part with a stored, unlocked record. -/
def commissioned : State :=
  newPart.setSetup { newPart.setup with state := .stored, held := some { record with locked := false } }
theorem test_witness_SetupLockKeysTheStation :
    let f := frame .setupLock 7 []
    let keying := commissioned.setSetup { commissioned.setup with state := .keying, keyingLeft := [.attempt, .slot 0] }
    let last := commissioned.setSetup { commissioned.setup with state := .keying, keyingLeft := [.badBlocks] }
    ((holding newPart f).isFront f [] ∧ newPart.setup.state = .absent ∧ newPart.setupBusy = false)
    ∧ ((holding keying f).isFront f [] ∧ keying.setupBusy = true) ∧ ((holding locked f).isFront f [] ∧ locked.phase = .locked)
    ∧ ((holding commissioned f).isFront f [] ∧ commissioned.phase = .uncommissioned ∧ commissioned.setupBusy = false
      ∧ commissioned.setup.state ≠ .absent ∧ commissioned.setup.held = some { record with locked := false }
      ∧ commissioned.store.requests.setup = none ∧ commissioned.store.inFlight = none ∧ commissioned.store.deciding = false)
    ∧ ((writes keying .setup (.attempt ⟨1, 0, 0⟩)).writing .setup (.attempt ⟨1, 0, 0⟩) 1
      ∧ (Contents.attempt ⟨1, 0, 0⟩).record = .attempt ∧ keying.setup.keyingLeft = [.attempt, .slot 0])
    ∧ ((writes last .setup (.badBlocks [])).writing .setup (.badBlocks []) 1 ∧ (Contents.badBlocks []).record = .badBlocks
      ∧ last.setup.keyingLeft = [.badBlocks]) := by decide +kernel

theorem test_keying_goes_on_to_the_next_record :
    let keying := commissioned.setSetup { commissioned.setup with state := .keying, keyingLeft := [.attempt, .slot 0] }
    let last := commissioned.setSetup { commissioned.setup with state := .keying, keyingLeft := [.badBlocks] }
    (keying.store.requests = Requests.none)
    ∧ (after .keyingWriteComplete (writes keying .setup (.attempt ⟨1, 0, 0⟩))).store.inFlight = some ⟨.setup, .slot 0 Slot.cleared, 1⟩
    ∧ (after .keyingWriteComplete (writes last .setup (.badBlocks []))).store.inFlight = some ⟨.setup, .setup (some record), 1⟩ := by
  decide +kernel

theorem test_witness_SetupWritesComplete :
    let u := { record with locked := false }
    let k := commissioned.setSetup ⟨.keying, some record, [], 7⟩
    let s := writes k .setup (.setup (some record))
    ((writes commissioned .setup (.setup (some u))).writing .setup (.setup (some u)) 1 ∧ u.locked = false)
    ∧ (s.writing .setup (.setup (some record)) 1 ∧ record.locked = true ∧ s.setup.held = some record
      ∧ s.phase = .uncommissioned ∧ s.purge.journal.isOpen = false ∧ s.gate.channelFault = false ∧ s.verifier.attempt = none
      ∧ (1 : StationNo) ≠ s.sn ∧ record.members.getLsbD (1 : StationNo).val = true
      ∧ s.roster.entries[(1 : StationNo)].presence = .absent ∧ (∀ n : StationNo, s.roster.entries[n].presence ≠ .present)
      ∧ s.line.tx.length < 4)
    ∧ (after .setupLockComplete s).phase = .assembling
    ∧ (after .setupLockComplete s).line.tx.map (·.kind) = [.answer, .roll] := by decide +kernel
theorem test_the_answer_goes_before_the_first_roll :
    let k := commissioned.setSetup ⟨.keying, some record, [], 7⟩
    let t := after .setupLockComplete (writes k .setup (.setup (some record)))
    ((∀ f ∈ k.line.tx, f.kind ≠ .roll) ∧ k.line.tx.length < 3)
    ∧ t.line.tx = [⟨.answer, true, 7, [25, 0, 3] ++ bytes2 record.digest.toNat, true, 0⟩, ⟨.roll, false, 0, t.rollPayload, false, 0⟩] := by
  decide +kernel

theorem test_witness_QueryStatusAndClearAreServed :
    let q := frame .query 7 []
    let st := frame .status 7 (List.replicate 21 0)
    let c := frame .clear 7 [0xFF, 0]
    let c1 := frame .clear 1 [0xFF, 0]
    ((holding locked q).isFront q [] ∧ locked.setup.state = .locked)
    ∧ ((holding newPart q).isFront q [] ∧ newPart.setup.state ≠ .locked) ∧ (holding locked st).isFront st []
    ∧ ((holding (station .halted .none) c).isFront c [])
    ∧ ((holding locked c1).isFront c1 [] ∧ locked.roleOf 1 ≠ .controller ∧ locked.phase ≠ .halted ∧ locked.phase ≠ .uncommissioned)
    ∧ ((holding locked c).isFront c [] ∧ locked.roleOf 7 = .controller)
    ∧ ((holding newPart c1).isFront c1 [] ∧ newPart.phase = .uncommissioned) := by decide +kernel
theorem test_status_bytes :
    unlocked.statusPayload
      = [0xC7, 0xC0] ++ bytes2 record.digest.toNat ++ [0, 1, 0, 0, 0, 5, 2, 0, 0, 0x80, 0, 0, 0, 100, 0, 0, 0]
    ∧ (tampered heldUp).statusPayload
      = [0xC5, 0x40] ++ bytes2 record.digest.toNat ++ [0, 1, 0, 0, 0, 5, 2, 0, 1, 0x84, 0, 0x80, 0, 100, 0, 0, 0]
    ∧ newPart.unlockedStatus.length = 21 ∧ newPart.memberMissing = false := by decide +kernel

/-- HALTED with an OPEN journal: the gate's owner follows Table 7-2, the view `reportedOwner` R202 (log entry 63). -/
theorem test_owner_in_halted :
    let s := (station .halted .none).setPurge (purging .erase).purge
    s.purge.journal.isOpen = true ∧ s.ownerNow = .guard ∧ s.reportedOwner = .none
      ∧ unlocked.reportedOwner = .controller := by decide +kernel

end Sys2Proof.Tests
end

section
/-! PROOFS. The state after reset (Chapter 1, Chapter 10). -/

namespace Sys2Proof.Machine

/-- Settles O4: the values stand in `State.reset`. -/
theorem resetIsTheNewPart : Obligations.ResetIsTheNewPart := by
  unfold Obligations.ResetIsTheNewPart
  dsimp only
  refine ⟨?line, ?events, rfl, ?roster, ?phase, ?verifier, ?slots, ?keyPort, ?gate, ?scanner, ?supervisor, ?setup, ?store⟩
  case line => exact ⟨rfl, rfl, rfl, rfl, rfl⟩
  case events => exact ⟨rfl, rfl, rfl, rfl, rfl, rfl, rfl, rfl, rfl⟩
  case roster => exact ⟨rfl, rfl⟩
  case phase => exact ⟨rfl, rfl⟩
  case verifier => exact ⟨rfl, rfl⟩
  case slots => exact ⟨rfl, rfl⟩
  case keyPort => exact ⟨rfl, rfl⟩
  case gate => exact ⟨rfl, rfl, rfl, rfl, rfl⟩
  case scanner => exact ⟨rfl, rfl, rfl, rfl, rfl, rfl, rfl, rfl⟩
  case supervisor => exact ⟨rfl, rfl⟩
  case setup => exact ⟨rfl, rfl⟩
  case store => exact ⟨rfl, rfl, rfl, rfl⟩

/-! ### Reset meets the invariants -/

theorem reset_keyFenced : State.reset.keyFenced := by
  refine ⟨?_, ?_, ?_⟩ <;> decide

theorem reset_gateFollows : State.reset.gateFollows :=
  ⟨rfl, rfl, fun _ => rfl, fun h => by cases h⟩

theorem reset_queuesBounded : State.reset.queuesBounded := by
  decide

theorem reset_lockedIsCommissioned : State.reset.lockedIsCommissioned :=
  fun _ h => by cases h

/-- A table of disabled entries only has no two enabled entries, so none that share a block. -/
theorem disjointRanges_disabled : disjointRanges (Vector.replicate 8 RangeEntry.disabled) := by
  intro i j _ hi
  simp [RangeEntry.disabled] at hi

/-- Settles O10. -/
theorem resetMeetsTheInvariants : Obligations.ResetMeetsTheInvariants :=
  ⟨reset_keyFenced, reset_gateFollows, reset_queuesBounded, reset_lockedIsCommissioned, disjointRanges_disabled,
    disjointRanges_disabled⟩

end Sys2Proof.Machine
end

section
/-! PROOFS. What the commands of the guard line do (Chapter 1). -/

namespace Sys2Proof.Machine

/-! ### Events of an awake station -/

/-- An event of an awake station is its body, and then the ROLL that is owed. -/
theorem State.whileAwake_of_awake {s : State} (h : s.awake = true) (body : State → State) :
    s.whileAwake body = .next (body s).payRoll := by
  simp [State.whileAwake, State.done, h]

/-- An event has no effect on a station without supply or asleep. -/
theorem State.whileAwake_of_not_awake {s : State} (h : s.awake = false) (body : State → State) :
    s.whileAwake body = .next s := by
  simp [State.whileAwake, h]

/-! ### Line state outside a frame (R3, R5, R30) -/

theorem exec_startSettleEnd {s : State} {due : Micros} (h : s.awake = true) (hd : s.line.settle = some due) :
    exec .startSettleEnd s = .next ((s.setClock (max s.clock due)).setLine { s.line with settle := none }).payRoll := by
  simp [exec, execStartSettleEnd, State.whileAwake_of_awake h, hd, State.runTo]

theorem exec_lineIdleReached {s : State} (h : s.awake = true) (hs : s.line.state = .gap ∨ s.line.state = .lost)
    (hr : s.line.inReset = false) (hx : s.line.sendingReset = false) :
    exec .lineIdleReached s = .next (s.setLine { s.line with state := .idle }).payRoll := by
  simp [exec, execLineIdleReached, State.whileAwake_of_awake h, hs, hr, hx]

/-- What a dominant run does, by its length and the line state before it. -/
theorem exec_dominantRun {s : State} (h : s.awake = true) (bits : Nat) :
    exec (.dominantRunOutsideFrame bits) s
      = .next (if s.line.onLine.isSome = true then s
          else if s.line.inReset = true ∨ 40 ≤ bits then
            s.setLine { s.line with state := .gap, inReset := false, sendingReset := false, lastDominant := s.clock }
          else s.setLine { s.line with state := afterRun s.line.state bits, lastDominant := s.clock }).payRoll := by
  simp only [exec, execDominantRunOutsideFrame, State.whileAwake_of_awake h]

theorem afterRun_long (state : LineState) {bits : Nat} (h : 12 ≤ bits) : afterRun state bits = .gap := by
  cases state <;> simp [afterRun, h]

theorem afterRun_lost {state : LineState} {bits : Nat} (h : bits < 12) (hs : state ≠ .tracking ∨ 10 ≤ bits) :
    afterRun state bits = .lost := by
  have hn : ¬ 12 ≤ bits := by omega
  cases state <;> simp_all [afterRun]

theorem afterRun_tracking {bits : Nat} (h : bits < 10) : afterRun .tracking bits = .tracking := by
  have h10 : ¬ 10 ≤ bits := by omega
  have h12 : ¬ 12 ≤ bits := by omega
  simp [afterRun, h10, h12]

/-- Settles O11. -/
theorem lineMovesOutsideFrames : Obligations.LineMovesOutsideFrames := by
  refine ⟨fun s due h hd => exec_startSettleEnd h hd, fun s bits h => ⟨exec_lineIdleReached h, ?_⟩⟩
  rw [exec_dominantRun h bits]
  refine ⟨fun hl hr => ?_, fun hl hr h12 h40 => ?_, fun hl hr h12 hs => ?_, fun hl hr h10 ht => ?_, fun hl => ?_⟩
  · simp [hl, hr]
  · simp [hl, hr, Nat.not_le.mpr h40, afterRun_long _ h12]
  · have h40 : ¬ 40 ≤ bits := by omega
    simp [hl, hr, h40, afterRun_lost h12 hs]
  · have h40 : ¬ 40 ≤ bits := by omega
    simp [hl, hr, h40, ht, afterRun_tracking h10]
  · simp [hl]

/-! ### Own attempts (R6 to R11, R21, R22) -/

/-- The conditions under which the head frame starts (R6). -/
theorem State.mayStart_iff (s : State) :
    s.mayStart = true ↔
      s.line.state = .idle ∧ s.line.settle = none ∧ s.line.sendingReset = false ∧ s.line.inReset = false
        ∧ (∀ g ∈ s.line.rx, g.own = none) ∧ s.line.onLine = none := by
  simp [State.mayStart, State.ownReturned, and_assoc]

theorem exec_frameAttemptStart {s : State} {f : TxFrame} {rest : List TxFrame} (h : s.awake = true)
    (htx : s.line.tx = f :: rest) (rival : Option Byte) :
    exec (.frameAttemptStart rival) s = .next (if s.mayStart = true then s.startAttempt f rival else s).payRoll := by
  simp [exec, execFrameAttemptStart, State.whileAwake_of_awake h, htx]

/-- Character 0 is lost to a rival with the lower value, and only to one (R8). -/
theorem losesTo_iff (own : Byte) (rival : Option Byte) :
    losesTo own rival = true ↔ ∃ r, rival = some r ∧ r.toNat < own.toNat := by
  cases rival <;> simp [losesTo]

/-- Settles O12. -/
theorem headFrameStartsAndArbitrates : Obligations.HeadFrameStartsAndArbitrates := by
  intro s f rest rival h htx
  rw [exec_frameAttemptStart h htx]
  dsimp only
  rw [← s.mayStart_iff]
  refine ⟨fun hs hr => ?_, fun hs r hr hlt => ?_, fun hs => ?_⟩
  · have wins : losesTo (headChar0 f.kind s.sn) rival = false := by
      rw [← Bool.not_eq_true, losesTo_iff]
      rintro ⟨r, he, hlt⟩
      exact hr r he hlt
    simp [hs, State.startAttempt, wins]
  · have loses : losesTo (headChar0 f.kind s.sn) rival = true := (losesTo_iff _ _).mpr ⟨r, hr, hlt⟩
    simp [hs, State.startAttempt, loses]
  · simp [hs]

theorem exec_bitError {s : State} {f : TxFrame} {rest : List TxFrame} (h : s.isOnLine f rest) :
    exec .bitError s = .next (s.failAttempt f rest).payRoll := by
  obtain ⟨hawake, htx, hon, htrack⟩ := h
  simp [exec, execBitError, State.whileAwake_of_awake hawake, htx, State.attempting, hon, htrack]

theorem exec_attemptComplete {s : State} {f : TxFrame} {rest : List TxFrame} (h : s.isOnLine f rest) (slots : Byte) :
    exec (.attemptComplete slots) s = .next (s.finishAttempt f rest slots).payRoll := by
  obtain ⟨hawake, htx, hon, htrack⟩ := h
  simp [exec, execAttemptComplete, State.whileAwake_of_awake hawake, htx, State.attempting, hon, htrack]

/-- Attempts are left for a frame that is no ROLL and has made fewer than the retry limit allows (R21, R22). -/
theorem State.attemptsLeft_iff (s : State) (f : TxFrame) :
    s.attemptsLeft f = true ↔ f.kind ≠ .roll ∧ f.attempt < s.retryLimit := by
  simp [State.attemptsLeft]

theorem State.attemptsLeft_eq_false {s : State} {f : TxFrame} (h : f.kind = .roll ∨ s.retryLimit ≤ f.attempt) :
    s.attemptsLeft f = false := by
  rw [← Bool.not_eq_true, State.attemptsLeft_iff]
  rintro ⟨hk, ha⟩
  rcases h with h | h
  · exact hk h
  · omega

/-- An update of the line leaves the retry limit, and so the attempts left, as they are. -/
@[simp] theorem State.attemptsLeft_setLine (s : State) (l : LineInterface) (f : TxFrame) :
    (s.setLine l).attemptsLeft f = s.attemptsLeft f := rfl

theorem State.failAttempt_retries {s : State} {f : TxFrame} {rest : List TxFrame} (h : s.attemptsLeft f = true) :
    s.failAttempt f rest
      = s.setLine
          { s.line with
            state := .gap, onLine := none, lastDominant := s.clock
            tx := urgentFirst ({ f with attempt := f.attempt + 1 } :: rest) } := by
  simp [State.failAttempt, State.endAttempt, h, State.retryHead]

theorem State.failAttempt_drops {s : State} {f : TxFrame} {rest : List TxFrame} (h : s.attemptsLeft f = false) :
    s.failAttempt f rest
      = (s.setLine
          { s.line with
            state := .gap, onLine := none, lastDominant := s.clock, txDropped := true, tx := rest }).returnOwn f .dropped := by
  simp [State.failAttempt, State.endAttempt, h, State.releaseHead]

/-- A station in the required set of an attempt is missing when its slot of the receipt character stayed recessive (R10, R11). -/
theorem State.mem_missing {s : State} {f : TxFrame} {slots : Byte} {n : StationNo} :
    n ∈ s.missing f slots ↔ n ∈ s.requiredSet f ∧ slots.getLsbD (7 - n.val) = true := by
  simp [State.missing, driven]

/-- A directed frame misses nobody when its target drove its slot. -/
theorem State.missing_directed {s : State} {f : TxFrame} {slots : Byte} (hd : f.directed = true)
    (ht : slots.getLsbD (7 - f.target.val) = false) : s.missing f slots = [] := by
  simp [State.missing, driven, State.requiredSet, hd, ht]

/-- A broadcast frame misses nobody when every other PRESENT station drove its slot. -/
theorem State.missing_broadcast {s : State} {f : TxFrame} {slots : Byte} (hd : f.directed = false)
    (ht : ∀ n : StationNo, n ≠ s.sn → s.roster.entries[n].presence = .present → slots.getLsbD (7 - n.val) = false) :
    s.missing f slots = [] := by
  refine List.eq_nil_iff_forall_not_mem.mpr fun n hn => ?_
  obtain ⟨hreq, hbit⟩ := State.mem_missing.mp hn
  simp [State.requiredSet, hd, State.presentOthers] at hreq
  simp [ht n hreq.2.1 hreq.2.2] at hbit

/-- The line at the end of an attempt that reached its receipt character: GAP, with the own slot driven. -/
def State.receiptEnded (s : State) : State :=
  s.setLine { s.line with state := .gap, onLine := none, lastDominant := s.clock, receipt := true }

theorem State.finishAttempt_delivered {s : State} {f : TxFrame} {rest : List TxFrame} {slots : Byte}
    (h : s.missing f slots = []) :
    s.finishAttempt f rest slots = s.receiptEnded.releaseHead f rest .delivered := by
  simp [State.finishAttempt, h, State.endAttempt, State.driveOwnSlot, State.receiptEnded]

theorem State.finishAttempt_partial {s : State} {f : TxFrame} {rest : List TxFrame} {slots : Byte}
    (h : s.missing f slots ≠ []) :
    s.finishAttempt f rest slots = s.receiptEnded.partialAttempt f rest (s.missing f slots) := by
  simp [State.finishAttempt, h, State.endAttempt, State.driveOwnSlot, State.receiptEnded]

@[simp] theorem State.attemptsLeft_receiptEnded (s : State) (f : TxFrame) :
    s.receiptEnded.attemptsLeft f = s.attemptsLeft f := rfl

/-- Settles O13: each outcome by the attempts left, then by whether the frame is broadcast. -/
theorem attemptsEndByTheirOutcome : Obligations.AttemptsEndByTheirOutcome := by
  refine ⟨fun s f rest h => ?_, fun s f rest slots h => ?_, fun s f rest slots h hm => ?_⟩
  · rw [exec_bitError h]
    refine ⟨fun hk ha => ?_, fun hl hd => ?_, fun hl hd => ?_⟩
    · rw [State.failAttempt_retries ((s.attemptsLeft_iff f).mpr ⟨hk, ha⟩)]
    · rw [State.failAttempt_drops (State.attemptsLeft_eq_false hl)]
      simp [State.returnOwn, hd]
    · rw [State.failAttempt_drops (State.attemptsLeft_eq_false hl)]
      simp [State.returnOwn, hd]
  · rw [exec_attemptComplete h]
    refine ⟨fun hd ht => ?_, fun hd ht => ?_⟩
    · rw [State.finishAttempt_delivered (State.missing_directed hd ht)]
      simp [State.releaseHead, State.returnOwn, State.receiptEnded, hd]
    · rw [State.finishAttempt_delivered (State.missing_broadcast hd ht)]
      simp [State.releaseHead, State.returnOwn, State.receiptEnded, hd]
  · rw [exec_attemptComplete h, State.finishAttempt_partial hm]
    refine ⟨fun hk ha => ?_, fun hk hd => ?_⟩
    · have left : s.attemptsLeft f = true := (s.attemptsLeft_iff f).mpr ⟨hk, ha⟩
      simp [State.partialAttempt, left, State.retryHead, State.receiptEnded]
    · have left : s.attemptsLeft f = false := State.attemptsLeft_eq_false (.inl hk)
      simp [State.partialAttempt, left, hk, State.releaseHead, State.returnOwn, State.receiptEnded, hd]

/-! ### Missing stations become SILENT (R21, R34, R36) -/

/-- The entry of a station once another, or it itself, has been silenced. -/
theorem State.silence_entries (s : State) (m n : StationNo) :
    (s.silence m).roster.entries[n]
      = if n = m ∧ s.roster.entries[n].presence = .present then ⟨.silent, s.roster.entries[n].last⟩
        else s.roster.entries[n] := by
  by_cases hp : s.roster.entries[m].presence = .present
  · by_cases hn : n = m
    · subst hn
      simp_all [State.silence, State.setEntry]
    · have hv : m.val ≠ n.val := fun h => hn (Fin.ext h.symm)
      simp_all [State.silence, State.setEntry]
  · have hn : ¬ (n = m ∧ s.roster.entries[n].presence = .present) := by
      rintro ⟨rfl, h⟩
      exact hp h
    rw [if_neg hn]
    simp_all [State.silence]

/-- Of several missing stations each that was PRESENT becomes SILENT and keeps its last record; no other entry moves. -/
theorem State.foldl_silence_entries (l : List StationNo) (s : State) (n : StationNo) :
    (l.foldl State.silence s).roster.entries[n]
      = if n ∈ l ∧ s.roster.entries[n].presence = .present then ⟨.silent, s.roster.entries[n].last⟩
        else s.roster.entries[n] := by
  induction l generalizing s with
  | nil => simp
  | cons m l ih =>
    rw [List.foldl_cons, ih, State.silence_entries]
    by_cases hm : n = m
    · subst hm
      by_cases hp : s.roster.entries[n].presence = .present <;> simp_all
    · simp [hm]

theorem State.foldl_silence_phaseCtl (l : List StationNo) (s : State) :
    (l.foldl State.silence s).phaseCtl = s.phaseCtl := by
  induction l generalizing s with
  | nil => rfl
  | cons m l ih => rw [List.foldl_cons, ih]; simp

theorem State.markSilent_entries (s : State) (missing : List StationNo) (n : StationNo) :
    (s.markSilent missing).roster.entries[n]
      = if n ∈ missing ∧ s.roster.entries[n].presence = .present then ⟨.silent, s.roster.entries[n].last⟩
        else s.roster.entries[n] := by
  rw [← State.foldl_silence_entries]
  unfold State.markSilent
  dsimp only
  split <;> simp

/-- LOCKED goes on to INCOMPLETE when a PRESENT member is among the missing stations (R36). -/
theorem State.markSilent_phase (s : State) (missing : List StationNo) :
    (s.markSilent missing).phase
      = if s.phase = .locked ∧ ∃ n ∈ missing, s.isMember n = true ∧ s.roster.entries[n].presence = .present then .incomplete
        else s.phase := by
  have hany : (missing.any fun n => s.isMember n && s.roster.entries[n].presence = .present) = true
      ↔ ∃ n ∈ missing, s.isMember n = true ∧ s.roster.entries[n].presence = .present := by
    simp
  unfold State.markSilent
  dsimp only
  split
  · next h => simp only [State.phase, State.presenceMoved_phase, State.foldl_silence_phaseCtl, hany.mp h, true_and, and_true]
  · next h => simp only [State.phase, State.foldl_silence_phaseCtl, mt hany.mpr h, and_false, if_false]

/-- The station as the last partial attempt leaves it, before the roster unit learns of the missing stations. -/
def State.partialReleased (s : State) (f : TxFrame) (rest : List TxFrame) : State :=
  (s.receiptEnded.setLine { s.receiptEnded.line with txPartial := true }).releaseHead f rest .partially

theorem State.partialReleased_eq (s : State) (f : TxFrame) (rest : List TxFrame) :
    s.partialReleased f rest
      = s.setLine
          { s.line with
            state := .gap, onLine := none, lastDominant := s.clock, receipt := true, txPartial := true, tx := rest
            rx := if f.directed = true then s.line.rx
              else s.line.rx ++ [⟨f.kind, s.sn, false, f.payload, some .partially⟩] } := by
  cases hd : f.directed <;> simp [State.partialReleased, State.releaseHead, State.returnOwn, State.receiptEnded, hd]

theorem State.partialAttempt_last {s : State} {f : TxFrame} {rest : List TxFrame} {missing : List StationNo}
    (hk : f.kind ≠ .roll) (ha : s.retryLimit ≤ f.attempt) :
    s.receiptEnded.partialAttempt f rest missing = (s.partialReleased f rest).markSilent missing := by
  simp [State.partialAttempt, State.attemptsLeft_eq_false (.inr ha), hk, State.partialReleased]

/-- With no ROLL owed the end of an event adds nothing. -/
theorem State.payRoll_of_not_owed {s : State} (h : s.roster.rollOwed = false) : s.payRoll = s := by
  simp [State.payRoll, h]

/-- Settles O14. -/
theorem lastPartialAttemptSilences : Obligations.LastPartialAttemptSilences := by
  intro s f rest slots h hm hk ha
  refine ⟨_, exec_attemptComplete h slots, ?_⟩
  rw [State.finishAttempt_partial hm, State.partialAttempt_last hk ha]
  have hmember : (s.partialReleased f rest).isMember = s.isMember := by
    rw [State.partialReleased_eq]
    rfl
  refine ⟨?_, fun howed => ?_, fun n hn hp => ?_, fun n hn => ?_, ?_, ?_, ?_⟩
  · simp [State.partialReleased_eq]
  · rw [State.payRoll_of_not_owed (by simp [State.partialReleased_eq, howed])]
    simp [State.partialReleased_eq]
  · simp only [State.payRoll_frame, State.markSilent_entries]
    simp only [State.partialReleased_eq, State.setLine_roster]
    rw [if_pos ⟨hn, hp⟩]
  · simp only [State.payRoll_frame, State.markSilent_entries]
    simp only [State.partialReleased_eq, State.setLine_roster]
    rw [if_neg]
    rintro ⟨hmem, hp⟩
    rcases hn with hn | hn
    · exact hn hmem
    · exact hn hp
  · have hpay : (((s.partialReleased f rest).markSilent (s.missing f slots)).payRoll).phase
        = ((s.partialReleased f rest).markSilent (s.missing f slots)).phase := by simp
    rw [hpay, State.markSilent_phase, hmember]
    simp [State.partialReleased_eq]
  · simp [State.keepsRecords, State.partialReleased_eq]
  · simp [State.partialReleased_eq]

/-! ### Frames received (R12 to R16) -/

theorem exec_frameReceive {s : State} (h : s.awake = true) (f : LineFrame) :
    exec (.frameReceive f) s = .next (s.passFrame f).payRoll := by
  simp only [exec, execFrameReceive, State.whileAwake_of_awake h]

/-- The station with the passing of a frame noted: the line was dominant just now, and no receipt is driven yet. -/
def State.frameSeen (s : State) : State := s.setLine { s.line with lastDominant := s.clock, receipt := false }

theorem State.canFollow_iff {s : State} (hon : s.line.onLine = none) :
    s.canFollow = true ↔ s.line.state = .idle ∨ s.line.state = .tracking := by
  simp [State.canFollow, hon]

theorem State.passFrame_follows {s : State} (hon : s.line.onLine = none)
    (hf : s.line.state = .idle ∨ s.line.state = .tracking) (f : LineFrame) :
    s.passFrame f = s.frameSeen.followFrame f := by
  simp [State.passFrame, hon, (State.canFollow_iff hon).mpr hf, State.frameSeen]

theorem State.passFrame_passes {s : State} (hon : s.line.onLine = none)
    (hf : ¬ (s.line.state = .idle ∨ s.line.state = .tracking)) (f : LineFrame) :
    s.passFrame f = s.frameSeen.setLine { s.frameSeen.line with state := stateAfter f.framing } := by
  simp [State.passFrame, hon, mt (State.canFollow_iff hon).mp hf, State.frameSeen]

theorem State.followFrame_odd {s : State} {f : LineFrame} (hr : headerRead f.framing = true)
    (ho : oddHeader f.head0 f.head1 f.head2 = true) :
    s.followFrame f = s.setLine { s.line with state := stateAfter f.framing, headerParity := true } := by
  simp [State.followFrame, hr, ho]

theorem State.followFrame_failed {s : State} {f : LineFrame} (hc : f.framing ≠ .correct)
    (ho : ¬ (headerRead f.framing = true ∧ oddHeader f.head0 f.head1 f.head2 = true)) :
    s.followFrame f = s.setLine { s.line with state := stateAfter f.framing } := by
  simp [State.followFrame, hc, ho]

/-- A frame read without a framing failure, whose header parity is even, has the length of its header and goes on to the checks. -/
theorem State.followFrame_correct {s : State} {f : LineFrame} (hc : f.framing = .correct) (hw : f.wellFormed = true)
    (ho : oddHeader f.head0 f.head1 f.head2 = false) :
    s.followFrame f = (s.setLine { s.line with state := .gap }).checkFrame f := by
  have hl : f.payload.length = f.lengthField := by
    have hp : f.oddParity = false := ho
    simpa [LineFrame.wellFormed, hc, hp] using hw
  simp [State.followFrame, hc, headerRead, ho, hl]

/-- Settles O15. -/
theorem oddHeaderLosesTheLine : Obligations.OddHeaderLosesTheLine := by
  intro s f h hon hf hodd
  rw [exec_frameReceive h, State.passFrame_follows hon hf]
  refine ⟨fun hframing => ?_, fun hframing => ⟨_, rfl, ?_⟩⟩
  · have hr : headerRead f.framing = true := by rcases hframing with hc | hc <;> simp [hc, headerRead]
    have ha : stateAfter f.framing = .lost := by rcases hframing with hc | hc <;> simp [hc, stateAfter]
    simp [State.followFrame_odd hr hodd, ha, State.frameSeen]
  · simp [State.followFrame_odd (by simp [hframing, headerRead]) hodd, State.frameSeen]

/-! #### The checks after the header (R14, R15) -/

theorem State.checkFrame_unknownKind {s : State} {f : LineFrame} (hk : Kind.ofCode (f.head0.toNat / 8) = none) :
    s.checkFrame f = s.latchCheckFail := by
  simp [State.checkFrame, kindCodeOf, hk]

theorem State.checkFrame_failed {s : State} {f : LineFrame} {k : Kind} (hk : Kind.ofCode (f.head0.toNat / 8) = some k)
    (hc : ¬ (f.payload.length ∈ k.lengths ∧ f.check = checkOf f.head0 f.head1 f.head2 f.payload)) :
    s.checkFrame f = s.latchCheckFail := by
  simp [State.checkFrame, kindCodeOf, hk, hc]

theorem State.checkFrame_passed {s : State} {f : LineFrame} {k : Kind} (hk : Kind.ofCode (f.head0.toNat / 8) = some k)
    (hl : f.payload.length ∈ k.lengths) (hc : f.check = checkOf f.head0 f.head1 f.head2 f.payload) :
    s.checkFrame f = s.addressFrame f k := by
  simp [State.checkFrame, kindCodeOf, hk, hl, ← hc]

theorem State.addressFrame_elsewhere {s : State} {f : LineFrame} {k : Kind} (hd : directedOf f = true)
    (ht : targetOf f ≠ s.sn) : s.addressFrame f k = s := by
  simp [State.addressFrame, hd, ht]

theorem State.addressFrame_ownNumber {s : State} {f : LineFrame} {k : Kind}
    (hd : ¬ (directedOf f = true ∧ targetOf f ≠ s.sn)) (hs : senderOf f = s.sn) :
    s.addressFrame f k = s.latchCheckFail := by
  rw [State.addressFrame, if_neg hd, if_pos hs]

theorem State.addressFrame_accepted {s : State} {f : LineFrame} {k : Kind}
    (hd : ¬ (directedOf f = true ∧ targetOf f ≠ s.sn)) (hs : senderOf f ≠ s.sn) :
    s.addressFrame f k = s.acceptFrame f k := by
  rw [State.addressFrame, if_neg hd, if_neg hs]

/-- The station as the checks after the header find it: the frame seen, and the line in GAP. -/
def State.frameRead (s : State) : State :=
  s.setLine { s.line with state := .gap, receipt := false, lastDominant := s.clock }

theorem exec_frameReceive_checked {s : State} {f : LineFrame} (h : s.awake = true) (hon : s.line.onLine = none)
    (hf : s.line.state = .idle ∨ s.line.state = .tracking) (hc : f.framing = .correct) (hw : f.wellFormed = true)
    (ho : oddHeader f.head0 f.head1 f.head2 = false) :
    exec (.frameReceive f) s = .next (s.frameRead.checkFrame f).payRoll := by
  rw [exec_frameReceive h, State.passFrame_follows hon hf, State.followFrame_correct hc hw ho]
  rfl

/-- Settles O16. -/
theorem refusedFramesGetNoReceipt : Obligations.RefusedFramesGetNoReceipt := by
  refine ⟨fun s f h hon => ?_, fun s f h hon hf hc hw ho => ?_⟩
  · rw [exec_frameReceive h]
    refine ⟨fun after hf hm ho => ?_, fun hf hm ho => ?_, fun after hf hm ho => ?_, fun after hf hm => ?_, fun hf hm => ?_⟩
    · rw [State.passFrame_follows hon hf, State.followFrame_failed (by simp [hm]) (by simpa [hm, headerRead] using ho)]
      simp [hm, stateAfter, State.frameSeen]
    · rw [State.passFrame_follows hon hf, State.followFrame_odd (by simp [hm, headerRead]) ho]
      simp [hm, stateAfter, State.frameSeen]
    · rw [State.passFrame_follows hon hf, State.followFrame_failed (by simp [hm]) (by simpa [hm, headerRead] using ho)]
      simp [hm, stateAfter, State.frameSeen]
    · rw [State.passFrame_passes hon hf]
      simp [hm, stateAfter, State.frameSeen]
    · have ha : stateAfter f.framing = .lost := by
        cases hframing : f.framing with
        | correct => rfl
        | abandonMark after => exact absurd hframing (hm after)
        | broken after => rfl
      rw [State.passFrame_passes hon hf]
      simp [ha, State.frameSeen]
  · rw [exec_frameReceive_checked h hon hf hc hw ho]
    refine ⟨fun hk => ?_, fun k hk hl => ?_, fun k hk hl hv => ?_, fun k hk hl hv hd ht => ?_, fun k hk hl hv hd hs => ?_⟩
    · rw [State.checkFrame_unknownKind hk]
      rfl
    · rw [State.checkFrame_failed hk fun hboth => hl hboth.1]
      rfl
    · rw [State.checkFrame_failed hk fun hboth => hv hboth.2]
      rfl
    · rw [State.checkFrame_passed hk hl hv, State.addressFrame_elsewhere (s := s.frameRead) hd ht]
      rfl
    · rw [State.checkFrame_passed hk hl hv, State.addressFrame_ownNumber (s := s.frameRead) hd hs]
      rfl

/-- The repeat memory knows a frame: it is no first attempt, and its sender's entry for the class shows kind and check (R16). -/
def State.knows (s : State) (f : LineFrame) (k : Kind) : Prop :=
  1 ≤ attemptOf f ∧ s.repeatEntry k.urgent (senderOf f) = some ⟨k, f.check⟩

theorem State.acceptFrame_repeat {s : State} {f : LineFrame} {k : Kind} (hk : s.knows f k) :
    s.acceptFrame f k = s.setLine { s.line with receipt := true } :=
  if_pos hk

theorem State.acceptFrame_new {s : State} {f : LineFrame} {k : Kind} (hk : ¬ s.knows f k) (hp : s.placesTaken < 4) :
    s.acceptFrame f k
      = s.setLine
          { s.line.remember k.urgent (senderOf f) ⟨k, f.check⟩ with
            rx := s.line.rx ++ [⟨k, senderOf f, directedOf f, f.payload, none⟩], receipt := true } :=
  (if_neg hk).trans (if_pos hp)

theorem State.acceptFrame_missed {s : State} {f : LineFrame} {k : Kind} (hk : ¬ s.knows f k) (hp : 4 ≤ s.placesTaken) :
    s.acceptFrame f k = s.setLine { s.line with rxMissed := true } :=
  (if_neg hk).trans (if_neg (Nat.not_lt.mpr hp))

/-- Settles O17: the last check, by the repeat memory and the places of the receive queue. -/
theorem acceptedFrameIsQueuedOrRepeat : Obligations.AcceptedFrameIsQueuedOrRepeat := by
  intro s f k h hon hf hc hw ho hk hl hv ht hs
  have hd : ¬ (directedOf f = true ∧ targetOf f ≠ s.sn) := fun hboth => hboth.2 (ht hboth.1)
  rw [exec_frameReceive_checked h hon hf hc hw ho, State.checkFrame_passed hk hl hv,
    State.addressFrame_accepted (s := s.frameRead) hd hs]
  refine ⟨fun hknown => ?_, fun hnew hfree => ?_, fun hnew hfull => ?_⟩
  · rw [State.acceptFrame_repeat (s := s.frameRead) hknown]
    rfl
  · rw [State.acceptFrame_new (s := s.frameRead) hnew hfree]
    rfl
  · rw [State.acceptFrame_missed (s := s.frameRead) hnew hfull]
    rfl

end Sys2Proof.Machine
end

section
/-! PROOFS. Offers to the transmit queue, and the ROLL that is owed (R4, R18 to R20, R37). -/

namespace Sys2Proof.Machine

theorem Kind.urgent_iff (k : Kind) : k.urgent = true ↔ k = .purge ∨ k = .lock := by
  cases k <;> simp [Kind.urgent]

/-- A frame keeps its kind when it is formed. -/
@[simp] theorem State.formFrame_kind (s : State) (k : Kind) (target : Option StationNo) (payload : List Byte) :
    (s.formFrame k target payload).kind = k := rfl

/-! ### What an offer does to the queue, by the places free and the urgency of the frame -/

theorem State.offer_taken {s : State} {k : Kind} {target : Option StationNo} {payload : List Byte}
    (hl : s.line.tx.length < 4) : s.offer k target payload = s.takeOffer (s.formFrame k target payload) :=
  if_pos hl

theorem State.offer_full {s : State} {k : Kind} {target : Option StationNo} {payload : List Byte}
    (hl : 4 ≤ s.line.tx.length) : s.offer k target payload = s.offerToFull (s.formFrame k target payload) :=
  if_neg (Nat.not_lt.mpr hl)

/-- A frame that is not urgent joins the tail (R20). -/
theorem State.takeOffer_other {s : State} {f : TxFrame} (hu : f.kind.urgent = false) :
    s.takeOffer f = s.setLine { s.line with altOther := !s.line.altOther, tx := s.line.tx ++ [f] } := by
  simp [State.takeOffer, LineInterface.flipAlternation, hu]

/-- An urgent frame goes behind the frame on the line and the urgent frames after it (R20). -/
theorem State.takeOffer_urgent {s : State} {f : TxFrame} (hu : f.kind.urgent = true) {head ahead behind : List TxFrame}
    (htx : s.line.tx = head ++ ahead ++ behind)
    (hh : head = s.line.tx.take (if s.line.onLine.isSome = true then 1 else 0))
    (ha : ∀ g ∈ ahead, g.kind.urgent = true) (hb : ∀ g, behind.head? = some g → g.kind.urgent = false) :
    s.takeOffer f
      = s.setLine { s.line with altUrgent := !s.line.altUrgent, tx := head ++ ahead ++ f :: behind } := by
  rw [htx] at hh
  simp [State.takeOffer, LineInterface.flipAlternation, hu, htx, ← placeUrgent_split _ head ahead behind f hh ha hb]

/-- A full queue refuses a frame that is not urgent (R19). -/
theorem State.offerToFull_other {s : State} {f : TxFrame} (hu : f.kind.urgent = false) :
    s.offerToFull f = s.dropFrame f := by
  simp [State.offerToFull, hu]

/-- A full queue whose youngest frame is urgent refuses an urgent frame too (R20). -/
theorem State.offerToFull_refused {s : State} {f g : TxFrame} {left : List TxFrame} (hu : f.kind.urgent = true)
    (htx : s.line.tx = left ++ [g]) (hg : g.kind.urgent = true) : s.offerToFull f = s.dropFrame f := by
  simp [State.offerToFull, hu, displaceable, htx, hg]

/-- In a full queue an urgent frame displaces the youngest frame, when that is not urgent (R20). -/
theorem State.offerToFull_displaces {s : State} {f g : TxFrame} {left : List TxFrame} (hu : f.kind.urgent = true)
    (hl : 4 ≤ s.line.tx.length) (htx : s.line.tx = left ++ [g]) (hg : g.kind.urgent = false) :
    s.offerToFull f = ((s.setLine { s.line with tx := left }).dropFrame g).takeOffer f := by
  have hn : left ≠ [] := by
    rintro rfl
    simp [htx] at hl
  simp [State.offerToFull, hu, displaceable, htx, hg, hn]

/-- A dropped frame latches TX_DROPPED, and returns DROPPED when it is broadcast (R19, R20). -/
theorem State.dropFrame_eq (s : State) (g : TxFrame) :
    s.dropFrame g
      = s.setLine
          { s.line with
            txDropped := true
            rx := if g.directed = true then s.line.rx
              else s.line.rx ++ [⟨g.kind, s.sn, false, g.payload, some .dropped⟩] } := by
  cases hd : g.directed <;> simp [State.dropFrame, State.returnOwn, hd]

/-! ### The owed ROLL -/

theorem State.ownRollQueued_iff (s : State) : s.ownRollQueued = true ↔ ∃ f ∈ s.line.tx, f.kind = .roll := by
  simp [State.ownRollQueued]

theorem State.payRoll_stopped {s : State} (ho : s.roster.rollOwed = true)
    (hp : s.phase = .uncommissioned ∨ s.phase = .halted) :
    s.payRoll = s.setRoster { s.roster with rollOwed := false } := by
  rw [State.payRoll, if_neg (by simp [ho]), if_pos hp]

theorem State.payRoll_queued {s : State} (ho : s.roster.rollOwed = true)
    (hp : ¬ (s.phase = .uncommissioned ∨ s.phase = .halted)) (hq : s.ownRollQueued = true) : s.payRoll = s := by
  rw [State.payRoll, if_neg (by simp [ho]), if_neg hp, if_pos hq]

theorem State.payRoll_offers {s : State} (ho : s.roster.rollOwed = true)
    (hp : ¬ (s.phase = .uncommissioned ∨ s.phase = .halted)) (hq : s.ownRollQueued = false) :
    s.payRoll = (s.setRoster { s.roster with rollOwed := false }).offer .roll none s.rollPayload := by
  have hq' : (s.setRoster { s.roster with rollOwed := false }).ownRollQueued = false := hq
  rw [State.payRoll, if_neg (by simp [ho]), if_neg hp, if_neg (by simp [hq]), State.offerRoll, if_neg (by simp [hq'])]
  rfl

/-- Settles O3: an offer by the places free and the urgency of the frame, then the owed ROLL by phase and queue. -/
theorem owedRollIsPaid : Obligations.OwedRollIsPaid := by
  refine ⟨Kind.urgent_iff, fun s kind target payload => ⟨fun hl hu => ?_, fun hl hu => ?_, fun hl hu => ?_, ?_⟩, fun s => ?_⟩
  · rw [State.offer_taken hl, State.takeOffer_other hu]
    simp [hu, State.formFrame]
  · intro head ahead behind htx hh ha hb
    rw [State.offer_taken hl, State.takeOffer_urgent hu htx hh ha hb]
    simp [hu, State.formFrame]
  · rw [State.offer_full hl, State.offerToFull_other hu, State.dropFrame_eq]
    simp [hu, State.formFrame]
  · intro left g hl hu htx
    refine ⟨fun hg => ?_, fun hg head ahead behind htx' hh ha hb => ?_⟩
    · rw [State.offer_full hl, State.offerToFull_refused hu htx hg, State.dropFrame_eq]
      simp [hu, State.formFrame]
    · rw [State.offer_full hl, State.offerToFull_displaces hu hl htx hg, State.dropFrame_eq]
      refine (State.takeOffer_urgent (f := s.formFrame kind target payload) hu htx' hh ha hb).trans ?_
      simp [hu, State.formFrame]
  · refine ⟨State.payRoll_of_not_owed, State.payRoll_stopped, fun ho hu hh hq => ?_, fun ho hu hh hq => ?_⟩
    · exact State.payRoll_queued ho (by simp [hu, hh]) (s.ownRollQueued_iff.mpr hq)
    · refine State.payRoll_offers ho (by simp [hu, hh]) ?_
      rw [← Bool.not_eq_true, State.ownRollQueued_iff]
      rintro ⟨f, hf, hk⟩
      exact hq f hf hk

end Sys2Proof.Machine
end

section
/-! PROOFS. A guard's ROLL as it is read back (R37, R210, Tables 11-11 and 11-12). -/

namespace Sys2Proof.Machine

/-! ### Fields of bytes -/

@[simp] theorem byte_toNat (n : Nat) : (byte n).toNat = n % 256 := by
  simp [byte]

theorem bit_le (b : Bool) : bit b ≤ 1 := by
  cases b <;> simp [bit]

/-- A field that begins at byte i is read from the list that begins there. -/
theorem u8_drop (p : List Byte) (i k : Nat) : u8 p (i + k) = u8 (p.drop i) k := by
  simp [u8, byteAt, List.getD]

theorem u16_drop (p : List Byte) (i k : Nat) : u16 p (i + k) = u16 (p.drop i) k := by
  rw [u16, u16, u8_drop, Nat.add_assoc, u8_drop]

theorem u16_bytes2 {n : Nat} (h : n < 65536) (rest : List Byte) : u16 (bytes2 n ++ rest) 0 = n := by
  simp [u16, u8, byteAt, bytes2]
  omega

theorem u32_bytes4 {n : Nat} (h : n < 4294967296) (rest : List Byte) : u32 (bytes4 n ++ rest) 0 = n := by
  simp [u32, u16, u8, byteAt, bytes4]
  omega

/-! ### Codes -/

theorem Phase.ofCode_code (p : Phase) : Phase.ofCode p.code = some p := by
  cases p <;> rfl

theorem Phase.code_le (p : Phase) : p.code ≤ 9 := by
  cases p <;> decide

theorem SlotState.ofCode_code (st : SlotState) : SlotState.ofCode st.code = some st := by
  cases st <;> rfl

theorem SlotState.code_le (st : SlotState) : st.code ≤ 2 := by
  cases st <;> decide

theorem StartCause.code_le (c : StartCause) : c.code ≤ 2 := by
  cases c <;> decide

theorem stageCode_le (stage : Option PurgeStage) : stageCode stage ≤ 4 := by
  rcases stage with _ | stage
  · decide
  · cases stage <;> decide

/-! ### A slot summary -/

theorem Summary.byte0_state (st : SlotState) (staged : Bool) :
    (byte (st.code * 64 + bit staged * 32)).toNat / 64 = st.code := by
  have hst := st.code_le
  have hb := bit_le staged
  rw [byte_toNat]
  omega

theorem Summary.byte0_staged (st : SlotState) (staged : Bool) :
    (byte (st.code * 64 + bit staged * 32)).getLsbD 5 = staged := by
  cases st <;> cases staged <;> rfl

/-- The uses count 0 stands for no uses; the others stand for themselves. -/
theorem uses_read {uses : Option Nat} (h : ∀ u, uses = some u → 1 ≤ u ∧ u ≤ 99) :
    (uses.getD 0 % 256 ≤ 99) ∧ (if uses.getD 0 % 256 = 0 then none else some (uses.getD 0 % 256)) = uses := by
  rcases uses with _ | u
  · simp
  · obtain ⟨hpos, hle⟩ := h u rfl
    have hmod : u % 256 = u := by omega
    have hne : u ≠ 0 := by omega
    simp [hmod, hle, hne]

/-- A summary is read back where its bytes stand. -/
theorem summaryAt_bytes {p rest : List Byte} {i : Nat} {m : Summary} (h : p.drop i = m.bytes ++ rest) (hg : m.gen < 65536)
    (hu : ∀ u, m.uses = some u → 1 ≤ u ∧ u ≤ 99) : summaryAt p i = some m := by
  obtain ⟨st, gen, staged, uses⟩ := m
  obtain ⟨hle, hread⟩ := uses_read (uses := uses) hu
  have hcons : p.drop i = byte (st.code * 64 + bit staged * 32) :: (bytes2 gen ++ (byte (uses.getD 0) :: rest)) := by
    rw [h]
    simp [Summary.bytes]
  have hfirst : byteAt p i = byte (st.code * 64 + bit staged * 32) := by
    simpa [byteAt, List.getD] using congrArg (List.getD · 0 0) hcons
  have hgen : u16 p (i + 1) = gen := by
    have htail : p.drop (i + 1) = bytes2 gen ++ (byte (uses.getD 0) :: rest) := by
      rw [← List.tail_drop, hcons, List.tail_cons]
    rw [← Nat.add_zero (i + 1), u16_drop, htail]
    exact u16_bytes2 hg _
  have huses : u8 p (i + 3) = uses.getD 0 % 256 := by
    rw [u8_drop, hcons]
    simp [bytes2, u8, byteAt]
  have hstate : u8 p i / 64 = st.code := by
    rw [u8, hfirst, Summary.byte0_state]
  have hstaged : bitAt p i 5 = staged := by
    rw [bitAt, hfirst, Summary.byte0_staged]
  simp only [summaryAt, hstate, SlotState.ofCode_code, huses, hgen, hstaged, hread]
  rw [if_neg (by omega)]

/-! ### The head of a ROLL -/

/-- Role, start cause, tamper flag and stage share byte 0 (Table 11-11). -/
theorem rollByte0_fields {role : Role} (hr : role = .guard ∨ role = .keypadGuard) (cause : StartCause) (tampered : Bool)
    (stage : Option PurgeStage) :
    let b := byte (role.code * 64 + cause.code * 16 + bit tampered * 8 + stageCode stage)
    Role.ofCode (b.toNat / 64) = role ∧ b.toNat / 16 % 4 ≠ 3 ∧ b.toNat % 8 ≤ 4 ∧ b.getLsbD 3 = tampered := by
  have hcause := cause.code_le
  have hstage := stageCode_le stage
  have hbit := bit_le tampered
  have hcode : role.code ≤ 1 := by rcases hr with rfl | rfl <;> decide
  have hrole : Role.ofCode role.code = role := by rcases hr with rfl | rfl <;> rfl
  have h64 : (role.code * 64 + cause.code * 16 + bit tampered * 8 + stageCode stage) % 256 / 64 = role.code := by omega
  intro b
  refine ⟨by rw [byte_toNat, h64, hrole], by rw [byte_toNat]; omega, by rw [byte_toNat]; omega, ?_⟩
  have hodd : (role.code * 64 + cause.code * 16 + bit tampered * 8 + stageCode stage) / 2 ^ 3 % 2 = bit tampered := by omega
  simp only [b, byte, BitVec.getLsbD_ofNat, Nat.testBit_eq_decide_div_mod_eq, hodd]
  cases tampered <;> rfl

/-- Phase and suspension share byte 8 (Table 11-11). -/
theorem rollByte8_phase (p : Phase) (suspended : Bool) : (byte (p.code * 16 + bit suspended * 8)).toNat / 16 = p.code := by
  have hp := p.code_le
  have hb := bit_le suspended
  rw [byte_toNat]
  omega

/-! ### The ROLL -/

theorem State.rollPayload_length (s : State) : s.rollPayload.length = 36 := rfl

/-- The six summaries stand at bytes 12 to 35. -/
theorem State.summariesOf_rollPayload {s : State}
    (h : ∀ i : SlotNo, (s.slotAt i).gen < 65536 ∧ ∀ u, (s.slotAt i).uses = some u → 1 ≤ u ∧ u ≤ 99) :
    summariesOf s.rollPayload = some s.summaries := by
  have read (i : SlotNo) (at_ : Nat) {rest : List Byte}
      (hd : s.rollPayload.drop at_ = (s.slotAt i).summary.bytes ++ rest) :
      summaryAt s.rollPayload at_ = some (s.slotAt i).summary :=
    summaryAt_bytes hd (h i).1 (h i).2
  rw [summariesOf, read 0 12 rfl, read 1 16 rfl, read 2 20 rfl, read 3 24 rfl, read 4 28 rfl, read 5 32 (rest := []) rfl]
  rfl

/-- A guard's ROLL is read back as the values it was formed from. -/
theorem State.readRoll_rollPayload {s : State} {role : Role} (hrole : s.roleOf s.sn = role)
    (hguard : role = .guard ∨ role = .keypadGuard) (hepoch : s.rollEpoch < 65536)
    (hserial : s.verifier.held.serial < 4294967296) (hcount : s.verifier.held.count < 256) (hprogress : s.progressPercent ≤ 100)
    (hslots : ∀ i : SlotNo, (s.slotAt i).gen < 65536 ∧ ∀ u, (s.slotAt i).uses = some u → 1 ≤ u ∧ u ≤ 99) :
    readRoll s.rollPayload = some (.guard role s.ownRecord) := by
  obtain ⟨hcode, hcause, hstage, htampered⟩ :=
    rollByte0_fields (hrole ▸ hguard) s.roster.startCause s.supervisor.tampered s.progressStage
  have hepoch' : u16 s.rollPayload 1 = s.rollEpoch := u16_bytes2 hepoch []
  have hserial' : u32 s.rollPayload 3 = s.verifier.held.serial := u32_bytes4 hserial []
  have hcount' : u8 s.rollPayload 7 = s.verifier.held.count := by
    rw [← Nat.mod_eq_of_lt hcount]
    exact byte_toNat _
  have hphase : u8 s.rollPayload 8 / 16 = s.phase.code := rollByte8_phase _ _
  have hpercent : u8 s.rollPayload 9 ≤ 100 := by
    have : u8 s.rollPayload 9 = s.progressPercent % 256 := byte_toNat _
    omega
  have hdigest : BitVec.ofNat 16 (u16 s.rollPayload 10) = s.digest := by
    have : u16 s.rollPayload 10 = s.digest.toNat := u16_bytes2 s.digest.isLt []
    rw [this, BitVec.ofNat_toNat, BitVec.setWidth_eq]
  have hrole' : Role.ofCode (u8 s.rollPayload 0 / 64) = role := hcode.trans hrole
  have hbounds : ¬ (u8 s.rollPayload 0 / 16 % 4 = 3 ∨ 4 < u8 s.rollPayload 0 % 8 ∨ 100 < u8 s.rollPayload 9) := by
    rintro (h | h | h)
    · exact hcause h
    · exact absurd h (Nat.not_lt.mpr hstage)
    · exact absurd h (Nat.not_lt.mpr hpercent)
  have htampered' : bitAt s.rollPayload 0 3 = s.supervisor.tampered := htampered
  simp only [readRoll, s.rollPayload_length, hrole', if_pos hguard, if_neg hbounds, hphase, Phase.ofCode_code,
    State.summariesOf_rollPayload hslots, hepoch', hserial', hcount', hdigest, htampered']
  rfl

end Sys2Proof.Machine
end

section
/-! PROOFS. The line reset (R23, R41, R104, R105, R138, Table 5-5). -/

namespace Sys2Proof.Machine

/-! ### Before the phase acts -/

/-- The station at the recognition of a line reset, before its phase acts on it. -/
def State.resetCleared (s : State) : State := s.resetLine.resetRoster.restScanner.emptyHeard

theorem exec_lineReset {s : State} (h : s.awake = true) :
    exec .lineReset s = .next (if s.line.inReset = true then s else s.resetCleared.resetPhase).payRoll :=
  State.whileAwake_of_awake (s := s) h
    fun s => if s.line.inReset = true then s else s.resetLine.resetRoster.restScanner.emptyHeard.resetPhase

theorem State.resetCleared_line (s : State) :
    s.resetCleared.line
      = { s.line with
          state := .lost, rx := [], tx := [], onLine := none, repeatUrgent := Vector.replicate 8 none
          repeatOther := Vector.replicate 8 none, inReset := true, lastDominant := s.clock, receipt := false } := by
  simp [State.resetCleared, State.resetLine]

theorem State.resetCleared_roster (s : State) :
    s.resetCleared.roster
      = { s.roster with
          entries := Vector.replicate 8 RosterEntry.absent, startCause := .reseat, answeredAt := none
          rollOwed := false } := by
  simp [State.resetCleared, State.resetRoster]

theorem State.resetCleared_scanner (s : State) :
    s.resetCleared.scanner.seq = .entry ∧ s.resetCleared.scanner.digits = [] := by
  simp [State.resetCleared, State.restScanner, Scanner.emptied]

theorem State.resetCleared_purge (s : State) :
    s.resetCleared.purge = { s.purge with heard := Vector.replicate 8 false } := by
  simp [State.resetCleared, State.emptyHeard]

/-- What the recognition itself leaves to the phase. -/
@[simp] theorem State.resetCleared_frame (s : State) :
    s.resetCleared.clock = s.clock ∧ s.resetCleared.verifier = s.verifier ∧ s.resetCleared.slotTable = s.slotTable
    ∧ s.resetCleared.phaseCtl = s.phaseCtl ∧ s.resetCleared.keyPort = s.keyPort ∧ s.resetCleared.gate = s.gate
    ∧ s.resetCleared.supervisor = s.supervisor ∧ s.resetCleared.setup = s.setup ∧ s.resetCleared.store = s.store := by
  simp [State.resetCleared]

/-! ### The members of the drive -/

/-- The roles of a drive stand in its setup record. -/
theorem State.roleOf_congr {s t : State} (h : t.setup = s.setup) : t.roleOf = s.roleOf := by
  funext n
  simp [State.roleOf, State.lockedSetup, h]

theorem State.isMember_congr {s t : State} (h : t.setup = s.setup) : t.isMember = s.isMember := by
  funext n
  rw [State.isMember, State.isMember, State.roleOf_congr h]

theorem State.members_congr {s t : State} (h : t.setup = s.setup) : t.members = s.members := by
  simp [State.members, State.isMember_congr h]

theorem State.others_congr {s t : State} (h : t.setup = s.setup) (hr : t.roster.sn = s.roster.sn) :
    t.others = s.others := by
  simp [State.others, State.members_congr h, hr]

theorem State.eq_sn_of_alone {s : State} (h : s.others = []) {n : StationNo} (hn : n ∈ s.members) : n = s.sn := by
  by_contra hne
  have : n ∈ s.others := List.mem_filter.mpr ⟨hn, by simpa using hne⟩
  simp [h] at this

theorem State.mem_others {s : State} {n : StationNo} : n ∈ s.others ↔ n ∈ s.members ∧ n ≠ s.sn := by
  simp [State.others]

/-! ### The scanner at rest through a change of phase -/

/-- The scanner holds no digits and no pending entry. -/
structure State.ScannerRests (s : State) : Prop where
  seq : s.scanner.seq = .entry
  digits : s.scanner.digits = []

theorem State.ScannerRests.testPending {s : State} (h : s.ScannerRests) : s.testPending = s := by
  simp [State.testPending, h.seq]

theorem State.restScanner_rests (s : State) : s.restScanner.ScannerRests :=
  ⟨rfl, rfl⟩

theorem State.ScannerRests.tellScanner {s : State} (h : s.ScannerRests) (old : Phase) : (s.tellScanner old).ScannerRests := by
  unfold State.tellScanner
  split
  · exact h.testPending.symm ▸ h
  · exact s.restScanner_rests

theorem State.ScannerRests.tellScanner_line {s : State} (h : s.ScannerRests) (old : Phase) :
    (s.tellScanner old).line = s.line := by
  unfold State.tellScanner
  split
  · rw [h.testPending]
  · simp

theorem State.ScannerRests.congr {s t : State} (h : s.ScannerRests) (ht : t.scanner = s.scanner) : t.ScannerRests :=
  ⟨ht ▸ h.seq, ht ▸ h.digits⟩

theorem State.ScannerRests.movePhase {s : State} (h : s.ScannerRests) (p : Phase) (g : Grant) (a : Option Micros) :
    (s.movePhase p g a).ScannerRests :=
  State.ScannerRests.tellScanner (h.congr (by simp)) _

/-- Without a pending entry no change of phase offers a frame. -/
theorem State.ScannerRests.movePhase_line {s : State} (h : s.ScannerRests) (p : Phase) (g : Grant) (a : Option Micros) :
    (s.movePhase p g a).line = s.line :=
  (State.ScannerRests.tellScanner_line (h.congr (by simp)) _).trans (by simp)

theorem State.ScannerRests.enterPhase {s : State} (h : s.ScannerRests) (p : Phase) : (s.enterPhase p).ScannerRests :=
  h.movePhase _ _ _

theorem State.ScannerRests.enterPhase_line {s : State} (h : s.ScannerRests) (p : Phase) :
    (s.enterPhase p).line = s.line :=
  h.movePhase_line _ _ _

/-! ### The key port told to clear -/

/-- The end of the zeros that follow the bit being shifted: the shift began 512 µs before it is due. -/
theorem zerosDue_eq {now due : Nat} (h1 : 512 ≤ due) (h2 : due ≤ now + 512) :
    now - (due - 512) = now + 512 - due ∧ ∀ n, due - 512 + 2 * n + 512 = due + 2 * n := by
  refine ⟨?_, fun n => ?_⟩ <;> omega

theorem KeyPort.stopKeyShift_inTime {p : KeyPort} {now due : Nat} (hs : p.state = .shiftingKey)
    (hd : p.shiftDue = some due) (h1 : 512 ≤ due) (h2 : due ≤ now + 512) (h3 : now < due) :
    p.stopKeyShift now
      = ⟨.shiftingZero, 0, some (due + 2 * ((now + 512 - due) / 2 + 1)), false,
          some (p.presented.getMsbD ((now + 512 - due) / 2)), (now + 512 - due) / 2 + 1⟩ := by
  obtain ⟨hgone, hend⟩ := zerosDue_eq h1 h2
  have hin : p.inShift now = true := by simp [KeyPort.inShift, hs, hd, h3]
  have hover : p.bitsOver now = (now + 512 - due) / 2 := by
    simp [KeyPort.bitsOver, KeyPort.shiftStart, hd, shiftTime, bitTime, hgone]
  simp [KeyPort.stopKeyShift, hin, hover, KeyPort.shiftStart, hd, shiftTime, bitTime, hend]

theorem KeyPort.stopKeyShift_over {p : KeyPort} {now due : Nat} (hd : p.shiftDue = some due) (hle : due ≤ now) :
    p.stopKeyShift now = ⟨.shiftingZero, 0, some (now + 512), false, none, 256⟩ := by
  have hout : p.inShift now = false := by simp [KeyPort.inShift, hd, hle]
  simp [KeyPort.stopKeyShift, hout, shiftTime, keyBits]

theorem KeyPort.clearedTo_cleared (p : KeyPort) (now : Micros) : p.clearedTo (p.cleared now) now := by
  refine ⟨fun h => ?clear, fun h => ?zeros, fun h => ?presented, fun h due hd => ⟨fun h1 h2 h3 => ?inShift, fun hle => ?past⟩⟩
  case clear => simp [KeyPort.cleared, h]
  case zeros => simp [KeyPort.cleared, h]
  case presented => simp [KeyPort.cleared, h, shiftTime]
  case inShift =>
    simp only [KeyPort.cleared, h]
    exact KeyPort.stopKeyShift_inTime h hd h1 h2 h3
  case past =>
    simp only [KeyPort.cleared, h]
    exact KeyPort.stopKeyShift_over hd hle

/-! ### The ROLL on the empty queue -/

/-- The ROLL that the offer forms. -/
def State.rollFrame (s : State) : TxFrame := ⟨.roll, false, 0, s.rollPayload, !s.line.altOther, 0⟩

/-- On an empty queue the offered ROLL stands alone. -/
theorem State.offerRoll_line {s : State} (h : s.line.tx = []) :
    s.offerRoll.line = { s.line with altOther := !s.line.altOther, tx := [s.rollFrame] } := by
  have hq : s.ownRollQueued = false := by simp [State.ownRollQueued, h]
  have hu : (s.formFrame .roll none s.rollPayload).kind.urgent = false := rfl
  rw [State.offerRoll, if_neg (by simp [hq]), State.offer_taken (by simp [h]), State.takeOffer_other hu]
  simp [h, State.rollFrame, State.formFrame, Kind.urgent]

/-- A ROLL does not show the queues of the line. -/
theorem State.rollPayload_offerRoll (s : State) : s.offerRoll.rollPayload = s.rollPayload := by
  simp [State.rollPayload, State.roleOf, State.lockedSetup, State.slotAt, State.rollEpoch, State.digest,
    State.progressStage, State.progressPercent, State.blocks]

/-! ### What every line reset leaves -/

/-- The station after a line reset, but for its transmit queue and what an assembly that completes goes on to. -/
structure State.Recognized (s t : State) : Prop where
  lineState : t.line.state = .lost
  onLine : t.line.onLine = none
  rx : t.line.rx = []
  txDropped : t.line.txDropped = s.line.txDropped
  heard : t.purge.heard = Vector.replicate 8 false
  rests : t.ScannerRests
  supervisor : t.supervisor = s.supervisor
  keyPort : t.keyPort = if s.phase = .unlocked then s.keyPort.cleared s.clock else s.keyPort
  attempt : t.verifier.attempt = if s.phase = .verifying then none else s.verifier.attempt
  givenUp : s.phase = .unlocked ∨ s.phase = .blank →
    t.slotTable.unlockedKey = none ∧ t.slotTable.enrollment = none ∧ t.phaseCtl.attachWindow = none

/-- The records, the purge and the gate as a line reset leaves them where no assembly completes. -/
structure State.Undisturbed (s t : State) : Prop where
  held : t.verifier.held = s.verifier.held
  hold : t.verifier.hold = s.verifier.hold
  slots : t.slotTable.slots = s.slotTable.slots
  salt : t.slotTable.salt = s.slotTable.salt
  blankKey : t.slotTable.blankKey = s.slotTable.blankKey
  waits : t.slotTable.waits = s.slotTable.waits
  writes : t.slotTable.writes = s.slotTable.writes
  journal : t.purge.journal = s.purge.journal
  badBlocks : t.purge.badBlocks = s.purge.badBlocks
  nextBlock : t.purge.nextBlock = s.purge.nextBlock
  plan : t.purge.plan = s.purge.plan
  begun : t.purge.begun = s.purge.begun
  store : t.store = s.store
  gate : s.gateFollows → t.gate = { s.gate with grant := t.phaseCtl.grant }

theorem State.Recognized.offerRoll {s u : State} (h : s.Recognized u) (hq : u.line.tx = []) : s.Recognized u.offerRoll where
  lineState := by simpa using h.lineState
  onLine := by simpa using h.onLine
  rx := by simpa [State.offerRoll_line hq] using h.rx
  txDropped := by simpa [State.offerRoll_line hq] using h.txDropped
  heard := by simpa using h.heard
  rests := h.rests.congr (by simp)
  supervisor := by simpa using h.supervisor
  keyPort := by simpa using h.keyPort
  attempt := by simpa using h.attempt
  givenUp := by simpa using h.givenUp

theorem State.Undisturbed.offerRoll {s u : State} (h : s.Undisturbed u) : s.Undisturbed u.offerRoll where
  held := by simpa using h.held
  hold := by simpa using h.hold
  slots := by simpa using h.slots
  salt := by simpa using h.salt
  blankKey := by simpa using h.blankKey
  waits := by simpa using h.waits
  writes := by simpa using h.writes
  journal := by simpa using h.journal
  badBlocks := by simpa using h.badBlocks
  nextBlock := by simpa using h.nextBlock
  plan := by simpa using h.plan
  begun := by simpa using h.begun
  store := by simpa using h.store
  gate := by simpa using h.gate

/-! ### Phases that stay -/

/-- The phases that a line reset takes to ASSEMBLING (Table 5-5). -/
def Phase.Reassembles (p : Phase) : Prop := p ≠ .purging ∧ p ≠ .purgeWait ∧ p ≠ .halted ∧ p ≠ .uncommissioned

theorem Phase.not_reassembles {p : Phase} :
    ¬ p.Reassembles ↔ p = .purging ∨ p = .purgeWait ∨ p = .halted ∨ p = .uncommissioned := by
  cases p <;> simp [Phase.Reassembles]

theorem State.resetPhase_reassembles {s : State} (h : s.phase.Reassembles) :
    s.resetPhase = (s.leavePhase.enterPhase .assembling).beginAssembly := by
  obtain ⟨hp, hw, hh, hu⟩ := h
  unfold State.resetPhase
  split <;> simp_all

/-- In a phase that stays the recognition gives up nothing of the phase. -/
theorem State.recognized_resetCleared {s : State} (h : ¬ s.phase.Reassembles) : s.Recognized s.resetCleared where
  lineState := by simp [State.resetCleared_line]
  onLine := by simp [State.resetCleared_line]
  rx := by simp [State.resetCleared_line]
  txDropped := by simp [State.resetCleared_line]
  heard := by simp [State.resetCleared_purge]
  rests := ⟨s.resetCleared_scanner.1, s.resetCleared_scanner.2⟩
  supervisor := by simp
  keyPort := by
    rcases Phase.not_reassembles.mp h with h | h | h | h <;> simp [h]
  attempt := by
    rcases Phase.not_reassembles.mp h with h | h | h | h <;> simp [h]
  givenUp := by
    rcases Phase.not_reassembles.mp h with h | h | h | h <;> simp [h]

/-- A gate that follows the phase already holds the grant of the phase controller. -/
theorem State.gate_eq_of_follows {s : State} (h : s.gateFollows) : s.gate = { s.gate with grant := s.phaseCtl.grant } := by
  rw [← h.1]

theorem State.undisturbed_resetCleared (s : State) : s.Undisturbed s.resetCleared where
  held := by simp
  hold := by simp
  slots := by simp
  salt := by simp
  blankKey := by simp
  waits := by simp
  writes := by simp
  journal := by simp [State.resetCleared_purge]
  badBlocks := by simp [State.resetCleared_purge]
  nextBlock := by simp [State.resetCleared_purge]
  plan := by simp [State.resetCleared_purge]
  begun := by simp [State.resetCleared_purge]
  store := by simp
  gate := fun h => by simpa using State.gate_eq_of_follows h

theorem State.Recognized.beginOffers {s u : State} (h : s.Recognized u) : s.Recognized u.beginOffers :=
  { h with heard := rfl, rests := ⟨h.rests.seq, h.rests.digits⟩ }

theorem State.Undisturbed.beginOffers {s u : State} (h : s.Undisturbed u) : s.Undisturbed u.beginOffers :=
  { h with }

theorem State.Recognized.beginAnnounce {s u : State} (h : s.Recognized u) : s.Recognized u.beginAnnounce :=
  { h with rests := ⟨h.rests.seq, h.rests.digits⟩ }

theorem State.Undisturbed.beginAnnounce {s u : State} (h : s.Undisturbed u) : s.Undisturbed u.beginAnnounce :=
  { h with }

/-! ### The roster without entries -/

/-- No other station is known. -/
def State.NobodyKnown (s : State) : Prop := s.roster.entries = Vector.replicate 8 RosterEntry.absent

theorem State.NobodyKnown.presence {s : State} (h : s.NobodyKnown) {n : StationNo} (hn : n ≠ s.sn) :
    s.presence n = .absent := by
  unfold State.NobodyKnown at h
  simp [State.presence, hn, h, RosterEntry.absent]

theorem State.NobodyKnown.lastGuard {s : State} (h : s.NobodyKnown) {n : StationNo} (hn : n ≠ s.sn) :
    s.lastGuard n = none := by
  unfold State.NobodyKnown at h
  simp [State.lastGuard, hn, h, RosterEntry.absent]

theorem State.NobodyKnown.no_digestConflict {s : State} (h : s.NobodyKnown) : s.digestConflict = false := by
  rw [State.digestConflict, List.any_eq_false]
  intro n _
  by_cases hn : n = s.sn
  · simp [State.lastGuard, hn, State.ownRecord]
  · simp [h.presence hn]

theorem State.NobodyKnown.not_assembled {s : State} (h : s.NobodyKnown) (ho : s.others ≠ []) : s.assembled = false := by
  obtain ⟨n, hn⟩ := List.exists_mem_of_ne_nil _ ho
  obtain ⟨hmem, hne⟩ := State.mem_others.mp hn
  rw [State.assembled, List.all_eq_false]
  exact ⟨n, hmem, by simp [State.memberAgrees, h.presence hne]⟩

theorem State.NobodyKnown.no_sameEpoch {s : State} (h : s.NobodyKnown) : s.others.filter s.sameEpoch = [] := by
  rw [List.filter_eq_nil_iff]
  intro n hn
  simp [State.sameEpoch, h.lastGuard (State.mem_others.mp hn).2]

theorem pairLess_irrefl (serial count : Nat) : pairLess serial count serial count = false := by
  simp [pairLess]

/-- A verdict filed before the reset is no longer merged: its sender's record is gone. -/
theorem State.NobodyKnown.voidAttempt {s : State} (h : s.NobodyKnown) :
    s.voidAttempt = s.setVerifier { s.verifier with attempt := none } := by
  unfold State.voidAttempt
  split
  · next ha => rw [← ha]; rfl
  · simp [h.no_sameEpoch, State.bestFiled, State.raisePair, pairLess_irrefl]

/-! ### The phase left for ASSEMBLING -/

theorem State.leavePhase_keyPort (s : State) :
    s.leavePhase.keyPort = if s.phase = .unlocked then s.keyPort.cleared s.clock else s.keyPort := by
  unfold State.leavePhase
  split <;> simp_all [State.clearKeyPort, State.voidAttempt_frame]

theorem State.leavePhase_givenUp {s : State} (h : s.phase = .unlocked ∨ s.phase = .blank) :
    s.leavePhase.slotTable.unlockedKey = none ∧ s.leavePhase.slotTable.enrollment = none := by
  rcases h with h | h <;> simp [State.leavePhase, h]

theorem State.NobodyKnown.leavePhase_verifier {s : State} (h : s.NobodyKnown) :
    s.leavePhase.verifier
      = { s.verifier with attempt := if s.phase = .verifying then none else s.verifier.attempt } := by
  unfold State.leavePhase
  split <;> simp_all [h.voidAttempt]

theorem State.NobodyKnown.leavePhase_store {s : State} (h : s.NobodyKnown) : s.leavePhase.store = s.store := by
  unfold State.leavePhase
  split <;> simp [h.voidAttempt]

/-- A move that leaves the owner as it is changes the gate's grant alone (R140). -/
theorem State.movePhase_gate {s : State} {p : Phase} (h : ownerFor p s.purge.journal.isOpen s.gate.channelFault = s.gate.owner)
    (g : Grant) (a : Option Micros) : (s.movePhase p g a).gate = { s.gate with grant := g } := by
  unfold State.movePhase
  dsimp only
  rw [State.recomputeOwner_same _ (by simpa [State.ownerNow] using h)]
  simp

/-- The station that has left its phase for ASSEMBLING at a line reset. -/
def State.reassembling (s : State) : State := s.resetCleared.leavePhase.enterPhase .assembling

theorem State.resetCleared_nobodyKnown (s : State) : s.resetCleared.NobodyKnown := by
  simp [State.NobodyKnown, State.resetCleared_roster]

theorem State.resetCleared_rests (s : State) : s.resetCleared.ScannerRests :=
  ⟨s.resetCleared_scanner.1, s.resetCleared_scanner.2⟩

@[simp] theorem State.reassembling_phaseCtl (s : State) : s.reassembling.phaseCtl = ⟨.assembling, .pub, none⟩ := by
  simp [State.reassembling, State.carriedOn, grantFor]

theorem State.reassembling_line (s : State) : s.reassembling.line = s.resetCleared.line :=
  (State.enterPhase_line _ _ (by simp [State.carriedOn])).trans (by simp)

theorem State.reassembling_roster (s : State) :
    s.reassembling.roster
      = { s.resetCleared.roster with window := some ⟨s.clock, 0⟩, announce := none, announced := 0 } := by
  simp [State.reassembling, State.enterPhase, State.movePhase, State.carriedOn, State.announceAtEntry, State.stopAnnounce]

theorem State.reassembling_verifier (s : State) :
    s.reassembling.verifier
      = { s.verifier with attempt := if s.phase = .verifying then none else s.verifier.attempt } := by
  simp [State.reassembling, s.resetCleared_nobodyKnown.leavePhase_verifier]

theorem State.reassembling_store (s : State) : s.reassembling.store = s.store := by
  simp [State.reassembling, s.resetCleared_nobodyKnown.leavePhase_store]

theorem State.reassembling_gate {s : State} (hp : s.phase.Reassembles) (h : s.gateFollows) :
    s.reassembling.gate = { s.gate with grant := .pub } := by
  obtain ⟨-, howner, -, -⟩ := h
  obtain ⟨-, -, hh, hu⟩ := hp
  refine (State.movePhase_gate ?_ _ _).trans ?_
  · simpa [State.carriedOn, State.resetCleared_purge, ownerFor, hh, hu] using howner.symm
  · simp [State.carriedOn, grantFor]

theorem State.recognized_reassembling (s : State) : s.Recognized s.reassembling where
  lineState := by simp [State.reassembling_line, State.resetCleared_line]
  onLine := by simp [State.reassembling_line, State.resetCleared_line]
  rx := by simp [State.reassembling_line, State.resetCleared_line]
  txDropped := by simp [State.reassembling_line, State.resetCleared_line]
  heard := by simp [State.reassembling, State.resetCleared_purge]
  rests := (s.resetCleared_rests.congr (by simp)).enterPhase _
  supervisor := by simp [State.reassembling]
  keyPort := by simp [State.reassembling, State.leavePhase_keyPort]
  attempt := by simp [State.reassembling_verifier]
  givenUp := fun h => by
    obtain ⟨hkey, henroll⟩ := State.leavePhase_givenUp (s := s.resetCleared) (by simpa using h)
    simp [State.reassembling, hkey, henroll]

theorem State.undisturbed_reassembling {s : State} (hp : s.phase.Reassembles) : s.Undisturbed s.reassembling where
  held := by simp [State.reassembling_verifier]
  hold := by simp [State.reassembling_verifier]
  slots := by simp [State.reassembling]
  salt := by simp [State.reassembling]
  blankKey := by simp [State.reassembling]
  waits := by simp [State.reassembling]
  writes := by simp [State.reassembling]
  journal := by simp [State.reassembling, State.resetCleared_purge]
  badBlocks := by simp [State.reassembling, State.resetCleared_purge]
  nextBlock := by simp [State.reassembling, State.resetCleared_purge]
  plan := by simp [State.reassembling, State.resetCleared_purge]
  begun := by simp [State.reassembling, State.resetCleared_purge]
  store := s.reassembling_store
  gate := fun h => by simp [State.reassembling_gate hp h]

theorem State.reassembling_others (s : State) : s.reassembling.others = s.others :=
  State.others_congr (by simp [State.reassembling]) (by simp [State.reassembling, State.resetCleared_roster])

/-! ### A drive of one member -/

theorem State.bestReported_alone {s : State} (h : s.others = []) : s.bestReported = s.pair := by
  refine List.foldlRecOn (motive := (· = s.pair)) _ _ rfl fun best hbest n hn => ?_
  rw [hbest, State.eq_sn_of_alone h hn]
  simp [State.lastGuard, State.ownRecord, State.pair, largerPair, pairLess_irrefl]

theorem State.mergeReported_alone {s : State} (h : s.others = []) : s.mergeReported = s := by
  simp [State.mergeReported, State.bestReported_alone h, pairLess_irrefl]

/-- With a CLOSED journal the own entry alone completes an assembly (R42). -/
theorem State.assembled_alone {s : State} (h : s.others = []) (hp : s.phase = .assembling)
    (hj : s.purge.journal.isOpen = false) : s.assembled = true := by
  rw [State.assembled, List.all_eq_true]
  intro n hn
  rw [State.eq_sn_of_alone h hn]
  have hp' : s.phaseCtl.phase = .assembling := hp
  simp [State.memberAgrees, State.presence, State.lastGuard, State.ownRecord, State.rollEpoch, hj, hp']

/-! ### What the completion of an assembly leaves of the reset -/

theorem State.Recognized.enterPhase {s u : State} (h : s.Recognized u) (p : Phase) : s.Recognized (u.enterPhase p) where
  lineState := by simpa using h.lineState
  onLine := by simpa using h.onLine
  rx := by simpa [h.rests.enterPhase_line] using h.rx
  txDropped := by simpa [h.rests.enterPhase_line] using h.txDropped
  heard := by simpa using h.heard
  rests := h.rests.enterPhase p
  supervisor := by simpa using h.supervisor
  keyPort := by simpa using h.keyPort
  attempt := by simpa using h.attempt
  givenUp := fun hs => by
    obtain ⟨hkey, henroll, -⟩ := h.givenUp hs
    simp [hkey, henroll]

theorem State.Recognized.reconcile {s u : State} (h : s.Recognized u) : s.Recognized u.reconcile where
  lineState := by simpa using h.lineState
  onLine := by simpa using h.onLine
  rx := by simpa using h.rx
  txDropped := by simpa using h.txDropped
  heard := by simpa using h.heard
  rests := h.rests.congr (by simp)
  supervisor := by simpa using h.supervisor
  keyPort := by simpa using h.keyPort
  attempt := by simpa using h.attempt
  givenUp := by simpa using h.givenUp

theorem State.Recognized.restartHold {s u : State} (h : s.Recognized u) : s.Recognized u.restartHold :=
  { h with rests := ⟨h.rests.seq, h.rests.digits⟩ }

theorem State.Recognized.stopAssemblyTimers {s u : State} (h : s.Recognized u) : s.Recognized u.stopAssemblyTimers :=
  { h with rests := ⟨h.rests.seq, h.rests.digits⟩ }

/-- The station with its journal opened and the write requested (R114). -/
def State.journalOpened (s : State) (cause : PurgeCause) (target : Nat) : State :=
  (s.setPurge
    { s.purge with
      journal := Journal.opened target cause, nextBlock := 0, plan := [], begun := false, closing := false
      suspended := false, pendingTarget := none }).noteWrite .purge .journal

theorem State.journalOpened_line (s : State) (cause : PurgeCause) (target : Nat) :
    (s.journalOpened cause target).line = s.line := by
  simp [State.journalOpened]

theorem State.Recognized.journalOpened {s u : State} (h : s.Recognized u) (cause : PurgeCause) (target : Nat) :
    s.Recognized (u.journalOpened cause target) where
  lineState := by simpa [State.journalOpened] using h.lineState
  onLine := by simpa [State.journalOpened] using h.onLine
  rx := by simpa [State.journalOpened] using h.rx
  txDropped := by simpa [State.journalOpened] using h.txDropped
  heard := by simpa [State.journalOpened] using h.heard
  rests := h.rests.congr (by simp [State.journalOpened])
  supervisor := by simpa [State.journalOpened] using h.supervisor
  keyPort := by simpa [State.journalOpened] using h.keyPort
  attempt := by simpa [State.journalOpened] using h.attempt
  givenUp := by simpa [State.journalOpened] using h.givenUp

/-- The offered PURGE stands ahead of the ROLL. -/
theorem State.offerPurge_line {s : State} {roll : TxFrame} (htx : s.line.tx = [roll]) (hrx : s.line.rx = [])
    (hon : s.line.onLine = none) (hr : roll.kind = .roll) :
    ∃ purge : TxFrame, purge.kind = .purge ∧ purge.attempt = 0
      ∧ s.offerPurge.line = { s.line with altUrgent := !s.line.altUrgent, tx := [purge, roll] } := by
  have hout : s.ownOutstanding .purge = false := by simp [State.ownOutstanding, htx, hrx, hr]
  rw [State.offerPurge, if_neg (by simp [hout]), State.offer_taken (by simp [htx]),
    State.takeOffer_urgent (head := []) (ahead := []) (behind := [roll]) (by rfl) htx (by simp [hon]) (by simp)
      (by simp [hr, Kind.urgent])]
  exact ⟨s.formFrame .purge none _, rfl, rfl, rfl⟩

theorem State.Recognized.offerPurge {s u : State} {roll : TxFrame} (h : s.Recognized u) (htx : u.line.tx = [roll])
    (hr : roll.kind = .roll) : s.Recognized u.offerPurge := by
  obtain ⟨_, -, -, hline⟩ := State.offerPurge_line htx h.rx h.onLine hr
  exact
    { lineState := by simpa using h.lineState
      onLine := by simpa using h.onLine
      rx := by simpa [hline] using h.rx
      txDropped := by simpa [hline] using h.txDropped
      heard := by simpa using h.heard
      rests := h.rests.congr (by simp)
      supervisor := by simpa using h.supervisor
      keyPort := by simpa using h.keyPort
      attempt := by simpa using h.attempt
      givenUp := by simpa using h.givenUp }

theorem State.enterPhase_window (s : State) (p : Phase) (h : p ≠ .assembling) :
    (s.enterPhase p).roster.window = none := by
  have hc : s.carriedOn p ≠ .assembling := by
    unfold State.carriedOn
    split <;> simp [h]
  simp [State.enterPhase, State.movePhase, hc]

theorem State.leavePhase_assembling {s : State} (h : s.phase = .assembling) : s.leavePhase = s := by
  simp [State.leavePhase, h]

theorem State.openPurge_assembling {s : State} (h : s.phase = .assembling) (cause : PurgeCause) (target : Nat) :
    s.openPurge cause target = ((s.journalOpened cause target).enterPhase .purging).beginOffers.offerPurge := by
  rw [State.openPurge, State.leavePhase_assembling h]
  rfl

/-- Where a lone station in ASSEMBLING with its ROLL queued goes: a PURGE may join the queue ahead of the ROLL, and with a CLOSED journal the window has ended, with the phase unless the epoch is the last. -/
structure State.LoneOutcome (s u t : State) (roll : TxFrame) : Prop where
  recognized : s.Recognized t
  tx : t.line.tx = [roll]
    ∨ ∃ purge : TxFrame, purge.kind = .purge ∧ purge.attempt = 0 ∧ t.line.tx = [purge, roll]
  ended : u.purge.journal.isOpen = false → t.roster.window = none ∧ (u.epoch ≠ 65535 → t.phase ≠ .assembling)

section
variable {s u : State} {roll : TxFrame}

/-- A purge opens at the failure limit. -/
theorem State.Recognized.openPurge (h : s.Recognized u) (hp : u.phase = .assembling) (htx : u.line.tx = [roll])
    (hr : roll.kind = .roll) (cause : PurgeCause) (target : Nat) : s.LoneOutcome u (u.openPurge cause target) roll := by
  have hopened := h.journalOpened cause target
  have hoffers := (hopened.enterPhase .purging).beginOffers
  have htx' : ((u.journalOpened cause target).enterPhase .purging).beginOffers.line.tx = [roll] := by
    simpa [hopened.rests.enterPhase_line, State.journalOpened_line] using htx
  obtain ⟨purge, hkind, hattempt, hline⟩ := State.offerPurge_line htx' hoffers.rx hoffers.onLine hr
  rw [State.openPurge_assembling hp]
  exact
    { recognized := hoffers.offerPurge htx' hr
      tx := .inr ⟨purge, hkind, hattempt, by rw [hline]⟩
      ended := fun _ => ⟨by simp [State.enterPhase_window], by simp [State.carriedOn]⟩ }

/-- Where no purge can open at the failure limit, the station stays in ASSEMBLING without a window (log entry 56). -/
theorem State.Recognized.openOwn (h : s.Recognized u) (hp : u.phase = .assembling) (htx : u.line.tx = [roll])
    (hr : roll.kind = .roll) (hw : u.roster.window = none) (cause : PurgeCause) :
    s.LoneOutcome u (u.openOwn cause) roll := by
  unfold State.openOwn
  split
  · exact h.openPurge hp htx hr cause _
  · next hcan =>
    refine ⟨h, .inl htx, fun hj => ⟨hw, fun he => absurd ?_ hcan⟩⟩
    have hp' : u.phaseCtl.phase = .assembling := hp
    have he' : u.verifier.held.epoch ≠ 65535 := he
    simp [State.canOpenOwn, hj, hp', he', lastEpoch]

/-- The assembly completes below the failure limit. -/
theorem State.Recognized.settle (h : s.Recognized u) (htx : u.line.tx = [roll]) {p : Phase} (hp : p = .blank ∨ p = .locked) :
    s.LoneOutcome u (u.reconcile.restartHold.enterPhase p) roll := by
  have hheld := h.reconcile.restartHold
  refine ⟨hheld.enterPhase p, .inl ?_, fun _ => ⟨?_, fun _ => ?_⟩⟩
  · simpa [hheld.rests.enterPhase_line] using htx
  · exact State.enterPhase_window _ _ (by rcases hp with rfl | rfl <;> simp)
  · rcases hp with rfl | rfl
    · simp [State.carriedOn]
    · rw [State.phase, State.enterPhase_phaseCtl, State.carriedOn_locked]
      split <;> simp

theorem State.Recognized.completeAssembly (h : s.Recognized u) (ho : u.others = []) (hp : u.phase = .assembling)
    (htx : u.line.tx = [roll]) (hr : roll.kind = .roll) : s.LoneOutcome u u.completeAssembly roll := by
  unfold State.completeAssembly
  rw [State.mergeReported_alone ho]
  dsimp only
  split
  · exact { h.stopAssemblyTimers.openOwn hp htx hr rfl .limit with }
  · refine { h.stopAssemblyTimers.settle htx ?_ with }
    split <;> simp

theorem State.Recognized.completionTest (h : s.Recognized u) (hk : u.NobodyKnown) (ho : u.others = [])
    (hp : u.phase = .assembling) (htx : u.line.tx = [roll]) (hr : roll.kind = .roll) :
    s.LoneOutcome u u.completionTest roll := by
  unfold State.completionTest
  rw [if_pos (.inl hp), if_neg (by simp [hk.no_digestConflict])]
  split
  · exact h.completeAssembly ho hp htx hr
  · next hna => exact ⟨h, .inl htx, fun hj => absurd (State.assembled_alone ho hp hj) hna⟩

end

/-! ### Where the phase takes the reset (Table 5-5) -/

section
variable {s : State}

theorem State.resetPhase_uncommissioned (h : s.phase = .uncommissioned) : s.resetCleared.resetPhase = s.resetCleared := by
  simp [State.resetPhase, h]

theorem State.resetPhase_halted (h : s.phase = .halted) : s.resetCleared.resetPhase = s.resetCleared.offerRoll := by
  simp [State.resetPhase, h]

theorem State.resetPhase_purging (h : s.phase = .purging) :
    s.resetCleared.resetPhase = s.resetCleared.beginOffers.offerRoll := by
  simp [State.resetPhase, h]

theorem State.resetPhase_purgeWait (h : s.phase = .purgeWait) :
    s.resetCleared.resetPhase = s.resetCleared.beginAnnounce.offerRoll := by
  simp [State.resetPhase, h]

theorem State.reassembling_nobodyKnown (s : State) : s.reassembling.NobodyKnown := by
  simp [State.NobodyKnown, State.reassembling_roster, State.resetCleared_roster]

theorem State.resetPhase_assembling (h : s.phase.Reassembles) :
    s.resetCleared.resetPhase = s.reassembling.offerRoll.completionTest :=
  State.resetPhase_reassembles (by simpa using h)

theorem State.reassembling_offerRoll_nobodyKnown (s : State) : s.reassembling.offerRoll.NobodyKnown := by
  simpa [State.NobodyKnown] using s.reassembling_nobodyKnown

theorem State.reassembling_offerRoll_others (s : State) : s.reassembling.offerRoll.others = s.others :=
  (State.others_congr (by simp) (by simp)).trans s.reassembling_others

/-- In a drive with other members the assembly waits for them. -/
theorem State.resetPhase_waits (h : s.phase.Reassembles) (ho : s.others ≠ []) :
    s.resetCleared.resetPhase = s.reassembling.offerRoll := by
  have hk := s.reassembling_offerRoll_nobodyKnown
  rw [State.resetPhase_assembling h, State.completionTest, hk.no_digestConflict,
    hk.not_assembled (by rwa [State.reassembling_offerRoll_others])]
  simp

theorem State.resetCleared_tx (s : State) : s.resetCleared.line.tx = [] := by
  rw [State.resetCleared_line]

theorem State.reassembling_tx (s : State) : s.reassembling.line.tx = [] := by
  rw [State.reassembling_line, State.resetCleared_tx]

/-- A drive of one member completes its assembly at once (R42). -/
theorem State.resetPhase_alone (h : s.phase.Reassembles) (ho : s.others = []) :
    s.LoneOutcome s.reassembling.offerRoll s.resetCleared.resetPhase s.reassembling.rollFrame := by
  rw [State.resetPhase_assembling h]
  refine (s.recognized_reassembling.offerRoll s.reassembling_tx).completionTest s.reassembling_offerRoll_nobodyKnown
    (by rwa [State.reassembling_offerRoll_others]) (by simp) ?_ rfl
  rw [State.offerRoll_line s.reassembling_tx]

theorem State.recognized_resetPhase (s : State) : s.Recognized s.resetCleared.resetPhase := by
  by_cases h : s.phase.Reassembles
  · by_cases ho : s.others = []
    · exact (State.resetPhase_alone h ho).recognized
    · rw [State.resetPhase_waits h ho]
      exact s.recognized_reassembling.offerRoll s.reassembling_tx
  · have hcleared := State.recognized_resetCleared h
    rcases Phase.not_reassembles.mp h with h | h | h | h
    · rw [State.resetPhase_purging h]
      exact hcleared.beginOffers.offerRoll (by simpa using s.resetCleared_tx)
    · rw [State.resetPhase_purgeWait h]
      exact hcleared.beginAnnounce.offerRoll (by simpa using s.resetCleared_tx)
    · rw [State.resetPhase_halted h]
      exact hcleared.offerRoll s.resetCleared_tx
    · rw [State.resetPhase_uncommissioned h]
      exact hcleared

theorem State.undisturbed_resetPhase (h : s.phase.Reassembles → s.others ≠ []) :
    s.Undisturbed s.resetCleared.resetPhase := by
  by_cases hp : s.phase.Reassembles
  · rw [State.resetPhase_waits hp (h hp)]
    exact (State.undisturbed_reassembling hp).offerRoll
  · have hcleared := s.undisturbed_resetCleared
    rcases Phase.not_reassembles.mp hp with h | h | h | h
    · rw [State.resetPhase_purging h]
      exact hcleared.beginOffers.offerRoll
    · rw [State.resetPhase_purgeWait h]
      exact hcleared.beginAnnounce.offerRoll
    · rw [State.resetPhase_halted h]
      exact hcleared.offerRoll
    · rw [State.resetPhase_uncommissioned h]
      exact hcleared

/-- In a phase that stays the phase controller holds what it held. -/
theorem State.resetPhase_stays (h : ¬ s.phase.Reassembles) : s.resetCleared.resetPhase.phaseCtl = s.phaseCtl := by
  rcases Phase.not_reassembles.mp h with h | h | h | h
  · simp [State.resetPhase_purging h]
  · simp [State.resetPhase_purgeWait h]
  · simp [State.resetPhase_halted h]
  · simp [State.resetPhase_uncommissioned h]

/-- The ROLL offered after the recognition stands alone, and shows the station as it then stands. -/
theorem State.rollFrame_of_offerRoll {c u : State} (hu : u.line = c.line) (hc : c.line.tx = []) :
    u.offerRoll.line.tx = [⟨.roll, false, 0, u.offerRoll.rollPayload, !c.line.altOther, 0⟩] := by
  rw [State.offerRoll_line (by rw [hu, hc]), State.rollPayload_offerRoll, State.rollFrame, hu]

theorem State.resetPhase_tx (hu : s.phase ≠ .uncommissioned) (h : s.phase.Reassembles → s.others ≠ []) :
    s.resetCleared.resetPhase.line.tx
      = [⟨.roll, false, 0, s.resetCleared.resetPhase.rollPayload, !s.line.altOther, 0⟩] := by
  have halt : s.resetCleared.line.altOther = s.line.altOther := by rw [State.resetCleared_line]
  rw [← halt]
  by_cases hp : s.phase.Reassembles
  · rw [State.resetPhase_waits hp (h hp)]
    exact State.rollFrame_of_offerRoll s.reassembling_line s.resetCleared_tx
  · rcases Phase.not_reassembles.mp hp with h | h | h | h
    · rw [State.resetPhase_purging h]
      exact State.rollFrame_of_offerRoll (by simp) s.resetCleared_tx
    · rw [State.resetPhase_purgeWait h]
      exact State.rollFrame_of_offerRoll (by simp) s.resetCleared_tx
    · rw [State.resetPhase_halted h]
      exact State.rollFrame_of_offerRoll rfl s.resetCleared_tx
    · exact absurd h hu

/-- The transmit queue after a line reset outside UNCOMMISSIONED: the ROLL, in a drive of one member behind the PURGE that the completion may offer. -/
theorem State.resetPhase_queue (hu : s.phase ≠ .uncommissioned) :
    ∃ payload, s.resetCleared.resetPhase.line.tx = [⟨.roll, false, 0, payload, !s.line.altOther, 0⟩]
      ∨ ∃ purge : TxFrame, (purge.kind = .purge ∧ purge.attempt = 0)
        ∧ s.resetCleared.resetPhase.line.tx = [purge, ⟨.roll, false, 0, payload, !s.line.altOther, 0⟩] := by
  by_cases h : s.phase.Reassembles ∧ s.others = []
  · have hroll : s.reassembling.rollFrame = ⟨.roll, false, 0, s.reassembling.rollPayload, !s.line.altOther, 0⟩ := by
      rw [State.rollFrame, State.reassembling_line, State.resetCleared_line]
    refine ⟨s.reassembling.rollPayload, ?_⟩
    rcases (State.resetPhase_alone h.1 h.2).tx with htx | ⟨purge, hkind, hattempt, htx⟩
    · exact .inl (hroll ▸ htx)
    · exact .inr ⟨purge, ⟨hkind, hattempt⟩, hroll ▸ htx⟩
  · exact ⟨_, .inl (State.resetPhase_tx hu fun hp ho => h ⟨hp, ho⟩)⟩

end

/-- Outside the phases that a line reset leaves, an assembly that completes is out of the question. -/
theorem Phase.Reassembles.others_ne {p : Phase} {others : List StationNo} (h : p.Reassembles)
    (hs : others ≠ [] ∨ p = .purging ∨ p = .purgeWait ∨ p = .halted ∨ p = .uncommissioned) : others ≠ [] := by
  obtain ⟨hp, hw, hh, hu⟩ := h
  simpa [hp, hw, hh, hu] using hs

/-- A cleared key port shows no key. -/
theorem KeyPort.cleared_ne_presented (p : KeyPort) (now : Micros) : (p.cleared now).state ≠ .presented := by
  unfold KeyPort.cleared KeyPort.stopKeyShift
  (repeat' split) <;> simp_all

theorem State.Recognized.keyHidden {s t : State} (h : s.Recognized t) (hf : s.keyFenced) : t.keyPort.state ≠ .presented := by
  rw [h.keyPort]
  split
  · exact KeyPort.cleared_ne_presented _ _
  · next hu => exact fun hp => hu (hf.1 (.inr (.inl hp)))

theorem State.Recognized.noAttempt {s t : State} (h : s.Recognized t) (hf : s.keyFenced) : t.verifier.attempt = none := by
  rw [h.attempt]
  split
  · rfl
  · next hv => simpa using mt hf.2.2.mp hv

theorem lineReset_again {s : State} (h : s.awake = true) (hr : s.line.inReset = true) :
    exec .lineReset s = .next s.payRoll := by
  rw [exec_lineReset h, if_pos hr]

theorem lineReset_new {s : State} (h : s.awake = true) (hr : s.line.inReset = false) :
    exec .lineReset s = .next s.resetCleared.resetPhase := by
  rw [exec_lineReset h, if_neg (by simp [hr]), State.payRoll_of_not_owed (by simp [State.resetCleared_roster])]

/-- Settles O18: every case of Table 5-5 leaves a station as `State.Recognized` says, where no assembly completes also as `State.Undisturbed` says; the ROLL is read back by `State.readRoll_rollPayload`. -/
theorem lineResetStartsAssemblyAgain : Obligations.LineResetStartsAssemblyAgain := by
  refine ⟨fun s h => ⟨lineReset_again h, fun hr => ⟨_, lineReset_new h hr, ?_⟩⟩, ?roll⟩
  case roll =>
    exact fun s role hrole hguard hepoch hserial hcount hprogress hslots =>
      State.readRoll_rollPayload hrole hguard hepoch hserial hcount hprogress hslots
  have hrec := s.recognized_resetPhase
  refine ⟨hrec.lineState, hrec.onLine, ?repeatUrgent, ?repeatOther, ?headerParity, ?checkFail, ?rxMissed, ?txPartial,
    hrec.txDropped, hrec.rx, ?attempts, ?silent, ?oneRoll, ?queue, ?inReset, ?dominant, hrec.heard, ?entries, ?cause,
    hrec.rests.seq, hrec.rests.digits, fun hf => ⟨hrec.keyHidden hf, hrec.noAttempt hf⟩, ?clears, ?reoffer, ?announce,
    ?stays, ?assembles, ?completes, ?answeredAt, ?clock, ?records, hrec.supervisor, ?undisturbed, ?keyPort, hrec.givenUp⟩
  case repeatUrgent => simp [State.resetCleared_line]
  case repeatOther => simp [State.resetCleared_line]
  case headerParity => simp [State.resetCleared_line]
  case checkFail => simp [State.resetCleared_line]
  case rxMissed => simp [State.resetCleared_line]
  case txPartial => simp [State.resetCleared_line]
  case inReset => simp [State.resetCleared_line]
  case dominant => simp [State.sinceDominant, State.resetCleared_line]
  case entries => simp [State.resetCleared_roster]
  case cause => simp [State.resetCleared_roster]
  case answeredAt => simp [State.resetCleared_roster]
  case clock => simp
  case records => simp [State.keepsRecords]
  case attempts =>
    by_cases hu : s.phase = .uncommissioned
    · rw [State.resetPhase_uncommissioned hu, State.resetCleared_tx]
      simp
    · obtain ⟨payload, htx | ⟨purge, ⟨hkind, hattempt⟩, htx⟩⟩ := State.resetPhase_queue hu <;> rw [htx]
      · simp
      · simp [hkind, hattempt]
  case silent => exact fun hu => by rw [State.resetPhase_uncommissioned hu, State.resetCleared_tx]
  case oneRoll => exact fun hu ho => State.resetPhase_tx hu fun _ => ho
  case queue =>
    intro hu
    obtain ⟨payload, htx | ⟨purge, ⟨hkind, -⟩, htx⟩⟩ := State.resetPhase_queue hu
    · exact ⟨payload, .inl htx⟩
    · exact ⟨payload, .inr ⟨purge, hkind, htx⟩⟩
  case clears =>
    intro hu
    rw [hrec.keyPort, if_pos hu]
    exact KeyPort.clearedTo_cleared _ _
  case keyPort => exact fun hu => by rw [hrec.keyPort, if_neg hu]
  case reoffer =>
    intro hp ho
    have hothers : s.resetCleared.others = s.others := State.others_congr (by simp) (by simp [State.resetCleared_roster])
    simp [State.resetPhase_purging hp, State.beginOffers, hothers, ho, announcePeriod, seconds]
  case announce =>
    intro hp
    simp [State.resetPhase_purgeWait hp, State.beginAnnounce, announcePeriod, seconds]
  case stays => exact fun hs => by rw [State.phase, State.resetPhase_stays (Phase.not_reassembles.mpr hs)]
  case assembles =>
    intro hp hw hh hu ho
    rw [State.resetPhase_waits ⟨hp, hw, hh, hu⟩ ho]
    simp [State.reassembling_roster]
  case completes =>
    intro hp hw hh hu ho hj
    obtain ⟨hwindow, hphase⟩ := (State.resetPhase_alone ⟨hp, hw, hh, hu⟩ ho).ended
      (by simpa [State.reassembling, State.resetCleared_purge] using hj)
    exact ⟨hwindow, fun he => hphase (by simpa [State.reassembling_verifier] using he)⟩
  case undisturbed =>
    intro hs
    have hkept := State.undisturbed_resetPhase (s := s) fun hp => hp.others_ne hs
    exact ⟨hkept.held, hkept.hold, hkept.slots, hkept.salt, hkept.blankKey, hkept.waits, hkept.writes, hkept.journal,
      hkept.badBlocks, hkept.nextBlock, hkept.plan, hkept.begun, hkept.store, hkept.gate⟩

end Sys2Proof.Machine
end

section
/-! PROOFS. Both queues of the line stay within their four places (R17 to R20). An operation keeps them because each operation it is made of does; a proof splits along the branches of its definition and cites those. Where the queues stand behind an update that is unfolded by definition, `simp` is told not to close a rewrite by unfolding, so that it can still see the lemma's hypothesis. -/

namespace Sys2Proof.Machine

/-- The queues of a line interface stand within their four places, own returned frames not counted (R17 to R19). -/
structure LineInterface.Fits (l : LineInterface) : Prop where
  tx : l.tx.length ≤ 4
  rx : (l.rx.filter fun f => f.own.isNone).length ≤ 4

theorem State.fits_iff (s : State) : s.line.Fits ↔ s.queuesBounded :=
  ⟨fun h => ⟨h.tx, h.rx⟩, fun h => ⟨h.1, h.2⟩⟩

section
variable {s : State}

@[simp] theorem State.offer_fits (h : s.line.Fits) (k : Kind) (target : Option StationNo) (payload : List Byte) :
    (s.offer k target payload).line.Fits :=
  ⟨s.offer_length k target payload h.tx, (s.offer_placesTaken k target payload).trans_le h.rx⟩

@[simp] theorem ite_fits {p : Prop} [Decidable p] {a b : State} (ha : a.line.Fits) (hb : b.line.Fits) :
    (if p then a else b).line.Fits := by
  split
  · exact ha
  · exact hb

/-- What each of several steps keeps, all of them together keep. -/
theorem foldl_fits {α : Type} {op : State → α → State} (hop : ∀ s x, s.line.Fits → (op s x).line.Fits) (h : s.line.Fits)
    (l : List α) : (l.foldl op s).line.Fits := by
  induction l generalizing s with
  | nil => exact h
  | cons x l ih => exact ih (hop s x h)

/-! ### What every event may offer (R37) -/

@[simp] theorem State.answer_fits (h : s.line.Fits) (replyTo : StationNo) (request : Kind) (result : AnswerResult)
    (byte2 bytes34 : Nat) : (s.answer replyTo request result byte2 bytes34).line.Fits := by
  unfold State.answer
  simp [h]

@[simp] theorem State.offerRoll_fits (h : s.line.Fits) : s.offerRoll.line.Fits := by
  unfold State.offerRoll
  (repeat' split) <;> simp [h]

@[simp] theorem State.payRoll_fits (h : s.line.Fits) : s.payRoll.line.Fits := by
  unfold State.payRoll
  (repeat' split) <;> simp -implicitDefEqProofs (maxDischargeDepth := 8) [h]

/-! ### The scanner and the phases -/

@[simp] theorem State.offerEntry_fits (h : s.line.Fits) (token : Token) (readOnly : Bool) :
    (s.offerEntry token readOnly).line.Fits := by
  unfold State.offerEntry
  dsimp only
  simp -implicitDefEqProofs (maxDischargeDepth := 8) [h]

@[simp] theorem State.testPending_fits (h : s.line.Fits) : s.testPending.line.Fits := by
  unfold State.testPending
  dsimp only
  (repeat' split) <;> simp -implicitDefEqProofs (maxDischargeDepth := 8) [h]

@[simp] theorem State.tellScanner_fits (h : s.line.Fits) (old : Phase) : (s.tellScanner old).line.Fits := by
  unfold State.tellScanner
  (repeat' split) <;> simp [h]

@[simp] theorem State.movePhase_fits (h : s.line.Fits) (p : Phase) (g : Grant) (attachWindow : Option Micros) :
    (s.movePhase p g attachWindow).line.Fits := by
  unfold State.movePhase
  dsimp only
  (repeat' split) <;> simp [h]

@[simp] theorem State.enterPhase_fits (h : s.line.Fits) (p : Phase) : (s.enterPhase p).line.Fits := by
  unfold State.enterPhase
  simp [h]

@[simp] theorem State.enterUnlocked_fits (h : s.line.Fits) (g : Grant) (key : ChannelKey) :
    (s.enterUnlocked g key).line.Fits := by
  unfold State.enterUnlocked
  dsimp only
  (repeat' split) <;> simp -implicitDefEqProofs (maxDischargeDepth := 8) [h]

/-! ### The gate's fault (R152, R154) -/

@[simp] theorem State.offerLock_fits (h : s.line.Fits) (cause : LockCause) : (s.offerLock cause).line.Fits := by
  unfold State.offerLock
  (repeat' split) <;> simp [h]

@[simp] theorem State.beginFault_fits (h : s.line.Fits) : s.beginFault.line.Fits := by
  unfold State.beginFault
  dsimp only
  (repeat' split) <;> simp [h]

@[simp] theorem State.countExpiry_fits (h : s.line.Fits) : s.countExpiry.line.Fits := by
  unfold State.countExpiry
  dsimp only
  (repeat' split) <;> simp -implicitDefEqProofs (maxDischargeDepth := 8) [h]

/-! ### Purges opened and raised, and the ends of an unlock or a verification -/

@[simp] theorem State.offerPurge_fits (h : s.line.Fits) : s.offerPurge.line.Fits := by
  unfold State.offerPurge
  (repeat' split) <;> simp [h]

@[simp] theorem State.openPurge_fits (h : s.line.Fits) (cause : PurgeCause) (target : Nat) :
    (s.openPurge cause target).line.Fits := by
  unfold State.openPurge
  dsimp only
  simp [h]

@[simp] theorem State.openOwn_fits (h : s.line.Fits) (cause : PurgeCause) : (s.openOwn cause).line.Fits := by
  unfold State.openOwn
  (repeat' split) <;> simp [h]

@[simp] theorem State.endVerification_fits (h : s.line.Fits) : s.endVerification.line.Fits := by
  unfold State.endVerification
  (repeat' split) <;> simp [h]

@[simp] theorem State.lockDown_fits (h : s.line.Fits) : s.lockDown.line.Fits := by
  unfold State.lockDown
  (repeat' split) <;> simp [h]

@[simp] theorem State.raiseTarget_fits (h : s.line.Fits) (target : Nat) : (s.raiseTarget target).line.Fits := by
  unfold State.raiseTarget
  dsimp only
  (repeat' split) <;> simp [h]

@[simp] theorem State.takeTarget_fits (h : s.line.Fits) (cause : PurgeCause) (target : Nat) :
    (s.takeTarget cause target).line.Fits := by
  unfold State.takeTarget
  (repeat' split) <;> simp [h]

/-! ### Assembly and reports of members -/

@[simp] theorem State.markPresent_fits (h : s.line.Fits) (n : StationNo) (r : LastRecord) :
    (s.markPresent n r).line.Fits := by
  unfold State.markPresent
  dsimp only
  (repeat' split) <;> simp [h]

@[simp] theorem State.haltOnConflict_fits (h : s.line.Fits) : s.haltOnConflict.line.Fits := by
  have hh := State.enterPhase_fits (s := s.setSupervisor { s.supervisor with haltMark := true }) h .halted
  unfold State.haltOnConflict
  dsimp only
  split
  · exact ⟨hh.tx, hh.rx⟩
  · exact ⟨hh.tx, hh.rx⟩
  · exact State.offerRoll_fits hh

@[simp] theorem State.completeAssembly_fits (h : s.line.Fits) : s.completeAssembly.line.Fits := by
  unfold State.completeAssembly
  dsimp only
  (repeat' split) <;> simp [h]

@[simp] theorem State.completionTest_fits (h : s.line.Fits) : s.completionTest.line.Fits := by
  unfold State.completionTest
  (repeat' split) <;> simp [h]

@[simp] theorem State.beginAssembly_fits (h : s.line.Fits) : s.beginAssembly.line.Fits := by
  unfold State.beginAssembly
  simp [h]

@[simp] theorem State.purgeWaitTest_fits (h : s.line.Fits) : s.purgeWaitTest.line.Fits := by
  unfold State.purgeWaitTest
  (repeat' split) <;> simp [h]

@[simp] theorem State.testsAfterReport_fits (h : s.line.Fits) : s.testsAfterReport.line.Fits := by
  unfold State.testsAfterReport
  simp [h]

@[simp] theorem State.mergePair_fits (h : s.line.Fits) (p : Nat × Nat) : (s.mergePair p).line.Fits := by
  unfold State.mergePair
  dsimp only
  (repeat' split) <;> simp [h]

@[simp] theorem State.epochTest_fits (h : s.line.Fits) (epoch : Nat) : (s.epochTest epoch).line.Fits := by
  unfold State.epochTest
  (repeat' split) <;> simp [h]

@[simp] theorem State.answerRoll_fits (h : s.line.Fits) (calls : Bool) : (s.answerRoll calls).line.Fits := by
  unfold State.answerRoll
  (repeat' split) <;> simp -implicitDefEqProofs (maxDischargeDepth := 8) [h]

@[simp] theorem State.leaveLockedOn_fits (h : s.line.Fits) (halted : Bool) (epoch : Nat) :
    (s.leaveLockedOn halted epoch).line.Fits := by
  unfold State.leaveLockedOn
  (repeat' split) <;> simp [h]

@[simp] theorem State.mergeRoll_fits (h : s.line.Fits) (r : GuardRecord) : (s.mergeRoll r).line.Fits := by
  unfold State.mergeRoll
  (repeat' split) <;> simp [h]

@[simp] theorem State.handleRoll_fits (h : s.line.Fits) (f : RxFrame) : (s.handleRoll f).line.Fits := by
  unfold State.handleRoll State.handleGuardRoll State.handleControllerRoll
  (repeat' split) <;> simp -implicitDefEqProofs (maxDischargeDepth := 8) [h]

@[simp] theorem State.handlePurged_fits (h : s.line.Fits) (f : RxFrame) : (s.handlePurged f).line.Fits := by
  unfold State.handlePurged
  dsimp only
  (repeat' split) <;> simp -implicitDefEqProofs (maxDischargeDepth := 8) [h]

/-! ### Entries and verdicts -/

@[simp] theorem State.handOver_fits (h : s.line.Fits) (slot : SlotNo) (readOnly : Bool) (key : ChannelKey) :
    (s.handOver slot readOnly key).line.Fits := by
  unfold State.handOver
  simp -implicitDefEqProofs (maxDischargeDepth := 8) [h]

@[simp] theorem State.spendOrHandOver_fits (h : s.line.Fits) (a : Attempt) (slot : SlotNo) (key : ChannelKey) :
    (s.spendOrHandOver a slot key).line.Fits := by
  unfold State.spendOrHandOver
  dsimp only
  (repeat' split) <;> simp [h]

@[simp] theorem State.unlockOutcome_fits (h : s.line.Fits) (a : Attempt) : (s.unlockOutcome a).line.Fits := by
  unfold State.unlockOutcome
  dsimp only
  (repeat' split) <;> simp -implicitDefEqProofs (maxDischargeDepth := 8) [h]

@[simp] theorem State.takeDecision_fits (h : s.line.Fits) (a : Attempt) : (s.takeDecision a).line.Fits := by
  unfold State.takeDecision
  dsimp only
  (repeat' split) <;> simp [h]

@[simp] theorem State.beginAttempt_fits (h : s.line.Fits) (n : StationNo) (e : EntryFields) (own : OwnResult) :
    (s.beginAttempt n e own).line.Fits := by
  unfold State.beginAttempt
  simp -implicitDefEqProofs (maxDischargeDepth := 8) [h]

@[simp] theorem State.countFailure_fits (h : s.line.Fits) (n : StationNo) (e : EntryFields) :
    (s.countFailure n e).line.Fits := by
  unfold State.countFailure
  dsimp only
  simp [h]

@[simp] theorem State.actOnEntry_fits (h : s.line.Fits) (n : StationNo) (e : EntryFields) (finding : EntryFinding) :
    (s.actOnEntry n e finding).line.Fits := by
  unfold State.actOnEntry
  cases finding <;> simp [State.offerVerdict, h]

@[simp] theorem State.takeEntry_fits (h : s.line.Fits) (f : RxFrame) : (s.takeEntry f).line.Fits := by
  unfold State.takeEntry
  dsimp only
  (repeat' split) <;> simp [h]

@[simp] theorem State.handleEntry_fits (h : s.line.Fits) (f : RxFrame) : (s.handleEntry f).line.Fits := by
  unfold State.handleEntry
  dsimp only
  (repeat' split) <;> simp [h]

@[simp] theorem State.fileVerdict_fits (h : s.line.Fits) (a : Attempt) (n : StationNo) (v : Filed) :
    (s.fileVerdict a n v).line.Fits := by
  unfold State.fileVerdict
  dsimp only
  (repeat' split) <;> simp -implicitDefEqProofs (maxDischargeDepth := 8) [h]

@[simp] theorem State.mergeVerdict_fits (h : s.line.Fits) (n : StationNo) (v : Filed) :
    (s.mergeVerdict n v).line.Fits := by
  unfold State.mergeVerdict
  (repeat' split) <;> simp [h]

@[simp] theorem State.takeVerdict_fits (h : s.line.Fits) (n : StationNo) (v : VerdictFields) :
    (s.takeVerdict n v).line.Fits := by
  unfold State.takeVerdict
  dsimp only
  (repeat' split) <;> simp [h]

@[simp] theorem State.handleVerdict_fits (h : s.line.Fits) (f : RxFrame) : (s.handleVerdict f).line.Fits := by
  unfold State.handleVerdict
  (repeat' split) <;> simp [h]

@[simp] theorem State.storeIncrement_fits (h : s.line.Fits) (serial : Nat) (stored : AttemptRecord) :
    (s.storeIncrement serial stored).line.Fits := by
  unfold State.storeIncrement
  (repeat' split) <;> simp -implicitDefEqProofs (maxDischargeDepth := 8) [State.offerVerdict, h]

@[simp] theorem State.attemptStored_fits (h : s.line.Fits) (w : InFlight) : (s.attemptStored w).line.Fits := by
  unfold State.attemptStored
  (repeat' split) <;> simp [h]

/-! ### Slots and enrollment -/

@[simp] theorem State.endEnrollment_fits (h : s.line.Fits) (e : Enrollment) (abandon : Bool) :
    (s.endEnrollment e abandon).line.Fits := by
  unfold State.endEnrollment
  dsimp only
  (repeat' split) <;> simp [h]

@[simp] theorem State.fileAnswer_fits (h : s.line.Fits) (sender : StationNo) (slot gen : Nat) (result : Byte) :
    (s.fileAnswer sender slot gen result).line.Fits := by
  unfold State.fileAnswer
  dsimp only
  (repeat' split) <;> simp -implicitDefEqProofs (maxDischargeDepth := 8) [h]

@[simp] theorem State.answerSlot_fits (h : s.line.Fits) (replyTo : StationNo) (request : Kind) (result : AnswerResult)
    (slot gen : Nat) : (s.answerSlot replyTo request result slot gen).line.Fits := by
  unfold State.answerSlot
  (repeat' split) <;> simp [h]

@[simp] theorem State.offerStage_fits (h : s.line.Fits) (slot : SlotNo) (token : Token) :
    (s.offerStage slot token).line.Fits := by
  unfold State.offerStage
  dsimp only
  simp [h]

@[simp] theorem State.stageSlot_fits (h : s.line.Fits) (n : StationNo) (e : StageFields) :
    (s.stageSlot n e).line.Fits := by
  unfold State.stageSlot
  (repeat' split) <;> simp [h]

@[simp] theorem State.takeStage_fits (h : s.line.Fits) (f : RxFrame) : (s.takeStage f).line.Fits := by
  unfold State.takeStage
  dsimp only
  (repeat' split) <;> simp [h]

@[simp] theorem State.ownStage_fits (h : s.line.Fits) (f : RxFrame) : (s.ownStage f).line.Fits := by
  unfold State.ownStage
  (repeat' split) <;> simp [h]

@[simp] theorem State.handleStage_fits (h : s.line.Fits) (f : RxFrame) : (s.handleStage f).line.Fits := by
  unfold State.handleStage
  dsimp only
  (repeat' split) <;> simp [h]

@[simp] theorem State.adoptSlot_fits (h : s.line.Fits) (n : StationNo) (slot gen : Nat) :
    (s.adoptSlot n slot gen).line.Fits := by
  unfold State.adoptSlot
  dsimp only
  (repeat' split) <;> simp [h]

@[simp] theorem State.abandonSlot_fits (h : s.line.Fits) (n : StationNo) (slot gen : Nat) :
    (s.abandonSlot n slot gen).line.Fits := by
  unfold State.abandonSlot
  (repeat' split) <;> simp [h]

@[simp] theorem State.retireSlot_fits (h : s.line.Fits) (n : StationNo) (slot gen : Nat) :
    (s.retireSlot n slot gen).line.Fits := by
  unfold State.retireSlot
  (repeat' split) <;> simp [h]

@[simp] theorem State.handleRetire_fits (h : s.line.Fits) (f : RxFrame) : (s.handleRetire f).line.Fits := by
  unfold State.handleRetire
  dsimp only
  (repeat' split) <;> simp [h]

@[simp] theorem State.handleAnswer_fits (h : s.line.Fits) (f : RxFrame) : (s.handleAnswer f).line.Fits := by
  unfold State.handleAnswer
  (repeat' split) <;> simp [h]

@[simp] theorem State.firstAdoption_fits (h : s.line.Fits) : s.firstAdoption.line.Fits := by
  unfold State.firstAdoption
  dsimp only
  (repeat' split) <;> simp [h]

@[simp] theorem State.settleWait_fits (h : s.line.Fits) (serial : Nat) (sl : Slot) (w : SlotWait) :
    (s.settleWait serial sl w).line.Fits := by
  unfold State.settleWait
  dsimp only
  (repeat' split) <;> simp [h]

@[simp] theorem State.settleHandOver_fits (h : s.line.Fits) (i : SlotNo) (serial : Nat) :
    (s.settleHandOver i serial).line.Fits := by
  unfold State.settleHandOver
  (repeat' split) <;> simp [h]

@[simp] theorem State.slotStored_fits (h : s.line.Fits) (w : InFlight) : (s.slotStored w).line.Fits := by
  unfold State.slotStored
  dsimp only
  split
  · refine foldl_fits (fun s x hs => State.settleWait_fits hs _ _ x) (State.settleHandOver_fits ?_ _ _) _
    simpa using h
  all_goals simpa using h

/-! ### LOCK and PURGE, and the engine's writes -/

@[simp] theorem State.handleLock_fits (h : s.line.Fits) (f : RxFrame) : (s.handleLock f).line.Fits := by
  unfold State.handleLock
  (repeat' split) <;> simp [h]

@[simp] theorem State.handlePurge_fits (h : s.line.Fits) (f : RxFrame) : (s.handlePurge f).line.Fits := by
  unfold State.handlePurge
  dsimp only
  (repeat' split) <;> simp [h]

@[simp] theorem State.handleControllerPurge_fits (h : s.line.Fits) (f : RxFrame) :
    (s.handleControllerPurge f).line.Fits := by
  unfold State.handleControllerPurge
  dsimp only
  (repeat' split) <;> simp [State.answerPurge, h]

@[simp] theorem State.openPending_fits (h : s.line.Fits) : s.openPending.line.Fits := by
  unfold State.openPending
  (repeat' split) <;> simp -implicitDefEqProofs (maxDischargeDepth := 8) [h]

@[simp] theorem State.closePurge_fits (h : s.line.Fits) : s.closePurge.line.Fits := by
  unfold State.closePurge
  dsimp only
  simp -implicitDefEqProofs (maxDischargeDepth := 8) [State.offerPurged, h]

@[simp] theorem State.answerStored_fits (h : s.line.Fits) (target : Nat) : (s.answerStored target).line.Fits := by
  unfold State.answerStored
  dsimp only
  refine foldl_fits (fun _ _ hs => State.answer_fits hs _ _ _ _ _) ?_ _
  exact h

@[simp] theorem State.journalStored_fits (h : s.line.Fits) (j : Journal) : (s.journalStored j).line.Fits := by
  unfold State.journalStored
  dsimp only
  (repeat' split) <;> simp [h]

@[simp] theorem State.purgeGoesOn_fits (h : s.line.Fits) (again : Bool) (c : Contents) :
    (s.purgeGoesOn again c).line.Fits := by
  unfold State.purgeGoesOn
  (repeat' split) <;> simp [h]

@[simp] theorem State.purgeStored_fits (h : s.line.Fits) (w : InFlight) : (s.purgeStored w).line.Fits := by
  unfold State.purgeStored
  dsimp only
  (repeat' split) <;> simp [h]

/-! ### The gate -/

@[simp] theorem State.expireDrain_fits (h : s.line.Fits) : s.expireDrain.line.Fits := by
  unfold State.expireDrain
  dsimp only
  simp [h]

@[simp] theorem State.takeRange_fits (h : s.line.Fits) (n : StationNo) (e : RangeFields) :
    (s.takeRange n e).line.Fits := by
  unfold State.takeRange
  (repeat' split) <;> simp [State.answerRange, h]

@[simp] theorem State.handleRange_fits (h : s.line.Fits) (f : RxFrame) : (s.handleRange f).line.Fits := by
  unfold State.handleRange
  dsimp only
  (repeat' split) <;> simp [State.answerRange, h]

@[simp] theorem State.rangeStored_fits (h : s.line.Fits) (w : InFlight) : (s.rangeStored w).line.Fits := by
  unfold State.rangeStored
  dsimp only
  split
  · refine foldl_fits (fun _ _ hs => State.answer_fits hs _ _ _ _ _) ?_ _
    simpa using h
  all_goals simpa using h

/-! ### The keypad -/

@[simp] theorem State.placeEntry_fits (h : s.line.Fits) (token : Token) (readOnly : Bool) :
    (s.placeEntry token readOnly).line.Fits := by
  unfold State.placeEntry
  (repeat' split) <;> simp [h]

@[simp] theorem State.enterInEntry_fits (h : s.line.Fits) : s.enterInEntry.line.Fits := by
  unfold State.enterInEntry
  (repeat' split) <;> simp [h]

@[simp] theorem State.enroll_fits (h : s.line.Fits) (kind : ModeKind) (token : Token) :
    (s.enroll kind token).line.Fits := by
  unfold State.enroll
  (repeat' split) <;> simp [h]

@[simp] theorem State.enterInSecond_fits (h : s.line.Fits) (kind : ModeKind) (first : Token) :
    (s.enterInSecond kind first).line.Fits := by
  unfold State.enterInSecond
  (repeat' split) <;> simp [h]

@[simp] theorem State.confirmPurge_fits (h : s.line.Fits) : s.confirmPurge.line.Fits := by
  unfold State.confirmPurge
  dsimp only
  (repeat' split) <;> simp [h]

@[simp] theorem State.enterKey_fits (h : s.line.Fits) : s.enterKey.line.Fits := by
  unfold State.enterKey
  (repeat' split) <;> simp [h]

/-! ### Starts and senses -/

@[simp] theorem State.startHalted_fits (h : s.line.Fits) : s.startHalted.line.Fits := by
  unfold State.startHalted
  simp -implicitDefEqProofs (maxDischargeDepth := 8) [h]

@[simp] theorem State.resumePurge_fits (h : s.line.Fits) : s.resumePurge.line.Fits := by
  unfold State.resumePurge
  simp [h]

@[simp] theorem State.choosePhase_fits (h : s.line.Fits) (cause : StartCause) : (s.choosePhase cause).line.Fits := by
  unfold State.choosePhase
  (repeat' split) <;> simp [h]

@[simp] theorem State.startBlocks_fits (s : State) (i : StartInputs) (cause : StartCause) :
    (s.startBlocks i cause).line.Fits :=
  ⟨Nat.zero_le _, Nat.zero_le _⟩

@[simp] theorem State.start_fits (s : State) (i : StartInputs) (cause : StartCause) : (s.start i cause).line.Fits :=
  State.choosePhase_fits (s.startBlocks_fits i cause) cause

@[simp] theorem State.loseSupply_fits (s : State) (landed : Bool) : (s.loseSupply landed).line.Fits :=
  ⟨Nat.zero_le _, Nat.zero_le _⟩

@[simp] theorem State.sleep_fits (s : State) : s.sleep.line.Fits :=
  ⟨Nat.zero_le _, Nat.zero_le _⟩

@[simp] theorem State.detachNow_fits (h : s.line.Fits) (landed : Bool) : (s.detachNow landed).line.Fits := by
  unfold State.detachNow
  dsimp only
  (repeat' split) <;> simp -implicitDefEqProofs (maxDischargeDepth := 8) [h]

@[simp] theorem State.takeBand_fits (h : s.line.Fits) (b : Band) (landed : Bool) : (s.takeBand b landed).line.Fits := by
  unfold State.takeBand
  dsimp only
  (repeat' split) <;> simp [h]

@[simp] theorem State.actOnTamper_fits (h : s.line.Fits) : s.actOnTamper.line.Fits := by
  unfold State.actOnTamper
  (repeat' split) <;> simp [h]

@[simp] theorem State.assertTamper_fits (h : s.line.Fits) : s.assertTamper.line.Fits := by
  unfold State.assertTamper
  dsimp only
  simp [h]

/-! ### Setup and status -/

@[simp] theorem State.checkSetup_fits (h : s.line.Fits) (f : RxFrame) : (s.checkSetup f).line.Fits := by
  unfold State.checkSetup
  (repeat' split) <;> simp [State.answerSetup, h]

@[simp] theorem State.checkSetupLock_fits (h : s.line.Fits) (f : RxFrame) : (s.checkSetupLock f).line.Fits := by
  unfold State.checkSetupLock
  (repeat' split) <;> simp [State.answerSetup, h]

@[simp] theorem State.lockedStored_fits (h : s.line.Fits) : s.lockedStored.line.Fits := by
  unfold State.lockedStored
  dsimp only
  (repeat' split) <;> simp -implicitDefEqProofs (maxDischargeDepth := 8) [State.answerSetup, h]

theorem State.clearEvents_fits (h : s.line.Fits) (mask : Nat) : (s.clearEvents mask).line.Fits :=
  ⟨h.tx, h.rx⟩

theorem State.handleClear_fits (h : s.line.Fits) (f : RxFrame) : (s.handleClear f).line.Fits := by
  unfold State.handleClear
  (repeat' split) <;> simp [State.answerClear, State.clearEvents_fits, h]

/-! ### Attempts, frames received and line resets -/

/-- An own frame that returns takes no place of either queue. -/
@[simp] theorem State.returnOwn_fits (h : s.line.Fits) (f : TxFrame) (o : SendOutcome) : (s.returnOwn f o).line.Fits :=
  ⟨by simpa using h.tx, (s.returnOwn_placesTaken f o).trans_le h.rx⟩

/-- The head frame that leaves the queue frees its place. -/
theorem State.releaseHead_fits (h : s.line.Fits) {f : TxFrame} {rest : List TxFrame} (htx : s.line.tx = f :: rest)
    (o : SendOutcome) : (s.releaseHead f rest o).line.Fits := by
  have hrest : rest.length ≤ 4 := by
    have := h.tx
    rw [htx, List.length_cons] at this
    omega
  exact State.returnOwn_fits (s := s.setLine { s.line with tx := rest }) ⟨hrest, h.rx⟩ f o

/-- The head frame that stays for another attempt keeps its place. -/
theorem State.retryHead_fits (h : s.line.Fits) {f : TxFrame} {rest : List TxFrame} (htx : s.line.tx = f :: rest) :
    (s.retryHead f rest).line.Fits := by
  refine ⟨?_, h.rx⟩
  have hl : (s.retryHead f rest).line.tx.length = s.line.tx.length := by
    simp [State.retryHead, urgentFirst_length, htx]
  exact hl.trans_le h.tx

theorem State.failAttempt_fits (h : s.line.Fits) {f : TxFrame} {rest : List TxFrame} (htx : s.line.tx = f :: rest) :
    (s.failAttempt f rest).line.Fits := by
  have hend : s.endAttempt.line.Fits := ⟨h.tx, h.rx⟩
  unfold State.failAttempt
  dsimp only
  split
  · exact State.retryHead_fits hend htx
  · exact State.releaseHead_fits (s := s.endAttempt.setLine { s.endAttempt.line with txDropped := true })
      ⟨hend.tx, hend.rx⟩ htx _

theorem State.partialAttempt_fits (h : s.line.Fits) {f : TxFrame} {rest : List TxFrame} (htx : s.line.tx = f :: rest)
    (missing : List StationNo) : (s.partialAttempt f rest missing).line.Fits := by
  unfold State.partialAttempt
  split
  · exact State.retryHead_fits h htx
  · split
    · exact State.releaseHead_fits h htx _
    · rw [State.markSilent_line]
      exact State.releaseHead_fits (s := s.setLine { s.line with txPartial := true }) ⟨h.tx, h.rx⟩ htx _

theorem State.finishAttempt_fits (h : s.line.Fits) {f : TxFrame} {rest : List TxFrame} (htx : s.line.tx = f :: rest)
    (slots : Byte) : (s.finishAttempt f rest slots).line.Fits := by
  have hend : s.endAttempt.driveOwnSlot.line.Fits := ⟨h.tx, h.rx⟩
  unfold State.finishAttempt
  dsimp only
  split
  · exact State.releaseHead_fits hend htx _
  · exact State.partialAttempt_fits hend htx _

/-- A frame is queued only where a place is free (R16, R17). -/
theorem State.acceptFrame_fits (h : s.line.Fits) (f : LineFrame) (k : Kind) : (s.acceptFrame f k).line.Fits := by
  by_cases hk : s.knows f k
  · rw [State.acceptFrame_repeat hk]
    exact ⟨h.tx, h.rx⟩
  · by_cases hp : s.placesTaken < 4
    · rw [State.acceptFrame_new hk hp]
      refine ⟨by simpa using h.tx, ?_⟩
      have hp' : (s.line.rx.filter fun f => f.own.isNone).length < 4 := hp
      simp
      omega
    · rw [State.acceptFrame_missed hk (Nat.not_lt.mp hp)]
      exact ⟨h.tx, h.rx⟩

theorem State.checkFrame_fits (h : s.line.Fits) (f : LineFrame) : (s.checkFrame f).line.Fits := by
  have hfail : s.latchCheckFail.line.Fits := ⟨h.tx, h.rx⟩
  unfold State.checkFrame State.addressFrame
  (repeat' split)
  · exact hfail
  · exact h
  · exact hfail
  · exact State.acceptFrame_fits h f _
  · exact hfail

theorem State.passFrame_fits (h : s.line.Fits) (f : LineFrame) : (s.passFrame f).line.Fits := by
  unfold State.passFrame State.followFrame
  dsimp only
  (repeat' split)
  · exact h
  · exact ⟨h.tx, h.rx⟩
  · refine State.checkFrame_fits ?_ f
    exact ⟨h.tx, h.rx⟩
  · exact ⟨h.tx, h.rx⟩
  · exact ⟨h.tx, h.rx⟩

/-- A line reset empties both queues (R23). -/
@[simp] theorem State.resetLine_fits (s : State) : s.resetLine.line.Fits :=
  ⟨Nat.zero_le _, Nat.zero_le _⟩

@[simp] theorem State.resetPhase_fits (h : s.line.Fits) : s.resetPhase.line.Fits := by
  unfold State.resetPhase
  split <;> simp [h]

/-! ### What a command keeps -/

/-- A command that ends in a next state ends in one whose queues stand within their places. -/
def LeavesFits (o : Host.Outcome State Fault Refusal) : Prop := ∀ t, o = .next t → t.line.Fits

theorem leavesFits_next (h : s.line.Fits) : LeavesFits (.next s) := by
  rintro t ⟨⟩
  exact h

theorem State.done_fits (h : s.line.Fits) : LeavesFits s.done :=
  leavesFits_next (State.payRoll_fits h)

theorem State.whileAwake_fits (h : s.line.Fits) {body : State → State} (hb : (body s).line.Fits) :
    LeavesFits (s.whileAwake body) := by
  unfold State.whileAwake
  split
  · exact State.done_fits hb
  · exact leavesFits_next h

/-- A frame that is taken from the receive queue frees its place. -/
theorem State.takeFrame_fits (h : s.line.Fits) {isMine : RxFrame → Bool} {serve : State → RxFrame → State}
    (hs : ∀ s f, s.line.Fits → (serve s f).line.Fits) : (s.takeFrame isMine serve).line.Fits := by
  unfold State.takeFrame
  split
  · exact h
  · next f rest hrx =>
    have htaken : (s.setLine { s.line with rx := rest }).line.Fits := by
      refine ⟨h.tx, le_trans ?_ h.rx⟩
      rw [hrx]
      exact ((List.sublist_cons_self f rest).filter _).length_le
    dsimp only
    (repeat' split)
    · exact hs _ _ htaken
    · exact htaken
    · exact h

theorem State.frameRow_fits (h : s.line.Fits) {isMine : RxFrame → Bool} {serve : State → RxFrame → State}
    (hs : ∀ s f, s.line.Fits → (serve s f).line.Fits) : LeavesFits (s.frameRow isMine serve) :=
  State.whileAwake_fits h (State.takeFrame_fits h hs)

theorem State.completeWrite_fits (h : s.line.Fits) (w : InFlight) {event : State → State}
    (he : ∀ s, s.line.Fits → (event s).line.Fits) : (s.completeWrite w event).line.Fits := by
  unfold State.completeWrite
  simp only [State.arbitrate_frame]
  exact he _ h

theorem State.takeKey_fits (h : s.line.Fits) (key : Key) {act : State → State}
    (ha : ∀ s, s.line.Fits → (act s).line.Fits) : (s.takeKey key act).line.Fits := by
  unfold State.takeKey
  dsimp only
  (repeat' split)
  · exact h
  · exact ha _ h
  · exact ha _ h
  all_goals exact h

theorem State.serveSetup_fits (h : s.line.Fits) (f : RxFrame) {serve : State → State}
    (hs : ∀ s, s.line.Fits → (serve s).line.Fits) : (s.serveSetup f serve).line.Fits := by
  unfold State.serveSetup
  (repeat' split)
  · exact hs s h
  · exact h
  · exact State.answer_fits h _ _ _ _ _

theorem State.takeAdopt_fits (h : s.line.Fits) (f : RxFrame) {effect : State → StationNo → Nat → Nat → State}
    (he : ∀ s n slot gen, s.line.Fits → (effect s n slot gen).line.Fits) : (s.takeAdopt f effect).line.Fits := by
  unfold State.takeAdopt
  dsimp only
  (repeat' split)
  · exact h
  · exact he s _ _ _ h
  · exact State.answerSlot_fits h _ _ _ _ _

/-! ### The commands -/

theorem execPowerUp_fits (h : s.line.Fits) (i : StartInputs) : LeavesFits (execPowerUp i s) := by
  unfold execPowerUp
  split
  · exact State.done_fits (State.start_fits s i .power)
  · exact leavesFits_next h

theorem execSupplyLost_fits (h : s.line.Fits) (landed : Bool) : LeavesFits (execSupplyLost landed s) := by
  unfold execSupplyLost
  split
  · exact leavesFits_next (State.loseSupply_fits s landed)
  · exact leavesFits_next h

theorem execWake_fits (h : s.line.Fits) (cause : WakeCause) (i : StartInputs) : LeavesFits (execWake cause i s) := by
  unfold execWake
  (repeat' split)
  · exact State.done_fits (by simp)
  · exact leavesFits_next (State.loseSupply_fits s false)
  · exact leavesFits_next h

theorem execCellBandChange_fits (h : s.line.Fits) (samples : List Nat) (landed : Bool) :
    LeavesFits (execCellBandChange samples landed s) := by
  unfold execCellBandChange
  dsimp only
  (repeat' split)
  · exact leavesFits_next h
  · exact State.done_fits (State.takeBand_fits h _ landed)
  · exact leavesFits_next (State.loseSupply_fits s landed)
  · exact leavesFits_next h

/-- Every command keeps both queues within their places: the frame rows take a frame and serve it, the completions end a write, the keys act once they are taken, and any other command is an event of the awake station. -/
theorem exec_fits (h : s.line.Fits) (c : Instr) : LeavesFits (exec c s) := by
  cases c <;> unfold exec
  case powerUp i => exact execPowerUp_fits h i
  case supplyLost landed => exact execSupplyLost_fits h landed
  case wake cause i => exact execWake_fits h cause i
  case cellBandChange samples landed => exact execCellBandChange_fits h samples landed
  case frameReceive f => exact State.whileAwake_fits h (State.passFrame_fits h f)
  case roll => exact State.frameRow_fits h fun _ f hs => State.handleRoll_fits hs f
  case entry => exact State.frameRow_fits h fun _ f hs => State.handleEntry_fits hs f
  case verdict => exact State.frameRow_fits h fun _ f hs => State.handleVerdict_fits hs f
  case stage => exact State.frameRow_fits h fun _ f hs => State.handleStage_fits hs f
  case retire => exact State.frameRow_fits h fun _ f hs => State.handleRetire_fits hs f
  case answer => exact State.frameRow_fits h fun _ f hs => State.handleAnswer_fits hs f
  case lock => exact State.frameRow_fits h fun _ f hs => State.handleLock_fits hs f
  case purge => exact State.frameRow_fits h fun _ f hs => State.handlePurge_fits hs f
  case controllerPurge => exact State.frameRow_fits h fun _ f hs => State.handleControllerPurge_fits hs f
  case purged => exact State.frameRow_fits h fun _ f hs => State.handlePurged_fits hs f
  case range => exact State.frameRow_fits h fun _ f hs => State.handleRange_fits hs f
  case query => exact State.frameRow_fits h fun _ _ hs => State.offer_fits hs _ _ _
  case status => exact State.frameRow_fits h fun _ _ hs => hs
  case clear => exact State.frameRow_fits h fun _ f hs => State.handleClear_fits hs f
  case setup => exact State.frameRow_fits h fun _ f hs => State.serveSetup_fits hs f fun _ hs => State.checkSetup_fits hs f
  case setupLock =>
    exact State.frameRow_fits h fun _ f hs => State.serveSetup_fits hs f fun _ hs => State.checkSetupLock_fits hs f
  case adopt =>
    exact State.frameRow_fits h fun _ f hs => State.takeAdopt_fits hs f fun _ n i g hs => State.adoptSlot_fits hs n i g
  case adoptAbandon =>
    exact State.frameRow_fits h fun _ f hs => State.takeAdopt_fits hs f fun _ n i g hs => State.abandonSlot_fits hs n i g
  case keyDigit d => exact State.whileAwake_fits h (State.takeKey_fits h _ fun _ hs => by simpa using hs)
  case keyLock => exact State.whileAwake_fits h (State.takeKey_fits h _ fun _ hs => by simpa using hs)
  case keyEnter => exact State.whileAwake_fits h (State.takeKey_fits h _ fun _ hs => State.enterKey_fits hs)
  case bitError =>
    refine State.whileAwake_fits h ?_
    (repeat' split)
    · next htx _ => exact State.failAttempt_fits h htx
    all_goals exact h
  case attemptComplete slots =>
    refine State.whileAwake_fits h ?_
    (repeat' split)
    · next htx _ => exact State.finishAttempt_fits h htx slots
    all_goals exact h
  case dormancyEntry _ _ =>
    refine State.whileAwake_fits h ?_
    split
    · exact State.sleep_fits s
    · exact h
  case purgeWriteComplete =>
    refine State.whileAwake_fits h ?_
    split
    · exact State.completeWrite_fits h _ fun _ hs => State.purgeStored_fits hs _
    · exact h
  case rangeWriteComplete =>
    refine State.whileAwake_fits h ?_
    split
    · exact State.completeWrite_fits h _ fun _ hs => State.rangeStored_fits hs _
    · exact h
  case slotWriteComplete =>
    refine State.whileAwake_fits h ?_
    split
    · exact State.completeWrite_fits h _ fun _ hs => State.slotStored_fits hs _
    · exact h
  case attemptWriteComplete =>
    refine State.whileAwake_fits h ?_
    (repeat' split)
    · exact State.completeWrite_fits h _ fun _ hs => State.attemptStored_fits hs _
    all_goals exact h
  case tamperWriteComplete =>
    refine State.whileAwake_fits h ?_
    split
    · exact State.completeWrite_fits h _ fun _ hs => hs
    · exact h
  case setupWriteComplete =>
    refine State.whileAwake_fits h ?_
    split
    · exact State.completeWrite_fits h _ fun _ hs => State.answer_fits hs _ _ _ _ _
    · exact h
  case keyingWriteComplete =>
    refine State.whileAwake_fits h ?_
    (repeat' split)
    · exact h
    · exact State.completeWrite_fits h _ fun _ hs => by simpa using hs
    · exact h
  case setupLockComplete =>
    refine State.whileAwake_fits h ?_
    split
    · exact State.completeWrite_fits h _ fun _ hs => State.lockedStored_fits hs
    · exact h
  case startSettleEnd | frameAttemptStart _ | lineIdleReached | dominantRunOutsideFrame _ =>
    refine State.whileAwake_fits h ?_
    (repeat' split)
    all_goals exact ⟨h.tx, h.rx⟩
  all_goals
    refine State.whileAwake_fits h ?_
    (repeat' split) <;> simp -implicitDefEqProofs (maxDischargeDepth := 8) [h]

/-- Settles O7: a tick leaves the queues, and a command keeps them within their places. -/
theorem queuesStayBounded : Obligations.QueuesStayBounded := by
  intro s t hs hstep
  rw [← State.fits_iff] at hs ⊢
  unfold Steps step at hstep
  split at hstep
  · cases hstep
    exact hs
  · next c rest _ => exact exec_fits (s := s.setPending rest) hs c t hstep
end

end Sys2Proof.Machine
end

section
/-! PROOFS. A loss of supply and dormancy (Chapter 9). -/

namespace Sys2Proof.Machine

/-! ### What a stop of the blocks leaves -/

/-- Every block stands at its value of reset: no key, no attempt, no frame, no grant and no command (R181, R192). -/
structure State.BlocksStopped (s t : State) : Prop where
  keyPort : t.keyPort.state = .clear
  presented : t.keyPort.presented = 0
  unlockedKey : t.slotTable.unlockedKey = none
  attempt : t.verifier.attempt = none
  tx : t.line.tx = []
  rx : t.line.rx = []
  grant : t.phaseCtl.grant = .none
  command : t.gate.command = .idle
  clock : t.clock = s.clock

/-- The supply is gone: the blocks are stopped, and what dormancy would keep, the halt mark, the tamper level and the outputs, is gone too; the store keeps its records, but for a write in flight that has landed (R181, R185, R206). -/
structure State.SupplyGone (s : State) (landed : Bool) (t : State) : Prop where
  stopped : s.BlocksStopped t
  supplyValid : t.supervisor.supplyValid = false
  haltMark : t.supervisor.haltMark = false
  tamperAsserted : t.supervisor.tamperAsserted = false
  inFlight : t.store.inFlight = none
  requests : t.store.requests = Requests.none
  kept : s.store.inFlight = none ∨ landed = false → t.store.stored = s.store.stored
  landed : ∀ w, s.store.inFlight = some w → landed = true → t.store.stored = s.store.stored.put w.contents

/-- A loss of supply, of a station whose supervisor alone may have moved before. -/
theorem State.loseSupply_gone (s : State) (v : Supervisor) (landed : Bool) :
    s.SupplyGone landed ((s.setSupervisor v).loseSupply landed) where
  stopped := ⟨rfl, rfl, rfl, rfl, rfl, rfl, rfl, rfl, rfl⟩
  supplyValid := rfl
  haltMark := rfl
  tamperAsserted := rfl
  inFlight := rfl
  requests := rfl
  kept := by
    rintro (h | rfl)
    · simp [State.loseSupply, State.stopBlocks, Store.cutOff, h]
    · cases h : s.store.inFlight <;> simp [State.loseSupply, State.stopBlocks, Store.cutOff, h]
  landed w h hl := by simp [State.loseSupply, State.stopBlocks, Store.cutOff, h, hl]

/-- With no write in flight it does not matter whether one had landed. -/
theorem State.loseSupply_idle (s : State) (h : s.store.inFlight = none) (landed : Bool) :
    s.loseSupply landed = s.loseSupply false := by
  simp [State.loseSupply, Store.cutOff, h]

/-- A station that has lost its supply owes no ROLL. -/
theorem State.payRoll_loseSupply (s : State) (landed : Bool) : (s.loseSupply landed).payRoll = s.loseSupply landed := rfl

/-- Nor does one that has gone to sleep. -/
theorem State.payRoll_sleep (s : State) : s.sleep.payRoll = s.sleep := rfl

theorem State.sleep_stopped (s : State) : s.BlocksStopped s.sleep :=
  ⟨rfl, rfl, rfl, rfl, rfl, rfl, rfl, rfl, rfl⟩

/-- The outputs of a dormant station: DENY high, KVALID low, the indicators dark, and ready shown (R192). -/
theorem State.sleep_outputs (s : State) (h : s.supervisor.supplyValid = true) (enable ready : Bool) (data : Byte) :
    s.sleep.outputs enable ready data = some ⟨true, false, false, false, (false, false, false), false, true, 0xFF⟩ := by
  have hasleep : s.sleep.awake = false := by simp [State.awake, State.sleep]
  have hcommand : s.sleep.gate.command = .idle := rfl
  have hport : s.sleep.keyPort = ⟨.clear, 0, none, false, none, 0⟩ := rfl
  rw [State.outputs_powered _ _ _ _ (show s.sleep.supervisor.supplyValid = true from h)]
  simp [State.denyLow, hcommand, State.kvalid, State.kdat, State.kclk, KeyPort.kdat, KeyPort.kclk, KeyPort.inShift, hport,
    State.indicators, State.lights, hasleep, Lights.levels, Light.lit, State.channelEnable, State.passes, State.shownReady,
    State.showsFlashReady, State.shownData]

/-! ### Samples of the cell (R184) -/

theorem bandOf_eq_cutoff (mv : Nat) : bandOf mv = .cutoff ↔ mv < 3000 := by
  unfold bandOf
  (repeat' split) <;> simp <;> omega

/-- CUTOFF is the lowest band: the higher of two is CUTOFF only when both are. -/
theorem Band.higher_eq_cutoff (a b : Band) : a.higher b = .cutoff ↔ a = .cutoff ∧ b = .cutoff := by
  cases a <;> cases b <;> simp [Band.higher, Band.level]

/-- Of the bands only CUTOFF lies below FLOOR. -/
theorem Band.level_lt_floor (b : Band) : b.level < Band.floor.level ↔ b = .cutoff := by
  cases b <;> simp [Band.level]

/-- The dormant station detects CUTOFF by its last three samples. -/
theorem cutoffSamples_iff (earlier : List Nat) (a b c : Nat) :
    cutoffSamples (earlier ++ [a, b, c]) = true ↔ a < 3000 ∧ b < 3000 ∧ c < 3000 := by
  have htop : cutoffSamples (earlier ++ [a, b, c]) = true
      ↔ (bandOf a).higher ((bandOf b).higher (bandOf c)) = .cutoff := by
    simp only [cutoffSamples, List.reverse_append, List.reverse_cons, List.reverse_nil, List.nil_append, List.cons_append,
      bandDown, decide_eq_true_eq, Band.level_lt_floor]
    split
    · next h => simp [h]
    · next h => simp [h]
  rw [htop, Band.higher_eq_cutoff, Band.higher_eq_cutoff, bandOf_eq_cutoff, bandOf_eq_cutoff, bandOf_eq_cutoff]

/-- A sense below the attach level with a cell below CUTOFF's bound gives no supply (R181, R182). -/
theorem givesSupply_eq_false {i : StartInputs} (ha : i.attachMv < 4400) (hc : i.cellMv < 3000) : givesSupply i = false := by
  have hn : ¬ 4400 ≤ i.attachMv := by omega
  simp [givesSupply, senseAttached, attachAfter, attachLevel, hn, (bandOf_eq_cutoff _).mpr hc]

/-! ### The commands -/

theorem State.awake_iff (s : State) : s.awake = true ↔ s.supervisor.supplyValid = true ∧ s.supervisor.dormant = false := by
  simp [State.awake]

theorem exec_supplyLost {s : State} (h : s.supervisor.supplyValid = true) (landed : Bool) :
    exec (.supplyLost landed) s = .next (s.loseSupply landed) := by
  simp [exec, execSupplyLost, h]

theorem exec_cellBandChange_cutoff {s : State} (h : s.awake = true) (ha : s.supervisor.attached = false)
    {samples : List Nat} (hb : s.supervisor.band ≠ .cutoff) (hc : bandAfter s.supervisor.band samples = .cutoff)
    (landed : Bool) :
    exec (.cellBandChange samples landed) s
      = .next ((s.setSupervisor { s.supervisor with band := .cutoff }).loseSupply landed) := by
  simp [exec, execCellBandChange, h, hc, Ne.symm hb, State.takeBand, ha, State.done, State.payRoll_loseSupply]

theorem exec_detach_cutoff {s : State} (h : s.awake = true) (ha : s.supervisor.attached = true) {sense : Nat}
    (hs : sense < 4200) (hb : s.supervisor.band = .cutoff) (landed : Bool) :
    exec (.detach landed sense) s
      = .next ((s.setSupervisor { s.supervisor with attached := false }).loseSupply landed) := by
  have hn : ¬ 4200 ≤ sense := by omega
  simp [exec, execDetach, State.whileAwake_of_awake h, ha, attachAfter, detachLevel, hn, State.detachNow, hb,
    State.payRoll_loseSupply]

theorem exec_cellBandChange_dormant {s : State} (hv : s.supervisor.supplyValid = true) (hd : s.supervisor.dormant = true)
    (samples : List Nat) (landed : Bool) :
    exec (.cellBandChange samples landed) s = .next (if cutoffSamples samples = true then s.loseSupply landed else s) := by
  have hasleep : s.awake = false := by simp [State.awake, hd]
  cases hc : cutoffSamples samples <;> simp [exec, execCellBandChange, hasleep, hv, hc]

theorem exec_powerUp_noSupply (s : State) {i : StartInputs} (hi : givesSupply i = false) :
    exec (.powerUp i) s = .next s := by
  simp [exec, execPowerUp, hi]

theorem wakesStation_iff (cause : WakeCause) (i : StartInputs) :
    wakesStation cause i = true ↔ ∀ down, cause = .key down → i.kpd = true := by
  cases cause <;> simp [wakesStation]

theorem exec_wake_noSupply {s : State} (hv : s.supervisor.supplyValid = true) (hd : s.supervisor.dormant = true)
    {cause : WakeCause} {i : StartInputs} (hw : wakesStation cause i = true) (hi : givesSupply i = false) :
    exec (.wake cause i) s = .next (s.loseSupply false) := by
  simp [exec, execWake, hv, hd, hw, hi]

theorem exec_dormancyEntry {s : State} (h : s.awake = true) (atTest atRetest : Bool) :
    exec (.dormancyEntry atTest atRetest) s
      = .next (if s.maySleep = true ∧ atTest = false ∧ atRetest = false then s.sleep else s).payRoll := by
  simp [exec, execDormancyEntry, State.whileAwake_of_awake h, and_assoc]

/-! ### The dormancy condition (R190) -/

/-- The line has been silent for a time, longer than none, exactly when no line reset runs and it was last dominant that long ago. -/
theorem State.le_sinceDominant_iff (s : State) {d : Micros} (hd : 0 < d) :
    d ≤ s.sinceDominant ↔ s.line.inReset = false ∧ s.line.sendingReset = false ∧ s.line.lastDominant + d ≤ s.clock := by
  have silent (last now d : Nat) (hd : 0 < d) : d ≤ now - last ↔ last + d ≤ now := by omega
  have hn : ¬ d ≤ 0 := Nat.not_le.mpr hd
  unfold State.sinceDominant
  cases s.line.inReset <;> cases s.line.sendingReset <;> simp [silent _ _ _ hd, hn]

theorem State.phaseMaySleep_iff (s : State) :
    s.phaseMaySleep = true ↔
      s.phase = .locked ∨ s.phase = .blank ∨ s.phase = .incomplete ∨ s.phase = .halted ∨ s.phase = .uncommissioned
        ∨ (s.phase = .purging ∧ s.purge.suspended = true) := by
  unfold State.phaseMaySleep
  split <;> simp_all

/-- No requester has a request pending exactly when the arbiter finds none. -/
theorem Requests.first_eq_none (q : Requests) : q.first arbiterOrder = Option.none ↔ q = Requests.none := by
  obtain ⟨purge, supervisor, verifier, slotTable, gate, roster, setup⟩ := q
  simp only [arbiterOrder, Requests.first, Requests.get, Requests.none, Requests.mk.injEq]
  (repeat' split) <;> simp_all

theorem State.scannerAtRest_iff (s : State) :
    s.scannerAtRest = true ↔
      s.scanner.seq = .entry ∧ s.scanner.digits = [] ∧ s.scanner.readOnly = false ∧ s.scanner.overlong = false := by
  simp [State.scannerAtRest, and_assoc]

theorem State.maySleep_iff (s : State) :
    s.maySleep = true ↔
      s.supervisor.attached = false ∧ s.line.inReset = false ∧ s.line.sendingReset = false
        ∧ s.line.lastDominant + 10000000 ≤ s.clock
        ∧ (s.phase = .locked ∨ s.phase = .blank ∨ s.phase = .incomplete ∨ s.phase = .halted ∨ s.phase = .uncommissioned
            ∨ (s.phase = .purging ∧ s.purge.suspended = true))
        ∧ (s.roster.kpd = true →
            s.scanner.seq = .entry ∧ s.scanner.digits = [] ∧ s.scanner.readOnly = false ∧ s.scanner.overlong = false
            ∧ s.slotTable.enrollment = none ∧ s.scanner.key = .idle)
        ∧ s.store.inFlight = none ∧ s.store.requests = Requests.none ∧ s.line.tx = [] ∧ s.line.rx = []
        ∧ s.gate.handOver = .steady ∧ s.gate.op = none := by
  have hsilence := s.le_sinceDominant_iff (show 0 < lineSilence by decide)
  have hscanner : ((!s.roster.kpd || (s.scannerAtRest && s.slotTable.enrollment.isNone && s.scanner.key = .idle)) = true)
      ↔ (s.roster.kpd = true →
          s.scanner.seq = .entry ∧ s.scanner.digits = [] ∧ s.scanner.readOnly = false ∧ s.scanner.overlong = false
          ∧ s.slotTable.enrollment = none ∧ s.scanner.key = .idle) := by
    cases s.roster.kpd <;> simp [State.scannerAtRest_iff, and_assoc]
  have hstore : s.store.idle = true ↔ s.store.inFlight = none ∧ s.store.requests = Requests.none := by
    simp [Store.idle, Requests.first_eq_none]
  simp only [State.maySleep, Bool.and_eq_true, hscanner, hstore, decide_eq_true_eq, hsilence, State.phaseMaySleep_iff,
    Bool.not_eq_true', List.isEmpty_iff, Option.isNone_iff_eq_none, and_assoc]
  rfl

/-- Settles O53. -/
theorem stoppedBlocksKeepTheStore : Obligations.StoppedBlocksKeepTheStore := by
  intro s landed stopped lost
  have hstopped (t : State) (h : s.BlocksStopped t) : stopped t :=
    ⟨h.keyPort, h.presented, h.unlockedKey, h.attempt, h.tx, h.rx, h.grant, h.command, h.clock⟩
  have hlost (t : State) (h : s.SupplyGone landed t) : lost t :=
    ⟨hstopped t h.stopped, h.supplyValid, h.haltMark, h.tamperAsserted, h.inFlight, h.requests,
      fun _ _ _ => State.outputs_unpowered _ _ _ _ h.supplyValid, h.kept, h.landed⟩
  have hgone := hlost _ (s.loseSupply_gone s.supervisor landed)
  refine ⟨fun hv => ⟨_, exec_supplyLost hv landed, hgone⟩, fun h ha samples hb hc => ?_, fun sense h ha hs hb => ?_,
    fun hv hd _ => ?_, fun i ha hc => ?_, fun h hm => ?_, fun atTest atRetest h hw => ?_, fun atTest atRetest h hm => ?_,
    s.maySleep_iff⟩
  · exact ⟨_, exec_cellBandChange_cutoff h ha hb hc landed, hlost _ (s.loseSupply_gone _ landed)⟩
  · exact ⟨_, exec_detach_cutoff h ha hs hb landed, hlost _ (s.loseSupply_gone _ landed)⟩
  · refine ⟨fun earlier a b c ha hb hc => ⟨_, exec_cellBandChange_dormant hv hd _ landed, ?_⟩, fun earlier a b c hn => ?_⟩
    · rw [if_pos ((cutoffSamples_iff earlier a b c).mpr ⟨ha, hb, hc⟩)]
      exact hgone
    · rw [exec_cellBandChange_dormant hv hd, if_neg (by rw [cutoffSamples_iff]; omega)]
  · have hi := givesSupply_eq_false ha hc
    refine ⟨fun _ => exec_powerUp_noSupply s hi, fun cause hv hd hf hk => ?_⟩
    refine ⟨_, exec_wake_noSupply hv hd ((wakesStation_iff cause i).mpr hk) hi, ?_⟩
    rw [← s.loseSupply_idle hf landed]
    exact hgone
  · refine ⟨s.sleep, ?_, hstopped _ s.sleep_stopped, rfl, rfl, s.sleep_outputs ((s.awake_iff).mp h).1⟩
    rw [exec_dormancyEntry h, if_pos ⟨hm, rfl, rfl⟩, State.payRoll_sleep]
  · rw [exec_dormancyEntry h, if_neg]
    rintro ⟨-, rfl, rfl⟩
    simp at hw
  · rw [exec_dormancyEntry h, if_neg]
    rintro ⟨hm', -⟩
    simp [hm] at hm'

end Sys2Proof.Machine
end

section
/-! PROOFS. A station with a locked setup record stays out of UNCOMMISSIONED (R31, R199). A move names a phase, and none but the start without a locked record names UNCOMMISSIONED; every other operation leaves phase and setup logic as they are, or is made of moves. -/

namespace Sys2Proof.Machine

/-- The invariant, as each operation keeps it. -/
structure State.Placed (s : State) : Prop where
  commissioned : s.phase = .uncommissioned → s.setup.state ≠ .locked

section
variable {s t : State}

theorem State.placed_iff (s : State) : s.Placed ↔ s.lockedIsCommissioned :=
  ⟨fun h => h.commissioned, fun h => ⟨h⟩⟩

theorem State.Placed.congr (h : s.Placed) (hp : t.phaseCtl = s.phaseCtl) (hs : t.setup = s.setup) : t.Placed :=
  ⟨fun hu => by rw [hs]; exact h.commissioned (by rwa [State.phase, hp] at hu)⟩

theorem State.placed_of_phase {p : Phase} (hp : s.phase = p) (hu : p ≠ .uncommissioned) : s.Placed :=
  ⟨fun h => absurd (hp.symm.trans h) hu⟩

@[simp] theorem ite_placed {p : Prop} [Decidable p] {a b : State} (ha : a.Placed) (hb : b.Placed) :
    (if p then a else b).Placed := by
  split
  · exact ha
  · exact hb

/-- What each of several steps keeps, all of them together keep. -/
theorem foldl_placed {α : Type} {op : State → α → State} (hop : ∀ s x, s.Placed → (op s x).Placed) (h : s.Placed)
    (l : List α) : (l.foldl op s).Placed := by
  induction l generalizing s with
  | nil => exact h
  | cons x l ih => exact ih (hop s x h)

/-! ### Moves -/

theorem State.movePhase_placed (s : State) {p : Phase} (hp : p ≠ .uncommissioned) (g : Grant) (a : Option Micros) :
    (s.movePhase p g a).Placed :=
  State.placed_of_phase (by simp) hp

theorem State.carriedOn_commissioned (s : State) {p : Phase} (hp : p ≠ .uncommissioned) :
    s.carriedOn p ≠ .uncommissioned := by
  unfold State.carriedOn
  split
  · simp
  · exact hp

@[simp] theorem State.enterPhase_placed (s : State) {p : Phase} (hp : p ≠ .uncommissioned) : (s.enterPhase p).Placed :=
  s.movePhase_placed (s.carriedOn_commissioned hp) _ _

@[simp] theorem State.enterUnlocked_placed (s : State) (g : Grant) (key : ChannelKey) : (s.enterUnlocked g key).Placed := by
  refine State.placed_of_phase (p := .unlocked) ?_ (by simp)
  simp [State.enterUnlocked]

/-! ### Purges opened, and the ends of an unlock or a verification -/

@[simp] theorem State.openPurge_placed (s : State) (cause : PurgeCause) (target : Nat) : (s.openPurge cause target).Placed :=
  State.placed_of_phase (p := .purging) (by simp) (by simp)

@[simp] theorem State.openOwn_placed (h : s.Placed) (cause : PurgeCause) : (s.openOwn cause).Placed := by
  unfold State.openOwn
  simp [h]

@[simp] theorem State.endVerification_placed (h : s.Placed) : s.endVerification.Placed := by
  unfold State.endVerification
  simp [h]

@[simp] theorem State.lockDown_placed (h : s.Placed) : s.lockDown.Placed := by
  have hleft : s.leavePhase.Placed := ⟨by simpa using h.commissioned⟩
  unfold State.lockDown
  (repeat' split) <;> simp [h, hleft]

@[simp] theorem State.takeTarget_placed (h : s.Placed) (cause : PurgeCause) (target : Nat) :
    (s.takeTarget cause target).Placed := by
  have hraised : (s.raiseTarget target).Placed := h.congr (by simp) (by simp)
  unfold State.takeTarget
  simp [h, hraised]

/-! ### Assembly and reports of members -/

@[simp] theorem State.presenceMoved_placed (h : s.Placed) (left : Bool) : (s.presenceMoved left).Placed := by
  refine ⟨fun hu => ?_⟩
  rw [State.phase, State.presenceMoved_phase] at hu
  split at hu
  · cases hu
  · simpa using h.commissioned hu

@[simp] theorem State.setEntry_placed (h : s.Placed) (n : StationNo) (e : RosterEntry) : (s.setEntry n e).Placed :=
  h.congr (by simp) (by simp)

@[simp] theorem State.markPresent_placed (h : s.Placed) (n : StationNo) (r : LastRecord) : (s.markPresent n r).Placed := by
  unfold State.markPresent
  dsimp only
  split <;> simp [h]

@[simp] theorem State.hear_placed (h : s.Placed) (n : StationNo) (epoch : Nat) : (s.hear n epoch).Placed :=
  h.congr (by simp) (by simp)

@[simp] theorem State.updateRecord_placed (h : s.Placed) (n : StationNo) (change : GuardRecord → GuardRecord) :
    (s.updateRecord n change).Placed :=
  h.congr (by simp) (by simp)

@[simp] theorem State.mergePair_placed (h : s.Placed) (p : Nat × Nat) : (s.mergePair p).Placed := by
  have hraised : (s.raisePair .roster p).Placed := h.congr (by simp) (by simp)
  have hheld : (s.raisePair .roster p).restartHold.Placed := hraised.congr (by simp) (by simp)
  unfold State.mergePair
  dsimp only
  (repeat' split)
  · exact hraised
  · exact State.openOwn_placed hheld _
  · exact hheld
  · exact h

@[simp] theorem State.epochTest_placed (h : s.Placed) (epoch : Nat) : (s.epochTest epoch).Placed := by
  unfold State.epochTest
  simp [h]

@[simp] theorem State.haltOnConflict_placed (s : State) : s.haltOnConflict.Placed := by
  refine State.placed_of_phase (p := .halted) ?_ (by simp)
  unfold State.haltOnConflict
  dsimp only
  split <;> simp [State.carriedOn]

@[simp] theorem State.completeAssembly_placed (h : s.Placed) : s.completeAssembly.Placed := by
  have hstopped : s.mergeReported.stopAssemblyTimers.Placed := h.congr (by simp) (by simp)
  unfold State.completeAssembly
  refine ite_placed (State.openOwn_placed hstopped _) (State.enterPhase_placed _ ?_)
  split <;> simp

@[simp] theorem State.completionTest_placed (h : s.Placed) : s.completionTest.Placed := by
  unfold State.completionTest
  (repeat' split) <;> simp [h]

@[simp] theorem State.offerRoll_placed (h : s.Placed) : s.offerRoll.Placed :=
  h.congr (by simp) (by simp)

@[simp] theorem State.beginAssembly_placed (h : s.Placed) : s.beginAssembly.Placed := by
  unfold State.beginAssembly
  simp [h]

@[simp] theorem State.purgeWaitTest_placed (h : s.Placed) : s.purgeWaitTest.Placed := by
  unfold State.purgeWaitTest
  simp [h]

@[simp] theorem State.testsAfterReport_placed (h : s.Placed) : s.testsAfterReport.Placed := by
  unfold State.testsAfterReport
  simp [h]

@[simp] theorem State.leaveLockedOn_placed (h : s.Placed) (halted : Bool) (epoch : Nat) :
    (s.leaveLockedOn halted epoch).Placed := by
  unfold State.leaveLockedOn
  simp [h]

@[simp] theorem State.mergeRoll_placed (h : s.Placed) (r : GuardRecord) : (s.mergeRoll r).Placed := by
  unfold State.mergeRoll
  simp [h]

@[simp] theorem State.answerRoll_placed (h : s.Placed) (calls : Bool) : (s.answerRoll calls).Placed :=
  h.congr (by simp) (by simp)

@[simp] theorem State.handleRoll_placed (h : s.Placed) (f : RxFrame) : (s.handleRoll f).Placed := by
  unfold State.handleRoll State.handleGuardRoll State.handleControllerRoll
  dsimp only
  (repeat' split) <;> simp -implicitDefEqProofs (maxDischargeDepth := 8) [h]

@[simp] theorem State.handlePurged_placed (h : s.Placed) (f : RxFrame) : (s.handlePurged f).Placed := by
  unfold State.handlePurged
  dsimp only
  (repeat' split) <;> simp -implicitDefEqProofs (maxDischargeDepth := 8) [h]

@[simp] theorem State.markSilent_placed (h : s.Placed) (missing : List StationNo) : (s.markSilent missing).Placed := by
  have hsilent : (missing.foldl State.silence s).Placed :=
    foldl_placed (fun s n hs => hs.congr (by simp) (by simp)) h missing
  unfold State.markSilent
  simp [hsilent]

/-! ### Entries and verdicts -/

@[simp] theorem State.handOver_placed (s : State) (slot : SlotNo) (readOnly : Bool) (key : ChannelKey) :
    (s.handOver slot readOnly key).Placed := by
  unfold State.handOver
  simp

@[simp] theorem State.spendOrHandOver_placed (h : s.Placed) (a : Attempt) (slot : SlotNo) (key : ChannelKey) :
    (s.spendOrHandOver a slot key).Placed := by
  unfold State.spendOrHandOver
  (repeat' split)
  · simp
  · simp
  · exact h.congr (by simp) (by simp)

@[simp] theorem State.clearTamper_placed (h : s.Placed) : s.clearTamper.Placed :=
  h.congr (by simp) (by simp)

@[simp] theorem State.unlockOutcome_placed (h : s.Placed) (a : Attempt) : (s.unlockOutcome a).Placed := by
  have hcounted : s.countUnlock.Placed := h.congr (by simp) (by simp)
  have hended : (s.setVerifier { s.verifier with attempt := none }).Placed := h.congr rfl rfl
  unfold State.unlockOutcome
  dsimp only
  (repeat' split) <;> simp [hcounted, hended]

@[simp] theorem State.takeDecision_placed (h : s.Placed) (a : Attempt) : (s.takeDecision a).Placed := by
  have hraised : (s.raisePair .verifier (s.bestFiled a.filed s.mergers)).Placed := h.congr (by simp) (by simp)
  unfold State.takeDecision
  dsimp only
  split
  · exact State.unlockOutcome_placed hraised a
  · exact State.endVerification_placed (hraised.congr rfl rfl)
  · exact State.endVerification_placed (hraised.congr rfl rfl)

@[simp] theorem State.beginAttempt_placed (s : State) (n : StationNo) (e : EntryFields) (own : OwnResult) :
    (s.beginAttempt n e own).Placed := by
  unfold State.beginAttempt
  simp

@[simp] theorem State.offerVerdict_placed (h : s.Placed) (origin : StationNo) (seq : Nat) (result : VerdictResult)
    (slot : Nat) (p : Nat × Nat) : (s.offerVerdict origin seq result slot p).Placed :=
  h.congr (by simp) (by simp)

@[simp] theorem State.actOnEntry_placed (h : s.Placed) (n : StationNo) (e : EntryFields) (finding : EntryFinding) :
    (s.actOnEntry n e finding).Placed := by
  cases finding <;> simp [State.actOnEntry, State.countFailure, h]

@[simp] theorem State.takeEntry_placed (h : s.Placed) (f : RxFrame) : (s.takeEntry f).Placed := by
  have hacted := State.actOnEntry_placed h f.sender (readEntry f.payload) (s.findEntry f.sender (readEntry f.payload))
  unfold State.takeEntry
  exact ite_placed h (hacted.congr (by simp) (by simp))

@[simp] theorem State.handleEntry_placed (h : s.Placed) (f : RxFrame) : (s.handleEntry f).Placed := by
  have hshown : (s.showTransient .amber).Placed := h.congr (by simp) (by simp)
  have htaken : (if s.phase = .halted then s else if f.own = some .dropped then s.showTransient .amber
      else s.takeEntry f).Placed :=
    ite_placed h (ite_placed hshown (State.takeEntry_placed h f))
  unfold State.handleEntry
  exact ite_placed (htaken.congr (by simp) (by simp)) htaken

@[simp] theorem State.fileVerdict_placed (h : s.Placed) (a : Attempt) (n : StationNo) (v : Filed) :
    (s.fileVerdict a n v).Placed := by
  have hfiled (a' : Attempt) : (s.setVerifier { s.verifier with attempt := some a' }).Placed := h.congr rfl rfl
  unfold State.fileVerdict
  dsimp only
  (repeat' split)
  · exact h
  · exact State.takeDecision_placed (hfiled _) _
  · exact hfiled _

@[simp] theorem State.mergeVerdict_placed (h : s.Placed) (n : StationNo) (v : Filed) : (s.mergeVerdict n v).Placed := by
  unfold State.mergeVerdict
  simp [h]

@[simp] theorem State.handleVerdict_placed (h : s.Placed) (f : RxFrame) : (s.handleVerdict f).Placed := by
  unfold State.handleVerdict State.takeVerdict
  dsimp only
  (repeat' split) <;> simp [h]

/-! ### Slots -/

@[simp] theorem State.firstAdoption_placed (h : s.Placed) : s.firstAdoption.Placed := by
  have hdeleted : s.deleteBlankKey.Placed := h.congr (by simp) (by simp)
  unfold State.firstAdoption
  dsimp only
  split <;> simp [hdeleted]

@[simp] theorem State.settleWait_placed (h : s.Placed) (serial : Nat) (sl : Slot) (w : SlotWait) :
    (s.settleWait serial sl w).Placed := by
  have hadopted : (if (w.first && sl.activeAt w.gen) = true then s.firstAdoption else s).Placed :=
    ite_placed (State.firstAdoption_placed h) h
  unfold State.settleWait
  exact ite_placed (hadopted.congr (by simp) (by simp)) h

@[simp] theorem State.settleHandOver_placed (h : s.Placed) (i : SlotNo) (serial : Nat) :
    (s.settleHandOver i serial).Placed := by
  unfold State.settleHandOver
  (repeat' split) <;> simp [h]

@[simp] theorem State.slotStored_placed (h : s.Placed) (w : InFlight) : (s.slotStored w).Placed := by
  unfold State.slotStored
  dsimp only
  split
  · refine foldl_placed (fun s x hs => State.settleWait_placed hs _ _ x) (State.settleHandOver_placed ?_ _ _) _
    exact h.congr (by simp) (by simp)
  all_goals exact h.congr (by simp) (by simp)

/-! ### LOCK and PURGE, and the engine's writes -/

@[simp] theorem State.handleLock_placed (h : s.Placed) (f : RxFrame) : (s.handleLock f).Placed := by
  unfold State.handleLock
  split <;> simp [h]

@[simp] theorem State.handlePurge_placed (h : s.Placed) (f : RxFrame) : (s.handlePurge f).Placed := by
  unfold State.handlePurge
  dsimp only
  split
  · exact ite_placed h (State.takeTarget_placed (State.hear_placed h _ _) _ _)
  · exact h

@[simp] theorem State.handleControllerPurge_placed (h : s.Placed) (f : RxFrame) : (s.handleControllerPurge f).Placed := by
  unfold State.handleControllerPurge
  dsimp only
  split
  · exact h
  split
  · exact h.congr (by simp) (by simp)
  split
  · exact h.congr (by simp) (by simp)
  split
  · split
    · exact h.congr (by simp) (by simp)
    · exact (s.openPurge_placed .request (u16 f.payload 1)).congr (by simp) (by simp)
  split
  · exact h.congr (by simp) (by simp)
  · exact h

@[simp] theorem State.openPending_placed (h : s.Placed) : s.openPending.Placed := by
  unfold State.openPending
  split
  · exact State.openPurge_placed _ _ _
  · exact h

@[simp] theorem State.closePurge_placed (s : State) : s.closePurge.Placed := by
  unfold State.closePurge
  refine State.openPending_placed (State.purgeWaitTest_placed (State.placed_of_phase (p := .purgeWait) ?_ (by simp)))
  simp [State.carriedOn]

@[simp] theorem State.journalStored_placed (h : s.Placed) (j : Journal) : (s.journalStored j).Placed := by
  have hanswered : (s.answerStored (j.target.getD 0)).Placed := h.congr (by simp) (by simp)
  unfold State.journalStored
  dsimp only
  (repeat' split)
  · simp
  · exact hanswered.congr (by simp) (by simp)
  · exact hanswered

@[simp] theorem State.purgeGoesOn_placed (h : s.Placed) (again : Bool) (c : Contents) : (s.purgeGoesOn again c).Placed := by
  have hplan : (s.planStored c.record).Placed := h.congr (by simp) (by simp)
  unfold State.purgeGoesOn
  split <;> simp [h, hplan]

@[simp] theorem State.purgeStored_placed (h : s.Placed) (w : InFlight) : (s.purgeStored w).Placed := by
  have hclosed : (s.closeWrite .purge w.contents.record).Placed := h.congr (by simp) (by simp)
  unfold State.purgeStored
  simp [hclosed]

/-! ### Keypad, senses and starts -/

@[simp] theorem State.confirmPurge_placed (h : s.Placed) : s.confirmPurge.Placed := by
  have hseq : (s.setSeq .entry).Placed := h.congr rfl rfl
  unfold State.confirmPurge
  exact ite_placed (State.openOwn_placed hseq _) (hseq.congr rfl rfl)

@[simp] theorem State.enterKey_placed (h : s.Placed) : s.enterKey.Placed := by
  unfold State.enterKey
  split
  case h_1 => exact h.congr (by simp) (by simp)
  case h_2 => exact h
  case h_3 => exact h.congr (by simp) (by simp)
  case h_4 => exact h.congr (by simp) (by simp)
  case h_5 => split <;> exact h.congr (by simp) (by simp)
  case h_6 => exact h.congr (by simp) (by simp)
  case h_7 => exact State.confirmPurge_placed h

@[simp] theorem State.actOnTamper_placed (h : s.Placed) : s.actOnTamper.Placed := by
  unfold State.actOnTamper
  split <;> simp [h]

@[simp] theorem State.assertTamper_placed (h : s.Placed) : s.assertTamper.Placed := by
  unfold State.assertTamper
  exact State.actOnTamper_placed (h.congr (by simp) (by simp))

/-- A station whose blocks stand at their values of reset holds no setup record (R205). -/
@[simp] theorem State.stopBlocks_placed (s : State) : s.stopBlocks.Placed :=
  ⟨fun _ => by simp [State.stopBlocks, State.reset]⟩

@[simp] theorem State.loseSupply_placed (s : State) (landed : Bool) : (s.loseSupply landed).Placed :=
  ((s.setStore (s.store.cutOff landed)).stopBlocks_placed).congr rfl rfl

@[simp] theorem State.sleep_placed (s : State) : s.sleep.Placed :=
  s.stopBlocks_placed.congr rfl rfl

@[simp] theorem State.detachNow_placed (h : s.Placed) (landed : Bool) : (s.detachNow landed).Placed := by
  have hdetached : (s.setSupervisor { s.supervisor with attached := false }).Placed := h.congr rfl rfl
  unfold State.detachNow
  exact ite_placed (State.loseSupply_placed _ _) ((State.lockDown_placed hdetached).congr (by simp) (by simp))

@[simp] theorem State.attachNow_placed (h : s.Placed) : s.attachNow.Placed :=
  ⟨by simpa [State.attachNow] using h.commissioned⟩

@[simp] theorem State.takeBand_placed (h : s.Placed) (b : Band) (landed : Bool) : (s.takeBand b landed).Placed := by
  unfold State.takeBand
  exact ite_placed (State.loseSupply_placed _ _) (h.congr (by simp) (by simp))

@[simp] theorem State.startHalted_placed (s : State) : s.startHalted.Placed := by
  unfold State.startHalted
  simp

@[simp] theorem State.resumePurge_placed (s : State) : s.resumePurge.Placed := by
  refine State.placed_of_phase (p := .purging) ?_ (by simp)
  simp [State.resumePurge, State.carriedOn]

/-- A start goes to UNCOMMISSIONED only where the setup state is not LOCKED (Table 2-1). -/
@[simp] theorem State.choosePhase_placed (s : State) (cause : StartCause) : (s.choosePhase cause).Placed := by
  unfold State.choosePhase
  split
  · simp
  split
  · next hn => exact ⟨fun _ => by simpa using hn⟩
  (repeat' split) <;> simp

@[simp] theorem State.start_placed (s : State) (i : StartInputs) (cause : StartCause) : (s.start i cause).Placed :=
  State.choosePhase_placed _ _

/-! ### Line resets, attempts and the setup -/

@[simp] theorem State.resetPhase_placed (h : s.Placed) : s.resetPhase.Placed := by
  unfold State.resetPhase
  split
  case h_7 => exact h.congr (by simp) (by simp)
  case h_8 => exact h.congr (by simp) (by simp)
  case h_9 => exact h.congr (by simp) (by simp)
  case h_10 => exact h
  all_goals exact State.beginAssembly_placed (State.enterPhase_placed _ (by simp))

theorem State.partialAttempt_placed (h : s.Placed) (f : TxFrame) (rest : List TxFrame) (missing : List StationNo) :
    (s.partialAttempt f rest missing).Placed := by
  unfold State.partialAttempt
  (repeat' split)
  · exact h.congr (by simp) (by simp)
  · exact h.congr (by simp) (by simp)
  · exact State.markSilent_placed (h.congr (by simp) (by simp)) _

theorem State.finishAttempt_placed (h : s.Placed) (f : TxFrame) (rest : List TxFrame) (slots : Byte) :
    (s.finishAttempt f rest slots).Placed := by
  have hended : s.endAttempt.driveOwnSlot.Placed := h.congr (by simp) (by simp)
  unfold State.finishAttempt
  exact ite_placed (hended.congr (by simp) (by simp)) (State.partialAttempt_placed hended _ _ _)

/-- The setup state becomes LOCKED with the move to ASSEMBLING (R199). -/
@[simp] theorem State.lockedStored_placed (h : s.Placed) : s.lockedStored.Placed := by
  unfold State.lockedStored
  dsimp only
  split
  · exact State.beginAssembly_placed (State.placed_of_phase (p := .assembling) (by simp [State.carriedOn]) (by simp))
  · exact h

/-- A new setup state other than LOCKED keeps the invariant in any phase. -/
theorem State.setSetup_placed (s : State) {v : SetupLogic} (hv : v.state ≠ .locked) : (s.setSetup v).Placed :=
  ⟨fun _ => hv⟩

@[simp] theorem State.checkSetup_placed (h : s.Placed) (f : RxFrame) : (s.checkSetup f).Placed := by
  have hstored (r : SetupRecord) : (s.storeSetup f.sender r).Placed :=
    (s.setSetup_placed (v := { s.setup with state := .stored, held := some r, replyTo := f.sender }) (by simp)).congr
      (by simp [State.storeSetup]) (by simp [State.storeSetup])
  unfold State.checkSetup
  (repeat' split)
  · exact h.congr (by simp) (by simp)
  · exact h.congr (by simp) (by simp)
  · exact hstored _
  · exact h.congr (by simp) (by simp)

@[simp] theorem State.beginKeying_placed (s : State) (n : StationNo) : (s.beginKeying n).Placed := by
  refine (s.keyBlocks.setSetup_placed (v := { s.setup with state := .keying, keyingLeft := keyingPlan, replyTo := n })
    (by simp)).congr ?_ ?_ <;> simp [State.beginKeying]

@[simp] theorem State.checkSetupLock_placed (h : s.Placed) (f : RxFrame) : (s.checkSetupLock f).Placed := by
  unfold State.checkSetupLock
  (repeat' split)
  · exact h.congr (by simp) (by simp)
  · exact h.congr (by simp) (by simp)
  · simp

/-- The keying writes leave the setup state at KEYING. -/
@[simp] theorem State.keyed_placed (h : s.Placed) (rec : RecordId) : (s.keyed rec).Placed :=
  ⟨by simpa using h.commissioned⟩

/-! ### What a command keeps -/

/-- A command that ends in a next state ends in one that meets the invariant. -/
def LeavesPlaced (o : Host.Outcome State Fault Refusal) : Prop := ∀ t, o = .next t → t.Placed

theorem leavesPlaced_next (h : s.Placed) : LeavesPlaced (.next s) := by
  rintro t ⟨⟩
  exact h

theorem State.done_placed (h : s.Placed) : LeavesPlaced s.done :=
  leavesPlaced_next (h.congr (by simp) (by simp))

theorem State.whileAwake_placed (h : s.Placed) {body : State → State} (hb : (body s).Placed) :
    LeavesPlaced (s.whileAwake body) := by
  unfold State.whileAwake
  split
  · exact State.done_placed hb
  · exact leavesPlaced_next h

theorem State.frameRow_placed (h : s.Placed) {isMine : RxFrame → Bool} {serve : State → RxFrame → State}
    (hs : ∀ s f, s.Placed → (serve s f).Placed) : LeavesPlaced (s.frameRow isMine serve) := by
  refine State.whileAwake_placed h ?_
  unfold State.takeFrame
  split
  · exact h
  · next f rest _ =>
    have htaken : (s.setLine { s.line with rx := rest }).Placed := h.congr rfl rfl
    exact ite_placed (ite_placed (hs _ f htaken) htaken) h

theorem State.completeWrite_placed (h : s.Placed) (w : InFlight) {event : State → State}
    (he : ∀ s, s.Placed → (event s).Placed) : (s.completeWrite w event).Placed := by
  have hstored := he (s.stores w.contents) (h.congr rfl rfl)
  exact hstored.congr (by simp [State.completeWrite, State.stores]) (by simp [State.completeWrite, State.stores])

theorem State.takeKey_placed (h : s.Placed) (key : Key) {act : State → State}
    (ha : ∀ s, s.Placed → (act s).Placed) : (s.takeKey key act).Placed := by
  unfold State.takeKey
  dsimp only
  (repeat' split)
  · exact h
  · exact ha _ (h.congr rfl rfl)
  · exact ha _ (h.congr rfl rfl)
  all_goals exact h

theorem State.serveSetup_placed (h : s.Placed) (f : RxFrame) {serve : State → State}
    (hs : ∀ s, s.Placed → (serve s).Placed) : (s.serveSetup f serve).Placed := by
  unfold State.serveSetup
  exact ite_placed (hs s h) (ite_placed h (h.congr (by simp) (by simp)))

theorem State.takeAdopt_placed (h : s.Placed) (f : RxFrame) {effect : State → StationNo → Nat → Nat → State}
    (he : ∀ s n slot gen, s.Placed → (effect s n slot gen).Placed) : (s.takeAdopt f effect).Placed := by
  unfold State.takeAdopt
  exact ite_placed h (ite_placed (he s _ _ _ h) (h.congr (by simp) (by simp)))

/-! ### The commands -/

theorem execPowerUp_placed (h : s.Placed) (i : StartInputs) : LeavesPlaced (execPowerUp i s) := by
  unfold execPowerUp
  split
  · exact State.done_placed (s.start_placed i .power)
  · exact leavesPlaced_next h

theorem execSupplyLost_placed (h : s.Placed) (landed : Bool) : LeavesPlaced (execSupplyLost landed s) := by
  unfold execSupplyLost
  split
  · exact leavesPlaced_next (s.loseSupply_placed landed)
  · exact leavesPlaced_next h

theorem execWake_placed (h : s.Placed) (cause : WakeCause) (i : StartInputs) : LeavesPlaced (execWake cause i s) := by
  unfold execWake
  (repeat' split)
  · exact State.done_placed ((s.start_placed i .wake).congr (by simp) (by simp))
  · exact leavesPlaced_next (s.loseSupply_placed false)
  · exact leavesPlaced_next h

theorem execCellBandChange_placed (h : s.Placed) (samples : List Nat) (landed : Bool) :
    LeavesPlaced (execCellBandChange samples landed s) := by
  unfold execCellBandChange
  dsimp only
  (repeat' split)
  · exact leavesPlaced_next h
  · exact State.done_placed (State.takeBand_placed h _ landed)
  · exact leavesPlaced_next (s.loseSupply_placed landed)
  · exact leavesPlaced_next h

/-- Every command keeps the invariant: the frame rows take a frame and serve it, the completions end a write, the keys act once they are taken, the starts choose a phase, and any other command leaves phase and setup logic as they are. -/
theorem exec_placed (h : s.Placed) (c : Instr) : LeavesPlaced (exec c s) := by
  cases c <;> unfold exec
  case powerUp i => exact execPowerUp_placed h i
  case supplyLost landed => exact execSupplyLost_placed h landed
  case wake cause i => exact execWake_placed h cause i
  case cellBandChange samples landed => exact execCellBandChange_placed h samples landed
  case roll => exact State.frameRow_placed h fun _ f hs => State.handleRoll_placed hs f
  case entry => exact State.frameRow_placed h fun _ f hs => State.handleEntry_placed hs f
  case verdict => exact State.frameRow_placed h fun _ f hs => State.handleVerdict_placed hs f
  case stage => exact State.frameRow_placed h fun _ f hs => hs.congr (by simp) (by simp)
  case retire => exact State.frameRow_placed h fun _ f hs => hs.congr (by simp) (by simp)
  case answer => exact State.frameRow_placed h fun _ f hs => hs.congr (by simp) (by simp)
  case lock => exact State.frameRow_placed h fun _ f hs => State.handleLock_placed hs f
  case purge => exact State.frameRow_placed h fun _ f hs => State.handlePurge_placed hs f
  case controllerPurge => exact State.frameRow_placed h fun _ f hs => State.handleControllerPurge_placed hs f
  case purged => exact State.frameRow_placed h fun _ f hs => State.handlePurged_placed hs f
  case range => exact State.frameRow_placed h fun _ f hs => hs.congr (by simp) (by simp)
  case query => exact State.frameRow_placed h fun _ _ hs => hs.congr (by simp) (by simp)
  case status => exact State.frameRow_placed h fun _ _ hs => hs
  case clear => exact State.frameRow_placed h fun _ f hs => hs.congr (by simp) (by simp)
  case setup =>
    exact State.frameRow_placed h fun _ f hs => State.serveSetup_placed hs f fun _ hs => State.checkSetup_placed hs f
  case setupLock =>
    exact State.frameRow_placed h fun _ f hs => State.serveSetup_placed hs f fun _ hs => State.checkSetupLock_placed hs f
  case adopt =>
    exact State.frameRow_placed h fun _ f hs => State.takeAdopt_placed hs f fun _ _ _ _ hs => hs.congr (by simp) (by simp)
  case adoptAbandon =>
    exact State.frameRow_placed h fun _ f hs => State.takeAdopt_placed hs f fun _ _ _ _ hs => hs.congr (by simp) (by simp)
  case keyDigit d =>
    exact State.whileAwake_placed h (State.takeKey_placed h _ fun _ hs => hs.congr (by simp) (by simp))
  case keyLock => exact State.whileAwake_placed h (State.takeKey_placed h _ fun _ hs => hs.congr (by simp) (by simp))
  case keyEnter => exact State.whileAwake_placed h (State.takeKey_placed h _ fun _ hs => State.enterKey_placed hs)
  case attemptComplete slots =>
    refine State.whileAwake_placed h ?_
    split
    · exact ite_placed (State.finishAttempt_placed h _ _ slots) h
    · exact h
  case lineReset =>
    refine State.whileAwake_placed h ?_
    exact ite_placed h (State.resetPhase_placed (h.congr (by simp) (by simp)))
  case dormancyEntry _ _ => exact State.whileAwake_placed h (ite_placed s.sleep_placed h)
  case assemblyWindowEnd =>
    refine State.whileAwake_placed h ?_
    split
    · next w _ =>
      have htested :
          (((s.runTo (w.start + assemblyWindow)).setRoster { s.roster with window := none }).completionTest).Placed :=
        State.completionTest_placed (h.congr rfl rfl)
      exact ite_placed (State.enterPhase_placed _ (by simp)) htested
    · exact h
  case verdictWindowExpire =>
    refine State.whileAwake_placed h ?_
    split
    · split
      · exact State.takeDecision_placed (s := s.runTo _) (h.congr rfl rfl) _
      · exact h
    · exact h
  case attachWindowExpire =>
    refine State.whileAwake_placed h ?_
    split
    · exact State.lockDown_placed (s := s.runTo _) (h.congr rfl rfl)
    · exact h
  case detach landed sense => exact State.whileAwake_placed h (ite_placed (State.detachNow_placed h landed) h)
  case attach sense => exact State.whileAwake_placed h (ite_placed (State.attachNow_placed h) h)
  case tamperAssertion => exact State.whileAwake_placed h (ite_placed h (State.assertTamper_placed h))
  case purgeWriteComplete =>
    refine State.whileAwake_placed h ?_
    split
    · exact State.completeWrite_placed h _ fun _ hs => State.purgeStored_placed hs _
    · exact h
  case rangeWriteComplete =>
    refine State.whileAwake_placed h ?_
    split
    · exact State.completeWrite_placed h _ fun _ hs => hs.congr (by simp) (by simp)
    · exact h
  case slotWriteComplete =>
    refine State.whileAwake_placed h ?_
    split
    · exact State.completeWrite_placed h _ fun _ hs => State.slotStored_placed hs _
    · exact h
  case attemptWriteComplete =>
    refine State.whileAwake_placed h ?_
    split
    · exact ite_placed (State.completeWrite_placed h _ fun _ hs => hs.congr (by simp) (by simp)) h
    · exact h
  case tamperWriteComplete =>
    refine State.whileAwake_placed h ?_
    split
    · exact State.completeWrite_placed h _ fun _ hs => hs
    · exact h
  case setupWriteComplete =>
    refine State.whileAwake_placed h ?_
    split
    · exact State.completeWrite_placed h _ fun _ hs => hs.congr (by simp) (by simp)
    · exact h
  case keyingWriteComplete =>
    refine State.whileAwake_placed h ?_
    split
    · exact ite_placed h (State.completeWrite_placed h _ fun _ hs => State.keyed_placed hs _)
    · exact h
  case setupLockComplete =>
    refine State.whileAwake_placed h ?_
    split
    · exact State.completeWrite_placed h _ fun _ hs => State.lockedStored_placed hs
    · exact h
  case assemblySend | zeroShiftEnd =>
    refine State.whileAwake_placed h ?_
    dsimp only
    (repeat' split) <;> exact h.congr (by simp) (by simp)
  all_goals
    refine State.whileAwake_placed h ?_
    (repeat' split) <;> exact h.congr (by simp) (by simp)

/-- Settles O8: a tick leaves phase and setup state, and a command keeps the invariant. -/
theorem lockedStationStaysCommissioned : Obligations.LockedStationStaysCommissioned := by
  intro s t hs hstep
  rw [← State.placed_iff] at hs ⊢
  unfold Steps step at hstep
  split at hstep
  · cases hstep
    exact hs.congr rfl rfl
  · next c rest _ => exact exec_placed (s := s.setPending rest) (hs.congr rfl rfl) c t hstep

end
end Sys2Proof.Machine
end


section
/-! PROOFS. Frame rows, and the store at a completion event (R17, R196, R206). -/

namespace Sys2Proof.Machine

/-! ### The oldest frame of the receive queue -/

/-- A frame that handling goes on with is served by its row, on the station without the frame. -/
theorem State.frameRow_front {s : State} {f : RxFrame} {rest : List RxFrame} (h : s.isFront f rest)
    {isMine : RxFrame → Bool} (hm : isMine f = true) (serve : State → RxFrame → State) :
    s.frameRow isMine serve = .next (serve (s.taken rest) f).payRoll := by
  obtain ⟨hawake, hrx, hhandles⟩ := h
  have hhandles' : (s.setLine { s.line with rx := rest }).handles f = true := hhandles
  simp [State.frameRow, State.whileAwake_of_awake hawake, State.takeFrame, hrx, hm, hhandles', State.taken]

/-- A frame that handling does not go on with leaves the queue, and nothing more (R33, R196, R210). -/
theorem State.frameRow_dropped {s : State} {f : RxFrame} {rest : List RxFrame} (hawake : s.awake = true)
    (hrx : s.line.rx = f :: rest) (hh : s.handles f = false) {isMine : RxFrame → Bool} (hm : isMine f = true)
    (serve : State → RxFrame → State) : s.frameRow isMine serve = .next (s.taken rest).payRoll := by
  have hh' : (s.setLine { s.line with rx := rest }).handles f = false := hh
  simp [State.frameRow, State.whileAwake_of_awake hawake, State.takeFrame, hrx, hm, hh', State.taken]

@[simp] theorem State.taken_frame (s : State) (rest : List RxFrame) :
    (s.taken rest).clock = s.clock ∧ (s.taken rest).roster = s.roster ∧ (s.taken rest).verifier = s.verifier
    ∧ (s.taken rest).slotTable = s.slotTable ∧ (s.taken rest).phaseCtl = s.phaseCtl ∧ (s.taken rest).keyPort = s.keyPort
    ∧ (s.taken rest).purge = s.purge ∧ (s.taken rest).gate = s.gate ∧ (s.taken rest).scanner = s.scanner
    ∧ (s.taken rest).supervisor = s.supervisor ∧ (s.taken rest).setup = s.setup ∧ (s.taken rest).store = s.store := by
  simp [State.taken]

@[simp] theorem State.taken_line (s : State) (rest : List RxFrame) : (s.taken rest).line = { s.line with rx := rest } := rfl

/-! ### Completion events -/

/-- A write completes: it is stored, its requester acts, the arbiter chooses. -/
theorem State.completeWrite_eq (s : State) (w : InFlight) (event : State → State) :
    s.completeWrite w event = (event (s.stores w.contents)).arbitrate := rfl

@[simp] theorem State.stores_frame (s : State) (c : Contents) :
    (s.stores c).clock = s.clock ∧ (s.stores c).line = s.line ∧ (s.stores c).roster = s.roster
    ∧ (s.stores c).verifier = s.verifier ∧ (s.stores c).slotTable = s.slotTable ∧ (s.stores c).phaseCtl = s.phaseCtl
    ∧ (s.stores c).keyPort = s.keyPort ∧ (s.stores c).purge = s.purge ∧ (s.stores c).gate = s.gate
    ∧ (s.stores c).scanner = s.scanner ∧ (s.stores c).supervisor = s.supervisor ∧ (s.stores c).setup = s.setup
    ∧ (s.stores c).store.stored = s.store.stored.put c := by
  simp [State.stores]

theorem State.writeOf_writing {s : State} {r : Requester} {c : Contents} {serial : Nat} (h : s.writing r c serial) :
    s.writeOf r = some ⟨r, c, serial⟩ := by
  simp [State.writeOf, h.2]

end Sys2Proof.Machine
end

section
/-! PROOFS. SETUP and the stored setup record (R32, R38, R196, R197, R199). -/

namespace Sys2Proof.Machine

/-! ### SETUP as it is read and checked -/

theorem memberCount_eq (members : Byte) :
    memberCount members
      = (([0, 1, 2, 3, 4, 5, 6, 7] : List StationNo).filter fun n => members.getLsbD n.val).length := by
  rw [← List.countP_eq_length_filter]
  simp [List.countP_cons, memberCount, bit]
  omega

theorem SetupRecord.controllerIsMember_eq_false (r : SetupRecord) :
    r.controllerIsMember = false ↔ ∀ n, r.controller = some n → r.members.getLsbD n.val = false := by
  unfold SetupRecord.controllerIsMember
  split <;> simp_all [SetupRecord.member]

theorem SetupRecord.valid_iff (r : SetupRecord) :
    r.valid = true ↔
      1 ≤ memberCount r.members ∧ memberCount r.members ≤ 7 ∧ r.members.getLsbD r.keypad.val = true
        ∧ (∀ n, r.controller = some n → r.members.getLsbD n.val = false)
        ∧ 4 ≤ r.failureLimit ∧ r.failureLimit ≤ 30 ∧ r.retryLimit ≤ 3 ∧ 6 ≤ r.minDigits ∧ r.minDigits ≤ 16
        ∧ 1024 ≤ r.blocks ∧ r.blocks ≤ 65536 := by
  rw [← SetupRecord.controllerIsMember_eq_false]
  simp [SetupRecord.valid, SetupRecord.member, and_assoc]

theorem strapConflict_iff (sn : StationNo) (kpd : Bool) (r : SetupRecord) :
    strapConflict sn kpd r = true ↔
      r.members.getLsbD sn.val = false ∨ (kpd = true ∧ r.keypad ≠ sn) ∨ (kpd = false ∧ r.keypad = sn) := by
  simp [strapConflict, SetupRecord.member, or_assoc]

/-- Only the codes 0 to 2 name a number of pages (Table 11-4). -/
theorem pagesOfCode_unnamed {n : Nat} (h : 3 ≤ n) : pagesOfCode n = none := by
  unfold pagesOfCode
  split
  · omega
  · omega
  · omega
  · rfl

/-! ### SETUP by phase and checks -/

section
variable {s : State} {f : RxFrame} {rest : List RxFrame}

theorem exec_setup (h : s.isFront f rest) (hk : f.kind = .setup) :
    exec .setup s = .next ((s.taken rest).serveSetup f fun s => s.checkSetup f).payRoll :=
  State.frameRow_front h (isMine := fun f => f.kind = .setup) (by simpa using hk) _

theorem State.serveSetup_uncommissioned (h : s.phase = .uncommissioned) (serve : State → State) :
    (s.taken rest).serveSetup f serve = serve (s.taken rest) :=
  if_pos h

theorem State.serveSetup_halted (h : s.phase = .halted) (serve : State → State) :
    (s.taken rest).serveSetup f serve = s.taken rest := by
  simp [State.serveSetup, h]

theorem State.serveSetup_refused (hu : s.phase ≠ .uncommissioned) (hh : s.phase ≠ .halted) (serve : State → State) :
    (s.taken rest).serveSetup f serve = (s.taken rest).answerSetup f.sender f.kind .refused := by
  have hu' : s.phaseCtl.phase ≠ .uncommissioned := hu
  have hh' : s.phaseCtl.phase ≠ .halted := hh
  simp [State.serveSetup, hu', hh']

theorem State.checkSetup_busy (h : s.setupBusy = true) :
    (s.taken rest).checkSetup f = (s.taken rest).answerSetup f.sender .setup .busy :=
  if_pos h

theorem State.checkSetup_unread (h : s.setupBusy = false) (hr : readSetup f.payload = none) :
    (s.taken rest).checkSetup f = (s.taken rest).answerSetup f.sender .setup .invalid := by
  have hb : (s.taken rest).setupBusy = false := h
  simp [State.checkSetup, hb, hr]

theorem State.checkSetup_read {r : SetupRecord} (h : s.setupBusy = false) (hr : readSetup f.payload = some r) :
    (s.taken rest).checkSetup f
      = if r.valid = true ∧ strapConflict s.roster.sn s.roster.kpd r = false then (s.taken rest).storeSetup f.sender r
        else (s.taken rest).answerSetup f.sender .setup .invalid := by
  have hb : (s.taken rest).setupBusy = false := h
  simp [State.checkSetup, hb, hr]

end

/-- Settles O57. -/
theorem setupIsCheckedAndHeld : Obligations.SetupIsCheckedAndHeld := by
  refine ⟨fun s f rest h hk => ?_, fun r => ?_, strapConflict_iff, fun p => ?_⟩
  · rw [exec_setup h hk]
    refine ⟨fun hp hb => ?_, fun r hp hb hr hv hs => ?_, fun r hp hb hr hn => ?_, fun hp hb hr => ?_, fun hp => ?_,
      fun hu hh => ?_⟩
    · rw [State.serveSetup_uncommissioned hp, State.checkSetup_busy hb]
      rfl
    · rw [State.serveSetup_uncommissioned hp, State.checkSetup_read hb hr, if_pos ⟨hv, hs⟩]
      rfl
    · have hn' : ¬ (r.valid = true ∧ strapConflict s.roster.sn s.roster.kpd r = false) := by
        rintro ⟨hv, hs⟩
        simp [hv, hs] at hn
      rw [State.serveSetup_uncommissioned hp, State.checkSetup_read hb hr, if_neg hn']
      rfl
    · rw [State.serveSetup_uncommissioned hp, State.checkSetup_unread hb hr]
      rfl
    · rw [State.serveSetup_halted hp]
    · rw [State.serveSetup_refused hu hh, hk]
      rfl
  · dsimp only
    rw [← memberCount_eq]
    exact r.valid_iff
  · refine ⟨fun h => ?_, fun h => ?_, fun h => ?_, fun h => ?_⟩
    · simp [readSetup, pagesOfCode, h]
    · simp [readSetup, pagesOfCode, h]
    · simp [readSetup, pagesOfCode, h]
    · simp [readSetup, pagesOfCode_unnamed h]

end Sys2Proof.Machine
end


section
/-! PROOFS. What the roster shows: the members, who is missing, and the tests of an assembly (R33 to R36, R42, R44). -/

namespace Sys2Proof.Machine

/-! ### The members of the drive, one by one -/

theorem mem_stations (n : StationNo) : n ∈ stations := by
  revert n
  decide

theorem State.mem_members {s : State} {n : StationNo} : n ∈ s.members ↔ s.isMember n = true := by
  simp [State.members, mem_stations]

theorem State.presence_other {s : State} {n : StationNo} (h : n ≠ s.sn) : s.presence n = s.roster.entries[n].presence :=
  if_neg h

theorem State.presence_own (s : State) : s.presence s.sn = .present :=
  if_pos rfl

/-- MEMBER_MISSING, by the entries (R36). -/
theorem State.memberMissing_iff (s : State) :
    s.memberMissing = true ↔ ∃ n, s.isMember n = true ∧ n ≠ s.sn ∧ s.roster.entries[n].presence ≠ .present := by
  simp only [State.memberMissing, List.any_eq_true, State.mem_members, decide_eq_true_eq]
  refine exists_congr fun n => and_congr_right fun _ => ?_
  by_cases hn : n = s.sn
  · simp [hn, State.presence]
  · simp [hn, State.presence_other hn]

/-- The last record of another station is the guard's record of its entry, if it holds one. -/
theorem State.lastGuard_other {s : State} {n : StationNo} (hn : n ≠ s.sn) (r : GuardRecord) :
    s.lastGuard n = some r ↔ s.roster.entries[n].last = some (.guard r) := by
  unfold State.lastGuard
  rw [if_neg hn]
  split <;> simp_all

theorem State.lastGuard_own (s : State) : s.lastGuard s.sn = some s.ownRecord :=
  if_pos rfl

/-- The digest conflict, by the entries of the others: the own digest is the own one (R44). -/
theorem State.digestConflict_eq_false_iff (s : State) :
    s.digestConflict = false ↔ ∀ n, s.isMember n = true → n ≠ s.sn → s.roster.entries[n].presence = .present →
      ∀ r, s.roster.entries[n].last = some (.guard r) → r.digest = s.digest := by
  rw [State.digestConflict, List.any_eq_false]
  simp only [State.mem_members]
  refine forall_congr' fun n => forall_congr' fun _ => ?_
  by_cases hn : n = s.sn
  · simp [hn, State.lastGuard_own, State.ownRecord]
  · rw [State.presence_other hn, State.lastGuard, if_neg hn]
    rcases s.roster.entries[n] with ⟨p, _ | r | _⟩ <;> simp [hn]

/-- A member other than this station meets conditions 1 to 4 of R42 by its entry. -/
theorem State.memberAgrees_other {s : State} {n : StationNo} (hn : n ≠ s.sn) :
    s.memberAgrees n = true ↔ ∃ r, s.roster.entries[n] = ⟨.present, some (.guard r)⟩
      ∧ r.epoch = s.epoch ∧ r.phase ≠ .purging ∧ r.phase ≠ .halted ∧ r.digest = s.digest := by
  rw [State.memberAgrees, State.presence_other hn, State.lastGuard, if_neg hn]
  rcases s.roster.entries[n] with ⟨p, _ | r | _⟩ <;> simp [and_assoc]

/-- With a CLOSED journal the own entry meets them in ASSEMBLING and INCOMPLETE. -/
theorem State.memberAgrees_own {s : State} (hj : s.purge.journal.isOpen = false)
    (hp : s.phase = .assembling ∨ s.phase = .incomplete) : s.memberAgrees s.sn = true := by
  have hp' : s.phaseCtl.phase ≠ .purging ∧ s.phaseCtl.phase ≠ .halted := by
    rcases hp with hp | hp <;> simp_all
  simp [State.memberAgrees, State.presence_own, State.lastGuard_own, State.ownRecord, State.rollEpoch, hj, hp']

/-- With a CLOSED journal an assembly is complete when every other member agrees (R42). -/
theorem State.assembled_iff {s : State} (hj : s.purge.journal.isOpen = false)
    (hp : s.phase = .assembling ∨ s.phase = .incomplete) : s.assembled = true ↔ s.othersAgree := by
  rw [State.assembled, List.all_eq_true]
  simp only [State.mem_members]
  refine forall_congr' fun n => forall_congr' fun _ => ?_
  by_cases hn : n = s.sn
  · simp [hn, State.memberAgrees_own hj hp]
  · simp only [State.memberAgrees_other hn, hn, ne_eq, not_false_eq_true, forall_true_left]

theorem State.not_assembled_of_missing {s : State} (h : s.memberMissing = true) : s.assembled = false := by
  obtain ⟨n, hmem, hne, hp⟩ := s.memberMissing_iff.mp h
  rw [State.assembled, List.all_eq_false]
  refine ⟨n, State.mem_members.mpr hmem, ?_⟩
  rw [State.memberAgrees, State.presence_other hne, decide_eq_false hp]
  simp

/-- Where every other member agrees, no digest differs. -/
theorem State.othersAgree.no_conflict {s : State} (h : s.othersAgree) : s.digestConflict = false := by
  rw [State.digestConflict_eq_false_iff]
  intro n hmem hne _ r hr
  obtain ⟨r', he, -, -, -, hd⟩ := h n hmem hne
  rw [he] at hr
  cases hr
  exact hd

/-! ### The completion test (R42, R44) -/

section
variable {s : State}

theorem State.completionTest_elsewhere (h : s.phase ≠ .assembling) (h' : s.phase ≠ .incomplete) : s.completionTest = s :=
  if_neg (by simp_all)

theorem State.completionTest_conflict (h : s.phase = .assembling ∨ s.phase = .incomplete) (hd : s.digestConflict = true) :
    s.completionTest = s.haltOnConflict := by
  rw [State.completionTest, if_pos h, if_pos hd]

theorem State.completionTest_waits (hd : s.digestConflict = false) (ha : s.assembled = false) : s.completionTest = s := by
  simp [State.completionTest, hd, ha]

theorem State.completionTest_completes (h : s.phase = .assembling ∨ s.phase = .incomplete) (hj : s.purge.journal.isOpen = false)
    (ha : s.othersAgree) : s.completionTest = s.completeAssembly := by
  rw [State.completionTest, if_pos h, if_neg (by simp [ha.no_conflict]), if_pos ((State.assembled_iff hj h).mpr ha)]

theorem State.purgeWaitTest_elsewhere (h : s.phase ≠ .purgeWait) : s.purgeWaitTest = s := by
  have h' : s.phaseCtl.phase ≠ .purgeWait := h
  simp [State.purgeWaitTest, h']

/-- Outside the three phases that test a report, the tests do nothing. -/
theorem State.testsAfterReport_elsewhere (ha : s.phase ≠ .assembling) (hi : s.phase ≠ .incomplete)
    (hw : s.phase ≠ .purgeWait) : s.testsAfterReport = s := by
  rw [State.testsAfterReport, State.completionTest_elsewhere ha hi, State.purgeWaitTest_elsewhere hw]

/-- In a phase of the assembly the tests are the completion test: none of its ends is PURGE_WAIT. -/
theorem State.testsAfterReport_waits (hd : s.digestConflict = false) (ha : s.assembled = false) (hw : s.phase ≠ .purgeWait) :
    s.testsAfterReport = s := by
  rw [State.testsAfterReport, State.completionTest_waits hd ha, State.purgeWaitTest_elsewhere hw]

end

end Sys2Proof.Machine
end

section
/-! PROOFS. ROLLs and other frames that join the tail of the transmit queue (R19, R37). -/

namespace Sys2Proof.Machine

section
variable {s t : State}

/-- A frame that is not urgent joins the tail of a queue with a free place. -/
theorem State.offer_line_other {k : Kind} (hu : k.urgent = false) (hl : s.line.tx.length < 4) (target : Option StationNo)
    (payload : List Byte) :
    (s.offer k target payload).line
      = { s.line with altOther := !s.line.altOther, tx := s.line.tx ++ [s.formFrame k target payload] } := by
  rw [State.offer_taken hl, State.takeOffer_other hu, State.setLine_line]

/-- An offer that is not urgent takes no frame out of the queue. -/
theorem State.mem_offer_other {k : Kind} (hu : k.urgent = false) {target : Option StationNo} {payload : List Byte}
    {g : TxFrame} (hg : g ∈ s.line.tx) : g ∈ (s.offer k target payload).line.tx := by
  by_cases hl : s.line.tx.length < 4
  · rw [State.offer_line_other hu hl]
    exact List.mem_append_left _ hg
  · rw [State.offer_full (Nat.not_lt.mp hl), State.offerToFull_other (by simpa using hu), State.dropFrame_eq]
    exact hg

theorem State.mem_offerRoll {g : TxFrame} (hg : g ∈ s.line.tx) : g ∈ s.offerRoll.line.tx := by
  unfold State.offerRoll
  split
  · exact hg
  · exact State.mem_offer_other rfl hg

theorem State.mem_payRoll {g : TxFrame} (hg : g ∈ s.line.tx) : g ∈ s.payRoll.line.tx := by
  unfold State.payRoll
  (repeat' split)
  · exact hg
  · exact hg
  · exact hg
  · exact State.mem_offerRoll hg

theorem State.ownRollQueued_eq_false (h : ∀ g ∈ s.line.tx, g.kind ≠ .roll) : s.ownRollQueued = false := by
  rw [← Bool.not_eq_true, State.ownRollQueued_iff]
  rintro ⟨g, hg, hk⟩
  exact h g hg hk

/-- The ROLL joins a queue that holds none and has a free place. -/
theorem State.offerRoll_line_free (hq : ∀ g ∈ s.line.tx, g.kind ≠ .roll) (hl : s.line.tx.length < 4) :
    s.offerRoll.line = { s.line with altOther := !s.line.altOther, tx := s.line.tx ++ [s.rollFrame] } := by
  rw [State.offerRoll, if_neg (by simp [State.ownRollQueued_eq_false hq]), State.offer_line_other rfl hl]
  rfl

/-- With a ROLL in the queue nothing more is paid. -/
theorem State.payRoll_line_queued (hq : ∃ g ∈ s.line.tx, g.kind = .roll) : s.payRoll.line = s.line := by
  have hq' : s.ownRollQueued = true := s.ownRollQueued_iff.mpr hq
  unfold State.payRoll
  (repeat' split) <;> simp_all

/-- What a ROLL shows stands in these parts of the state (Table 11-11). -/
structure State.SameRoll (s t : State) : Prop where
  setup : t.setup = s.setup
  sn : t.roster.sn = s.roster.sn
  startCause : t.roster.startCause = s.roster.startCause
  tampered : t.supervisor.tampered = s.supervisor.tampered
  journal : t.purge.journal = s.purge.journal
  nextBlock : t.purge.nextBlock = s.purge.nextBlock
  suspended : t.purge.suspended = s.purge.suspended
  held : t.verifier.held = s.verifier.held
  phase : t.phase = s.phase
  slots : t.slotTable.slots = s.slotTable.slots

theorem State.SameRoll.rollPayload (h : s.SameRoll t) : t.rollPayload = s.rollPayload := by
  have hphase : t.phaseCtl.phase = s.phaseCtl.phase := h.phase
  simp only [State.rollPayload, State.roleOf, State.lockedSetup, State.slotAt, State.rollEpoch, State.digest,
    State.progressStage, State.progressPercent, State.blocks, State.epoch, State.phase, State.sn, h.setup, h.sn,
    h.startCause, h.tampered, h.journal, h.nextBlock, h.suspended, h.held, hphase, h.slots]

end

end Sys2Proof.Machine
end


section
/-! PROOFS. The stored setup record (R38, R197, R199). -/

namespace Sys2Proof.Machine

section
variable {s : State} {r : SetupRecord} {serial : Nat}

theorem exec_setupWriteComplete (h : s.writing .setup (.setup (some r)) serial) (hr : r.locked = false) :
    exec .setupWriteComplete s
      = .next ((s.stores (.setup (some r))).answers s.setup.replyTo .setup .done s.setup.state.code
          s.digest.toNat).arbitrate.payRoll := by
  have hw : s.setupWrite false = some ⟨.setup, .setup (some r), serial⟩ := by
    simp [State.setupWrite, State.writeOf_writing h, hr]
  simp only [exec, execSetupWriteComplete, State.whileAwake_of_awake h.1, hw, State.completeWrite_eq]
  rfl

theorem exec_setupLockComplete (h : s.writing .setup (.setup (some r)) serial) (hr : r.locked = true) :
    exec .setupLockComplete s = .next (s.stores (.setup (some r))).lockedStored.arbitrate.payRoll := by
  have hw : s.setupWrite true = some ⟨.setup, .setup (some r), serial⟩ := by
    simp [State.setupWrite, State.writeOf_writing h, hr]
  simp only [exec, execSetupLockComplete, State.whileAwake_of_awake h.1, hw, State.completeWrite_eq]

/-- The station as the roles come into force, in ASSEMBLING. -/
def State.rolesInForce (s : State) : State := (s.setSetup { s.setup with state := .locked }).enterPhase .assembling

/-- The answer to the SETUP_LOCK, as it is offered. -/
def State.lockAnswered (s : State) : State := s.rolesInForce.answerSetup s.setup.replyTo .setupLock .done

theorem State.rolesInForce_line (s : State) : s.rolesInForce.line = s.line :=
  State.enterPhase_line _ _ (by simp [State.carriedOn])

@[simp] theorem State.rolesInForce_phaseCtl (s : State) : s.rolesInForce.phaseCtl = ⟨.assembling, .pub, none⟩ := by
  simp [State.rolesInForce, State.carriedOn, grantFor]

@[simp] theorem State.rolesInForce_setup (s : State) : s.rolesInForce.setup = { s.setup with state := .locked } := by
  simp [State.rolesInForce]

@[simp] theorem State.rolesInForce_frame (s : State) :
    s.rolesInForce.clock = s.clock ∧ s.rolesInForce.roster.sn = s.roster.sn
    ∧ s.rolesInForce.roster.entries = s.roster.entries ∧ s.rolesInForce.verifier = s.verifier
    ∧ s.rolesInForce.slotTable = s.slotTable ∧ s.rolesInForce.keyPort = s.keyPort ∧ s.rolesInForce.purge = s.purge
    ∧ s.rolesInForce.store = s.store := by
  simp [State.rolesInForce]

theorem State.rolesInForce_window (s : State) : s.rolesInForce.roster.window = some ⟨s.clock, 0⟩ := by
  simp [State.rolesInForce, State.enterPhase, State.movePhase, State.carriedOn]

@[simp] theorem State.lockAnswered_frame (s : State) :
    s.lockAnswered.clock = s.clock ∧ s.lockAnswered.roster = s.rolesInForce.roster ∧ s.lockAnswered.verifier = s.verifier
    ∧ s.lockAnswered.slotTable = s.slotTable ∧ s.lockAnswered.phaseCtl = s.rolesInForce.phaseCtl
    ∧ s.lockAnswered.keyPort = s.keyPort ∧ s.lockAnswered.purge = s.purge ∧ s.lockAnswered.gate = s.rolesInForce.gate
    ∧ s.lockAnswered.setup = s.rolesInForce.setup ∧ s.lockAnswered.store = s.store := by
  simp [State.lockAnswered]

/-- While a member is absent and nobody is PRESENT, the first ROLL goes out and the assembly waits (R38, R42). -/
theorem State.lockedStored_waits (hp : s.phase = .uncommissioned) (hr : s.setup.held = some r)
    (hn : ∃ n : StationNo, n ≠ s.sn ∧ r.members.getLsbD n.val = true ∧ s.roster.entries[n].presence = .absent)
    (hpresent : ∀ n : StationNo, s.roster.entries[n].presence ≠ .present) :
    s.lockedStored = s.lockAnswered.offerRoll := by
  have hd : s.lockAnswered.offerRoll.digestConflict = false := by
    rw [State.digestConflict_eq_false_iff]
    intro n _ _ h
    exact absurd (by simpa using h) (hpresent n)
  have ha : s.lockAnswered.offerRoll.assembled = false := by
    obtain ⟨n, hne, hmem, habsent⟩ := hn
    refine State.not_assembled_of_missing ((State.memberMissing_iff _).mpr ⟨n, ?_, by simpa using hne, ?_⟩)
    · have hbit : r.member n = true := hmem
      have hrole : s.lockAnswered.offerRoll.roleOf n = .guard ∨ s.lockAnswered.offerRoll.roleOf n = .keypadGuard := by
        simp only [State.roleOf, State.lockedSetup, State.offerRoll_frame, State.lockAnswered_frame,
          State.rolesInForce_setup, hr, if_pos, SetupRecord.roleOf, hbit]
        split <;> simp
      simpa [State.isMember] using hrole
    · have he : s.lockAnswered.offerRoll.roster.entries = s.roster.entries := by simp
      rw [he, habsent]
      simp
  have hreply : s.rolesInForce.setup.replyTo = s.setup.replyTo := by simp
  have hstored : s.lockedStored
      = (s.rolesInForce.answerSetup s.rolesInForce.setup.replyTo .setupLock .done).offerRoll.completionTest := if_pos hp
  rw [hstored, hreply]
  exact State.completionTest_waits hd ha

/-- DONE to the sender of the SETUP_LOCK, with the setup state LOCKED and the digest of the record (Table 11-15). -/
def State.lockAnswer (s : State) (r : SetupRecord) : TxFrame :=
  ⟨.answer, true, s.setup.replyTo,
    byte Kind.setupLock.code :: byte AnswerResult.done.code :: byte SetupState.locked.code :: bytes2 r.digest.toNat,
    !s.line.altOther, 0⟩

/-- The answer stands behind what was queued. -/
theorem State.lockAnswered_line (hl : s.line.tx.length < 4) (hr : s.setup.held = some r) :
    s.lockAnswered.line
      = { s.line with altOther := !s.line.altOther, tx := s.line.tx ++ [s.lockAnswer r] } := by
  rw [State.lockAnswered, State.answerSetup, State.answer, State.offer_line_other rfl (by rwa [State.rolesInForce_line])]
  simp [State.rolesInForce_line, State.lockAnswer, State.formFrame, Kind.urgent, State.digest, hr]

end

/-- Settles O59. -/
theorem setupWritesComplete : Obligations.SetupWritesComplete := by
  intro s r serial h
  refine ⟨exec_setupWriteComplete h, fun hr hheld hp hj hf ha hn hpresent => ?_⟩
  have hstored : (s.stores (.setup (some r))).lockedStored = (s.stores (.setup (some r))).lockAnswered.offerRoll :=
    State.lockedStored_waits (by simpa using hp) (by simpa using hheld) (by simpa using hn) (by simpa using hpresent)
  refine ⟨_, exec_setupLockComplete h hr, ?_⟩
  rw [hstored]
  refine ⟨?setup, ?stored, ?phase, ?grant, ?gateGrant, ?owner, ?window, fun hq hl => ?queue, fun hl => ?answer, ?verifier,
    ?slotTable, ?keyPort, ?purge⟩
  case setup => simp
  case stored => simp [Stored.put]
  case phase => simp
  case grant => simp
  case gateGrant => simp [State.rolesInForce, State.carriedOn, grantFor]
  case owner => simp [State.rolesInForce, State.carriedOn, ownerFor, hj, hf]
  case window => simp [State.rolesInForce_window]
  case verifier => simp
  case slotTable => simp
  case keyPort => simp
  case purge => simp
  case queue =>
    have hline := State.lockAnswered_line (s := s.stores (.setup (some r))) (by simp; omega) (by simpa using hheld)
    have hroll := State.offerRoll_line_free (s := (s.stores (.setup (some r))).lockAnswered)
      (by simpa [hline, or_imp, forall_and, State.lockAnswer] using hq) (by rw [hline]; simp; omega)
    have hsame : State.SameRoll (s.stores (.setup (some r))).lockAnswered
        (s.stores (.setup (some r))).lockAnswered.offerRoll.arbitrate.payRoll := by
      constructor <;> simp
    rw [State.payRoll_line_queued]
    · rw [hsame.rollPayload]
      simp [hroll, State.rollFrame, State.lockAnswer, hline]
    · exact ⟨(s.stores (.setup (some r))).lockAnswered.rollFrame, by simp [hroll], rfl⟩
  case answer =>
    have hline := State.lockAnswered_line (s := s.stores (.setup (some r))) (by simpa using hl) (by simpa using hheld)
    refine ⟨s.lockAnswer r, State.mem_payRoll ?_, rfl, rfl, rfl, rfl⟩
    simp only [State.arbitrate_frame]
    refine State.mem_offerRoll ?_
    rw [hline]
    exact List.mem_append_right _ (List.mem_singleton_self _)

end Sys2Proof.Machine
end


section
/-! PROOFS. A purge that opens (R112 to R117), and where the station stands when it does. -/

namespace Sys2Proof.Machine

section
variable {s t u v : State}

/-! ### The journal's write -/

/-- A changed record of the purge engine stands in its set, or joins it again when its write completes (R74, R112). -/
theorem State.noteWrite_purge_noted (s : State) (rec : RecordId) :
    rec ∈ (s.noteWrite .purge rec).purge.writes.changed ∨ (s.noteWrite .purge rec).purge.writes.rechanged = true := by
  unfold State.noteWrite
  dsimp only
  simp only [State.kickWrites_frame]
  (repeat' split) <;> simp_all [State.setWriteSet, State.writeSet]

/-- A write of the purge engine leaves the sets of the other blocks as they are. -/
@[simp] theorem State.noteWrite_purge_frame (s : State) (rec : RecordId) :
    (s.noteWrite .purge rec).slotTable = s.slotTable ∧ (s.noteWrite .purge rec).gate = s.gate
    ∧ (s.noteWrite .purge rec).purge.reoffered = s.purge.reoffered := by
  simp [State.noteWrite, State.setWriteSet]

/-- An engine with nothing to write requests its write at once (R112, R206). -/
theorem State.noteWrite_purge_requests {rec : RecordId} (hq : s.store.requests.purge = none)
    (hc : s.purge.writes.changed = []) (hw : ∀ w, s.store.inFlight = some w → w.requester ≠ .purge) :
    (s.noteWrite .purge rec).store.requests.purge = some rec
      ∨ ∃ serial, (s.noteWrite .purge rec).store.inFlight = some ⟨.purge, s.heldContents rec, serial⟩ := by
  have hnone : s.writeOf .purge = none := by
    unfold State.writeOf
    split
    · next w h => rw [if_neg (hw w h)]
    · rfl
  have hchanged : s.noteWrite .purge rec = (s.setPurge { s.purge with writes := ⟨[rec], s.purge.writes.rechanged⟩ }).request
      .purge rec := by
    have hnone' : (s.setPurge { s.purge with writes := ⟨[rec], s.purge.writes.rechanged⟩ }).writeOf .purge = none := hnone
    simp [State.noteWrite, State.kickWrites, hnone, State.writeSet, hc, State.setWriteSet, hnone']
  have hget : s.store.requests.get .purge = none := hq
  have hheld : (s.setPurge { s.purge with writes := ⟨[rec], s.purge.writes.rechanged⟩ }).heldContents rec
      = s.heldContents rec := by
    cases rec <;> rfl
  rw [hchanged, State.request]
  rw [if_neg (by simp [hget])]
  split
  · exact .inr ⟨_, by rw [State.grantWrite, hheld]; rfl⟩
  · exact .inl rfl

/-! ### Where a purge opens -/

/-- What the opening of a purge at u needs to have in common with s: the drive, the engine's requests, and the frames of the line. -/
structure State.OpensFrom (s u : State) : Prop where
  setup : u.setup = s.setup
  sn : u.roster.sn = s.roster.sn
  writes : u.purge.writes = s.purge.writes
  request : u.store.requests.purge = s.store.requests.purge
  inFlight : ∀ w, u.store.inFlight = some w → w.requester = .purge → s.store.inFlight = some w
  outstanding : s.ownOutstanding .purge = false → u.ownOutstanding .purge = false
  tx : u.line.tx = s.line.tx

theorem State.OpensFrom.refl (s : State) : s.OpensFrom s :=
  ⟨rfl, rfl, rfl, rfl, fun _ h _ => h, id, rfl⟩

theorem State.OpensFrom.others (h : s.OpensFrom u) : u.others = s.others :=
  State.others_congr h.setup h.sn

/-- Changes of other blocks do not matter to the opening. -/
theorem State.OpensFrom.congr (h : s.OpensFrom u) (hsetup : v.setup = u.setup) (hsn : v.roster.sn = u.roster.sn)
    (hwrites : v.purge.writes = u.purge.writes) (hstore : v.store = u.store) (hline : v.line = u.line) : s.OpensFrom v where
  setup := hsetup.trans h.setup
  sn := hsn.trans h.sn
  writes := hwrites.trans h.writes
  request := by rw [hstore, h.request]
  inFlight := by rw [hstore]; exact h.inFlight
  outstanding := by
    have hout : v.ownOutstanding .purge = u.ownOutstanding .purge := by simp [State.ownOutstanding, hline]
    rw [hout]
    exact h.outstanding
  tx := by rw [hline, h.tx]

/-- A frame that leaves the receive queue is outstanding no more. -/
theorem State.OpensFrom.taken {f : RxFrame} {rest : List RxFrame} (hrx : s.line.rx = f :: rest) :
    s.OpensFrom (s.taken rest) where
  setup := rfl
  sn := rfl
  writes := rfl
  request := rfl
  inFlight := fun _ h _ => h
  outstanding := fun h => by
    simp only [State.ownOutstanding, hrx, List.any_cons, Bool.or_eq_false_iff] at h
    simp [State.ownOutstanding, h]
  tx := rfl

/-- A request of another block is not the engine's. -/
theorem State.OpensFrom.requestOther (h : s.OpensFrom u) {r : Requester} (hr : r ≠ .purge) (rec : RecordId) :
    s.OpensFrom (u.request r rec) where
  setup := by simpa using h.setup
  sn := by simpa using h.sn
  writes := by simpa using h.writes
  request := by
    rw [← h.request]
    unfold State.request
    (repeat' split)
    · rfl
    · cases r <;> simp_all [State.grantWrite, Requests.put]
    · cases r <;> simp_all [Requests.put]
  inFlight := by
    unfold State.request
    (repeat' split)
    · exact h.inFlight
    · rintro w hw hpurge
      simp only [State.grantWrite, State.setStore_store, Option.some.injEq] at hw
      subst hw
      exact absurd hpurge hr
    · exact h.inFlight
  outstanding := by
    simpa [State.ownOutstanding] using h.outstanding
  tx := by simpa using h.tx

theorem State.OpensFrom.raisePair (h : s.OpensFrom u) {r : Requester} (hr : r ≠ .purge) (p : Nat × Nat) :
    s.OpensFrom (u.raisePair r p) := by
  unfold State.raisePair
  split
  · exact State.OpensFrom.requestOther (h.congr (v := u.setPair p.1 p.2) rfl rfl rfl rfl rfl) hr _
  · exact h

theorem State.OpensFrom.voidAttempt (h : s.OpensFrom u) : s.OpensFrom u.voidAttempt := by
  unfold State.voidAttempt
  split
  · exact h
  · exact (h.raisePair (r := .roster) (by simp) _).congr rfl rfl rfl rfl rfl

theorem State.OpensFrom.leavePhase (h : s.OpensFrom u) : s.OpensFrom u.leavePhase := by
  unfold State.leavePhase
  split
  · exact h.congr rfl rfl rfl rfl rfl
  · exact h.voidAttempt
  · exact h.congr rfl rfl rfl rfl rfl
  all_goals exact h

/-! ### The opening -/

/-- The opening, by its parts: the phase is left, the journal opens, and PURGING begins with a run of offers (R114). -/
theorem State.openPurge_eq (s : State) (cause : PurgeCause) (target : Nat) :
    s.openPurge cause target = ((s.leavePhase.journalOpened cause target).enterPhase .purging).beginOffers.offerPurge := rfl

theorem mem_placeUrgent (onLine : Bool) (tx : List TxFrame) (f : TxFrame) : f ∈ placeUrgent onLine tx f := by
  simp [placeUrgent]

theorem State.mem_offer_urgent {k : Kind} (hu : k.urgent = true) (hl : s.line.tx.length < 4) (target : Option StationNo)
    (payload : List Byte) : s.formFrame k target payload ∈ (s.offer k target payload).line.tx := by
  have hu' : (s.formFrame k target payload).kind.urgent = true := hu
  rw [State.offer_taken hl, State.takeOffer, if_pos hu']
  exact mem_placeUrgent _ _ _

/-- What a PURGE of the station states: its journal's cause and target (R115). -/
def State.purgePayload (s : State) : List Byte :=
  byte ((s.purge.journal.cause.map (·.code)).getD 0) :: bytes2 (s.purge.journal.target.getD 0)

theorem State.offerPurge_offers (hout : s.ownOutstanding .purge = false) (hl : s.line.tx.length < 4) :
    s.formFrame .purge none s.purgePayload ∈ s.offerPurge.line.tx := by
  rw [State.offerPurge, if_neg (by simp [hout])]
  exact State.mem_offer_urgent rfl hl _ _

@[simp] theorem State.journalOpened_frame (s : State) (cause : PurgeCause) (target : Nat) :
    (s.journalOpened cause target).clock = s.clock ∧ (s.journalOpened cause target).line = s.line
    ∧ (s.journalOpened cause target).roster = s.roster ∧ (s.journalOpened cause target).verifier = s.verifier
    ∧ (s.journalOpened cause target).slotTable = s.slotTable ∧ (s.journalOpened cause target).phaseCtl = s.phaseCtl
    ∧ (s.journalOpened cause target).keyPort = s.keyPort ∧ (s.journalOpened cause target).gate = s.gate
    ∧ (s.journalOpened cause target).scanner = s.scanner ∧ (s.journalOpened cause target).supervisor = s.supervisor
    ∧ (s.journalOpened cause target).setup = s.setup := by
  simp [State.journalOpened]

/-- A move to PURGING offers no frame. -/
theorem State.enterPurging_line (s : State) : (s.enterPhase .purging).line = s.line :=
  State.enterPhase_line _ _ (by simp [State.carriedOn])

theorem State.openPurge_heard (s : State) (cause : PurgeCause) (target : Nat) :
    (s.openPurge cause target).purge.heard = Vector.replicate 8 false
      ∧ (s.openPurge cause target).purge.reoffered = 0
      ∧ (s.openPurge cause target).purge.reoffer = if s.others = [] then none else some (s.clock + 2000000) := by
  have hothers : ((s.leavePhase.journalOpened cause target).enterPhase .purging).others = s.others :=
    State.others_congr (by simp) (by simp)
  simp [State.openPurge_eq, State.beginOffers, hothers, announcePeriod, seconds]

theorem State.openPurge_noted (s : State) (cause : PurgeCause) (target : Nat) :
    .journal ∈ (s.openPurge cause target).purge.writes.changed
      ∨ (s.openPurge cause target).purge.writes.rechanged = true := by
  have hnoted := State.noteWrite_purge_noted (s.leavePhase.setPurge
    { s.leavePhase.purge with
      journal := Journal.opened target cause, nextBlock := 0, plan := [], begun := false, closing := false
      suspended := false, pendingTarget := none }) .journal
  simpa [State.openPurge_eq, State.beginOffers, State.journalOpened] using hnoted

/-- The store after an opening is that of the journal's request. -/
theorem State.openPurge_store (s : State) (cause : PurgeCause) (target : Nat) :
    (s.openPurge cause target).store = (s.leavePhase.journalOpened cause target).store := by
  simp [State.openPurge_eq]

theorem State.OpensFrom.openPurge_requests (h : s.OpensFrom u) {cause : PurgeCause} {target : Nat}
    (hq : s.store.requests.purge = none) (hc : s.purge.writes.changed = [])
    (hw : ∀ w, s.store.inFlight = some w → w.requester ≠ .purge) :
    (u.openPurge cause target).store.requests.purge = some .journal
      ∨ ∃ serial, (u.openPurge cause target).store.inFlight
          = some ⟨.purge, .journal (u.openPurge cause target).purge.journal, serial⟩ := by
  have hl := h.leavePhase
  rw [State.openPurge_store, State.openPurge_journal]
  refine State.noteWrite_purge_requests (s := u.leavePhase.setPurge _) ?_ ?_ ?_
  · exact hl.request.trans hq
  · rw [State.setPurge_purge]
    exact (congrArg WriteSet.changed hl.writes).trans hc
  · exact fun w hf hp => hw w (hl.inFlight w hf hp) hp

theorem State.OpensFrom.openPurge_offers (h : s.OpensFrom u) {cause : PurgeCause} {target : Nat}
    (hout : s.ownOutstanding .purge = false) (hl : s.line.tx.length < 4) :
    ∃ f ∈ (u.openPurge cause target).line.tx, f.kind = .purge ∧ f.directed = false ∧ f.attempt = 0
      ∧ f.payload = byte cause.code :: bytes2 target := by
  have hmem := State.offerPurge_offers (s := ((u.leavePhase.journalOpened cause target).enterPhase .purging).beginOffers)
    (by simpa [State.ownOutstanding, State.enterPurging_line] using h.outstanding hout)
    (by simpa [State.enterPurging_line, h.tx] using hl)
  rw [State.openPurge_eq]
  refine ⟨_, hmem, rfl, rfl, rfl, ?_⟩
  simp [State.formFrame, State.purgePayload, State.beginOffers, State.journalOpened, Journal.opened]

/-- The opening of a purge (R112, R114, R116, R117). -/
theorem State.OpensFrom.openPurge (h : s.OpensFrom u) (cause : PurgeCause) (target : Nat) :
    s.purgeOpened (u.openPurge cause target) cause target := by
  obtain ⟨hheard, hreoffered, hreoffer⟩ := u.openPurge_heard cause target
  refine ⟨by simp, by simp, by simp, by simp, u.openPurge_journal cause target, u.openPurge_noted cause target,
    h.openPurge_requests, hheard, hreoffered, ?_, h.openPurge_offers⟩
  rw [hreoffer, h.others]
  simp

/-- What follows an opening and touches neither phase, gate, engine nor store, and takes no frame from the queue, leaves it opened. -/
theorem State.purgeOpened.later {cause : PurgeCause} {target : Nat} (h : s.purgeOpened t cause target)
    (hphase : u.phaseCtl = t.phaseCtl) (hgate : u.gate = t.gate) (hpurge : u.purge = t.purge) (hstore : u.store = t.store)
    (hclock : u.clock = t.clock) (htx : ∀ g ∈ t.line.tx, g ∈ u.line.tx) : s.purgeOpened u cause target := by
  obtain ⟨h1, h2, h3, h4, h5, h6, h7, h8, h9, h10, h11⟩ := h
  refine ⟨by rw [State.phase, hphase]; exact h1, by rw [hphase]; exact h2, by rw [hgate]; exact h3, by rw [hgate]; exact h4,
    by rw [hpurge]; exact h5, by rw [hpurge]; exact h6, by rw [hpurge, hstore]; exact h7, by rw [hpurge]; exact h8,
    by rw [hpurge]; exact h9, by rw [hpurge, hclock]; exact h10, fun hout hl => ?_⟩
  obtain ⟨f, hf, hrest⟩ := h11 hout hl
  exact ⟨f, htx f hf, hrest⟩

theorem State.purgeOpened.payRoll {cause : PurgeCause} {target : Nat} (h : s.purgeOpened t cause target) :
    s.purgeOpened t.payRoll cause target :=
  h.later (by simp) (by simp) (by simp) (by simp) (by simp) fun _ => State.mem_payRoll

end

end Sys2Proof.Machine
end


section
/-! PROOFS. The merge of pairs (R46, R64), and the end of a verification or an unlock (R67 to R71, R96). -/

namespace Sys2Proof.Machine

/-! ### Pairs -/

/-- A pair that is another one or larger: what a merge makes of the held pair. -/
def PairGrows (p q : Nat × Nat) : Prop := q = p ∨ pairLess p.1 p.2 q.1 q.2 = true

theorem pairLess_iff {serial count serial' count' : Nat} :
    pairLess serial count serial' count' = true ↔ serial < serial' ∨ (serial = serial' ∧ count < count') := by
  simp [pairLess]

theorem PairGrows.refl (p : Nat × Nat) : PairGrows p p := .inl rfl

theorem PairGrows.trans {p q r : Nat × Nat} (h : PairGrows p q) (h' : PairGrows q r) : PairGrows p r := by
  rcases h with rfl | h
  · exact h'
  rcases h' with rfl | h'
  · exact .inr h
  rw [pairLess_iff] at h h'
  exact .inr (pairLess_iff.mpr (by omega))

theorem pairGrows_largerPair (p q : Nat × Nat) : PairGrows p (largerPair p q) := by
  unfold largerPair
  split
  · next h => exact .inr h
  · exact .refl p

theorem State.bestFiled_grows (s : State) (filed : Vector (Option Filed) 8) (l : List StationNo) :
    PairGrows s.pair (s.bestFiled filed l) := by
  refine List.foldlRecOn l _ (motive := PairGrows s.pair) (.refl _) fun best hbest n _ => ?_
  split
  · exact hbest.trans (pairGrows_largerPair _ _)
  · exact hbest

/-- A pair that grows out of the held pair is the held one once it is raised. -/
theorem State.raisePair_held {s : State} {p : Nat × Nat} (h : PairGrows s.pair p) (r : Requester) :
    (s.raisePair r p).verifier = { s.verifier with held := ⟨s.epoch, p.1, p.2⟩ } := by
  unfold State.raisePair
  split
  · simp [State.setPair, State.epoch]
  · next hless =>
    rcases h with rfl | h
    · rfl
    · exact absurd h hless

section
variable {s t u v : State}

/-! ### A verification ends -/

/-- u is still in the verification of s: of what its end looks at, only the attempt may have changed. -/
structure State.Verifies (s u : State) : Prop extends s.OpensFrom u where
  verifying : u.phase = .verifying
  missing : u.memberMissing = s.memberMissing
  held : u.verifier.held = s.verifier.held
  hold : u.verifier.hold = s.verifier.hold
  keyPort : u.keyPort = s.keyPort
  slotTable : u.slotTable = s.slotTable
  ranges : u.gate.ranges = s.gate.ranges
  isOpen : u.purge.journal.isOpen = s.purge.journal.isOpen
  stored : u.store.stored = s.store.stored
  clock : u.clock = s.clock

/-- The verification of s has no attempt any more at u, and its merge has made the pair m of the held one. -/
structure State.Decided (s u : State) (m : Nat × Nat) : Prop extends s.OpensFrom u where
  verifying : u.phase = .verifying
  missing : u.memberMissing = s.memberMissing
  verifier : u.verifier = { s.verifier with attempt := none, held := ⟨s.epoch, m.1, m.2⟩ }
  keyPort : u.keyPort = s.keyPort
  slotTable : u.slotTable = s.slotTable
  ranges : u.gate.ranges = s.gate.ranges
  isOpen : u.purge.journal.isOpen = s.purge.journal.isOpen
  stored : u.store.stored = s.store.stored
  clock : u.clock = s.clock

/-- The verification of s has ended at t with the pair m: LOCKED with its hold, INCOMPLETE, or at the failure limit a purge. -/
structure State.Ended (s t : State) (m : Nat × Nat) : Prop where
  attempt : t.verifier.attempt = none
  held : t.verifier.held = ⟨s.epoch, m.1, m.2⟩
  keyPort : t.keyPort = s.keyPort
  slotTable : t.slotTable = s.slotTable
  records : s.keepsRecords t
  locks : m.2 < s.failureLimit ∨ s.epoch = 65535 ∨ s.purge.journal.isOpen = true →
    t.phase = (if s.memberMissing = true then .incomplete else .locked) ∧ t.phaseCtl.grant = .pub
    ∧ t.verifier.hold = (holdDuration m.2).map (s.clock + ·) ∧ t.purge.journal.isOpen = s.purge.journal.isOpen
  opens : s.failureLimit ≤ m.2 → s.purge.journal.isOpen = false → s.epoch ≠ 65535 →
    s.purgeOpened t .limit (s.epoch + 1) ∧ t.verifier.hold = s.verifier.hold

theorem State.memberMissing_congr (hsetup : u.setup = s.setup) (hsn : u.roster.sn = s.roster.sn)
    (hentries : u.roster.entries = s.roster.entries) : u.memberMissing = s.memberMissing := by
  simp [State.memberMissing, State.presence, State.members_congr hsetup, hsn, hentries]

/-- The record of another station that counts for the merge is one of the own epoch (R64). -/
theorem State.sameEpoch_other {n : StationNo} (hne : n ≠ s.sn) :
    s.sameEpoch n = true ↔ ∃ r, s.roster.entries[n].last = some (.guard r) ∧ r.epoch = s.epoch := by
  unfold State.sameEpoch State.lastGuard
  rw [if_neg hne]
  rcases s.roster.entries[n] with ⟨p, _ | r | _⟩ <;> simp

theorem State.failureLimit_congr (hsetup : u.setup = s.setup) : u.failureLimit = s.failureLimit := by
  simp [State.failureLimit, State.lockedSetup, hsetup]

theorem State.canOpenOwn_iff (s : State) :
    s.canOpenOwn = true ↔ s.purge.journal.isOpen = false ∧ s.phase ≠ .uncommissioned ∧ s.phase ≠ .halted ∧ s.epoch ≠ 65535 := by
  simp only [State.canOpenOwn, Bool.and_eq_true, Bool.not_eq_true', decide_eq_true_eq, and_assoc]
  rfl

theorem State.openOwn_opens (h : s.canOpenOwn = true) (cause : PurgeCause) :
    s.openOwn cause = s.openPurge cause (s.epoch + 1) := by
  simp [State.openOwn, h]

/-- A station without an attempt gives nothing up as it leaves VERIFYING. -/
theorem State.leavePhase_decided (hp : s.phase = .verifying) (ha : s.verifier.attempt = none) : s.leavePhase = s := by
  simp [State.leavePhase, hp, State.voidAttempt, ha]

/-- An opening leaves verifier, key port and slot table as the phase gave them up. -/
theorem State.openPurge_left (s : State) (cause : PurgeCause) (target : Nat) :
    (s.openPurge cause target).verifier = s.leavePhase.verifier
      ∧ (s.openPurge cause target).keyPort = s.leavePhase.keyPort
      ∧ (s.openPurge cause target).slotTable = s.leavePhase.slotTable := by
  simp [State.openPurge_eq]

/-- Its merge made and the attempt gone, a verification is decided (R64, R70). -/
theorem State.Verifies.decided (h : s.Verifies u) {r : Requester} (hr : r ≠ .purge) {m : Nat × Nat} (hm : PairGrows s.pair m) :
    s.Decided ((u.raisePair r m).setVerifier { (u.raisePair r m).verifier with attempt := none }) m := by
  have hpair : u.pair = s.pair := by simp [State.pair, h.held]
  have hepoch : u.epoch = s.epoch := by simp [State.epoch, h.held]
  have hphase : u.phaseCtl.phase = .verifying := h.verifying
  refine ⟨(h.toOpensFrom.raisePair hr m).congr rfl rfl rfl rfl rfl, by simp [hphase], ?_, ?_, by simp [h.keyPort],
    by simp [h.slotTable], by simp [h.ranges], by simp [h.isOpen], by simp [h.stored], by simp [h.clock]⟩
  · exact (State.memberMissing_congr (by simp) (by simp) (by simp)).trans h.missing
  · simp [State.raisePair_held (show PairGrows u.pair m by rwa [hpair]) r, hepoch, h.hold]

theorem State.Decided.ended {m : Nat × Nat} (h : s.Decided u m) : s.Ended u.endVerification m := by
  have hheld : u.verifier.held.count = m.2 := by rw [h.verifier]
  have hepoch : u.epoch = s.epoch := by rw [State.epoch, h.verifier]
  have hlimit : u.failureLimit = s.failureLimit := State.failureLimit_congr h.setup
  have hattempt : u.verifier.attempt = none := by rw [h.verifier]
  have hcan : u.canOpenOwn = true ↔ s.purge.journal.isOpen = false ∧ s.epoch ≠ 65535 := by
    simp [State.canOpenOwn_iff, h.isOpen, h.verifying, hepoch]
  unfold State.endVerification
  rw [hheld, hlimit]
  split
  · next hopens =>
    obtain ⟨hover, hmay⟩ := Bool.and_eq_true_iff.mp hopens
    obtain ⟨hclosed, hlast⟩ := hcan.mp hmay
    have hunder : s.failureLimit ≤ m.2 := by simpa using hover
    rw [State.openOwn_opens hmay, hepoch]
    obtain ⟨hverifier, hkeyPort, hslotTable⟩ :=
      u.openPurge_left .limit (s.epoch + 1)
    rw [State.leavePhase_decided h.verifying hattempt] at hverifier hkeyPort hslotTable
    refine ⟨?_, ?_, hkeyPort.trans h.keyPort, hslotTable.trans h.slotTable, ?_, ?_, fun _ _ _ => ⟨h.openPurge _ _, ?_⟩⟩
    · rw [hverifier, h.verifier]
    · rw [hverifier, h.verifier]
    · simp [State.keepsRecords, h.stored, h.ranges, h.setup]
    · rintro (hless | hat | hopen)
      · omega
      · exact absurd hat hlast
      · simp [hopen] at hclosed
    · rw [hverifier, h.verifier]
  · next hlocks =>
    have hmissing : u.restartHold.memberMissing = s.memberMissing :=
      (State.memberMissing_congr (by simp) (by simp) (by simp)).trans h.missing
    refine ⟨by simp [hattempt], by simp [h.verifier], by simp [h.keyPort], by simp [h.slotTable],
      by simp [State.keepsRecords, h.stored, h.ranges, h.setup], fun _ => ⟨?_, ?_, ?_, by simp [h.isOpen]⟩, ?_⟩
    · simp [State.carriedOn_locked, hmissing]
    · simp only [State.enterPhase_phaseCtl, State.carriedOn_locked]
      split <;> rfl
    · simp [State.restartHold, h.verifier, h.clock]
    · intro hover hclosed hlast
      refine absurd ?_ hlocks
      simp [hover, hcan.mpr ⟨hclosed, hlast⟩]

theorem State.Ended.payRoll {m : Nat × Nat} (h : s.Ended t m) : s.Ended t.payRoll m := by
  obtain ⟨hattempt, hheld, hkeyPort, hslotTable, hrecords, hlocks, hopens⟩ := h
  refine ⟨by simpa using hattempt, by simpa using hheld, by simpa using hkeyPort, by simpa using hslotTable,
    by simpa [State.keepsRecords] using hrecords, by simpa using hlocks, fun hover hclosed hlast => ?_⟩
  obtain ⟨hpurge, hhold⟩ := hopens hover hclosed hlast
  exact ⟨hpurge.payRoll, by simpa using hhold⟩

/-! ### A station stands as another -/

/-- u stands where s does but for line, scanner, supervisor, roster counters and pending requests of other blocks. -/
structure State.StandsAs (s u : State) : Prop extends s.OpensFrom u where
  phaseCtl : u.phaseCtl = s.phaseCtl
  entries : u.roster.entries = s.roster.entries
  verifier : u.verifier = s.verifier
  keyPort : u.keyPort = s.keyPort
  slotTable : u.slotTable = s.slotTable
  gate : u.gate = s.gate
  purge : u.purge = s.purge
  stored : u.store.stored = s.store.stored
  clock : u.clock = s.clock

theorem State.StandsAs.refl (s : State) : s.StandsAs s :=
  ⟨.refl s, rfl, rfl, rfl, rfl, rfl, rfl, rfl, rfl, rfl⟩

theorem State.StandsAs.taken {f : RxFrame} {rest : List RxFrame} (hrx : s.line.rx = f :: rest) :
    s.StandsAs (s.taken rest) :=
  ⟨.taken hrx, rfl, rfl, rfl, rfl, rfl, rfl, rfl, rfl, rfl⟩

theorem State.StandsAs.epoch (h : s.StandsAs u) : u.epoch = s.epoch := by rw [State.epoch, h.verifier, State.epoch]

theorem State.StandsAs.phase (h : s.StandsAs u) : u.phase = s.phase := congrArg PhaseController.phase h.phaseCtl

theorem State.StandsAs.canOpenOwn (h : s.StandsAs u) : u.canOpenOwn = s.canOpenOwn := by
  simp [State.canOpenOwn, h.purge, h.phase, h.epoch]

theorem State.StandsAs.memberMissing (h : s.StandsAs u) : u.memberMissing = s.memberMissing :=
  State.memberMissing_congr h.setup h.sn h.entries

/-- The members whose verdicts a void merges are the same. -/
theorem State.StandsAs.merged (h : s.StandsAs u) : u.others.filter u.sameEpoch = s.others.filter s.sameEpoch := by
  rw [h.others]
  refine List.filter_congr fun n hn => ?_
  have hne : n ≠ s.sn := (State.mem_others.mp hn).2
  rw [Bool.eq_iff_iff, State.sameEpoch_other hne, State.sameEpoch_other (by rwa [State.sn, h.sn]), h.entries, h.epoch]

theorem State.StandsAs.bestFiled (h : s.StandsAs u) (filed : Vector (Option Filed) 8) (l : List StationNo) :
    u.bestFiled filed l = s.bestFiled filed l := by
  simp [State.bestFiled, State.pair, h.verifier]

theorem State.StandsAs.verifies (h : s.StandsAs u) (hp : s.phase = .verifying) : s.Verifies u :=
  ⟨h.toOpensFrom, h.phase.trans hp, h.memberMissing, by rw [h.verifier], by rw [h.verifier], h.keyPort, h.slotTable,
    by rw [h.gate], by rw [h.purge], h.stored, h.clock⟩

/-- The void of R70, from where a station stands as s. -/
theorem State.StandsAs.voided (h : s.StandsAs u) (hp : s.phase = .verifying) {a : Attempt} (ha : s.verifier.attempt = some a) :
    s.Decided u.leavePhase (s.bestFiled a.filed (s.others.filter s.sameEpoch)) := by
  have hphase : u.phase = .verifying := h.phase.trans hp
  have hattempt : u.verifier.attempt = some a := by rw [h.verifier, ha]
  simp only [State.leavePhase, hphase, State.voidAttempt, hattempt, h.bestFiled, h.merged]
  exact (h.verifies hp).decided (by simp) (State.bestFiled_grows ..)

/-- The end of an unlock, from where a station stands as s (R96). -/
theorem State.StandsAs.revoked (h : s.StandsAs u) (hp : s.phase = .unlocked) :
    s.revokedTo (u.leavePhase.enterPhase .locked) := by
  have hphase : u.phase = .unlocked := h.phase.trans hp
  obtain ⟨hkey, henrollment⟩ := State.leavePhase_givenUp (.inl hphase)
  have hmissing : u.leavePhase.memberMissing = s.memberMissing :=
    State.memberMissing_congr (by simp [h.setup]) (by simp [h.sn]) (by simp [h.entries])
  have hverifier : u.leavePhase.verifier = u.verifier := by simp [State.leavePhase, hphase]
  have hgrant : grantFor (if s.memberMissing = true then .incomplete else .locked) = .pub := by split <;> rfl
  have hcarried : u.leavePhase.carriedOn .locked = if s.memberMissing = true then .incomplete else .locked := by
    rw [State.carriedOn_locked, hmissing]
  refine ⟨by simp [hcarried], by simp [hcarried, hgrant], by simp [hcarried, hgrant], ?_, by simpa using hkey,
    by simpa using henrollment, by simp, by simp [hverifier, h.verifier], by simp [h.slotTable], by simp [h.purge],
    by simp [State.keepsRecords, h.stored, h.gate, h.setup]⟩
  have hport : u.leavePhase.keyPort = s.keyPort.cleared u.clock := by rw [State.leavePhase_keyPort, if_pos hphase, h.keyPort]
  simpa [hport] using KeyPort.clearedTo_cleared s.keyPort u.clock

theorem State.revokedTo.payRoll (h : s.revokedTo t) : s.revokedTo t.payRoll := by
  simpa [State.revokedTo, State.keepsRecords] using h

/-- A void ends in the outcome of Section 3.6 (R70, R71). -/
theorem State.Ended.voidedTo {a : Attempt} (h : s.Ended t (s.bestFiled a.filed (s.others.filter s.sameEpoch))) :
    s.voidedTo t a := by
  refine ⟨h.attempt, h.keyPort, h.slotTable, h.held, fun hless => ?_, fun hover hclosed hlast =>
    (h.opens hover hclosed hlast).1⟩
  obtain ⟨hphase, hgrant, hhold, _⟩ := h.locks (hless.imp_right .inl)
  exact ⟨hphase, hgrant, hhold, h.records⟩

theorem State.StandsAs.lockDown_unlocked (h : s.StandsAs u) (hp : s.phase = .unlocked) : s.revokedTo u.lockDown := by
  rw [State.lockDown, if_pos (h.phase.trans hp)]
  exact h.revoked hp

theorem State.StandsAs.lockDown_verifying (h : s.StandsAs u) (hp : s.phase = .verifying) {a : Attempt}
    (ha : s.verifier.attempt = some a) :
    s.Ended u.lockDown (s.bestFiled a.filed (s.others.filter s.sameEpoch)) := by
  have hphase := h.phase.trans hp
  rw [State.lockDown, if_neg (by simp [hphase]), if_pos hphase]
  exact (h.voided hp ha).ended

theorem State.lockDown_elsewhere (hu : s.phase ≠ .unlocked) (hv : s.phase ≠ .verifying) : s.lockDown = s := by
  rw [State.lockDown, if_neg hu, if_neg hv]

end

end Sys2Proof.Machine
end


section
/-! PROOFS. LOCK (R99 to R101). -/

namespace Sys2Proof.Machine

/-- A frame that its row does nothing with leaves the queue, and nothing more. -/
theorem State.frameRow_silent {s : State} {f : RxFrame} {rest : List RxFrame} (hawake : s.awake = true)
    (hrx : s.line.rx = f :: rest) {isMine : RxFrame → Bool} (hm : isMine f = true) {serve : State → RxFrame → State}
    (hserve : s.handles f = true → serve (s.taken rest) f = s.taken rest) :
    s.frameRow isMine serve = .next (s.taken rest).payRoll := by
  cases hh : s.handles f with
  | false => exact State.frameRow_dropped hawake hrx hh hm serve
  | true => rw [State.frameRow_front ⟨hawake, hrx, hh⟩ hm, hserve hh]

/-- The causes that Table 5-3 gives the senders. -/
theorem lockFits_iff {role : Role} {cause : LockCause} :
    lockFits role cause = true ↔ (role = .keypadGuard ∧ cause ≠ .request) ∨ (role = .guard ∧ cause = .fault)
      ∨ (role = .controller ∧ cause = .request) := by
  cases role <;> cases cause <;> simp [lockFits]

/-- A LOCK that is handled locks the station down when its cause fits its sender, and is ignored otherwise (R99 to R101). -/
theorem State.handleLock_eq (s : State) (f : RxFrame) :
    s.handleLock f
      = if s.asleepToRequests = false ∧ ∃ cause, LockCause.ofCode (u8 f.payload 0) = some cause
          ∧ lockFits (s.roleOf f.sender) cause = true then s.lockDown else s := by
  unfold State.handleLock
  cases LockCause.ofCode (u8 f.payload 0) <;> simp

theorem State.handleLock_ignores {s : State} {f : RxFrame}
    (h : ∀ cause, LockCause.ofCode (u8 f.payload 0) = some cause → s.asleepToRequests = false →
      lockFits (s.roleOf f.sender) cause = false) : s.handleLock f = s := by
  rw [State.handleLock_eq, if_neg]
  rintro ⟨hasleep, cause, hcause, hfits⟩
  simp [h cause hcause hasleep] at hfits

/-- Settles O35, by where the LOCK finds the station: a LOCK that fits its sender is the lock-down of UNLOCKED and VERIFYING. -/
theorem lockEndsTheUnlock : Obligations.LockEndsTheUnlock := by
  intro s f rest hawake hrx hkind
  have hm : (fun g : RxFrame => decide (g.kind = .lock)) f = true := by simp [hkind]
  have hrole : (s.taken rest).roleOf f.sender = s.roleOf f.sender := rfl
  have hsilent : (s.taken rest).handleLock f = s.taken rest → exec .lock s = .next (s.taken rest).payRoll :=
    fun h => State.frameRow_silent hawake hrx hm fun _ => h
  refine ⟨fun hp => hsilent (State.handleLock_ignores fun cause _ hasleep => ?_),
    fun hnone => hsilent (State.handleLock_ignores fun cause _ _ => by rw [hrole, hnone]; rfl),
    fun hcode => hsilent (State.handleLock_ignores fun cause hc _ => by simp [hcode] at hc),
    fun cause hh hcode => ?_⟩
  · rcases hp with hp | hp <;> simp [State.asleepToRequests, hp] at hasleep
  · have hstands : s.StandsAs (s.taken rest) := .taken hrx
    intro fits
    have hlock : fits → s.phase = .unlocked ∨ s.phase = .verifying →
        exec .lock s = .next (s.taken rest).lockDown.payRoll := by
      intro hfits hp
      have hasleep : (s.taken rest).asleepToRequests = false := by
        have hphase := hstands.phase
        rcases hp with hp | hp <;> simp only [State.asleepToRequests, hphase, hp] <;> rfl
      change State.frameRow _ _ _ = _
      rw [State.frameRow_front ⟨hawake, hrx, hh⟩ hm, State.handleLock_eq,
        if_pos ⟨hasleep, cause, hcode, lockFits_iff.mpr hfits⟩]
    refine ⟨fun hfits hp => ⟨_, hlock hfits (.inl hp), (hstands.lockDown_unlocked hp).payRoll, by simp⟩,
      fun a hfits hp ha => ⟨_, hlock hfits (.inr hp), (hstands.lockDown_verifying hp ha).payRoll.voidedTo⟩,
      fun hunfit => hsilent (State.handleLock_ignores fun c hc _ => ?_),
      fun hu hv => hsilent ?_⟩
    · obtain rfl : c = cause := Option.some.inj (hc.symm.trans hcode)
      exact Bool.eq_false_iff.mpr fun h => hunfit (lockFits_iff.mp h)
    · rw [State.handleLock_eq]
      split
      · exact State.lockDown_elsewhere (hstands.phase ▸ hu) (hstands.phase ▸ hv)
      · rfl

end Sys2Proof.Machine
end


section
/-! PROOFS. The detach, the end of the attach window and a tamper assertion (R102, R103, R186 to R188). -/

namespace Sys2Proof.Machine

/-! ### ERASE -/

/-- Nothing goes on of an ERASE that does not run (R124). -/
theorem State.eraseAdvance_of_not_erasing {s : State} (h : s.erasing = false) : s.eraseAdvance = s := by
  simp [State.eraseAdvance, h]

theorem State.not_erasing_of_closed {s : State} (h : s.purge.journal.isOpen = false) : s.erasing = false := by
  simp [State.erasing, h]

/-- A purge that has just opened is in its DESTROY. -/
theorem State.purgeOpened.not_erasing {s t : State} {cause : PurgeCause} {target : Nat} (h : s.purgeOpened t cause target) :
    t.erasing = false := by
  obtain ⟨_, _, _, _, hjournal, _⟩ := h
  simp [State.erasing, hjournal]

theorem State.Ended.not_erasing {s t : State} {m : Nat × Nat} (h : s.Ended t m) (hclosed : s.purge.journal.isOpen = false) :
    t.erasing = false := by
  by_cases hlock : m.2 < s.failureLimit ∨ s.epoch = 65535
  · obtain ⟨_, _, _, hopen⟩ := h.locks (hlock.imp_right .inl)
    exact State.not_erasing_of_closed (hopen.trans hclosed)
  · simp only [not_or, not_lt] at hlock
    exact (h.opens hlock.1 hclosed hlock.2).1.not_erasing

/-! ### The detach and the end of the attach window -/

/-- The station once its attach sense is lost. -/
def State.detached (s : State) : State := s.setSupervisor { s.supervisor with attached := false }

theorem State.detached_stands (s : State) : s.StandsAs s.detached :=
  ⟨(State.OpensFrom.refl s).congr rfl rfl rfl rfl rfl, rfl, rfl, rfl, rfl, rfl, rfl, rfl, rfl, rfl⟩

/-- A detach above CUTOFF locks the station down; then ERASE looks at the cell (R102, R129). -/
theorem State.exec_detach {s : State} (hawake : s.awake = true) (hatt : s.supervisor.attached = true) {sense : Nat}
    (hsense : sense < 4200) (hband : s.supervisor.band ≠ .cutoff) (landed : Bool) :
    exec (.detach landed sense) s = .next s.detached.lockDown.eraseAdvance.payRoll := by
  have hlevel : attachAfter true sense = false := decide_eq_false (by simpa [detachLevel] using hsense)
  change execDetach landed s sense = _
  rw [execDetach, State.whileAwake_of_awake hawake]
  simp [hatt, hlevel, State.detachNow, hband, State.detached]

/-! ### The tamper assertion -/

/-- The station with TAMPERED latched and its write requested (R186, R187). -/
def State.latched (s : State) : State :=
  ((s.setSupervisor { s.supervisor with tamperAsserted := true }).setTampered true).request .supervisor .tamper

theorem State.setTampered_supervisor (s : State) (b : Bool) :
    (s.setTampered b).supervisor = { s.supervisor with tampered := b } := by
  unfold State.setTampered State.oweRoll
  dsimp only
  (repeat' split) <;> rfl

theorem State.latched_supervisor (s : State) :
    s.latched.supervisor = { s.supervisor with tamperAsserted := true, tampered := true } := by
  simp [State.latched, State.setTampered_supervisor]

theorem State.latched_stands (s : State) : s.StandsAs s.latched :=
  ⟨.requestOther ((State.OpensFrom.refl s).congr (by simp) (by simp) (by simp) (by simp) (by simp)) (by simp) _,
    by simp [State.latched], by simp [State.latched], by simp [State.latched], by simp [State.latched],
    by simp [State.latched], by simp [State.latched], by simp [State.latched], by simp [State.latched],
    by simp [State.latched]⟩

theorem State.exec_tamperAssertion {s : State} (hawake : s.awake = true) (ha : s.supervisor.tamperAsserted = false) :
    exec .tamperAssertion s = .next s.latched.actOnTamper.payRoll := by
  change execTamperAssertion s = _
  rw [execTamperAssertion, State.whileAwake_of_awake hawake]
  simp [ha, State.assertTamper, State.latched]

theorem State.StandsAs.purgesOnTamper {s u : State} (h : s.StandsAs u) : u.purgesOnTamper = s.purgesOnTamper := by
  simp [State.purgesOnTamper, State.lockedSetup, h.setup]

/-- Without policy PURGE, and where no purge can open, an assertion acts as under policy LOCK (R188). -/
theorem State.StandsAs.actOnTamper_locks {s u : State} (h : s.StandsAs u)
    (hno : s.purgesOnTamper = false ∨ s.canOpenOwn = false) : u.actOnTamper = u.lockDown := by
  rw [State.actOnTamper, h.purgesOnTamper, h.canOpenOwn]
  rcases hno with hno | hno <;> simp [hno]

theorem State.StandsAs.actOnTamper_purges {s u : State} (h : s.StandsAs u) (hpolicy : s.purgesOnTamper = true)
    (hcan : s.canOpenOwn = true) : u.actOnTamper = u.openPurge .tamper (s.epoch + 1) := by
  have hcan' := h.canOpenOwn.trans hcan
  rw [State.actOnTamper, h.purgesOnTamper, hpolicy, hcan', Bool.true_and, if_pos rfl, State.openOwn_opens hcan', h.epoch]

theorem State.canOpenOwn_last {s : State} (h : s.epoch = 65535) : s.canOpenOwn = false := by
  rw [← Bool.not_eq_true, State.canOpenOwn_iff]
  simp [h]

/-- The opening of a purge touches no stored record. -/
theorem State.StandsAs.openPurge_records {s u : State} (h : s.StandsAs u) (cause : PurgeCause) (target : Nat) :
    s.keepsRecords (u.openPurge cause target) := by
  simp [State.keepsRecords, h.stored, h.gate, h.setup]

/-! ### What ends an unlock -/

theorem detach_ends_unlock {s : State} (hawake : s.awake = true) (hp : s.phase = .unlocked) (landed : Bool) {sense : Nat}
    (hatt : s.supervisor.attached = true) (hsense : sense < 4200) (hband : s.supervisor.band ≠ .cutoff)
    (hclosed : s.purge.journal.isOpen = false) :
    ∃ t, exec (.detach landed sense) s = .next t ∧ s.revokedTo t ∧ t.clock = s.clock ∧ t.supervisor.attached = false := by
  have hrevoked := s.detached_stands.lockDown_unlocked hp
  have herase : s.detached.lockDown.eraseAdvance = s.detached.lockDown := by
    obtain ⟨_, _, _, _, _, _, _, _, _, hjournal, _⟩ := hrevoked
    exact State.eraseAdvance_of_not_erasing (State.not_erasing_of_closed (by rw [hjournal, hclosed]))
  refine ⟨_, State.exec_detach hawake hatt hsense hband landed, ?_⟩
  rw [herase]
  exact ⟨hrevoked.payRoll, by simp [State.detached], by simp [State.detached]⟩

theorem attachWindow_ends_unlock {s : State} (hawake : s.awake = true) (hp : s.phase = .unlocked) {due : Micros}
    (hdue : s.phaseCtl.attachWindow = some due) :
    ∃ t, exec .attachWindowExpire s = .next t ∧ s.revokedTo t ∧ t.clock = max s.clock due ∧ t.supervisor = s.supervisor := by
  have hrevoked := (State.StandsAs.refl (s.runTo due)).lockDown_unlocked hp
  refine ⟨(s.runTo due).lockDown.payRoll, ?_, hrevoked.payRoll, by simp [State.runTo], by simp⟩
  change execAttachWindowExpire s = _
  rw [execAttachWindowExpire, State.whileAwake_of_awake hawake]
  simp [hdue]

theorem tamper_ends_unlock {s : State} (hawake : s.awake = true) (hp : s.phase = .unlocked)
    (ha : s.supervisor.tamperAsserted = false) (hno : s.purgesOnTamper = false ∨ s.epoch = 65535) :
    ∃ t, exec .tamperAssertion s = .next t ∧ s.revokedTo t ∧ t.clock = s.clock
      ∧ t.supervisor = { s.supervisor with tamperAsserted := true, tampered := true } := by
  refine ⟨_, State.exec_tamperAssertion hawake ha, ?_⟩
  rw [s.latched_stands.actOnTamper_locks (hno.imp_right State.canOpenOwn_last)]
  exact ⟨(s.latched_stands.lockDown_unlocked hp).payRoll, by simp [s.latched_stands.clock], by simp [State.latched_supervisor]⟩

theorem tamper_purges_unlock {s : State} (hawake : s.awake = true) (hp : s.phase = .unlocked)
    (ha : s.supervisor.tamperAsserted = false) (hpolicy : s.purgesOnTamper = true)
    (hclosed : s.purge.journal.isOpen = false) (hlast : s.epoch ≠ 65535) :
    ∃ t, exec .tamperAssertion s = .next t ∧ s.purgeOpened t .tamper (s.epoch + 1) ∧ t.clock = s.clock
      ∧ s.keyPort.clearedTo t.keyPort s.clock ∧ t.phaseCtl.attachWindow = none
      ∧ t.slotTable = { s.slotTable with unlockedKey := none, enrollment := none }
      ∧ t.verifier = s.verifier ∧ s.keepsRecords t
      ∧ t.supervisor = { s.supervisor with tamperAsserted := true, tampered := true } := by
  have hstands := s.latched_stands
  have hphase : s.latched.phase = .unlocked := hstands.phase.trans hp
  obtain ⟨hverifier, hkeyPort, hslotTable⟩ := s.latched.openPurge_left .tamper (s.epoch + 1)
  have hport : s.latched.leavePhase.keyPort = s.keyPort.cleared s.clock := by
    rw [State.leavePhase_keyPort, if_pos hphase, hstands.keyPort, hstands.clock]
  refine ⟨_, State.exec_tamperAssertion hawake ha, ?_⟩
  rw [hstands.actOnTamper_purges hpolicy (s.canOpenOwn_iff.mpr ⟨hclosed, by simp [hp], by simp [hp], hlast⟩)]
  refine ⟨(hstands.toOpensFrom.openPurge _ _).payRoll, by simp [hstands.clock], ?_, by simp, ?_, ?_, ?_,
    by simp [State.latched_supervisor]⟩
  · simpa [hkeyPort, hport] using KeyPort.clearedTo_cleared s.keyPort s.clock
  · simp [hslotTable, State.leavePhase, hphase, hstands.slotTable]
  · simp [hverifier, State.leavePhase, hphase, hstands.verifier]
  · simpa [State.keepsRecords] using hstands.openPurge_records .tamper (s.epoch + 1)

/-! ### What voids a verification -/

theorem detach_voids {s : State} {a : Attempt} (hawake : s.awake = true) (hp : s.phase = .verifying)
    (ha : s.verifier.attempt = some a) (hclosed : s.purge.journal.isOpen = false) (landed : Bool) {sense : Nat}
    (hatt : s.supervisor.attached = true) (hsense : sense < 4200) (hband : s.supervisor.band ≠ .cutoff) :
    ∃ t, exec (.detach landed sense) s = .next t ∧ s.voidedTo t a ∧ t.clock = s.clock
      ∧ t.supervisor = { s.supervisor with attached := false } := by
  have hended := s.detached_stands.lockDown_verifying hp ha
  refine ⟨_, State.exec_detach hawake hatt hsense hband landed, ?_⟩
  rw [State.eraseAdvance_of_not_erasing (hended.not_erasing hclosed)]
  exact ⟨hended.payRoll.voidedTo, by simp [State.detached], by simp [State.detached]⟩

theorem tamper_voids {s : State} {a : Attempt} (hawake : s.awake = true) (hp : s.phase = .verifying)
    (ha : s.verifier.attempt = some a) (hassert : s.supervisor.tamperAsserted = false)
    (hno : s.purgesOnTamper = false ∨ s.epoch = 65535) :
    ∃ t, exec .tamperAssertion s = .next t ∧ s.voidedTo t a ∧ t.clock = s.clock
      ∧ t.supervisor = { s.supervisor with tamperAsserted := true, tampered := true } := by
  refine ⟨_, State.exec_tamperAssertion hawake hassert, ?_⟩
  rw [s.latched_stands.actOnTamper_locks (hno.imp_right State.canOpenOwn_last)]
  exact ⟨(s.latched_stands.lockDown_verifying hp ha).payRoll.voidedTo, by simp [s.latched_stands.clock],
    by simp [State.latched_supervisor]⟩

theorem tamper_voids_and_purges {s : State} {a : Attempt} (hawake : s.awake = true) (hp : s.phase = .verifying)
    (ha : s.verifier.attempt = some a) (hclosed : s.purge.journal.isOpen = false)
    (hassert : s.supervisor.tamperAsserted = false) (hpolicy : s.purgesOnTamper = true) (hlast : s.epoch ≠ 65535) :
    let merged := s.bestFiled a.filed (s.others.filter s.sameEpoch)
    ∃ t, exec .tamperAssertion s = .next t ∧ s.purgeOpened t .tamper (s.epoch + 1)
      ∧ t.verifier = { s.verifier with attempt := none, held := ⟨s.epoch, merged.1, merged.2⟩ }
      ∧ t.keyPort = s.keyPort ∧ t.slotTable = s.slotTable ∧ s.keepsRecords t
      ∧ t.supervisor = { s.supervisor with tamperAsserted := true, tampered := true } := by
  have hstands := s.latched_stands
  have hvoided := hstands.voided hp ha
  obtain ⟨hverifier, hkeyPort, hslotTable⟩ := s.latched.openPurge_left .tamper (s.epoch + 1)
  refine ⟨_, State.exec_tamperAssertion hawake hassert, ?_⟩
  rw [hstands.actOnTamper_purges hpolicy (s.canOpenOwn_iff.mpr ⟨hclosed, by simp [hp], by simp [hp], hlast⟩)]
  refine ⟨(hstands.toOpensFrom.openPurge _ _).payRoll, ?_, ?_, ?_, ?_, by simp [State.latched_supervisor]⟩
  · simp [hverifier, hvoided.verifier]
  · simp [hkeyPort, hvoided.keyPort]
  · simp [hslotTable, hvoided.slotTable]
  · simpa [State.keepsRecords] using hstands.openPurge_records .tamper (s.epoch + 1)

/-- Settles O36, by the event: each is the lock-down from where the station stands as it did, and under policy PURGE the opening of a purge. -/
theorem detachWindowAndTamperEndTheUnlock : Obligations.DetachWindowAndTamperEndTheUnlock := by
  constructor
  · intro s hawake hp
    exact ⟨fun landed sense => detach_ends_unlock hawake hp landed, fun due => attachWindow_ends_unlock hawake hp,
      tamper_ends_unlock hawake hp, tamper_purges_unlock hawake hp⟩
  · intro s a hawake hp ha hclosed
    exact ⟨fun landed sense => detach_voids hawake hp ha hclosed landed, tamper_voids hawake hp ha,
      tamper_voids_and_purges hawake hp ha hclosed⟩

end Sys2Proof.Machine
end


section
/-! PROOFS. A tamper assertion: what it latches, owes and requests (R37, R186 to R189). -/

namespace Sys2Proof.Machine

section
variable {s t : State}

/-! ### A queue that one frame may have joined -/

/-- One frame at most has joined the queue, and it is no ROLL. -/
def JoinedByOne (tx tx' : List TxFrame) : Prop := tx' = tx ∨ ∃ f : TxFrame, f.kind ≠ .roll ∧ tx'.Perm (f :: tx)

theorem JoinedByOne.mem {tx tx' : List TxFrame} (h : JoinedByOne tx tx') {g : TxFrame} (hg : g ∈ tx) : g ∈ tx' := by
  rcases h with rfl | ⟨f, _, hperm⟩
  · exact hg
  · exact hperm.mem_iff.mpr (List.mem_cons_of_mem _ hg)

theorem JoinedByOne.no_roll {tx tx' : List TxFrame} (h : JoinedByOne tx tx') (hno : ∀ g ∈ tx, g.kind ≠ .roll) :
    ∀ g ∈ tx', g.kind ≠ .roll := by
  rcases h with rfl | ⟨f, hf, hperm⟩
  · exact hno
  · intro g hg
    rcases List.mem_cons.mp (hperm.mem_iff.mp hg) with rfl | hg
    · exact hf
    · exact hno g hg

theorem JoinedByOne.length_le {tx tx' : List TxFrame} (h : JoinedByOne tx tx') : tx'.length ≤ tx.length + 1 := by
  rcases h with rfl | ⟨f, _, hperm⟩
  · omega
  · simp [hperm.length_eq]

theorem placeUrgent_perm (onLine : Bool) (tx : List TxFrame) (f : TxFrame) : (placeUrgent onLine tx f).Perm (f :: tx) := by
  have split_rest (fixed rest : List TxFrame) :
      (fixed ++ rest.takeWhile (·.kind.urgent) ++ f :: rest.dropWhile (·.kind.urgent)).Perm (f :: (fixed ++ rest)) := by
    refine List.perm_middle.trans (List.Perm.cons _ ?_)
    rw [List.append_assoc, List.takeWhile_append_dropWhile]
  unfold placeUrgent
  cases onLine with
  | false => simpa using split_rest [] tx
  | true =>
    have hrest := split_rest (tx.take 1) (tx.drop 1)
    rwa [List.take_append_drop] at hrest

theorem State.offer_joins {k : Kind} (hk : k ≠ .roll) (hl : s.line.tx.length < 4) (target : Option StationNo)
    (payload : List Byte) : JoinedByOne s.line.tx (s.offer k target payload).line.tx := by
  refine .inr ⟨s.formFrame k target payload, hk, ?_⟩
  rw [State.offer_taken hl, State.takeOffer]
  dsimp only
  split
  · exact placeUrgent_perm _ _ _
  · exact List.perm_append_singleton _ _

theorem State.offerEntry_joins (hl : s.line.tx.length < 4) (token : Token) (readOnly : Bool) :
    JoinedByOne s.line.tx (s.offerEntry token readOnly).line.tx :=
  State.offer_joins (s := s.setScanner { s.scanner with entrySeq := (s.scanner.entrySeq + 1) % 256 }) (k := .entry)
    (by simp) hl _ _

theorem State.testPending_joins (hl : s.line.tx.length < 4) : JoinedByOne s.line.tx s.testPending.line.tx := by
  unfold State.testPending
  split
  · dsimp only
    (repeat' split)
    · exact .inl rfl
    · exact State.offerEntry_joins (s := s.setScanner { s.scanner with seq := .entry }) hl _ _
    · exact .inl rfl
  all_goals exact .inl rfl

theorem State.tellScanner_joins {tx : List TxFrame} (htx : s.line.tx = tx) (hl : tx.length < 4) (old : Phase) :
    JoinedByOne tx (s.tellScanner old).line.tx := by
  subst htx
  unfold State.tellScanner
  split
  · exact State.testPending_joins hl
  · exact .inl rfl

/-- A change of phase offers a pending ENTRY and no other frame (R167). -/
theorem State.enterPhase_joins (hl : s.line.tx.length < 4) (p : Phase) : JoinedByOne s.line.tx (s.enterPhase p).line.tx :=
  State.tellScanner_joins (by simp) hl _

/-- Out of a phase that takes no entries it offers none. -/
theorem State.enterPhase_line_quiet (h : s.phase.takesEntry = false) (p : Phase) : (s.enterPhase p).line = s.line := by
  unfold State.enterPhase State.movePhase
  dsimp only
  rw [State.tellScanner, h, Bool.false_and, if_neg (by simp)]
  simp

theorem State.openPurge_joins (hl : s.line.tx.length < 4) (cause : PurgeCause) (target : Nat) :
    JoinedByOne s.line.tx (s.openPurge cause target).line.tx := by
  have hline : (((s.leavePhase.journalOpened cause target).enterPhase .purging).beginOffers).line = s.line := by
    simp [State.enterPurging_line]
  rw [State.openPurge_eq, State.offerPurge]
  split
  · exact .inl (by rw [hline])
  · rw [← hline] at hl ⊢
    exact State.offer_joins (by simp) hl _ _

/-! ### The lock-down and the act on a tamper, by their parts -/

/-- What every change of an assertion's phase part keeps: it is the opening of a purge, or at most one entry to LOCKED. -/
theorem State.actOnTamper_cases (s : State) {P : State → Prop} (purge : ∀ cause target, P (s.openPurge cause target))
    (voided : ∀ cause target, P (s.leavePhase.openPurge cause target)) (revoked : P (s.leavePhase.enterPhase .locked))
    (locked : P (s.leavePhase.restartHold.enterPhase .locked)) (stays : s.phase ≠ .unlocked → s.phase ≠ .verifying → P s) :
    P s.actOnTamper := by
  unfold State.actOnTamper
  split
  · next h =>
    rw [State.openOwn_opens (Bool.and_eq_true_iff.mp h).2]
    exact purge _ _
  unfold State.lockDown
  (repeat' split)
  · exact revoked
  · unfold State.endVerification
    split
    · next h =>
      rw [State.openOwn_opens (Bool.and_eq_true_iff.mp h).2]
      exact voided _ _
    · exact locked
  · next hu hv => exact stays hu hv

theorem State.actOnTamper_joins (hl : s.line.tx.length < 4) : JoinedByOne s.line.tx s.actOnTamper.line.tx := by
  have hleave : s.leavePhase.line.tx.length < 4 := by simpa using hl
  refine s.actOnTamper_cases (P := fun t => JoinedByOne s.line.tx t.line.tx) (State.openPurge_joins hl) (fun c n => ?_)
    ?_ ?_ fun _ _ => .inl rfl
  · simpa using State.openPurge_joins hleave c n
  · simpa using State.enterPhase_joins hleave .locked
  · simpa using State.enterPhase_joins (s := s.leavePhase.restartHold) (by simpa using hl) .locked

/-- An assertion leads neither into UNCOMMISSIONED nor into HALTED (R188). -/
theorem State.actOnTamper_running (hu : s.phase ≠ .uncommissioned) (hh : s.phase ≠ .halted) :
    ¬ (s.actOnTamper.phase = .uncommissioned ∨ s.actOnTamper.phase = .halted) := by
  refine s.actOnTamper_cases (P := fun t => ¬ (t.phase = .uncommissioned ∨ t.phase = .halted)) (by simp) (by simp) ?_ ?_
    fun _ _ => by simp [hu, hh]
  all_goals
    simp only [State.phase, State.enterPhase_phaseCtl, State.carriedOn_locked]
    split <;> simp

/-! ### A write in flight -/

/-- A request leaves the write in flight alone (R206). -/
theorem State.request_inFlight {w : InFlight} (h : s.store.inFlight = some w) (r : Requester) (rec : RecordId) :
    (s.request r rec).store.inFlight = some w := by
  unfold State.request
  (repeat' split) <;> simp_all

theorem State.noteWrite_inFlight {w : InFlight} (h : s.store.inFlight = some w) (r : Requester) (rec : RecordId) :
    (s.noteWrite r rec).store.inFlight = some w := by
  have kick (t : State) (ht : t.store.inFlight = some w) : (t.kickWrites r).store.inFlight = some w := by
    unfold State.kickWrites
    (repeat' split)
    · exact ht
    · exact ht
    · exact State.request_inFlight ht _ _
  exact kick _ (by simpa using h)

theorem State.raisePair_inFlight {w : InFlight} (h : s.store.inFlight = some w) (r : Requester) (p : Nat × Nat) :
    (s.raisePair r p).store.inFlight = some w := by
  unfold State.raisePair
  split
  · exact State.request_inFlight (s := s.setPair p.1 p.2) h _ _
  · exact h

theorem State.leavePhase_inFlight {w : InFlight} (h : s.store.inFlight = some w) : s.leavePhase.store.inFlight = some w := by
  unfold State.leavePhase
  split
  · simpa using h
  · unfold State.voidAttempt
    split
    · exact h
    · exact State.raisePair_inFlight h _ _
  all_goals exact h

theorem State.openPurge_inFlight {w : InFlight} (h : s.store.inFlight = some w) (cause : PurgeCause) (target : Nat) :
    (s.openPurge cause target).store.inFlight = some w := by
  rw [State.openPurge_store]
  refine State.noteWrite_inFlight ?_ _ _
  exact State.leavePhase_inFlight h

theorem State.actOnTamper_inFlight {w : InFlight} (h : s.store.inFlight = some w) : s.actOnTamper.store.inFlight = some w := by
  have hleave := State.leavePhase_inFlight h
  refine s.actOnTamper_cases (P := fun t => t.store.inFlight = some w) (State.openPurge_inFlight h)
    (State.openPurge_inFlight hleave) ?_ ?_ fun _ _ => h
  · simpa using hleave
  · simpa using hleave

/-! ### What an assertion latches -/

theorem State.setTampered_eq (s : State) (b : Bool) :
    s.setTampered b
      = if s.supervisor.tampered ≠ b ∧ s.phase ≠ .uncommissioned ∧ s.phase ≠ .halted then
          (s.setSupervisor { s.supervisor with tampered := b }).setRoster { s.roster with rollOwed := true }
        else s.setSupervisor { s.supervisor with tampered := b } := by
  by_cases hb : s.supervisor.tampered = b <;> by_cases hu : s.phase = .uncommissioned <;>
    by_cases hh : s.phase = .halted <;> simp_all [State.setTampered, State.oweRoll]

theorem State.latched_rollOwed (s : State) :
    s.latched.roster.rollOwed
      = if s.supervisor.tampered = false ∧ s.phase ≠ .uncommissioned ∧ s.phase ≠ .halted then true else s.roster.rollOwed := by
  simp [State.latched, State.setTampered_rollOwed]

theorem State.latched_line (s : State) : s.latched.line = s.line := by
  simp [State.latched]

/-- With its request slot free an idle store takes TAMPERED at once (R187, R206). -/
theorem State.latched_inFlight (hr : s.store.requests.supervisor = none) (hf : s.store.inFlight = none)
    (hd : s.store.deciding = false) :
    s.latched.store.inFlight = some ⟨.supervisor, .tamper true, s.store.grants + 1⟩ := by
  unfold State.latched
  rw [State.request_idle _ _ _ (by simpa [Requests.get] using hr) (by simpa using hf) (by simpa using hd)]
  simp [State.grantWrite, State.heldContents, State.setTampered_supervisor]

/-- Where no purge may open and no unlock or verification runs, an assertion latches TAMPERED and no more (R188). -/
theorem State.actOnTamper_latchesOnly (hu : s.phase ≠ .unlocked) (hv : s.phase ≠ .verifying)
    (hno : s.purgesOnTamper = false ∨ s.canOpenOwn = false) : s.latched.actOnTamper = s.latched := by
  rw [s.latched_stands.actOnTamper_locks hno]
  exact State.lockDown_elsewhere (by rwa [s.latched_stands.phase]) (by rwa [s.latched_stands.phase])

theorem State.canOpenOwn_eq_false (h : s.purge.journal.isOpen = true ∨ s.phase = .halted ∨ s.phase = .uncommissioned
    ∨ s.epoch = 65535) : s.canOpenOwn = false := by
  rw [← Bool.not_eq_true, State.canOpenOwn_iff]
  rintro ⟨hclosed, hu, hh, hlast⟩
  rcases h with h | h | h | h <;> simp_all

/-- An assertion under policy LOCK that finds no verification offers no frame. -/
theorem State.actOnTamper_line_locks (hpolicy : s.purgesOnTamper = false) (hv : s.phase ≠ .verifying) :
    s.latched.actOnTamper.line = s.line := by
  by_cases hu : s.phase = .unlocked
  · have hphase := s.latched_stands.phase.trans hu
    have hleft : s.latched.leavePhase.phase = .unlocked := by simpa using hphase
    rw [s.latched_stands.actOnTamper_locks (.inl hpolicy), State.lockDown, if_pos hphase,
      State.enterPhase_line_quiet (by rw [hleft]; rfl)]
    simp [State.latched_line]
  · rw [State.actOnTamper_latchesOnly hu hv (.inl hpolicy), State.latched_line]

/-! ### The ROLL with the tamper flag -/

/-- Bit 3 of the first byte of a ROLL is the tamper flag (Table 11-11). -/
theorem State.rollPayload_tamper (s : State) : bitAt s.rollPayload 0 3 = s.supervisor.tampered := by
  have hstage := stageCode_le s.progressStage
  have hbit := bit_le s.supervisor.tampered
  have hodd : ((s.roleOf s.sn).code * 64 + s.roster.startCause.code * 16 + bit s.supervisor.tampered * 8
      + stageCode s.progressStage) / 2 ^ 3 % 2 = bit s.supervisor.tampered := by omega
  change (byte ((s.roleOf s.sn).code * 64 + s.roster.startCause.code * 16 + bit s.supervisor.tampered * 8
    + stageCode s.progressStage)).getLsbD 3 = _
  simp only [byte, BitVec.getLsbD_ofNat, Nat.testBit_eq_decide_div_mod_eq, hodd]
  cases s.supervisor.tampered <;> rfl

/-- An owed ROLL is in the queue at the end of the event when the queue has room and holds none. -/
theorem State.payRoll_pays (ho : s.roster.rollOwed = true) (hp : ¬ (s.phase = .uncommissioned ∨ s.phase = .halted))
    (hq : ∀ g ∈ s.line.tx, g.kind ≠ .roll) (hl : s.line.tx.length < 4) :
    s.payRoll.roster.rollOwed = false
      ∧ ∃ f ∈ s.payRoll.line.tx, f.kind = .roll ∧ f.payload = s.payRoll.rollPayload := by
  have hsame : s.SameRoll s.payRoll := by constructor <;> simp
  rw [hsame.rollPayload, State.payRoll_offers ho hp (State.ownRollQueued_eq_false hq)]
  refine ⟨by simp, s.formFrame .roll none s.rollPayload, ?_, rfl, rfl⟩
  rw [State.offer_line_other rfl (by simpa using hl)]
  exact List.mem_append_right _ (List.mem_singleton_self _)

end

/-- Settles O55, clause by clause, from the latched state on: what the assertion offers, owes and requests, then its phase part. -/
theorem tamperIsLatched : Obligations.TamperIsLatched := by
  refine ⟨fun s b => ⟨fun hb hu hh => ?sets, fun hno => ?keeps⟩, fun s hawake => ⟨fun ha => ?assertion, ?release, ?stored⟩⟩
  case sets => rw [State.setTampered_eq, if_pos ⟨hb, hu, hh⟩]
  case keeps =>
    rw [State.setTampered_eq, if_neg]
    rintro ⟨hb, hu, hh⟩
    rcases hno with h | h | h <;> contradiction
  case release =>
    change execTamperRelease s = _
    rw [execTamperRelease, State.whileAwake_of_awake hawake]
  case stored =>
    intro b serial hw
    simp only [exec, execTamperWriteComplete, State.whileAwake_of_awake hw.1, State.writeOf_writing hw, State.completeWrite_eq]
  case assertion =>
    have hstands := s.latched_stands
    have howed : s.latched.actOnTamper.roster.rollOwed = s.latched.roster.rollOwed := by simp
    have hline := s.latched_line
    refine ⟨_, State.exec_tamperAssertion hawake ha, fun hnew hu hh => ?_, fun hold hpaid hv hpolicy => ?_,
      fun hstopped hpaid => ?_, by simp [State.latched_supervisor], fun hr hf hd => ?_, fun hpolicy hu hv => ?_,
      fun hpolicy hclosed hu hh hlast => ?_, fun hu hv hno => ?_, by simp [hstands.slotTable], ?_⟩
    · have howes : s.latched.actOnTamper.roster.rollOwed = true := by
        rw [howed, State.latched_rollOwed, if_pos ⟨hnew, hu, hh⟩]
      have hrunning := State.actOnTamper_running (s := s.latched) (by rwa [hstands.phase]) (by rwa [hstands.phase])
      refine ⟨fun ⟨f, hf, hkind⟩ hl => ?_, fun hnone hl => ?_⟩
      · have hjoins := State.actOnTamper_joins (s := s.latched) (by rwa [hline])
        rw [State.payRoll_queued howes hrunning, howes]
        exact (State.ownRollQueued_iff _).mpr ⟨f, hjoins.mem (by rwa [hline]), hkind⟩
      · have hjoins := State.actOnTamper_joins (s := s.latched) (by rw [hline]; omega)
        have hlength := hjoins.length_le
        rw [hline] at hlength
        obtain ⟨hpaid, f, hf, hkind, hpayload⟩ :=
          State.payRoll_pays howes hrunning (hjoins.no_roll (by rwa [hline])) (by omega)
        refine ⟨hpaid, f, hf, hkind, hpayload, ?_⟩
        rw [hpayload, State.rollPayload_tamper]
        simp [State.latched_supervisor]
    · have hno : s.latched.actOnTamper.roster.rollOwed = false := by
        rw [howed, State.latched_rollOwed, if_neg (by simp [hold]), hpaid]
      rw [State.payRoll_of_not_owed hno]
      exact ⟨State.actOnTamper_line_locks hpolicy hv, hno⟩
    · have hno : s.latched.actOnTamper.roster.rollOwed = false := by
        rw [howed, State.latched_rollOwed, if_neg (by rcases hstopped with h | h <;> simp [h]), hpaid]
      rw [State.payRoll_of_not_owed hno]
      refine ⟨?_, hno⟩
      rw [State.actOnTamper_latchesOnly (by rcases hstopped with h | h <;> simp [h])
        (by rcases hstopped with h | h <;> simp [h])
        (.inr (State.canOpenOwn_eq_false (by rcases hstopped with h | h <;> simp [h]))), hline]
    · simpa using State.actOnTamper_inFlight (State.latched_inFlight hr hf hd)
    · rw [State.actOnTamper_latchesOnly hu hv (.inl hpolicy)]
      simpa using hstands.phase
    · rw [hstands.actOnTamper_purges hpolicy (s.canOpenOwn_iff.mpr ⟨hclosed, hu, hh, hlast⟩)]
      exact ⟨by simp, by simp [Journal.opened], (hstands.toOpensFrom.openPurge _ _).payRoll⟩
    · rw [State.actOnTamper_latchesOnly hu hv (hno.imp_right State.canOpenOwn_eq_false)]
      simp [hstands.phaseCtl, hstands.purge, hstands.gate, hstands.keyPort, hstands.verifier, hstands.slotTable]
    · simp [State.keepsRecords, hstands.stored, hstands.gate, hstands.setup]

end Sys2Proof.Machine
end


section
/-! PROOFS. VERDICT and the verdict window: the filing, the merge, and a decision that does not unlock (R35, R46, R62 to R70). -/

namespace Sys2Proof.Machine

/-! ### The decision -/

theorem mem_matchedSlots {l : List Filed} {f : Filed} (hf : f ∈ l) (hm : f.result = .matched) : f.slot ∈ matchedSlots l :=
  List.mem_map.mpr ⟨f, List.mem_filter.mpr ⟨hf, by simp [hm]⟩, rfl⟩

/-- MATCH verdicts on one slot at most name that slot. -/
theorem oneSlot_names {l : List Filed} (h : oneSlot l = true) : ∃ slot, ∀ f ∈ l, f.result = .matched → f.slot = slot := by
  unfold oneSlot at h
  split at h
  · next hnone =>
    refine ⟨0, fun f hf hm => ?_⟩
    have hin := mem_matchedSlots hf hm
    simp [hnone] at hin
  · next slot rest hslots =>
    refine ⟨slot, fun f hf hm => ?_⟩
    have hin := mem_matchedSlots hf hm
    rw [hslots] at hin
    rcases List.mem_cons.mp hin with heq | hrest
    · exact heq
    · simpa using List.all_eq_true.mp h _ hrest

/-- Only a full set of MATCH verdicts on one slot unlocks (Table 3-5). -/
theorem outcomeOf_unlock {full : Bool} {l : List Filed} (h : outcomeOf full l = .unlock) :
    full = true ∧ ∃ slot, ∀ f ∈ l, f.result = .matched ∧ f.slot = slot := by
  unfold outcomeOf at h
  split at h
  · cases h
  split at h
  · cases h
  next hslots =>
  split at h
  · next hall =>
    simp only [Bool.and_eq_true, List.all_eq_true, decide_eq_true_eq] at hall
    obtain ⟨hfull, hmatched⟩ := hall
    obtain ⟨slot, hslot⟩ := oneSlot_names (l := l) (by simpa [hfull] using hslots)
    exact ⟨hfull, slot, fun f hf => ⟨hmatched f hf, hslot f hf (hmatched f hf)⟩⟩
  · cases h

section
variable {s t u : State} {a : Attempt}

theorem State.fullSet_iff : s.fullSet a = true ↔ ∀ n, s.isMember n = true → a.filed[n].isSome = true := by
  simp [State.fullSet, State.mem_members]

theorem State.mem_filedVerdicts {w : Filed} :
    w ∈ s.filedVerdicts a ↔ ∃ n, s.isMember n = true ∧ a.filed[n] = some w := by
  simp [State.filedVerdicts, State.mem_members]

/-- A decision that does not unlock merges the counted pairs and ends the verification (R64, R67 to R69). -/
theorem State.takeDecision_ends (h : outcomeOf (s.fullSet a) (s.filedVerdicts a) ≠ .unlock) :
    s.takeDecision a
      = ((s.raisePair .verifier (s.bestFiled a.filed s.mergers)).setVerifier
          { (s.raisePair .verifier (s.bestFiled a.filed s.mergers)).verifier with attempt := none }).endVerification := by
  have hmembers (p : Nat × Nat) : (s.raisePair .verifier p).members = s.members := State.members_congr (by simp)
  have hfull (p : Nat × Nat) : (s.raisePair .verifier p).fullSet a = s.fullSet a := by
    rw [State.fullSet, hmembers, State.fullSet]
  have hfiled (p : Nat × Nat) : (s.raisePair .verifier p).filedVerdicts a = s.filedVerdicts a := by
    rw [State.filedVerdicts, hmembers, State.filedVerdicts]
  unfold State.takeDecision
  dsimp only
  rw [hfull, hfiled]
  generalize houtcome : outcomeOf (s.fullSet a) (s.filedVerdicts a) = outcome at h
  cases outcome with
  | unlock => exact absurd rfl h
  | failure => dsimp only
  | void => dsimp only

/-- The end of a verification by its decision, from where it stands as that of s. -/
theorem State.Verifies.takeDecision {v : State} (h : s.Verifies v)
    (hno : outcomeOf (v.fullSet a) (v.filedVerdicts a) ≠ .unlock) :
    s.Ended (v.takeDecision a) (v.bestFiled a.filed v.mergers) := by
  rw [State.takeDecision_ends hno]
  refine (h.decided (by simp) ?_).ended
  have hpair : s.pair = v.pair := by simp [State.pair, h.held]
  exact hpair ▸ State.bestFiled_grows v a.filed v.mergers

/-! ### The sender's record -/

theorem State.updateRecord_entries {n : StationNo} {r : GuardRecord} (hne : n ≠ s.sn)
    (hr : s.roster.entries[n].last = some (.guard r)) (change : GuardRecord → GuardRecord) :
    (s.updateRecord n change).roster.entries
      = s.roster.entries.set n ⟨s.roster.entries[n].presence, some (.guard (change r))⟩ := by
  rw [State.updateRecord, if_neg hne, hr]
  rfl

theorem State.updateRecord_own (s : State) (change : GuardRecord → GuardRecord) : s.updateRecord s.sn change = s :=
  if_pos rfl

/-- The last record of every station but for the change, and its presence as it is (R35). -/
theorem State.updateRecord_entry (s : State) (n m : StationNo) (change : GuardRecord → GuardRecord) :
    (s.updateRecord n change).roster.entries[m] = s.roster.entries[m]
      ∨ ∃ r, s.roster.entries[m].last = some (.guard r)
        ∧ (s.updateRecord n change).roster.entries[m] = ⟨s.roster.entries[m].presence, some (.guard (change r))⟩ := by
  unfold State.updateRecord
  (repeat' split)
  · exact .inl rfl
  · next r hr =>
    by_cases hm : n = m
    · subst hm
      exact .inr ⟨r, hr, by simp [State.setEntry]⟩
    · exact .inl (by simp [State.setEntry, Fin.val_inj, hm])
  · exact .inl rfl
  · exact .inl rfl

theorem State.updateRecord_missing (s : State) (n : StationNo) (change : GuardRecord → GuardRecord) :
    (s.updateRecord n change).memberMissing = s.memberMissing := by
  have hpresence (m : StationNo) :
      (s.updateRecord n change).roster.entries[m].presence = s.roster.entries[m].presence := by
    rcases s.updateRecord_entry n m change with h | ⟨r, _, h⟩ <;> rw [h]
  have hmember : (s.updateRecord n change).isMember = s.isMember := State.isMember_congr (by simp)
  have hsn : (s.updateRecord n change).sn = s.sn := by simp
  rw [Bool.eq_iff_iff, State.memberMissing_iff, State.memberMissing_iff]
  simp only [hpresence, hmember, hsn]

/-- A change that keeps the epoch keeps who counts for the merge (R64). -/
theorem State.updateRecord_sameEpoch {n m : StationNo} (hne : m ≠ s.sn) {change : GuardRecord → GuardRecord}
    (hepoch : ∀ r, (change r).epoch = r.epoch) : (s.updateRecord n change).sameEpoch m = s.sameEpoch m := by
  rw [Bool.eq_iff_iff, State.sameEpoch_other hne, State.sameEpoch_other (by simpa using hne)]
  rcases s.updateRecord_entry n m change with h | ⟨r, hr, h⟩
  · simp [h]
  · rw [h, hr]
    simp [hepoch]

theorem State.sameEpoch_congr {n : StationNo} (hne : n ≠ s.sn) (hsn : u.roster.sn = s.roster.sn)
    (hentries : u.roster.entries = s.roster.entries) (hepoch : u.epoch = s.epoch) : u.sameEpoch n = s.sameEpoch n := by
  rw [Bool.eq_iff_iff, State.sameEpoch_other hne, State.sameEpoch_other (by rwa [State.sn, hsn]), hentries, hepoch]

theorem State.mergers_congr (hsetup : u.setup = s.setup) (hsn : u.roster.sn = s.roster.sn)
    (hsame : ∀ n, n ≠ s.sn → u.sameEpoch n = s.sameEpoch n) : u.mergers = s.mergers := by
  rw [State.mergers, State.mergers, State.members_congr hsetup]
  refine List.filter_congr fun n _ => ?_
  by_cases hn : n = s.sn
  · simp [hn, hsn]
  · simp [hsn, hsame n hn]

/-! ### VERDICT, by its effect -/

theorem exec_verdict {f : RxFrame} {rest : List RxFrame} (h : s.isFront f rest) (hk : f.kind = .verdict) :
    exec .verdict s = .next ((s.taken rest).handleVerdict f).payRoll :=
  State.frameRow_front h (by simp [hk]) _

theorem State.handleVerdict_takes {f : RxFrame} {v : VerdictFields} (hv : readVerdict f.payload = some v)
    (hm : s.isMember f.sender = true) : s.handleVerdict f = s.takeVerdict f.sender v := by
  simp [State.handleVerdict, hv, hm]

theorem State.handleVerdict_ignores {f : RxFrame} (h : readVerdict f.payload = none ∨ s.isMember f.sender = false) :
    s.handleVerdict f = s := by
  unfold State.handleVerdict
  split
  · next hv => simp_all
  · rfl

theorem Attempt.isFor_iff {v : VerdictFields} :
    a.isFor v = true ↔ a.waiting = none ∧ a.origin = v.origin ∧ a.seq = v.seq := by
  simp [Attempt.isFor, and_assoc]

theorem State.takeVerdict_files {n : StationNo} {v : VerdictFields} (ha : s.verifier.attempt = some a)
    (hfor : a.waiting = none ∧ a.origin = v.origin ∧ a.seq = v.seq) :
    s.takeVerdict n v = (s.updateRecord n (verdictRecord v.filed)).fileVerdict a n v.filed := by
  simp [State.takeVerdict, ha, Attempt.isFor_iff.mpr hfor]

theorem State.takeVerdict_merges {n : StationNo} {v : VerdictFields}
    (hno : ∀ a, s.verifier.attempt = some a → ¬ (a.waiting = none ∧ a.origin = v.origin ∧ a.seq = v.seq)) :
    s.takeVerdict n v = (s.updateRecord n (verdictRecord v.filed)).mergeVerdict n v.filed := by
  unfold State.takeVerdict
  dsimp only
  split
  · next a ha => rw [if_neg fun hfor => hno a (by simpa using ha) (Attempt.isFor_iff.mp hfor)]
  · rfl

/-- The station with a verdict filed at its place, the sender's record updated (R35, R62). -/
def State.verdictFiled (s : State) (a : Attempt) (n : StationNo) (v : Filed) : State :=
  (s.updateRecord n (verdictRecord v)).setVerifier
    { (s.updateRecord n (verdictRecord v)).verifier with attempt := some { a with filed := a.filed.set n (some v) } }

theorem State.fileVerdict_places {n : StationNo} (hplace : a.filed[n] = none) (v : Filed) :
    (s.updateRecord n (verdictRecord v)).fileVerdict a n v
      = if (s.verdictFiled a n v).fullSet { a with filed := a.filed.set n (some v) } = true then
          (s.verdictFiled a n v).takeDecision { a with filed := a.filed.set n (some v) }
        else s.verdictFiled a n v := by
  rw [State.fileVerdict, hplace]
  rfl

theorem State.verdictFiled_verifies {f : RxFrame} {rest : List RxFrame} (hrx : s.line.rx = f :: rest)
    (hp : s.phase = .verifying) (a : Attempt) (n : StationNo) (v : Filed) :
    s.Verifies ((s.taken rest).verdictFiled a n v) := by
  have hphase : s.phaseCtl.phase = .verifying := hp
  refine ⟨(State.OpensFrom.taken hrx).congr ?_ ?_ ?_ ?_ ?_, ?_, ?_, ?_, ?_, ?_, ?_, ?_, ?_, ?_, ?_⟩
  case refine_7 => exact (State.memberMissing_congr rfl rfl rfl).trans ((s.taken rest).updateRecord_missing n _)
  all_goals simp [State.verdictFiled, hphase]

/-- A verdict changes neither the epoch of its sender's record nor the held pair, so the same pairs count (R64). -/
theorem State.verdictFiled_bestFiled (s : State) (rest : List RxFrame) (a : Attempt) (n : StationNo) (v : Filed)
    (filed : Vector (Option Filed) 8) :
    ((s.taken rest).verdictFiled a n v).bestFiled filed ((s.taken rest).verdictFiled a n v).mergers
      = s.bestFiled filed s.mergers := by
  have hmergers : ((s.taken rest).verdictFiled a n v).mergers = s.mergers := by
    refine State.mergers_congr (by simp [State.verdictFiled]) (by simp [State.verdictFiled]) fun m hm => ?_
    have hupdated := (s.taken rest).updateRecord_sameEpoch (n := n) (change := verdictRecord v) hm fun r => rfl
    refine (State.sameEpoch_congr ?_ ?_ ?_ ?_).trans hupdated
    all_goals simp [State.verdictFiled, hm]
  rw [hmergers, State.bestFiled, State.bestFiled]
  simp [State.pair, State.verdictFiled]

end

/-! ### A window that runs out -/

theorem exec_verdictWindowExpire {s : State} {a : Attempt} {due : Micros} (hawake : s.awake = true)
    (ha : s.verifier.attempt = some a) (hw : a.window = some due) :
    exec .verdictWindowExpire s = .next ((s.runTo due).takeDecision a).payRoll := by
  change execVerdictWindowExpire s = _
  rw [execVerdictWindowExpire, State.whileAwake_of_awake hawake]
  simp [ha, hw]

/-- Settles O28: both ends are a decision that does not unlock. -/
theorem expiredWindowVoids : Obligations.ExpiredWindowVoids := by
  constructor
  · intro s a due hawake hp ha hw hnot
    have hverifies : (s.runTo due).Verifies (s.runTo due) := (State.StandsAs.refl _).verifies hp
    have hno : outcomeOf ((s.runTo due).fullSet a) ((s.runTo due).filedVerdicts a) ≠ .unlock := fun h => by
      have hfull : s.fullSet a = true := (outcomeOf_unlock h).1
      simp [hfull] at hnot
    have hended := (hverifies.takeDecision hno).payRoll
    have hclock : ((s.runTo due).takeDecision a).payRoll.clock = max s.clock due := by simp [State.runTo]
    refine ⟨_, exec_verdictWindowExpire hawake ha hw, hended.attempt, hended.keyPort, hclock, hended.held,
      fun hless hclosed => ?_, fun hover hclosed hlast => ?_, congrArg SlotTable.slots hended.slotTable, hended.records⟩
    · rw [hended.held] at hless
      obtain ⟨hphase, _, hhold, _⟩ := hended.locks (hless.imp_right .inl)
      exact ⟨hphase, by rw [hhold, hended.held, hclock]; rfl⟩
    · rw [hended.held] at hover
      obtain ⟨⟨hphase, _, _, _, hjournal, _⟩, _⟩ := hended.opens hover hclosed hlast
      exact ⟨hphase, hjournal⟩
  · intro s f rest v a hfront hk hv hm hp ha hwaiting horigin hseq hplace filed hfull hno merged
    obtain ⟨hawake, hrx, hhandles⟩ := hfront
    have hmember : ((s.taken rest).verdictFiled a f.sender v.filed).isMember = s.isMember :=
      State.isMember_congr (by simp [State.verdictFiled])
    have hset : ((s.taken rest).verdictFiled a f.sender v.filed).fullSet { a with filed := filed } = true := by
      rw [State.fullSet_iff, hmember]
      exact fun n hn => Option.isSome_iff_ne_none.mpr (hfull n hn)
    have hexec : exec .verdict s
        = .next (((s.taken rest).verdictFiled a f.sender v.filed).takeDecision { a with filed := filed }).payRoll := by
      rw [exec_verdict ⟨hawake, hrx, hhandles⟩ hk, State.handleVerdict_takes hv (by exact hm),
        State.takeVerdict_files (a := a) (by exact ha) ⟨hwaiting, horigin, hseq⟩, State.fileVerdict_places hplace, if_pos hset]
    have hended := ((State.verdictFiled_verifies hrx hp a f.sender v.filed).takeDecision
      (a := { a with filed := filed }) fun h => ?_).payRoll
    · rw [State.verdictFiled_bestFiled] at hended
      refine ⟨_, hexec, hended.attempt, hended.keyPort, hended.held, fun hless => ?_, hended.opens,
        congrArg SlotTable.slots hended.slotTable, hended.records⟩
      obtain ⟨hphase, hgrant, hhold, _⟩ := hended.locks (hless.imp_right .inl)
      exact ⟨hphase, hgrant, hhold⟩
    · obtain ⟨_, slot, hslot⟩ := outcomeOf_unlock h
      exact hno ⟨slot, fun n w hn hw => hslot w (State.mem_filedVerdicts.mpr ⟨n, by rwa [hmember], hw⟩)⟩

end Sys2Proof.Machine
end


section
/-! PROOFS. The merge of a reported pair (R46, R47, R71), and VERDICTs that are filed or merged (R35, R46, R62). -/

namespace Sys2Proof.Machine

section
variable {s t u : State} {p : Nat × Nat}

/-! ### The merge -/

/-- The pair is one that this station merges: it is larger, and the phase takes part (R46). -/
def State.mergesPair (s : State) (p : Nat × Nat) : Prop := s.phase.merges = true ∧ s.raises p.1 p.2

theorem Phase.merges_iff {p : Phase} : p.merges = true ↔ p ≠ .uncommissioned ∧ p ≠ .halted ∧ p ≠ .purging := by
  cases p <;> simp [Phase.merges]

theorem State.raises_iff (s : State) (p : Nat × Nat) : pairLess s.pair.1 s.pair.2 p.1 p.2 = true ↔ s.raises p.1 p.2 :=
  pairLess_iff

theorem State.raises_congr (h : u.verifier = s.verifier) (serial count : Nat) :
    u.raises serial count ↔ s.raises serial count := by
  rw [State.raises, State.raises, h]

theorem State.mergePair_guard (s : State) (p : Nat × Nat) :
    (s.phase.merges && pairLess s.pair.1 s.pair.2 p.1 p.2) = true ↔ s.mergesPair p := by
  rw [Bool.and_eq_true, State.raises_iff, State.mergesPair]

theorem State.mergePair_same (h : ¬ s.mergesPair p) : s.mergePair p = s :=
  if_neg fun hguard => h ((s.mergePair_guard p).mp hguard)

/-- In VERIFYING a merge raises the pair and does no more (R46). -/
theorem State.mergePair_verifying (h : s.mergesPair p) (hp : s.phase = .verifying) :
    s.mergePair p = s.raisePair .roster p := by
  have hphase : s.phaseCtl.phase = .verifying := hp
  rw [State.mergePair, if_pos ((s.mergePair_guard p).mpr h)]
  simp [hphase]

/-- The station with a larger pair held and the hold restarted from its count (R71). -/
def State.holdRaised (s : State) (p : Nat × Nat) : State := (s.raisePair .roster p).restartHold

theorem State.holdRaised_verifier (h : s.raises p.1 p.2) :
    (s.holdRaised p).verifier
      = { s.verifier with held := ⟨s.epoch, p.1, p.2⟩, hold := (holdDuration p.2).map (s.clock + ·) } := by
  simp [State.holdRaised, State.restartHold, State.raisePair_held (.inr ((s.raises_iff p).mpr h))]

@[simp] theorem State.holdRaised_frame (s : State) (p : Nat × Nat) :
    (s.holdRaised p).clock = s.clock ∧ (s.holdRaised p).line = s.line ∧ (s.holdRaised p).roster = s.roster
    ∧ (s.holdRaised p).slotTable = s.slotTable ∧ (s.holdRaised p).phaseCtl = s.phaseCtl
    ∧ (s.holdRaised p).keyPort = s.keyPort ∧ (s.holdRaised p).purge = s.purge ∧ (s.holdRaised p).gate = s.gate
    ∧ (s.holdRaised p).scanner = s.scanner ∧ (s.holdRaised p).supervisor = s.supervisor
    ∧ (s.holdRaised p).setup = s.setup ∧ (s.holdRaised p).store.stored = s.store.stored := by
  simp [State.holdRaised]

theorem State.OpensFrom.holdRaised (h : s.OpensFrom u) (p : Nat × Nat) : s.OpensFrom (u.holdRaised p) :=
  (h.raisePair (r := .roster) (by simp) p).congr (by simp [State.holdRaised]) (by simp [State.holdRaised])
    (by simp [State.holdRaised]) (by simp [State.holdRaised]) (by simp [State.holdRaised])

/-- Elsewhere a merge restarts the hold, and at the failure limit a purge opens where one can (R46, R47). -/
theorem State.mergePair_elsewhere (h : s.mergesPair p) (hv : s.phase ≠ .verifying) :
    s.mergePair p = if s.failureLimit ≤ p.2 then (s.holdRaised p).openOwn .limit else s.holdRaised p := by
  have hphase : s.phaseCtl.phase ≠ .verifying := hv
  have hcount : (s.holdRaised p).verifier.held.count = p.2 := by rw [State.holdRaised_verifier h.2]
  have hlimit : (s.holdRaised p).failureLimit = s.failureLimit := State.failureLimit_congr (by simp)
  rw [State.mergePair, if_pos ((s.mergePair_guard p).mpr h)]
  dsimp only
  rw [if_neg (by simpa using hv), ← State.holdRaised, hcount, hlimit]

theorem State.mergePair_holds (h : s.mergesPair p) (hv : s.phase ≠ .verifying) (hless : p.2 < s.failureLimit) :
    s.mergePair p = s.holdRaised p := by
  rw [State.mergePair_elsewhere h hv, if_neg (by omega)]

theorem State.holdRaised_epoch (h : s.raises p.1 p.2) : (s.holdRaised p).epoch = s.epoch := by
  rw [State.epoch, State.holdRaised_verifier h]

theorem State.mergePair_opens (h : s.mergesPair p) (hv : s.phase ≠ .verifying) (hover : s.failureLimit ≤ p.2)
    (hclosed : s.purge.journal.isOpen = false) (hlast : s.epoch ≠ 65535) :
    s.mergePair p = (s.holdRaised p).openPurge .limit (s.epoch + 1) := by
  obtain ⟨hu, hh, _⟩ := Phase.merges_iff.mp h.1
  have hepoch := State.holdRaised_epoch h.2
  have hcan : (s.holdRaised p).canOpenOwn = true :=
    (State.canOpenOwn_iff _).mpr ⟨by simpa using hclosed, by simpa using hu, by simpa using hh, by rwa [hepoch]⟩
  rw [State.mergePair_elsewhere h hv, if_pos hover, State.openOwn_opens hcan, hepoch]

/-! ### VERDICTs that are merged -/

theorem State.mergeVerdict_other {n : StationNo} (hne : n ≠ s.sn) (v : Filed) :
    s.mergeVerdict n v = if s.sameEpoch n = true then s.mergePair (v.serial, v.count) else s := by
  simp [State.mergeVerdict, hne]

theorem State.mergeVerdict_own (s : State) (v : Filed) : s.mergeVerdict s.sn v = s := by
  simp [State.mergeVerdict]

/-- What another member's VERDICT of another entry does, from its sender's updated record on (R35, R46). -/
theorem State.mergeVerdict_updated {n : StationNo} {r : GuardRecord} (hne : n ≠ s.sn)
    (hr : s.roster.entries[n].last = some (.guard r)) (v : Filed) :
    (s.updateRecord n (verdictRecord v)).mergeVerdict n v
      = if r.epoch = s.epoch then (s.updateRecord n (verdictRecord v)).mergePair (v.serial, v.count)
        else s.updateRecord n (verdictRecord v) := by
  have hsame : (s.updateRecord n (verdictRecord v)).sameEpoch n = true ↔ r.epoch = s.epoch := by
    rw [State.updateRecord_sameEpoch (change := verdictRecord v) hne fun _ => rfl, State.sameEpoch_other hne, hr]
    simp
  rw [State.mergeVerdict_other (by simpa using hne)]
  simp only [hsame]

theorem State.verdictFiled_isMember (s : State) (a : Attempt) (n : StationNo) (v : Filed) :
    (s.verdictFiled a n v).isMember = s.isMember :=
  State.isMember_congr (by simp [State.verdictFiled])

/-- While another member's place stays empty, the verdict is filed and nothing is decided (R62, R63). -/
theorem State.fileVerdict_waits {a : Attempt} {n m : StationNo} (hplace : a.filed[n] = none) (hm : s.isMember m = true)
    (hne : m ≠ n) (hnone : a.filed[m] = none) (v : Filed) :
    (s.updateRecord n (verdictRecord v)).fileVerdict a n v = s.verdictFiled a n v := by
  rw [State.fileVerdict_places hplace, if_neg]
  rw [State.fullSet_iff, State.verdictFiled_isMember]
  intro hfull
  have hset := hfull m hm
  rw [Fin.getElem_fin, Vector.getElem_set_ne _ _ (fun h => hne (Fin.ext h).symm)] at hset
  simp_all

/-- The station that has taken another member's VERDICT off the queue and updated its record. -/
def State.verdictSeen (s : State) (rest : List RxFrame) (n : StationNo) (v : Filed) : State :=
  (s.taken rest).updateRecord n (verdictRecord v)

@[simp] theorem State.verdictSeen_frame (s : State) (rest : List RxFrame) (n : StationNo) (v : Filed) :
    (s.verdictSeen rest n v).clock = s.clock ∧ (s.verdictSeen rest n v).verifier = s.verifier
    ∧ (s.verdictSeen rest n v).phaseCtl = s.phaseCtl ∧ (s.verdictSeen rest n v).purge = s.purge
    ∧ (s.verdictSeen rest n v).setup = s.setup ∧ (s.verdictSeen rest n v).store = s.store := by
  simp [State.verdictSeen]

theorem State.verdictSeen_opensFrom {f : RxFrame} {rest : List RxFrame} (hrx : s.line.rx = f :: rest) (n : StationNo)
    (v : Filed) : s.OpensFrom (s.verdictSeen rest n v) :=
  (State.OpensFrom.taken hrx).congr (by simp [State.verdictSeen]) (by simp [State.verdictSeen]) (by simp [State.verdictSeen])
    (by simp [State.verdictSeen]) (by simp [State.verdictSeen])

/-- What the merge of another member's VERDICT does, from where the station has seen it (R46, R47). -/
theorem exec_verdict_merges {f : RxFrame} {rest : List RxFrame} {v : VerdictFields} {r : GuardRecord}
    (hfront : s.isFront f rest) (hk : f.kind = .verdict) (hv : readVerdict f.payload = some v)
    (hm : s.isMember f.sender = true) (hne : f.sender ≠ s.sn) (hr : s.roster.entries[f.sender].last = some (.guard r))
    (hother : ∀ a, s.verifier.attempt = some a → a.origin ≠ v.origin ∨ a.seq ≠ v.seq) :
    exec .verdict s
      = .next (if r.epoch = s.epoch then (s.verdictSeen rest f.sender v.filed).mergePair (v.filed.serial, v.filed.count)
          else s.verdictSeen rest f.sender v.filed).payRoll := by
  have hnot : ∀ a, (s.taken rest).verifier.attempt = some a →
      ¬ (a.waiting = none ∧ a.origin = v.origin ∧ a.seq = v.seq) := by
    rintro a ha ⟨_, horigin, hseq⟩
    rcases hother a ha with h | h
    · exact h horigin
    · exact h hseq
  rw [exec_verdict hfront hk, State.handleVerdict_takes hv (by exact hm), State.takeVerdict_merges hnot,
    State.mergeVerdict_updated (r := r) (by exact hne) (by exact hr)]
  rfl

end

/-- Settles O25, by where the VERDICT belongs: to the attempt, to another entry, to nobody that counts, or to the station itself. -/
theorem verdictIsFiledOnce : Obligations.VerdictIsFiledOnce := by
  refine ⟨fun s f rest v a hfront hk hv hm ha hwaiting horigin hseq => ?files, fun s f rest v r hfront hk hv hm hne hr hother
    hu hh hpurging => ?merges, fun s f rest ⟨hawake, hrx, hhandles⟩ hk hignored => ?ignored,
    fun s f rest v ⟨hawake, hrx, hhandles⟩ hk hv hown hother => ?own⟩
  case files =>
    have hexec := exec_verdict hfront hk
    rw [State.handleVerdict_takes hv (by exact hm),
      State.takeVerdict_files (a := a) (by exact ha) ⟨hwaiting, horigin, hseq⟩] at hexec
    refine ⟨fun hplace ⟨n, hn, hne, hnone⟩ => ?_, fun filed hplace => ?_⟩
    · rw [State.fileVerdict_waits hplace (by exact hn) hne hnone] at hexec
      exact ⟨_, hexec, by simp [State.verdictFiled], by simp [State.verdictFiled], by simp [State.verdictFiled],
        by simp [State.verdictFiled], by simp [State.verdictFiled], by simp [State.verdictFiled]⟩
    · rw [State.fileVerdict, hplace, Option.isSome_some, if_pos rfl] at hexec
      exact ⟨_, hexec, by simp⟩
  case merges =>
    intro raised merged
    have hexec := exec_verdict_merges hfront hk hv hm hne hr hother
    have hopens := State.verdictSeen_opensFrom hfront.2.1 f.sender v.filed
    have hphase : (s.verdictSeen rest f.sender v.filed).phase = s.phase := by simp
    have hlimit : (s.verdictSeen rest f.sender v.filed).failureLimit = s.failureLimit := State.failureLimit_congr (by simp)
    have hraises := State.raises_congr (s := s) (u := s.verdictSeen rest f.sender v.filed) (by simp)
    have hepoch : (s.verdictSeen rest f.sender v.filed).epoch = s.epoch := by simp [State.epoch]
    have hmerges : merged → (s.verdictSeen rest f.sender v.filed).mergesPair (v.filed.serial, v.filed.count) :=
      fun h => ⟨by rw [hphase]; exact Phase.merges_iff.mpr ⟨hu, hh, hpurging⟩, (hraises _ _).mpr h.2⟩
    refine ⟨_, hexec, ?_, fun hno => ?_, fun h hp => ?_, fun h hp hless => ?_, fun h hp hover hclosed hlast => ?_⟩
    · have hentries := State.updateRecord_entries (s := s.taken rest) hne hr (verdictRecord v.filed)
      split <;> simpa [State.verdictSeen, verdictRecord] using hentries
    · have hstays : (if r.epoch = s.epoch then
          (s.verdictSeen rest f.sender v.filed).mergePair (v.filed.serial, v.filed.count)
          else s.verdictSeen rest f.sender v.filed) = s.verdictSeen rest f.sender v.filed := by
        split
        · next he => exact State.mergePair_same fun h => hno ⟨he, (hraises _ _).mp h.2⟩
        · rfl
      simp [hstays]
    · rw [if_pos h.1, State.mergePair_verifying (hmerges h) (hphase.trans hp)]
      have hverifier := State.raisePair_held (.inr ((State.raises_iff _ _).mpr (hmerges h).2)) .roster
      rw [hepoch] at hverifier
      exact ⟨by simp [hverifier, raised], by simpa using hp⟩
    · rw [if_pos h.1, State.mergePair_holds (hmerges h) (by rwa [hphase]) (by rwa [hlimit])]
      simp [State.holdRaised_verifier (hmerges h).2, raised]
    · rw [if_pos h.1, State.mergePair_opens (hmerges h) (by rwa [hphase]) (by rwa [hlimit]) (by simpa using hclosed)
        (by rwa [hepoch]), hepoch]
      exact ((hopens.holdRaised _).openPurge .limit _).payRoll
  case ignored =>
    exact State.frameRow_silent hawake hrx (by simp [hk]) fun _ => State.handleVerdict_ignores hignored
  case own =>
    refine State.frameRow_silent hawake hrx (by simp [hk]) fun _ => ?_
    by_cases hm : s.isMember f.sender = true
    · rw [State.handleVerdict_takes hv (by exact hm), State.takeVerdict_merges, hown]
      · rw [show s.sn = (s.taken rest).sn from rfl, State.updateRecord_own, State.mergeVerdict_own]
      · rintro a ha ⟨hwaiting, horigin, hseq⟩
        rcases hother a ha with h | h | h
        · simp [hwaiting] at h
        · exact h horigin
        · exact h hseq
    · exact State.handleVerdict_ignores (.inr (Bool.not_eq_true _ ▸ hm))

end Sys2Proof.Machine
end


section
/-! PROOFS. The largest reported pair, and the completion of an assembly (R42, R43, R45). -/

namespace Sys2Proof.Machine

/-! ### The largest pair of a list of reports -/

theorem pairLess_eq_false_iff {serial count serial' count' : Nat} :
    pairLess serial count serial' count' = false ↔ serial' < serial ∨ (serial = serial' ∧ count' ≤ count) := by
  rw [← Bool.not_eq_true, pairLess_iff]
  omega

/-- The order of pairs is total: what is not less is the pair itself or grows out of it. -/
theorem pairGrows_iff {p q : Nat × Nat} : PairGrows p q ↔ pairLess q.1 q.2 p.1 p.2 = false := by
  rw [PairGrows, pairLess_iff, pairLess_eq_false_iff, Prod.ext_iff]
  omega

theorem PairGrows.antisymm {p q : Nat × Nat} (h : PairGrows p q) (h' : PairGrows q p) : p = q := by
  rw [pairGrows_iff, pairLess_eq_false_iff] at h h'
  exact Prod.ext_iff.mpr (by omega)

theorem largerPair_grows (p q : Nat × Nat) : PairGrows q (largerPair p q) := by
  unfold largerPair
  split
  · exact .refl q
  · next h => exact pairGrows_iff.mpr (by simpa using h)

theorem largerPair_cases (p q : Nat × Nat) : largerPair p q = p ∨ largerPair p q = q := by
  unfold largerPair
  split
  · exact .inr rfl
  · exact .inl rfl

/-- The largest pair of a start and what the stations of a list report. -/
def largestOf (report : StationNo → Option (Nat × Nat)) (start : Nat × Nat) (l : List StationNo) : Nat × Nat :=
  l.foldl (fun best n => (report n).elim best (largerPair best)) start

section
variable {report : StationNo → Option (Nat × Nat)} {start : Nat × Nat} {l : List StationNo}

theorem largestOf_grows : PairGrows start (largestOf report start l) := by
  refine List.foldlRecOn l _ (motive := PairGrows start) (.refl _) fun best hbest n _ => ?_
  cases report n with
  | none => exact hbest
  | some q => exact hbest.trans (pairGrows_largerPair _ _)

theorem largestOf_upper {n : StationNo} {q : Nat × Nat} (hn : n ∈ l) (hq : report n = some q) :
    PairGrows q (largestOf report start l) := by
  induction l generalizing start with
  | nil => simp at hn
  | cons m l ih =>
    rcases List.mem_cons.mp hn with rfl | hn
    · have hstart : PairGrows q ((report n).elim start (largerPair start)) := by
        rw [hq]
        exact largerPair_grows start q
      exact hstart.trans largestOf_grows
    · exact ih hn

theorem largestOf_mem : largestOf report start l = start ∨ ∃ n ∈ l, report n = some (largestOf report start l) := by
  refine List.foldlRecOn l _ (motive := fun best => best = start ∨ ∃ n ∈ l, report n = some best) (.inl rfl)
    fun best hbest n hn => ?_
  cases hq : report n with
  | none => exact hbest
  | some q =>
    rcases largerPair_cases best q with h | h
    · simpa [h] using hbest
    · exact .inr ⟨n, hn, by simp [h, hq]⟩

end

section
variable {s t u w : State} {p : Nat × Nat}

/-- What a station's last record reports. -/
def State.reportedPair (s : State) (n : StationNo) : Option (Nat × Nat) :=
  (s.lastGuard n).map fun r => (r.serial, r.count)

theorem State.bestReported_eq (s : State) : s.bestReported = largestOf s.reportedPair s.pair s.members := by
  unfold State.bestReported largestOf
  congr 1
  funext best n
  simp only [State.reportedPair]
  cases s.lastGuard n <;> rfl

theorem State.reportedPair_other {n : StationNo} (hne : n ≠ s.sn) {q : Nat × Nat} :
    s.reportedPair n = some q ↔ ∃ r, s.roster.entries[n].last = some (.guard r) ∧ q = (r.serial, r.count) := by
  simp only [State.reportedPair, Option.map_eq_some_iff, State.lastGuard_other hne, eq_comm (a := q)]

theorem State.reportedPair_own (s : State) : s.reportedPair s.sn = some s.pair := by
  rw [State.reportedPair, State.lastGuard_own]
  rfl

theorem State.bestReported_grows (s : State) : PairGrows s.pair s.bestReported := by
  rw [State.bestReported_eq]
  exact largestOf_grows

theorem State.bestReported_upper {n : StationNo} {r : GuardRecord} (hm : s.isMember n = true) (hne : n ≠ s.sn)
    (hr : s.roster.entries[n].last = some (.guard r)) : PairGrows (r.serial, r.count) s.bestReported := by
  rw [State.bestReported_eq]
  exact largestOf_upper (State.mem_members.mpr hm) ((State.reportedPair_other hne).mpr ⟨r, hr, rfl⟩)

theorem State.bestReported_mem (s : State) :
    s.bestReported = s.pair ∨ ∃ n r, s.isMember n = true ∧ n ≠ s.sn ∧ s.roster.entries[n].last = some (.guard r)
      ∧ s.bestReported = (r.serial, r.count) := by
  have hmem := largestOf_mem (report := s.reportedPair) (start := s.pair) (l := s.members)
  rw [← State.bestReported_eq] at hmem
  rcases hmem with h | ⟨n, hn, h⟩
  · exact .inl h
  by_cases hne : n = s.sn
  · rw [hne, State.reportedPair_own] at h
    exact .inl (Option.some.inj h).symm
  · obtain ⟨r, hr, hbest⟩ := (State.reportedPair_other hne).mp h
    exact .inr ⟨n, r, State.mem_members.mp hn, hne, hr, hbest⟩

/-- A pair that is reported already changes the largest reported pair in no way when it is held. -/
theorem State.bestReported_congr (hsetup : u.setup = s.setup) (hsn : u.roster.sn = s.roster.sn)
    (hentries : u.roster.entries = s.roster.entries) (hgrows : PairGrows s.pair u.pair)
    (hreported : PairGrows u.pair s.bestReported) : u.bestReported = s.bestReported := by
  have hmember := State.isMember_congr hsetup
  have hsn' : u.sn = s.sn := hsn
  refine PairGrows.antisymm ?_ ?_
  · rcases u.bestReported_mem with h | ⟨n, r, hm, hne, hr, h⟩
    · rwa [h]
    · rw [h]
      exact State.bestReported_upper (by rwa [← hmember]) (by rwa [← hsn']) (by rwa [← hentries])
  · rcases s.bestReported_mem with h | ⟨n, r, hm, hne, hr, h⟩
    · rw [h]
      exact hgrows.trans u.bestReported_grows
    · rw [h]
      exact State.bestReported_upper (by rwa [hmember]) (by rwa [hsn']) (by rwa [hentries])

/-! ### Reconciliation, by what it looks at -/

/-- The slots stand as reconciliation sees them: the own ones and those that the members' records show (R89). -/
structure State.SameSlots (s u : State) : Prop where
  setup : u.setup = s.setup
  sn : u.roster.sn = s.roster.sn
  entries : u.roster.entries = s.roster.entries
  slots : u.slotTable.slots = s.slotTable.slots

/-- What reconciliation makes of a slot (R90, R91). -/
def State.reconciledSlot (s : State) (i : SlotNo) : Slot :=
  let sums := s.slotSummaries i
  let g := largestGen sums
  (s.repairSlot i g (repairOf g (contentAt g sums) (s.slotAt i).summary)).withLeastUses g sums

theorem State.SameSlots.slotAt (h : s.SameSlots u) (i : SlotNo) : u.slotAt i = s.slotAt i := by
  simp [State.slotAt, h.slots]

theorem State.SameSlots.slotSummaries (h : s.SameSlots u) (i : SlotNo) : u.slotSummaries i = s.slotSummaries i := by
  have hshows (n : StationNo) : ((u.lastGuard n).map fun r => r.slots[i]) = (s.lastGuard n).map fun r => r.slots[i] := by
    unfold State.lastGuard
    simp only [State.sn, h.sn, h.entries]
    split
    · simp [State.ownRecord, State.summaries, h.slotAt]
    · rfl
  rw [State.slotSummaries, State.slotSummaries, State.members_congr h.setup]
  simp only [hshows]

theorem State.SameSlots.repairSlot (h : s.SameSlots u) (i : SlotNo) (g : Nat) (r : Repair) :
    u.repairSlot i g r = s.repairSlot i g r := by
  cases r <;> simp [State.repairSlot, State.duplicate, h.slotAt]

theorem State.SameSlots.reconciledSlot (h : s.SameSlots u) (i : SlotNo) : u.reconciledSlot i = s.reconciledSlot i := by
  simp only [State.reconciledSlot, h.slotSummaries, h.slotAt, h.repairSlot]

theorem State.SameSlots.set_reconciled {v : State} (h : s.SameSlots v) (i : SlotNo) (discards : Bool) :
    (if s.reconciledSlot i = v.slotAt i then v else v.changeSlot i (s.reconciledSlot i) discards).slotTable.slots
      = s.slotTable.slots.set i (s.reconciledSlot i) := by
  split
  · next heq => rw [heq, h.slotAt, State.slotAt, Fin.getElem_fin, Vector.set_getElem_self, h.slots]
  · simp [State.changeSlot, h.slots]

/-- Reconciling a slot sets it and leaves the others (R90, R91). -/
theorem State.reconcileSlot_slots (s : State) (i : SlotNo) :
    (s.reconcileSlot i).slotTable.slots = s.slotTable.slots.set i (s.reconciledSlot i) := by
  have marked : s.SameSlots (s.setSlotTable { s.slotTable with slotDiverged := true }) := ⟨rfl, rfl, rfl, rfl⟩
  unfold State.reconcileSlot
  dsimp only
  split
  · rw [marked.repairSlot, marked.slotAt]
    exact marked.set_reconciled i _
  · exact State.SameSlots.set_reconciled ⟨rfl, rfl, rfl, rfl⟩ i _

theorem State.SameSlots.reconcileSlot (h : s.SameSlots u) (i : SlotNo) : (s.reconcileSlot i).SameSlots (u.reconcileSlot i) :=
  ⟨by simp [h.setup], by simp [h.sn], by simp [h.entries],
    by rw [State.reconcileSlot_slots, State.reconcileSlot_slots, h.slots, h.reconciledSlot]⟩

theorem State.SameSlots.foldl_reconcileSlot (h : s.SameSlots u) (l : List SlotNo) :
    (l.foldl State.reconcileSlot s).SameSlots (l.foldl State.reconcileSlot u) := by
  induction l generalizing s u with
  | nil => exact h
  | cons i l ih => exact ih (h.reconcileSlot i)

/-- The deletion of the blank key record follows the slots and leaves them. -/
theorem State.reconcile_slots (s : State) :
    s.reconcile.slotTable.slots = (slotNumbers.foldl State.reconcileSlot s).slotTable.slots := by
  have deletion (v : State) : v.deleteBlankKey.slotTable.slots = v.slotTable.slots := by
    unfold State.deleteBlankKey
    split <;> simp
  unfold State.reconcile
  dsimp only
  split
  · exact deletion _
  · rfl

theorem State.SameSlots.reconcile (h : s.SameSlots u) : u.reconcile.slotTable.slots = s.reconcile.slotTable.slots := by
  rw [State.reconcile_slots, State.reconcile_slots, (h.foldl_reconcileSlot _).slots]

/-! ### The completion -/

/-- The assembly that u shows completes at w: what the completion looks at is the same, but for a held pair that may have grown to a reported one. -/
structure State.Assembles (u w : State) : Prop extends u.OpensFrom w where
  phase : w.phase = .assembling ∨ w.phase = .incomplete
  closed : w.purge.journal.isOpen = false
  agree : u.othersAgree
  entries : w.roster.entries = u.roster.entries
  slots : w.slotTable.slots = u.slotTable.slots
  epoch : w.epoch = u.epoch
  grows : PairGrows u.pair w.pair
  reported : PairGrows w.pair u.bestReported

theorem State.Assembles.best (h : u.Assembles w) : w.bestReported = u.bestReported :=
  State.bestReported_congr h.setup h.sn h.entries h.grows h.reported

theorem State.othersAgree_congr (hsetup : u.setup = s.setup) (hsn : u.roster.sn = s.roster.sn)
    (hentries : u.roster.entries = s.roster.entries) (hepoch : u.epoch = s.epoch) (h : s.othersAgree) : u.othersAgree := by
  intro n hm hne
  have hdigest : u.digest = s.digest := by simp [State.digest, hsetup]
  rw [hentries, hepoch, hdigest]
  exact h n (by rwa [← State.isMember_congr hsetup]) (by rwa [State.sn, ← hsn])

theorem State.Assembles.completionTest (h : u.Assembles w) : w.completionTest = w.completeAssembly :=
  State.completionTest_completes h.phase h.closed (State.othersAgree_congr h.setup h.sn h.entries h.epoch h.agree)

/-- The station with the largest reported pair held and its assembly timers stopped (R43, steps 1 and 2). -/
def State.gathered (w : State) : State := w.mergeReported.stopAssemblyTimers

theorem State.mergeReported_eq (s : State) :
    s.mergeReported
      = if s.raises s.bestReported.1 s.bestReported.2 then s.holdRaised s.bestReported else s := by
  unfold State.mergeReported
  simp only [State.raises_iff]
  rfl

theorem State.mergeReported_held (s : State) :
    s.mergeReported.verifier.held = ⟨s.epoch, s.bestReported.1, s.bestReported.2⟩ := by
  rw [State.mergeReported_eq]
  split
  · next h => rw [State.holdRaised_verifier h]
  · next h =>
    rcases s.bestReported_grows with hsame | hless
    · rw [hsame]
      rfl
    · exact absurd ((s.raises_iff _).mp hless) h

/-- The hold after the merge of completion: restarted by a merge that changed the pair, and by no other (log entry 57). -/
theorem State.mergeReported_hold (s : State) :
    s.mergeReported.verifier.hold
      = if s.raises s.bestReported.1 s.bestReported.2 then (holdDuration s.bestReported.2).map (s.clock + ·)
        else s.verifier.hold := by
  rw [State.mergeReported_eq]
  split
  · next h => rw [State.holdRaised_verifier h]
  · rfl

@[simp] theorem State.gathered_frame (w : State) :
    w.gathered.clock = w.clock ∧ w.gathered.line = w.line ∧ w.gathered.roster.sn = w.roster.sn
    ∧ w.gathered.roster.entries = w.roster.entries ∧ w.gathered.slotTable = w.slotTable
    ∧ w.gathered.phaseCtl = w.phaseCtl ∧ w.gathered.purge = w.purge ∧ w.gathered.setup = w.setup
    ∧ w.gathered.verifier = w.mergeReported.verifier := by
  simp only [State.gathered, State.mergeReported_eq]
  split <;> simp [State.stopAssemblyTimers]

theorem State.OpensFrom.gathered (h : u.OpensFrom w) : u.OpensFrom w.gathered := by
  have hmerged : u.OpensFrom w.mergeReported := by
    rw [State.mergeReported_eq]
    split
    · exact h.holdRaised _
    · exact h
  exact hmerged.congr rfl rfl rfl rfl rfl

theorem State.completeAssembly_eq (w : State) :
    w.completeAssembly
      = if w.failureLimit ≤ w.bestReported.2 then w.gathered.openOwn .limit
        else w.gathered.reconcile.restartHold.enterPhase
          (if (w.gathered.reconcile.restartHold.slotAt 0).body = .empty then .blank else .locked) := by
  have hlimit : w.gathered.failureLimit = w.failureLimit := State.failureLimit_congr (by simp)
  have hcount : w.gathered.verifier.held.count = w.bestReported.2 := by
    simp [State.mergeReported_held]
  unfold State.completeAssembly
  dsimp only
  rw [← State.gathered, hlimit, hcount]

theorem State.Assembles.not_missing (h : u.Assembles w) : w.memberMissing = false := by
  rw [← Bool.not_eq_true, State.memberMissing_iff]
  rintro ⟨n, hm, hne, hp⟩
  obtain ⟨r, hr, -⟩ := State.othersAgree_congr h.setup h.sn h.entries h.epoch h.agree n hm hne
  simp [hr] at hp

/-- Below the failure limit the assembly ends in BLANK or LOCKED (R43, steps 3 to 5). -/
theorem State.Assembles.settles (h : u.Assembles w) (hless : u.bestReported.2 < u.failureLimit) :
    w.completeAssembly
      = w.gathered.reconcile.restartHold.enterPhase
          (if (w.gathered.reconcile.restartHold.slotAt 0).body = .empty then .blank else .locked) := by
  rw [State.completeAssembly_eq, h.best, State.failureLimit_congr h.setup, if_neg (by omega)]

theorem State.Assembles.limits (h : u.Assembles w) (hover : u.failureLimit ≤ u.bestReported.2) :
    w.completeAssembly = w.gathered.openOwn .limit := by
  rw [State.completeAssembly_eq, h.best, State.failureLimit_congr h.setup, if_pos hover]

theorem State.Assembles.leavePhase (h : u.Assembles w) : w.gathered.leavePhase = w.gathered := by
  have hphase : w.gathered.phase = w.phase := by simp
  rcases h.phase with hp | hp <;> simp only [State.leavePhase, hphase, hp]

theorem State.Assembles.openOwn_verifier (h : u.Assembles w) :
    (w.gathered.openOwn .limit).verifier = w.mergeReported.verifier := by
  unfold State.openOwn
  split
  · obtain ⟨hverifier, -⟩ := w.gathered.openPurge_left .limit (w.gathered.epoch + 1)
    rw [hverifier, h.leavePhase]
    simp
  · simp

/-- The entry to a phase without re-announcements, and to BLANK and UNLOCKED with every member PRESENT, stops their timer (R40). -/
theorem State.announceAtEntry_stops (hi : s.phase ≠ .incomplete) (hw : s.phase ≠ .purgeWait) (hm : s.memberMissing = false) :
    s.announceAtEntry = s.stopAnnounce := by
  unfold State.announceAtEntry
  split <;> simp_all

theorem State.enterPhase_announce {s : State} {p : Phase} (hi : s.carriedOn p ≠ .incomplete) (hw : s.carriedOn p ≠ .purgeWait)
    (hm : s.memberMissing = false) :
    (s.enterPhase p).roster.announce = none ∧ (s.enterPhase p).roster.announced = 0 := by
  unfold State.enterPhase State.movePhase
  dsimp only
  rw [State.announceAtEntry_stops (by simpa using hi) (by simpa using hw)]
  · simp [State.stopAnnounce]
  · rw [← hm]
    exact State.memberMissing_congr (by simp) (by simp) (by simp)

/-- The completion of R43, from where the assembly completes. -/
theorem State.Assembles.completed (h : u.Assembles w) : u.assemblyCompleted w.completeAssembly := by
  have hepoch : w.gathered.epoch = u.epoch := by
    rw [← h.epoch, State.epoch]
    simp [State.mergeReported_held]
  have hgathered : u.SameSlots w.gathered :=
    ⟨by simp [h.setup], by simp [h.sn], by simp [h.entries], by simp [h.slots]⟩
  rcases Nat.lt_or_ge u.bestReported.2 u.failureLimit with hless | hover
  · rw [h.settles hless]
    set v := w.gathered.reconcile.restartHold with hv
    have hmissing : v.memberMissing = false := by
      rw [← h.not_missing]
      exact State.memberMissing_congr (by simp [hv]) (by simp [hv]) (by simp [hv])
    have hslots : v.slotTable.slots = u.reconcile.slotTable.slots := by simp [hv, hgathered.reconcile]
    have hheld : v.verifier.held = ⟨u.epoch, u.bestReported.1, u.bestReported.2⟩ := by
      simp [hv, State.mergeReported_held, h.best, h.epoch]
    have hhold : v.verifier.hold = (holdDuration v.verifier.held.count).map (v.clock + ·) := by simp [hv, State.restartHold]
    have hslot0 (p : Phase) : (v.enterPhase p).slotAt 0 = v.slotAt 0 := by simp [State.slotAt]
    have hcarried (p : Phase) : v.carriedOn p = p := by simp [State.carriedOn, hmissing]
    refine ⟨by simp [hheld], fun _ => ⟨by simp [hslots], ?_, ?_, ?_, ?_, ?_⟩, fun hover => absurd hover (by omega)⟩
    · rw [hslot0, State.phase, State.enterPhase_phaseCtl, hcarried]
    · rw [hslot0, State.enterPhase_phaseCtl, hcarried]
      split <;> rfl
    · simp [hhold, hheld]
    · exact State.enterPhase_window _ _ (by split <;> simp)
    · exact (State.enterPhase_announce (by rw [hcarried]; split <;> simp) (by rw [hcarried]; split <;> simp) hmissing).1
  · rw [h.limits hover]
    refine ⟨?_, fun hless => absurd hless (by omega), fun _ hlast => ?_⟩
    · rw [h.openOwn_verifier, State.mergeReported_held, h.best, h.epoch]
    · have hcan : w.gathered.canOpenOwn = true := by
        rw [State.canOpenOwn_iff]
        refine ⟨by simpa using h.closed, ?_, ?_, by rwa [hepoch]⟩ <;>
          rcases h.phase with hp | hp <;> simp [hp]
      rw [State.openOwn_opens hcan, hepoch]
      exact h.toOpensFrom.gathered.openPurge _ _

theorem State.Assembles.completed_phase (h : u.Assembles w) : w.completeAssembly.phase ≠ .purgeWait := by
  rw [State.completeAssembly_eq]
  split
  · unfold State.openOwn
    split
    · simp
    · rcases h.phase with hp | hp <;> simp [hp]
  · rw [State.phase, State.enterPhase_phaseCtl]
    unfold State.carriedOn
    (repeat' split) <;> simp

/-- The tests that follow a report complete the assembly, and no more (R42, R136). -/
theorem State.Assembles.testsAfterReport (h : u.Assembles w) : w.testsAfterReport = w.completeAssembly := by
  rw [State.testsAfterReport, h.completionTest, State.purgeWaitTest_elsewhere h.completed_phase]

/-- What follows a completion and touches neither verifier, slots, phase nor timers leaves it completed. -/
theorem State.assemblyCompleted.later (h : u.assemblyCompleted t) (hverifier : w.verifier = t.verifier)
    (hslotTable : w.slotTable = t.slotTable) (hphase : w.phaseCtl = t.phaseCtl) (hwindow : w.roster.window = t.roster.window)
    (hannounce : w.roster.announce = t.roster.announce) (hclock : w.clock = t.clock)
    (hpurged : ∀ target, u.purgeOpened t .limit target → u.purgeOpened w .limit target) : u.assemblyCompleted w := by
  obtain ⟨hheld, hsettles, hlimits⟩ := h
  have hslot0 : w.slotAt 0 = t.slotAt 0 := by simp [State.slotAt, hslotTable]
  refine ⟨by rw [hverifier, hheld], fun hless => ?_, fun hover hlast => hpurged _ (hlimits hover hlast)⟩
  rw [hslot0, hslotTable, State.phase, hphase, hverifier, hclock, hwindow, hannounce]
  exact hsettles hless

theorem State.assemblyCompleted.payRoll (h : u.assemblyCompleted t) : u.assemblyCompleted t.payRoll :=
  h.later (by simp) (by simp) (by simp) (by simp) (by simp) (by simp) fun _ => State.purgeOpened.payRoll

theorem State.mem_answerRoll {g : TxFrame} (hg : g ∈ s.line.tx) (calls : Bool) : g ∈ (s.answerRoll calls).line.tx := by
  unfold State.answerRoll
  split
  · exact State.mem_offerRoll hg
  · exact hg

theorem State.purgeOpened.answerRoll {cause : PurgeCause} {target : Nat} (h : s.purgeOpened t cause target) (calls : Bool) :
    s.purgeOpened (t.answerRoll calls) cause target :=
  h.later (by simp) (by simp) (by simp) (by simp) (by simp) fun _ hg => State.mem_answerRoll hg calls

theorem State.assemblyCompleted.answerRoll (h : u.assemblyCompleted t) (calls : Bool) : u.assemblyCompleted (t.answerRoll calls) :=
  h.later (by simp) (by simp) (by simp) (by simp) (by simp) (by simp) fun _ hp => hp.answerRoll calls

end

end Sys2Proof.Machine
end


section
/-! PROOFS. Reports of the members, as the roster takes them (R34 to R36, R40, R46, R48, R117). -/

namespace Sys2Proof.Machine

section
variable {s t u v w : State} {p : Nat × Nat} {entries : Vector RosterEntry 8}

theorem State.OpensFrom.trans (h : s.OpensFrom u) (h' : u.OpensFrom v) : s.OpensFrom v where
  setup := h'.setup.trans h.setup
  sn := h'.sn.trans h.sn
  writes := h'.writes.trans h.writes
  request := h'.request.trans h.request
  inFlight := fun w hw hr => h.inFlight w (h'.inFlight w hw hr) hr
  outstanding := fun hout => h'.outstanding (h.outstanding hout)
  tx := h'.tx.trans h.tx

/-! ### A change of presence (R36, R40) -/

theorem State.renewAnnounce_eq (s : State) :
    s.renewAnnounce
      = s.setRoster { s.roster with announce := some (s.roster.announce.getD (s.clock + 2000000)), announced := 0 } := by
  unfold State.renewAnnounce
  cases h : s.roster.announce with
  | none => simp [State.beginAnnounce, announcePeriod, seconds]
  | some due =>
    have hrunning : some (s.roster.announce.getD (s.clock + 2000000)) = s.roster.announce := by rw [h]; rfl
    rw [if_pos (by simp), ← h, hrunning]

/-- An arrival begins a new run in INCOMPLETE, and in BLANK and UNLOCKED while a member is missing. -/
theorem State.presenceMoved_renews (h : s.phase = .incomplete ∨ ((s.phase = .blank ∨ s.phase = .unlocked) ∧ s.memberMissing = true)) :
    s.presenceMoved false = s.renewAnnounce := by
  unfold State.presenceMoved
  rcases h with h | ⟨h | h, hm⟩ <;> simp_all

theorem State.presenceMoved_stops (h : s.phase = .blank ∨ s.phase = .unlocked) (hm : s.memberMissing = false) :
    s.presenceMoved false = s.stopAnnounce := by
  unfold State.presenceMoved
  rcases h with h | h <;> simp_all

theorem State.presenceMoved_elsewhere (hi : s.phase ≠ .incomplete) (hb : s.phase ≠ .blank) (hu : s.phase ≠ .unlocked) :
    s.presenceMoved false = s := by
  unfold State.presenceMoved
  simp only [Bool.false_and, Bool.false_eq_true, if_false]
  split <;> simp_all

/-- An arrival moves the timer of the re-announcements and no more. -/
theorem State.presenceMoved_arrived (s : State) :
    ∃ announce announced, s.presenceMoved false = s.setRoster { s.roster with announce := announce, announced := announced } := by
  by_cases hrenew : s.phase = .incomplete ∨ ((s.phase = .blank ∨ s.phase = .unlocked) ∧ s.memberMissing = true)
  · exact ⟨_, _, (State.presenceMoved_renews hrenew).trans s.renewAnnounce_eq⟩
  by_cases hstop : s.phase = .blank ∨ s.phase = .unlocked
  · exact ⟨none, 0, State.presenceMoved_stops hstop (by simpa using fun hm => hrenew (.inr ⟨hstop, hm⟩))⟩
  · simp only [not_or] at hrenew hstop
    exact ⟨s.roster.announce, s.roster.announced, State.presenceMoved_elsewhere hrenew.1 hstop.1 hstop.2⟩

/-! ### A report taken into the roster -/

/-- u is s with the report of a station in its roster: entries, re-announcement and heard set have taken it, the rest stands. -/
structure State.Reported (s u : State) (entries : Vector RosterEntry 8) : Prop extends s.OpensFrom u where
  entries : u.roster.entries = entries
  phaseCtl : u.phaseCtl = s.phaseCtl
  verifier : u.verifier = s.verifier
  slotTable : u.slotTable = s.slotTable
  keyPort : u.keyPort = s.keyPort
  gate : u.gate = s.gate
  supervisor : u.supervisor = s.supervisor
  store : u.store = s.store
  clock : u.clock = s.clock
  journal : u.purge.journal = s.purge.journal
  startCause : u.roster.startCause = s.roster.startCause
  answeredAt : u.roster.answeredAt = s.roster.answeredAt
  rollOwed : u.roster.rollOwed = s.roster.rollOwed
  line : u.line = s.line

theorem State.Reported.refl (s : State) : s.Reported s s.roster.entries :=
  ⟨.refl s, rfl, rfl, rfl, rfl, rfl, rfl, rfl, rfl, rfl, rfl, rfl, rfl, rfl, rfl⟩

/-- Changes of roster and heard set alone keep it, with the entries that they make. -/
theorem State.Reported.congr (h : s.Reported u entries) {entries' : Vector RosterEntry 8}
    (hentries : v.roster.entries = entries') (hphaseCtl : v.phaseCtl = u.phaseCtl) (hverifier : v.verifier = u.verifier)
    (hslotTable : v.slotTable = u.slotTable) (hkeyPort : v.keyPort = u.keyPort) (hgate : v.gate = u.gate)
    (hsupervisor : v.supervisor = u.supervisor) (hstore : v.store = u.store) (hclock : v.clock = u.clock)
    (hjournal : v.purge.journal = u.purge.journal) (hwrites : v.purge.writes = u.purge.writes)
    (hstartCause : v.roster.startCause = u.roster.startCause) (hansweredAt : v.roster.answeredAt = u.roster.answeredAt)
    (hrollOwed : v.roster.rollOwed = u.roster.rollOwed) (hsn : v.roster.sn = u.roster.sn) (hsetup : v.setup = u.setup)
    (hline : v.line = u.line) : s.Reported v entries' where
  toOpensFrom := h.toOpensFrom.congr hsetup hsn hwrites hstore hline
  entries := hentries
  phaseCtl := hphaseCtl.trans h.phaseCtl
  verifier := hverifier.trans h.verifier
  slotTable := hslotTable.trans h.slotTable
  keyPort := hkeyPort.trans h.keyPort
  gate := hgate.trans h.gate
  supervisor := hsupervisor.trans h.supervisor
  store := hstore.trans h.store
  clock := hclock.trans h.clock
  journal := hjournal.trans h.journal
  startCause := hstartCause.trans h.startCause
  answeredAt := hansweredAt.trans h.answeredAt
  rollOwed := hrollOwed.trans h.rollOwed
  line := hline.trans h.line

theorem State.markPresent_eq (s : State) (n : StationNo) (r : LastRecord) :
    s.markPresent n r
      = if s.roster.entries[n].presence ≠ .present ∧ s.isMember n = true then
          (s.setEntry n ⟨.present, some r⟩).presenceMoved false
        else s.setEntry n ⟨.present, some r⟩ := by
  have hmember : (s.setEntry n ⟨.present, some r⟩).isMember = s.isMember := State.isMember_congr (by simp)
  simp [State.markPresent, hmember]

theorem State.reported_markPresent (s : State) (n : StationNo) (r : LastRecord) :
    s.Reported (s.markPresent n r) (s.roster.entries.set n ⟨.present, some r⟩) := by
  rw [State.markPresent_eq]
  split
  · obtain ⟨announce, announced, h⟩ := (s.setEntry n ⟨.present, some r⟩).presenceMoved_arrived
    rw [h]
    exact (State.Reported.refl s).congr rfl rfl rfl rfl rfl rfl rfl rfl rfl rfl rfl rfl rfl rfl rfl rfl rfl
  · exact (State.Reported.refl s).congr rfl rfl rfl rfl rfl rfl rfl rfl rfl rfl rfl rfl rfl rfl rfl rfl rfl

theorem State.Reported.hear (h : s.Reported u entries) (n : StationNo) (epoch : Nat) : s.Reported (u.hear n epoch) entries :=
  h.congr (by simp [h.entries]) (by simp) (by simp) (by simp) (by simp) (by simp) (by simp) (by simp) (by simp) (by simp)
    (by simp) (by simp) (by simp) (by simp) (by simp) (by simp) (by simp)

theorem State.reported_updateRecord (s : State) (n : StationNo) (change : GuardRecord → GuardRecord) :
    s.Reported (s.updateRecord n change) (s.updateRecord n change).roster.entries :=
  (State.Reported.refl s).congr rfl (by simp) (by simp) (by simp) (by simp) (by simp) (by simp) (by simp) (by simp) (by simp)
    (by simp) (by simp) (by simp) (by simp) (by simp) (by simp) (by simp)

theorem State.Reported.phase (h : s.Reported u entries) : u.phase = s.phase := congrArg PhaseController.phase h.phaseCtl

theorem State.Reported.epoch (h : s.Reported u entries) : u.epoch = s.epoch := by rw [State.epoch, h.verifier, State.epoch]

theorem State.Reported.failureLimit (h : s.Reported u entries) : u.failureLimit = s.failureLimit :=
  State.failureLimit_congr h.setup

theorem State.Reported.closed (h : s.Reported u entries) (hclosed : s.purge.journal.isOpen = false) :
    u.purge.journal.isOpen = false := by rw [h.journal, hclosed]

/-- Some other member than the sender of the report is missing before it and after it. -/
theorem State.Reported.missing {n : StationNo} {e : RosterEntry} (h : s.Reported u (s.roster.entries.set n e))
    (hmissing : ∃ m, s.isMember m = true ∧ m ≠ n ∧ m ≠ s.sn ∧ s.roster.entries[m].presence ≠ .present) :
    u.memberMissing = true := by
  obtain ⟨m, hm, hne, hother, hp⟩ := hmissing
  refine u.memberMissing_iff.mpr ⟨m, by rwa [State.isMember_congr h.setup], by rwa [State.sn, h.sn], ?_⟩
  rw [h.entries, Fin.getElem_fin, Vector.getElem_set_ne _ _ (fun heq => hne (Fin.ext heq).symm)]
  exact hp

/-- A PRESENT member's report of another digest is a conflict (R44). -/
theorem State.Reported.conflict {n : StationNo} {r : GuardRecord}
    (h : s.Reported u (s.roster.entries.set n ⟨.present, some (.guard r)⟩)) (hm : s.isMember n = true) (hne : n ≠ s.sn)
    (hdigest : r.digest ≠ s.digest) : u.digestConflict = true := by
  rw [← Bool.not_eq_false, State.digestConflict_eq_false_iff]
  intro hno
  have hentry : u.roster.entries[n] = ⟨.present, some (.guard r)⟩ := by
    rw [h.entries, Fin.getElem_fin, Vector.getElem_set_self]
  refine hdigest ((hno n (by rwa [State.isMember_congr h.setup]) (by rwa [State.sn, h.sn]) (by rw [hentry]) r
    (by rw [hentry])).trans ?_)
  simp [State.digest, h.setup]

/-! ### The epoch test (R48) -/

/-- The close, begun again, clears no TAMPERED: its first write is the attempt record's (R132). -/
theorem State.beginClose_supervisor (s : State) : s.beginClose.supervisor = s.supervisor := by
  unfold State.beginClose State.writePlanHead
  simp [closePlan]

theorem State.raiseTarget_supervisor (s : State) (target : Nat) : (s.raiseTarget target).supervisor = s.supervisor := by
  unfold State.raiseTarget
  dsimp only
  (repeat' split)
  · rfl
  · rfl
  · rw [State.beginClose_supervisor]
    simp
  · simp

theorem State.epochTest_supervisor (s : State) (epoch : Nat) : (s.epochTest epoch).supervisor = s.supervisor := by
  unfold State.epochTest State.takeTarget
  (repeat' split)
  · rfl
  · exact s.raiseTarget_supervisor epoch
  · simp
  · rfl

theorem State.epochTest_same {epoch : Nat} (h : epoch ≤ s.epoch) : s.epochTest epoch = s :=
  if_pos (.inr (.inr h))

/-- A higher epoch opens a purge (R48). -/
theorem State.epochTest_opens {epoch : Nat} (hless : s.epoch < epoch) (hu : s.phase ≠ .uncommissioned) (hh : s.phase ≠ .halted)
    (hclosed : s.purge.journal.isOpen = false) : s.epochTest epoch = s.openPurge .epoch epoch := by
  rw [State.epochTest, if_neg (by simp only [not_or, not_le]; exact ⟨hu, hh, hless⟩), State.takeTarget, hclosed,
    if_neg (by simp), if_pos hless]

/-- With a CLOSED journal the epoch test leaves the range table (R120). -/
theorem State.epochTest_ranges {epoch : Nat} (h : s.purge.journal.isOpen = false ∨ epoch ≤ s.epoch) :
    (s.epochTest epoch).gate.ranges = s.gate.ranges := by
  rcases h with hclosed | hle
  · unfold State.epochTest State.takeTarget
    simp only [hclosed, Bool.false_eq_true, if_false]
    (repeat' split) <;> simp
  · rw [State.epochTest_same hle]

end

end Sys2Proof.Machine
end


section
/-! PROOFS. ROLL, PURGED and the end of the assembly window, and what they make of phase and pair (R34 to R48). -/

namespace Sys2Proof.Machine

section
variable {s t u v w b : State} {p : Nat × Nat} {entries : Vector RosterEntry 8}

/-! ### The epoch of the held record -/

theorem State.raisePair_epoch (s : State) (r : Requester) (p : Nat × Nat) : (s.raisePair r p).epoch = s.epoch := by
  unfold State.raisePair
  split
  · simp [State.setPair, State.epoch]
  · rfl

theorem State.leavePhase_epoch (s : State) : s.leavePhase.epoch = s.epoch := by
  unfold State.leavePhase
  split
  · simp [State.epoch]
  · unfold State.voidAttempt
    split
    · rfl
    · exact s.raisePair_epoch _ _
  all_goals rfl

theorem State.openPurge_epoch (s : State) (cause : PurgeCause) (target : Nat) : (s.openPurge cause target).epoch = s.epoch := by
  rw [State.epoch, (s.openPurge_left cause target).1]
  exact s.leavePhase_epoch

theorem State.mergePair_epoch (s : State) (p : Nat × Nat) : (s.mergePair p).epoch = s.epoch := by
  by_cases h : s.mergesPair p
  · by_cases hv : s.phase = .verifying
    · rw [State.mergePair_verifying h hv, State.raisePair_epoch]
    · rw [State.mergePair_elsewhere h hv]
      unfold State.openOwn
      (repeat' split)
      · rw [State.openPurge_epoch, State.holdRaised_epoch h.2]
      · exact State.holdRaised_epoch h.2
      · exact State.holdRaised_epoch h.2
  · rw [State.mergePair_same h]

/-! ### The merge of a ROLL -/

/-- A ROLL whose pair counts for the merge: of the own epoch, and not out of PURGING (R46). -/
def State.mergesRoll (s : State) (r : GuardRecord) : Prop :=
  r.phase ≠ .purging ∧ r.epoch = s.epoch ∧ s.raises r.serial r.count

theorem State.mergeRoll_same {r : GuardRecord} (h : ¬ s.mergesRoll r) : s.mergeRoll r = s := by
  unfold State.mergeRoll
  split
  · next hroll => exact State.mergePair_same fun hpair => h ⟨hroll.1, hroll.2, hpair.2⟩
  · rfl

theorem State.mergeRoll_merges {r : GuardRecord} (h : s.mergesRoll r) : s.mergeRoll r = s.mergePair (r.serial, r.count) :=
  if_pos ⟨h.1, h.2.1⟩

theorem State.mergeRoll_epoch (s : State) (r : GuardRecord) : (s.mergeRoll r).epoch = s.epoch := by
  unfold State.mergeRoll
  split
  · exact s.mergePair_epoch _
  · rfl

theorem State.Reported.mergesRoll (h : b.Reported u entries) (r : GuardRecord) : u.mergesRoll r ↔ b.mergesRoll r := by
  rw [State.mergesRoll, State.mergesRoll, h.epoch, State.raises_congr h.verifier]

/-! ### The tests that follow a report -/

/-- Outside the completion of an assembly the tests leave verifier, store and key port as they are. -/
theorem State.completionTest_cases (s : State) {P : State → Prop} (same : P s) (halts : P s.haltOnConflict)
    (completes : s.phase = .assembling ∨ s.phase = .incomplete → s.assembled = true → P s.completeAssembly) :
    P s.completionTest := by
  unfold State.completionTest
  (repeat' split)
  · exact halts
  · next hp _ ha => exact completes hp ha
  · exact same
  · exact same

theorem State.completionTest_undone (h : (s.phase ≠ .assembling ∧ s.phase ≠ .incomplete) ∨ s.assembled = false) :
    s.completionTest.verifier = s.verifier ∧ s.completionTest.store = s.store := by
  refine s.completionTest_cases (P := fun t => t.verifier = s.verifier ∧ t.store = s.store) ⟨rfl, rfl⟩ (by simp)
    fun hp ha => ?_
  rcases h with ⟨h1, h2⟩ | h
  · exact absurd hp (by simp [h1, h2])
  · simp [ha] at h

theorem State.leaveLockedOn_elsewhere {halted : Bool} {epoch : Nat}
    (h : s.phase ≠ .locked ∨ (halted = false ∧ s.epoch ≤ epoch)) : s.leaveLockedOn halted epoch = s := by
  refine if_neg ?_
  rintro ⟨hp, hh | he⟩ <;> rcases h with h | h <;> simp_all
  omega

theorem State.leaveLockedOn_leaves {halted : Bool} {epoch : Nat} (hp : s.phase = .locked)
    (h : halted = true ∨ epoch < s.epoch) : s.leaveLockedOn halted epoch = s.enterPhase .incomplete :=
  if_pos ⟨hp, h⟩

/-- What follows the merge of a report: the epoch test, the tests of R42 and R136, and the move of LOCKED (R36, R48). -/
def State.afterMerge (s : State) (halted : Bool) (epoch : Nat) : State :=
  (s.epochTest epoch).testsAfterReport.leaveLockedOn halted epoch

theorem State.afterMerge_entries (s : State) (halted : Bool) (epoch : Nat) :
    (s.afterMerge halted epoch).roster.entries = s.roster.entries := by
  simp [State.afterMerge]

/-- A report changes neither what is stored nor, with a CLOSED journal, the range table. -/
theorem State.afterMerge_kept (s : State) (halted : Bool) (epoch : Nat) :
    (s.afterMerge halted epoch).store.stored = s.store.stored ∧ (s.afterMerge halted epoch).setup = s.setup
      ∧ (s.afterMerge halted epoch).supervisor.tampered = s.supervisor.tampered
      ∧ (s.purge.journal.isOpen = false ∨ epoch ≤ s.epoch →
        (s.afterMerge halted epoch).gate.ranges = s.gate.ranges) := by
  refine ⟨by simp [State.afterMerge], by simp [State.afterMerge], by simp [State.afterMerge, State.epochTest_supervisor],
    fun h => ?_⟩
  simpa [State.afterMerge] using State.epochTest_ranges h

/-- In PURGING nothing follows a report of no higher epoch. -/
theorem State.afterMerge_purging {halted : Bool} {epoch : Nat} (hp : s.phase = .purging) (he : epoch ≤ s.epoch) :
    s.afterMerge halted epoch = s := by
  rw [State.afterMerge, State.epochTest_same he, State.testsAfterReport_elsewhere (by simp [hp]) (by simp [hp]) (by simp [hp]),
    State.leaveLockedOn_elsewhere (.inl (by simp [hp]))]

/-- A higher epoch opens a purge, and nothing follows it. -/
theorem State.afterMerge_opens {halted : Bool} {epoch : Nat} (hless : s.epoch < epoch) (hu : s.phase ≠ .uncommissioned)
    (hh : s.phase ≠ .halted) (hclosed : s.purge.journal.isOpen = false) :
    s.afterMerge halted epoch = s.openPurge .epoch epoch := by
  rw [State.afterMerge, State.epochTest_opens hless hu hh hclosed,
    State.testsAfterReport_elsewhere (by simp) (by simp) (by simp), State.leaveLockedOn_elsewhere (.inl (by simp))]

/-- Where no assembly completes the verifier stands after the merge, and the store with it. -/
theorem State.afterMerge_undone {halted : Bool} {epoch : Nat} (he : epoch ≤ s.epoch)
    (h : (s.phase ≠ .assembling ∧ s.phase ≠ .incomplete) ∨ s.assembled = false) :
    (s.afterMerge halted epoch).verifier = s.verifier ∧ (s.afterMerge halted epoch).store = s.store := by
  rw [State.afterMerge, State.epochTest_same he]
  simpa [State.testsAfterReport] using State.completionTest_undone h

/-- LOCKED gives way on a report of HALTED or of a lower epoch (R36, R48). -/
theorem State.afterMerge_leaves {halted : Bool} {epoch : Nat} (hp : s.phase = .locked) (he : epoch ≤ s.epoch)
    (h : halted = true ∨ epoch < s.epoch) : s.afterMerge halted epoch = s.enterPhase .incomplete := by
  rw [State.afterMerge, State.epochTest_same he,
    State.testsAfterReport_elsewhere (by simp [hp]) (by simp [hp]) (by simp [hp]), State.leaveLockedOn_leaves hp h]

/-- The assembly completes at a report that agrees. -/
theorem State.Assembles.afterMerge {epoch : Nat} (h : u.Assembles w) (he : epoch = u.epoch) :
    u.assemblyCompleted (w.afterMerge false epoch) := by
  subst he
  have hepoch : w.completeAssembly.epoch = u.epoch := by
    rw [State.epoch, h.completed.1]
  rw [State.afterMerge, State.epochTest_same (by rw [h.epoch]), h.testsAfterReport,
    State.leaveLockedOn_elsewhere (.inr ⟨rfl, by rw [hepoch]⟩)]
  exact h.completed

/-! ### The halt on a conflict (R44) -/

theorem State.halted_announce (s : State) :
    (s.enterPhase .halted).roster.announce = none ∧ (s.enterPhase .halted).roster.window = none := by
  refine ⟨?_, State.enterPhase_window _ _ (by simp)⟩
  simp [State.enterPhase, State.movePhase, State.carriedOn, State.announceAtEntry, State.stopAnnounce]

theorem State.haltOnConflict_halts (s : State) :
    s.haltOnConflict.phaseCtl = ⟨.halted, .none, none⟩ ∧ s.haltOnConflict.supervisor = { s.supervisor with haltMark := true }
      ∧ s.haltOnConflict.roster.window = none ∧ s.haltOnConflict.roster.announce = none
      ∧ s.haltOnConflict.line.sendingReset = (s.line.sendingReset || decide (s.roster.startCause ≠ .reseat)) := by
  obtain ⟨hannounce, hwindow⟩ := (s.setSupervisor { s.supervisor with haltMark := true }).halted_announce
  unfold State.haltOnConflict
  dsimp only
  split <;> next hcause =>
    simp_all [State.carriedOn, grantFor]

theorem State.afterMerge_halts {halted : Bool} {epoch : Nat} (he : epoch ≤ s.epoch)
    (hp : s.phase = .assembling ∨ s.phase = .incomplete) (hd : s.digestConflict = true) :
    s.afterMerge halted epoch = s.haltOnConflict := by
  have hphase : s.haltOnConflict.phase = .halted := by rw [State.phase, s.haltOnConflict_halts.1]
  rw [State.afterMerge, State.epochTest_same he, State.testsAfterReport, State.completionTest_conflict hp hd,
    State.purgeWaitTest_elsewhere (by simp [hphase]), State.leaveLockedOn_elsewhere (.inl (by simp [hphase]))]

end

end Sys2Proof.Machine
end


section
/-! PROOFS. ROLLs of the members and of the controller (R33 to R48). -/

namespace Sys2Proof.Machine

section
variable {s t u v w b : State} {p : Nat × Nat} {entries : Vector RosterEntry 8} {n : StationNo} {r : GuardRecord}

theorem State.OpensFrom.purgeOpened (h : s.OpensFrom b) {cause : PurgeCause} {target : Nat} (hp : b.purgeOpened t cause target) :
    s.purgeOpened t cause target := by
  obtain ⟨h1, h2, h3, h4, h5, h6, h7, h8, h9, h10, h11⟩ := hp
  refine ⟨h1, h2, h3, h4, h5, h6, fun hq hc hw => h7 (h.request.trans hq) ?_ fun w hf hr => hw w (h.inFlight w hf hr) hr,
    h8, h9, by rw [h10, h.others], fun hout hl => h11 (h.outstanding hout) (by rwa [h.tx])⟩
  exact (congrArg WriteSet.changed h.writes).trans hc

/-- An idle store takes the raised pair at once (R46, R206). -/
theorem State.holdRaised_inFlight (h : s.raises p.1 p.2) (hr : s.store.requests.roster = none) (hf : s.store.inFlight = none)
    (hd : s.store.deciding = false) :
    (s.holdRaised p).store.inFlight = some ⟨.roster, .attempt ⟨s.epoch, p.1, p.2⟩, s.store.grants + 1⟩ := by
  have hraised : s.raisePair .roster p = (s.setPair p.1 p.2).grantWrite .roster .attempt := by
    rw [State.raisePair, if_pos ((s.raises_iff p).mpr h)]
    exact State.request_idle _ _ _ hr hf hd
  simp [State.holdRaised, hraised, State.grantWrite, State.heldContents, State.setPair, State.epoch]

/-! ### A guard's ROLL taken -/

/-- The station that has a member's ROLL in its roster and its heard set (R34, R35, R117). -/
def State.rollSeen (b : State) (n : StationNo) (r : GuardRecord) : State := (b.markPresent n (.guard r)).hear n r.epoch

theorem State.rollSeen_reported (b : State) (n : StationNo) (r : GuardRecord) :
    b.Reported (b.rollSeen n r) (b.roster.entries.set n ⟨.present, some (.guard r)⟩) :=
  (b.reported_markPresent n (.guard r)).hear n r.epoch

/-- The station that has handled a member's ROLL but for its answer (R34 to R48). -/
def State.rollTaken (b : State) (n : StationNo) (r : GuardRecord) : State :=
  ((b.rollSeen n r).mergeRoll r).afterMerge (r.phase = .halted) r.epoch

theorem State.rollTaken_entries (b : State) (n : StationNo) (r : GuardRecord) :
    (b.rollTaken n r).roster.entries = b.roster.entries.set n ⟨.present, some (.guard r)⟩ := by
  simpa [State.rollTaken, State.afterMerge_entries] using (b.rollSeen_reported n r).entries

theorem State.rollTaken_kept (b : State) (n : StationNo) (r : GuardRecord) :
    b.keepsStore (b.rollTaken n r) ∧ (b.rollTaken n r).supervisor.tampered = b.supervisor.tampered := by
  have hseen := b.rollSeen_reported n r
  obtain ⟨hstored, hsetup, htampered, hranges⟩ :=
    ((b.rollSeen n r).mergeRoll r).afterMerge_kept (r.phase = .halted) r.epoch
  refine ⟨⟨?_, ?_, fun hclosed => ?_⟩, ?_⟩
  · rw [State.rollTaken, hstored]
    simp [hseen.store]
  · rw [State.rollTaken, hsetup]
    simp [hseen.setup]
  · rw [State.rollTaken, hranges]
    · simp [hseen.gate]
    · by_cases he : r.epoch ≤ b.epoch
      · exact .inr (by rwa [State.mergeRoll_epoch, hseen.epoch])
      · rw [State.mergeRoll_same fun h => he (by rw [h.2.1, hseen.epoch])]
        exact .inl (hseen.closed hclosed)
  · rw [State.rollTaken, htampered]
    simp [hseen.supervisor]

/-- The station waits for another member than the sender, or is in a phase that tests no assembly. -/
def State.waitsFor (b : State) (n : StationNo) : Prop :=
  (b.phase ≠ .assembling ∧ b.phase ≠ .incomplete)
    ∨ ∃ m, b.isMember m = true ∧ m ≠ n ∧ m ≠ b.sn ∧ b.roster.entries[m].presence ≠ .present

/-- What changes neither phase nor roster of a station that waits completes no assembly. -/
theorem State.Reported.undone {e : RosterEntry} (h : b.Reported u (b.roster.entries.set n e)) (hw : b.waitsFor n)
    (hphase : v.phase = u.phase) (hsetup : v.setup = u.setup) (hroster : v.roster = u.roster) :
    (v.phase ≠ .assembling ∧ v.phase ≠ .incomplete) ∨ v.assembled = false := by
  rcases hw with hw | hw
  · exact .inl (by rwa [hphase, h.phase])
  · refine .inr (State.not_assembled_of_missing ?_)
    rw [State.memberMissing_congr hsetup (by rw [hroster]) (by rw [hroster])]
    exact h.missing hw

theorem State.rollTaken_raises (hw : b.waitsFor n) (hp : b.phase.merges = true) (hv : b.phase ≠ .verifying)
    (hm : b.mergesRoll r) (hless : r.count < b.failureLimit) :
    (b.rollTaken n r).verifier = (b.holdRaised (r.serial, r.count)).verifier
      ∧ (b.store.requests.roster = none → b.store.inFlight = none → b.store.deciding = false →
        (b.rollTaken n r).store.inFlight
          = some ⟨.roster, .attempt ⟨b.epoch, r.serial, r.count⟩, b.store.grants + 1⟩) := by
  have hseen := b.rollSeen_reported n r
  have hm' := (hseen.mergesRoll r).mpr hm
  have hmerged : (b.rollSeen n r).mergeRoll r = (b.rollSeen n r).holdRaised (r.serial, r.count) := by
    rw [State.mergeRoll_merges hm', State.mergePair_holds ⟨by rwa [hseen.phase], hm'.2.2⟩ (by rwa [hseen.phase])
      (by rwa [hseen.failureLimit])]
  obtain ⟨hverifier, hstore⟩ := State.afterMerge_undone (s := (b.rollSeen n r).mergeRoll r) (halted := r.phase = .halted)
    (epoch := r.epoch) (by rw [State.mergeRoll_epoch, hm'.2.1]) (by
      rw [hmerged]
      exact hseen.undone hw (by simp) (by simp) (by simp))
  rw [State.rollTaken, hverifier, hstore, hmerged]
  refine ⟨?_, fun hr hf hd => ?_⟩
  · rw [State.holdRaised_verifier hm'.2.2, State.holdRaised_verifier hm.2.2, hseen.verifier, hseen.epoch, hseen.clock]
  · rw [State.holdRaised_inFlight hm'.2.2 (by rwa [hseen.store]) (by rwa [hseen.store]) (by rwa [hseen.store]), hseen.epoch,
      hseen.store]

/-- At the failure limit the merge opens a purge, and nothing follows it (R47). -/
theorem State.rollTaken_limits (hp : b.phase.merges = true) (hv : b.phase ≠ .verifying)
    (hm : b.mergesRoll r) (hover : b.failureLimit ≤ r.count) (hclosed : b.purge.journal.isOpen = false) (hlast : b.epoch ≠ 65535) :
    b.rollTaken n r = ((b.rollSeen n r).holdRaised (r.serial, r.count)).openPurge .limit (b.epoch + 1) := by
  have hseen := b.rollSeen_reported n r
  have hm' := (hseen.mergesRoll r).mpr hm
  have hmerged : (b.rollSeen n r).mergeRoll r
      = ((b.rollSeen n r).holdRaised (r.serial, r.count)).openPurge .limit (b.epoch + 1) := by
    rw [State.mergeRoll_merges hm', State.mergePair_opens ⟨by rwa [hseen.phase], hm'.2.2⟩ (by rwa [hseen.phase])
      (by rwa [hseen.failureLimit]) (hseen.closed hclosed) (by rwa [hseen.epoch]), hseen.epoch]
  rw [State.rollTaken, State.afterMerge_purging _ (by rw [State.mergeRoll_epoch, hm'.2.1]), hmerged]
  simp [hmerged]

theorem State.rollTaken_purges (hp : b.phase.merges = true) (hv : b.phase ≠ .verifying)
    (hm : b.mergesRoll r) (hover : b.failureLimit ≤ r.count) (hclosed : b.purge.journal.isOpen = false) (hlast : b.epoch ≠ 65535) :
    b.purgeOpened (b.rollTaken n r) .limit (b.epoch + 1)
      ∧ (b.rollTaken n r).verifier.held = ⟨b.epoch, r.serial, r.count⟩ := by
  have hseen := b.rollSeen_reported n r
  have hm' := (hseen.mergesRoll r).mpr hm
  rw [State.rollTaken_limits hp hv hm hover hclosed hlast]
  refine ⟨(hseen.toOpensFrom.holdRaised _).openPurge _ _, ?_⟩
  have hleave : ((b.rollSeen n r).holdRaised (r.serial, r.count)).leavePhase.verifier
      = ((b.rollSeen n r).holdRaised (r.serial, r.count)).verifier := by
    have hphase : ((b.rollSeen n r).holdRaised (r.serial, r.count)).phase ≠ .verifying := by
      have hv' := hseen.phase ▸ hv
      simpa using hv'
    unfold State.leavePhase
    split <;> simp_all
  rw [(State.openPurge_left _ _ _).1, hleave, State.holdRaised_verifier hm'.2.2, hseen.epoch]

theorem State.rollTaken_verifying (hp : b.phase = .verifying) (hm : b.mergesRoll r) :
    (b.rollTaken n r).verifier = { b.verifier with held := ⟨b.epoch, r.serial, r.count⟩ }
      ∧ (b.rollTaken n r).phase = .verifying := by
  have hseen := b.rollSeen_reported n r
  have hm' := (hseen.mergesRoll r).mpr hm
  have hphase : (b.rollSeen n r).phase = .verifying := hseen.phase.trans hp
  have hmerged : (b.rollSeen n r).mergeRoll r = (b.rollSeen n r).raisePair .roster (r.serial, r.count) := by
    rw [State.mergeRoll_merges hm', State.mergePair_verifying ⟨by rw [hphase]; rfl, hm'.2.2⟩ hphase]
  have hstays : b.rollTaken n r = (b.rollSeen n r).raisePair .roster (r.serial, r.count) := by
    have hp' : ((b.rollSeen n r).mergeRoll r).phase = .verifying := by
      rw [hmerged]
      simpa using hphase
    rw [State.rollTaken, State.afterMerge, State.epochTest_same (by rw [State.mergeRoll_epoch, hm'.2.1]),
      State.testsAfterReport_elsewhere (by simp [hp']) (by simp [hp']) (by simp [hp']),
      State.leaveLockedOn_elsewhere (.inl (by simp [hp'])), hmerged]
  rw [hstays]
  refine ⟨?_, by simpa using hphase⟩
  rw [State.raisePair_held (.inr ((State.raises_iff _ _).mpr hm'.2.2)), hseen.verifier, hseen.epoch]

theorem State.rollTaken_unmerged (hw : b.waitsFor n) (he : r.epoch ≤ b.epoch) (hm : ¬ b.mergesRoll r) :
    (b.rollTaken n r).verifier = b.verifier := by
  have hseen := b.rollSeen_reported n r
  rw [State.rollTaken, State.mergeRoll_same (mt (hseen.mergesRoll r).mp hm),
    (State.afterMerge_undone (by rwa [hseen.epoch]) (hseen.undone hw rfl rfl rfl)).1, hseen.verifier]

theorem State.rollTaken_opens (hless : b.epoch < r.epoch) (hu : b.phase ≠ .uncommissioned) (hh : b.phase ≠ .halted)
    (hclosed : b.purge.journal.isOpen = false) : b.purgeOpened (b.rollTaken n r) .epoch r.epoch := by
  have hseen := b.rollSeen_reported n r
  have hm : ¬ (b.rollSeen n r).mergesRoll r := fun h => by
    have he := h.2.1
    rw [hseen.epoch] at he
    omega
  rw [State.rollTaken, State.mergeRoll_same hm, State.afterMerge_opens (by rwa [hseen.epoch]) (by rwa [hseen.phase])
    (by rwa [hseen.phase]) (hseen.closed hclosed)]
  exact hseen.toOpensFrom.openPurge _ _

theorem State.rollTaken_leaves (hp : b.phase = .locked) (he : r.epoch ≤ b.epoch) (hm : ¬ b.mergesRoll r)
    (h : r.phase = .halted ∨ r.epoch < b.epoch) : (b.rollTaken n r).phaseCtl = ⟨.incomplete, .pub, none⟩ := by
  have hseen := b.rollSeen_reported n r
  rw [State.rollTaken, State.mergeRoll_same (mt (hseen.mergesRoll r).mp hm),
    State.afterMerge_leaves (hseen.phase.trans hp) (by rwa [hseen.epoch]) (by rwa [hseen.epoch, decide_eq_true_iff])]
  simp [State.carriedOn, grantFor]

/-- A merge that opens no purge leaves all but pair, hold and store (R46). -/
theorem State.mergeRoll_cases (hseen : b.Reported u entries) (hp : b.phase = .assembling ∨ b.phase = .incomplete)
    (hm : ¬ b.mergesRoll r ∨ r.count < b.failureLimit) :
    u.mergeRoll r = u ∨ (u.mergesRoll r ∧ u.mergeRoll r = u.holdRaised (r.serial, r.count)) := by
  by_cases h : b.mergesRoll r
  · have h' := (hseen.mergesRoll r).mpr h
    refine .inr ⟨h', ?_⟩
    have hmerges : u.phase.merges = true ∧ u.phase ≠ .verifying := by
      rw [hseen.phase]
      rcases hp with hp | hp <;> simp [hp, Phase.merges]
    rw [State.mergeRoll_merges h', State.mergePair_holds ⟨hmerges.1, h'.2.2⟩ hmerges.2]
    rw [hseen.failureLimit]
    exact hm.resolve_left (not_not.mpr h)
  · exact .inl (State.mergeRoll_same (mt (hseen.mergesRoll r).mp h))

theorem State.digestConflict_congr (hsetup : u.setup = s.setup) (hsn : u.roster.sn = s.roster.sn)
    (hentries : u.roster.entries = s.roster.entries) : u.digestConflict = s.digestConflict := by
  have hdigest : u.digest = s.digest := by simp [State.digest, hsetup]
  have hsn' : u.sn = s.sn := hsn
  have hiff : u.digestConflict = false ↔ s.digestConflict = false := by
    rw [State.digestConflict_eq_false_iff, State.digestConflict_eq_false_iff, hentries, hdigest, hsn',
      State.isMember_congr hsetup]
  rw [Bool.eq_iff_iff, ← Bool.not_eq_false, ← Bool.not_eq_false, hiff]

theorem State.rollTaken_halts (hp : b.phase = .assembling ∨ b.phase = .incomplete) (hmember : b.isMember n = true) (hne : n ≠ b.sn)
    (hdigest : r.digest ≠ b.digest) (he : r.epoch ≤ b.epoch) (hm : ¬ b.mergesRoll r ∨ r.count < b.failureLimit) :
    (b.rollTaken n r).phaseCtl = ⟨.halted, .none, none⟩
      ∧ (b.rollTaken n r).supervisor = { b.supervisor with haltMark := true }
      ∧ (b.rollTaken n r).roster.window = none ∧ (b.rollTaken n r).roster.announce = none
      ∧ (b.rollTaken n r).line.sendingReset = (b.line.sendingReset || decide (b.roster.startCause ≠ .reseat)) := by
  have hseen := b.rollSeen_reported n r
  have hconflict := hseen.conflict hmember hne hdigest
  have hsame : ((b.rollSeen n r).mergeRoll r).phase = (b.rollSeen n r).phase
      ∧ ((b.rollSeen n r).mergeRoll r).digestConflict = (b.rollSeen n r).digestConflict
      ∧ ((b.rollSeen n r).mergeRoll r).supervisor = b.supervisor
      ∧ ((b.rollSeen n r).mergeRoll r).line.sendingReset = b.line.sendingReset
      ∧ ((b.rollSeen n r).mergeRoll r).roster.startCause = b.roster.startCause := by
    have hconflicts : ((b.rollSeen n r).mergeRoll r).digestConflict = (b.rollSeen n r).digestConflict :=
      State.digestConflict_congr (by simp) (by simp) (by simp)
    refine ⟨?_, hconflicts, by simp [hseen.supervisor], by simp [hseen.line], by simp [hseen.startCause]⟩
    rcases State.mergeRoll_cases hseen hp hm with h | ⟨_, h⟩ <;> rw [h]
    simp
  obtain ⟨hphase, hdigests, hsupervisor, hsending, hcause⟩ := hsame
  rw [State.rollTaken, State.afterMerge_halts (by rwa [State.mergeRoll_epoch, hseen.epoch]) (by rwa [hphase, hseen.phase])
    (by rw [hdigests, hconflict])]
  obtain ⟨h1, h2, h3, h4, h5⟩ := ((b.rollSeen n r).mergeRoll r).haltOnConflict_halts
  exact ⟨h1, by rw [h2, hsupervisor], h3, h4, by rw [h5, hsending, hcause]⟩

/-- The station with an entry of its roster as a report leaves it, and nothing else moved. -/
def State.withEntry (b : State) (n : StationNo) (e : RosterEntry) : State :=
  b.setRoster { b.roster with entries := b.roster.entries.set n e }

/-- In an agreement the reported record itself agrees. -/
theorem State.withEntry_agrees {presence : Presence} (hmember : b.isMember n = true) (hne : n ≠ b.sn)
    (hagree : (b.withEntry n ⟨presence, some (.guard r)⟩).othersAgree) :
    r.epoch = b.epoch ∧ r.phase ≠ .purging ∧ r.phase ≠ .halted := by
  obtain ⟨r', hr', hepoch, hpurging, hhalted, -⟩ := hagree n hmember hne
  obtain rfl : r = r' := by
    simp only [State.withEntry, State.setRoster_roster, Fin.getElem_fin, Vector.getElem_set_self, RosterEntry.mk.injEq,
      Option.some.injEq, LastRecord.guard.injEq] at hr'
    exact hr'.2
  exact ⟨hepoch, hpurging, hhalted⟩

/-- The assembly that a report completes: where the report is taken, and where it is merged too. -/
theorem State.Reported.assembles {e : RosterEntry} (h : b.Reported u (b.roster.entries.set n e))
    (hp : b.phase = .assembling ∨ b.phase = .incomplete) (hclosed : b.purge.journal.isOpen = false)
    (hagree : (b.withEntry n e).othersAgree) : (b.withEntry n e).Assembles u where
  setup := h.setup
  sn := h.sn
  writes := h.writes
  request := h.request
  inFlight := h.inFlight
  outstanding := h.outstanding
  tx := h.tx
  phase := by rwa [h.phase]
  closed := h.closed hclosed
  agree := hagree
  entries := h.entries
  slots := congrArg SlotTable.slots h.slotTable
  epoch := h.epoch
  grows := .inl (by rw [State.pair, h.verifier]; rfl)
  reported := by
    have hpair : u.pair = (b.withEntry n e).pair := by rw [State.pair, h.verifier]; rfl
    rw [hpair]
    exact State.bestReported_grows _

/-- A reported pair that is raised lets the assembly complete as it would have. -/
theorem State.Assembles.holdRaised (h : w.Assembles u) (hr : u.raises p.1 p.2) (hp : PairGrows p w.bestReported) :
    w.Assembles (u.holdRaised p) where
  toOpensFrom := h.toOpensFrom.holdRaised p
  phase := by simpa using h.phase
  closed := by simpa using h.closed
  agree := h.agree
  entries := by simp [h.entries]
  slots := by simp [h.slots]
  epoch := (State.holdRaised_epoch hr).trans h.epoch
  grows := by
    have hpair : (u.holdRaised p).pair = p := by rw [State.pair, State.holdRaised_verifier hr]
    rw [hpair]
    exact h.grows.trans (.inr ((u.raises_iff p).mpr hr))
  reported := by
    have hpair : (u.holdRaised p).pair = p := by rw [State.pair, State.holdRaised_verifier hr]
    rwa [hpair]

theorem State.rollTaken_completes (hp : b.phase = .assembling ∨ b.phase = .incomplete) (hmember : b.isMember n = true)
    (hne : n ≠ b.sn) (hclosed : b.purge.journal.isOpen = false)
    (hagree : (b.withEntry n ⟨.present, some (.guard r)⟩).othersAgree) (hless : ¬ b.raises r.serial r.count ∨ r.count < b.failureLimit) :
    (b.withEntry n ⟨.present, some (.guard r)⟩).assemblyCompleted (b.rollTaken n r) := by
  have hseen := b.rollSeen_reported n r
  have hentry : (b.withEntry n ⟨.present, some (.guard r)⟩).roster.entries[n] = ⟨.present, some (.guard r)⟩ := by
    simp [State.withEntry]
  obtain ⟨hepoch, -, hhalted⟩ := State.withEntry_agrees hmember hne hagree
  have hassembles := hseen.assembles hp hclosed hagree
  have hupper : PairGrows (r.serial, r.count) (b.withEntry n ⟨.present, some (.guard r)⟩).bestReported :=
    State.bestReported_upper hmember hne (by rw [hentry])
  rw [State.rollTaken, decide_eq_false hhalted]
  rcases State.mergeRoll_cases hseen hp (hless.imp_left fun hno h => hno h.2.2) with h | ⟨hm, h⟩ <;> rw [h]
  · exact hassembles.afterMerge hepoch
  · exact (hassembles.holdRaised hm.2.2 hupper).afterMerge hepoch

/-! ### ROLL, by its sender -/

theorem exec_roll {f : RxFrame} {rest : List RxFrame} (h : s.isFront f rest) (hk : f.kind = .roll) :
    exec .roll s = .next ((s.taken rest).handleRoll f).payRoll :=
  State.frameRow_front h (by simp [hk]) _

theorem State.handleRoll_guard {f : RxFrame} {role : Role} (hread : readRoll f.payload = some (.guard role r))
    (hrole : b.roleOf f.sender = role) (hne : f.sender ≠ b.sn) :
    b.handleRoll f
      = (b.rollTaken f.sender r).answerRoll
          (callsForAnswer (b.roster.entries[f.sender].presence = .present) (.guard role r)) := by
  rw [State.handleRoll, hread]
  dsimp only
  rw [if_neg (not_not.mpr hrole), if_neg hne]
  rfl

theorem State.handleRoll_own {f : RxFrame} {role : Role} (hread : readRoll f.payload = some (.guard role r))
    (hrole : b.roleOf f.sender = role) (hown : f.sender = b.sn) : b.handleRoll f = b.testsAfterReport := by
  rw [State.handleRoll, hread]
  dsimp only
  rw [if_neg (not_not.mpr hrole), if_pos hown]

theorem State.handleRoll_controller {f : RxFrame} (hread : readRoll f.payload = some .controller)
    (hrole : b.roleOf f.sender = .controller) :
    b.handleRoll f
      = (b.markPresent f.sender .controller).testsAfterReport.answerRoll
          (callsForAnswer (b.roster.entries[f.sender].presence = .present) .controller) := by
  rw [State.handleRoll, hread]
  dsimp only
  rw [if_pos hrole]
  rfl

theorem State.handleRoll_ignores {f : RxFrame}
    (h : readRoll f.payload = none ∨ ∃ role r, readRoll f.payload = some (.guard role r) ∧ b.roleOf f.sender ≠ role) :
    b.handleRoll f = b := by
  rw [State.handleRoll]
  rcases h with h | ⟨role, r, h, hrole⟩ <;> rw [h]
  dsimp only
  rw [if_pos hrole]

/-- A guard's ROLL states a role of a member guard (Table 11-11). -/
theorem readRoll_guard_role {payload : List Byte} {role : Role} (h : readRoll payload = some (.guard role r)) :
    role = .guard ∨ role = .keypadGuard := by
  unfold readRoll at h
  dsimp only at h
  (repeat' split at h) <;> simp_all

end

end Sys2Proof.Machine
end


section
/-! PROOFS. PURGED, the end of the assembly window, and what reports and window move (R35, R42, R43, R45, R48). -/

namespace Sys2Proof.Machine

section
variable {s t u b : State} {n : StationNo}

/-! ### PURGED -/

/-- The station that has handled a member's PURGED (R35, R117, R48, R42, R36). -/
def State.purgedTaken (b : State) (n : StationNo) (epoch : Nat) : State :=
  ((b.updateRecord n (purgedRecord epoch)).hear n epoch).afterMerge false epoch

theorem exec_purged {f : RxFrame} {rest : List RxFrame} (h : s.isFront f rest) (hk : f.kind = .purged)
    (hm : s.isMember f.sender = true) (hne : f.sender ≠ s.sn) :
    exec .purged s = .next ((s.taken rest).purgedTaken f.sender (u16 f.payload 0)).payRoll := by
  have hm' : (s.taken rest).isMember f.sender = true := hm
  have hne' : f.sender ≠ (s.taken rest).sn := hne
  change s.frameRow _ _ = _
  rw [State.frameRow_front h (by simp [hk]), State.handlePurged]
  rw [hm', if_neg (by simp), if_neg hne']
  rfl

theorem State.purgedSeen_reported (b : State) (n : StationNo) (epoch : Nat) :
    b.Reported ((b.updateRecord n (purgedRecord epoch)).hear n epoch) (b.updateRecord n (purgedRecord epoch)).roster.entries :=
  (b.reported_updateRecord n (purgedRecord epoch)).hear n epoch

theorem State.purgedTaken_entries (b : State) (n : StationNo) (epoch : Nat) :
    (b.purgedTaken n epoch).roster.entries = (b.updateRecord n (purgedRecord epoch)).roster.entries := by
  simp [State.purgedTaken, State.afterMerge_entries]

theorem State.updateRecord_unknown {change : GuardRecord → GuardRecord} (h : b.roster.entries[n].last = none) :
    b.updateRecord n change = b := by
  unfold State.updateRecord
  split
  · rfl
  · rw [h]

theorem State.purgedTaken_kept (b : State) (n : StationNo) (epoch : Nat) :
    b.keepsStore (b.purgedTaken n epoch) ∧ (b.purgedTaken n epoch).supervisor.tampered = b.supervisor.tampered := by
  have hseen := b.purgedSeen_reported n epoch
  obtain ⟨hstored, hsetup, htampered, hranges⟩ :=
    ((b.updateRecord n (purgedRecord epoch)).hear n epoch).afterMerge_kept false epoch
  refine ⟨⟨hstored.trans (by rw [hseen.store]), hsetup.trans hseen.setup, fun hclosed => ?_⟩,
    htampered.trans (by rw [hseen.supervisor])⟩
  exact (hranges (.inl (hseen.closed hclosed))).trans (by rw [hseen.gate])

theorem State.purgedTaken_opens {epoch : Nat} (hless : b.epoch < epoch) (hu : b.phase ≠ .uncommissioned)
    (hh : b.phase ≠ .halted) (hclosed : b.purge.journal.isOpen = false) :
    b.purgeOpened (b.purgedTaken n epoch) .epoch epoch := by
  have hseen := b.purgedSeen_reported n epoch
  rw [State.purgedTaken, State.afterMerge_opens (by rwa [hseen.epoch]) (by rwa [hseen.phase]) (by rwa [hseen.phase])
    (hseen.closed hclosed)]
  exact hseen.toOpensFrom.openPurge _ _

theorem State.purgedTaken_leaves {epoch : Nat} (hp : b.phase = .locked) (he : epoch < b.epoch) :
    (b.purgedTaken n epoch).phaseCtl = ⟨.incomplete, .pub, none⟩ := by
  have hseen := b.purgedSeen_reported n epoch
  rw [State.purgedTaken, State.afterMerge_leaves (hseen.phase.trans hp) (by rw [hseen.epoch]; omega)
    (.inr (by rwa [hseen.epoch]))]
  simp [State.carriedOn, grantFor]

theorem State.purgedTaken_completes {epoch : Nat} {r : GuardRecord} (hm : b.isMember n = true) (hne : n ≠ b.sn)
    (hr : b.roster.entries[n].last = some (.guard r)) (hp : b.phase = .assembling ∨ b.phase = .incomplete)
    (hclosed : b.purge.journal.isOpen = false)
    (hagree : (b.withEntry n ⟨b.roster.entries[n].presence, some (.guard (purgedRecord epoch r))⟩).othersAgree) :
    (b.withEntry n ⟨b.roster.entries[n].presence, some (.guard (purgedRecord epoch r))⟩).assemblyCompleted
      (b.purgedTaken n epoch) := by
  have hseen := b.purgedSeen_reported n epoch
  rw [State.updateRecord_entries hne hr] at hseen
  have hepoch : epoch = b.epoch := (State.withEntry_agrees hm hne hagree).1
  exact (hseen.assembles hp hclosed hagree).afterMerge hepoch

/-! ### The end of the assembly window -/

/-- The station at the end of the window (R45). -/
def State.windowOver (s : State) (w : Window) : State :=
  (s.setClock (max s.clock (w.start + 300000))).setRoster { s.roster with window := none }

theorem exec_assemblyWindowEnd {w : Window} (hawake : s.awake = true) (hw : s.roster.window = some w) :
    exec .assemblyWindowEnd s
      = .next (if (s.windowOver w).completionTest.phase = .assembling then
          (s.windowOver w).completionTest.enterPhase .incomplete else (s.windowOver w).completionTest).payRoll := by
  change execAssemblyWindowEnd s = _
  rw [execAssemblyWindowEnd, State.whileAwake_of_awake hawake, hw]
  rfl

theorem State.windowOver_assembles {w : Window} (hp : s.phase = .assembling) (hclosed : s.purge.journal.isOpen = false)
    (hagree : s.othersAgree) : s.Assembles (s.windowOver w) :=
  ⟨(State.OpensFrom.refl s).congr rfl rfl rfl rfl rfl, .inl hp, hclosed, hagree, rfl, rfl, rfl, .inl rfl, s.bestReported_grows⟩

/-- The move to INCOMPLETE begins a run of re-announcements (R40). -/
theorem State.enterIncomplete_announce (s : State) : (s.enterPhase .incomplete).roster.announce = some (s.clock + 2000000) := by
  simp [State.enterPhase, State.movePhase, State.carriedOn, State.announceAtEntry, State.beginAnnounce, announcePeriod, seconds]

/-- A completed assembly that has stayed in ASSEMBLING had reached the failure limit at the last epoch (log entry 56). -/
theorem State.assemblyCompleted.incomplete (h : u.assemblyCompleted t) (hp : t.phase = .assembling) :
    u.assemblyCompleted (t.enterPhase .incomplete) := by
  obtain ⟨hheld, hsettles, hlimits⟩ := h
  refine ⟨by simpa using hheld, fun hless => ?_, fun hover hlast => ?_⟩
  · obtain ⟨_, hphase, _⟩ := hsettles hless
    rw [hp] at hphase
    split at hphase <;> cases hphase
  · obtain ⟨hphase, _⟩ := hlimits hover hlast
    rw [hp] at hphase
    cases hphase

theorem windowEnd_incomplete {w : Window} (hawake : s.awake = true) (hw : s.roster.window = some w) (hp : s.phase = .assembling)
    (hm : s.memberMissing = true) (hd : s.digestConflict = false) :
    exec .assemblyWindowEnd s = .next ((s.windowOver w).enterPhase .incomplete).payRoll := by
  have hwaits : (s.windowOver w).completionTest = s.windowOver w := by
    refine State.completionTest_waits ?_ (State.not_assembled_of_missing ?_)
    · rw [← hd]
      exact State.digestConflict_congr rfl rfl rfl
    · rw [← hm]
      exact State.memberMissing_congr rfl rfl rfl
  have hphase : (s.windowOver w).phase = .assembling := hp
  rw [exec_assemblyWindowEnd hawake hw, hwaits, if_pos hphase]

theorem windowEnd_completes {w : Window} (hawake : s.awake = true) (hw : s.roster.window = some w) (hp : s.phase = .assembling)
    (hclosed : s.purge.journal.isOpen = false) (hagree : s.othersAgree) :
    ∃ t, exec .assemblyWindowEnd s = .next t ∧ s.assemblyCompleted t ∧ t.clock = max s.clock (w.start + 300000)
      ∧ t.verifier.hold = (s.windowOver w).completeAssembly.verifier.hold := by
  have hassembles := State.windowOver_assembles (w := w) hp hclosed hagree
  refine ⟨_, exec_assemblyWindowEnd hawake hw, ?_⟩
  rw [hassembles.completionTest]
  have hclock : (s.windowOver w).completeAssembly.clock = max s.clock (w.start + 300000) := by simp [State.windowOver]
  split
  · next hstays => exact ⟨(hassembles.completed.incomplete hstays).payRoll, by simpa using hclock, by simp⟩
  · exact ⟨hassembles.completed.payRoll, by simpa using hclock, by simp⟩

end

/-! ### What reports and window move -/

theorem State.keepsStore.answered {s t : State} (h : s.keepsStore t) (calls : Bool) :
    s.keepsStore (t.answerRoll calls).payRoll := by
  simpa [State.keepsStore] using h

theorem guardRoll_moves {s : State} {f : RxFrame} {rest : List RxFrame} {role : Role} {r : GuardRecord}
    (hfront : s.isFront f rest) (hk : f.kind = .roll) (hread : readRoll f.payload = some (.guard role r))
    (hrole : s.roleOf f.sender = role) (hne : f.sender ≠ s.sn) :
    exec .roll s
      = .next (((s.taken rest).rollTaken f.sender r).answerRoll
          (callsForAnswer (s.roster.entries[f.sender].presence = .present) (.guard role r))).payRoll := by
  rw [exec_roll hfront hk, State.handleRoll_guard hread (by exact hrole) (by exact hne)]
  rfl

theorem controllerRoll_moves {s : State} {f : RxFrame} {rest : List RxFrame} (hfront : s.isFront f rest) (hk : f.kind = .roll)
    (hread : readRoll f.payload = some .controller) (hrole : s.roleOf f.sender = .controller) :
    exec .roll s
      = .next (((s.taken rest).markPresent f.sender .controller).testsAfterReport.answerRoll
          (callsForAnswer (s.roster.entries[f.sender].presence = .present) .controller)).payRoll := by
  rw [exec_roll hfront hk, State.handleRoll_controller hread (by exact hrole)]
  rfl

/-- Settles O19, clause by clause: the report is taken into the roster, merged, and followed by the tests of its phase. -/
theorem reportsAndWindowMoveTheRoster : Obligations.ReportsAndWindowMoveTheRoster := by
  refine ⟨fun s f rest hfront hk => ⟨fun role r hread hrole hne => ?guard, fun hread hrole => ?controller, fun hread => ?unread,
      fun role r hread hrole => ?misfit, fun role r hread hrole hne => ?merges,
      fun role r hread hrole hown hp hclosed hagree => ?own⟩,
    fun s f rest hfront hk hm hne => ?purged, fun s w hawake hw hp hm hd => ?window, fun s => ?best,
    fun s w hawake hw hp hclosed hagree => ?completes⟩
  case guard =>
    obtain ⟨hkept, htampered⟩ := (s.taken rest).rollTaken_kept f.sender r
    refine ⟨_, guardRoll_moves hfront hk hread hrole hne, ?_, hkept.answered _, by simpa using htampered⟩
    simpa using (s.taken rest).rollTaken_entries f.sender r
  case unread =>
    exact State.frameRow_silent hfront.1 hfront.2.1 (by simp [hk]) fun _ => State.handleRoll_ignores (.inl hread)
  case misfit =>
    exact State.frameRow_silent hfront.1 hfront.2.1 (by simp [hk]) fun _ =>
      State.handleRoll_ignores (.inr ⟨role, r, hread, hrole⟩)
  case own =>
    have hassembles : (s.taken rest).Assembles (s.taken rest) :=
      ⟨.refl _, hp, hclosed, hagree, rfl, rfl, rfl, .inl rfl, State.bestReported_grows _⟩
    refine ⟨_, exec_roll hfront hk, ?_⟩
    rw [State.handleRoll_own hread (by exact hrole) (by exact hown), hassembles.testsAfterReport]
    exact hassembles.completed.payRoll
  case controller =>
    have hseen := (s.taken rest).reported_markPresent f.sender .controller
    refine ⟨_, controllerRoll_moves hfront hk hread hrole, by simpa using hseen.entries, ?_, ?_, fun ha hi hw => ?_,
      fun hp hclosed hagree => ?_⟩
    · simp [State.keepsStore]
    · simp
    · rw [State.testsAfterReport_elsewhere (by rwa [hseen.phase]) (by rwa [hseen.phase]) (by rwa [hseen.phase])]
      simp [State.keepsRecords, hseen.phaseCtl]
    · have hassembles := hseen.assembles hp hclosed hagree
      rw [hassembles.testsAfterReport]
      exact (hassembles.completed.answerRoll _).payRoll
  case merges =>
    intro waits calm merged raised
    have hopens : s.OpensFrom (s.taken rest) := .taken hfront.2.1
    have hwaits : calm → (s.taken rest).waitsFor f.sender ∧ s.phase.merges = true ∧ s.phase ≠ .verifying := by
      have elsewhere (ha : s.phase ≠ .assembling) (hi : s.phase ≠ .incomplete) : (s.taken rest).waitsFor f.sender := .inl ⟨ha, hi⟩
      rintro (h | h | h | h | ⟨h, hmissing⟩)
      · exact ⟨elsewhere (by simp [h]) (by simp [h]), by rw [h]; rfl, by simp [h]⟩
      · exact ⟨elsewhere (by simp [h]) (by simp [h]), by rw [h]; rfl, by simp [h]⟩
      · exact ⟨elsewhere (by simp [h]) (by simp [h]), by rw [h]; rfl, by simp [h]⟩
      · exact ⟨elsewhere (by simp [h]) (by simp [h]), by rw [h]; rfl, by simp [h]⟩
      · refine ⟨.inr hmissing, ?_⟩
        rcases h with h | h <;> exact ⟨by rw [h]; rfl, by simp [h]⟩
    have hmember : s.isMember f.sender = true := by
      rcases readRoll_guard_role hread with h | h <;> simp [State.isMember, hrole, h]
    refine ⟨_, guardRoll_moves hfront hk hread hrole hne, fun hcalm hm hless => ?_,
      fun hcalm hm hover hclosed hlast => ?_, fun hp hm => ?_, fun hcalm he hm => ?_, fun hless hu hh hclosed => ?_,
      fun hp h => ?_, fun hp hdigest he hm => ?_, fun hp hmember hclosed hagree => ⟨fun hless => ?_, fun hraises hover hlast => ?_⟩⟩
    · obtain ⟨hw, hp, hv⟩ := hwaits hcalm
      obtain ⟨hverifier, hinFlight⟩ := State.rollTaken_raises (b := s.taken rest) hw hp hv hm hless
      rw [State.holdRaised_verifier hm.2.2] at hverifier
      exact ⟨by simpa using hverifier, by simpa using hinFlight⟩
    · obtain ⟨hw, hp, hv⟩ := hwaits hcalm
      obtain ⟨hpurge, hheld⟩ := State.rollTaken_purges (b := s.taken rest) (n := f.sender) hp hv hm hover hclosed hlast
      exact ⟨hopens.purgeOpened (hpurge.answerRoll _).payRoll, by simpa using hheld⟩
    · simpa using State.rollTaken_verifying (b := s.taken rest) (n := f.sender) hp hm
    · simpa using State.rollTaken_unmerged (b := s.taken rest) (hwaits hcalm).1 he hm
    · exact hopens.purgeOpened ((State.rollTaken_opens (b := s.taken rest) hless hu hh hclosed).answerRoll _).payRoll
    · have hno : r.epoch ≤ s.epoch ∧ ¬ merged := by
        rcases h with h | ⟨_, he, hm⟩
        · exact ⟨h.le, fun hm => by have he := hm.2.1; omega⟩
        · exact ⟨he.le, hm⟩
      have hleaves := State.rollTaken_leaves (b := s.taken rest) (n := f.sender) hp hno.1 hno.2
        (h.symm.imp_left fun h => h.1)
      simp [hleaves]
    · obtain ⟨hphase, hsupervisor, hwindow, hannounce, hsending⟩ :=
        State.rollTaken_halts (b := s.taken rest) (n := f.sender) hp hmember hne hdigest he hm
      simp +contextual [hphase, hsupervisor, hwindow, hannounce, hsending]
    · exact ((State.rollTaken_completes (b := s.taken rest) hp hmember hne hclosed hagree hless).answerRoll _).payRoll
    · obtain ⟨hepoch, hpurging, -⟩ := State.withEntry_agrees (b := s.taken rest) hmember hne hagree
      have hmerges : s.phase.merges = true ∧ s.phase ≠ .verifying := by
        rcases hp with h | h <;> exact ⟨by rw [h]; rfl, by simp [h]⟩
      have hpurge := (State.rollTaken_purges (b := s.taken rest) (n := f.sender) (r := r) hmerges.1 hmerges.2
        ⟨hpurging, hepoch, hraises⟩ hover hclosed hlast).1
      exact hopens.purgeOpened (hpurge.answerRoll _).payRoll
  case purged =>
    have hopens : s.OpensFrom (s.taken rest) := .taken hfront.2.1
    obtain ⟨hkept, htampered⟩ := (s.taken rest).purgedTaken_kept f.sender (u16 f.payload 0)
    have hentries := (s.taken rest).purgedTaken_entries f.sender (u16 f.payload 0)
    refine ⟨_, exec_purged hfront hk hm hne, fun r hr => ?_, fun hnone => ?_, by simpa [State.keepsStore] using hkept,
      by simpa using htampered, fun hless hu hh hclosed => ?_, fun hp he => ?_, fun r hr hp hclosed hagree => ?_⟩
    · rw [State.updateRecord_entries (by exact hne) (by exact hr)] at hentries
      simpa [purgedRecord] using hentries
    · rw [State.updateRecord_unknown (by exact hnone)] at hentries
      simpa using hentries
    · exact hopens.purgeOpened (State.purgedTaken_opens (b := s.taken rest) hless hu hh hclosed).payRoll
    · have hleaves := State.purgedTaken_leaves (b := s.taken rest) (n := f.sender) hp he
      simp [hleaves]
    · exact (State.purgedTaken_completes (b := s.taken rest) hm hne hr hp hclosed hagree).payRoll
  case window =>
    refine ⟨_, windowEnd_incomplete hawake hw hp hm hd, ?_⟩
    simp [State.enterPhase_window, State.enterIncomplete_announce, State.carriedOn, grantFor, State.keepsRecords,
      State.windowOver]
  case best =>
    refine ⟨fun hno => ?_, fun n r hm hne hr => pairGrows_iff.mp (State.bestReported_upper hm hne hr), ?_⟩
    · exact s.bestReported_grows.resolve_right fun hless => hno ((s.raises_iff _).mp hless)
    · refine s.bestReported_mem.imp_right ?_
      rintro ⟨n, r, hm, _, hr, hbest⟩
      exact ⟨n, r, hm, hr, hbest⟩
  case completes =>
    intro best
    obtain ⟨t, hexec, hcompleted, hclock, hhold⟩ := windowEnd_completes hawake hw hp hclosed hagree
    refine ⟨t, hexec, hcompleted, hclock, fun hover hlast => ?_⟩
    have hassembles := State.windowOver_assembles (w := w) hp hclosed hagree
    rw [hhold, hassembles.limits hover, hclock, hassembles.openOwn_verifier, State.mergeReported_hold, hassembles.best]
    rfl

end Sys2Proof.Machine
end

section
/-! PROOFS. Scheduled ROLLs, answers, and the runs of re-announcements (R38 to R40). -/

namespace Sys2Proof.Machine

section
variable {s t u x b : State} {entries : Vector RosterEntry 8} {n : StationNo} {r : GuardRecord}

/-! ### The scheduled ROLLs -/

theorem exec_assemblySend {w : Window} (hawake : s.awake = true) (hw : s.roster.window = some w) (hsends : w.sends < 2) :
    let late := (s.setClock (max s.clock (w.start + (w.sends + 1) * 100000))).setRoster
      { s.roster with window := some ⟨w.start, w.sends + 1⟩ }
    exec .assemblySend s = .next (if s.memberMissing = true then late.offerRoll else late).payRoll := by
  intro late
  have hmissing : late.memberMissing = s.memberMissing := State.memberMissing_congr rfl rfl rfl
  change execAssemblySend s = _
  rw [execAssemblySend, State.whileAwake_of_awake hawake, hw, ← hmissing]
  dsimp only
  rw [if_pos hsends]
  rfl

theorem exec_reannounce {due : Micros} (hawake : s.awake = true) (hdue : s.roster.announce = some due) :
    exec .reannounce s
      = .next ((s.setClock (max s.clock due)).setRoster
          { s.roster with
            announce := if s.phase ≠ .purgeWait ∧ 15 ≤ s.roster.announced + 1 then none else some (due + 2000000)
            announced := s.roster.announced + 1 }).offerRoll.payRoll := by
  have hends : s.announceEnds = true ↔ s.phase ≠ .purgeWait ∧ 15 ≤ s.roster.announced + 1 := by
    simp [State.announceEnds, runLength]
  change execReannounce s = _
  rw [execReannounce, State.whileAwake_of_awake hawake, hdue]
  simp only [hends]
  rfl

/-! ### The answer to a ROLL -/

/-- The 500 ms limit allows an answer and no own ROLL is queued (R39). -/
def State.answerDue (s : State) : Prop :=
  (∀ t, s.roster.answeredAt = some t → t + 500000 ≤ s.clock) ∧ ∀ g ∈ s.line.tx, g.kind ≠ .roll

theorem State.answerRoll_guard (s : State) (calls : Bool) :
    (calls && s.mayAnswer && !s.ownRollQueued) = true ↔ calls = true ∧ s.answerDue := by
  have hmay : s.mayAnswer = true ↔ ∀ t, s.roster.answeredAt = some t → t + 500000 ≤ s.clock := by
    unfold State.mayAnswer
    cases s.roster.answeredAt with
    | none => simp
    | some t =>
      simp only [Option.some.injEq, forall_eq', decide_eq_true_iff]
      rfl
  have hqueued : s.ownRollQueued = false ↔ ∀ g ∈ s.line.tx, g.kind ≠ .roll := by
    rw [← Bool.not_eq_true, State.ownRollQueued_iff]
    simp
  rw [Bool.and_eq_true, Bool.and_eq_true, Bool.not_eq_true', hmay, hqueued, State.answerDue, and_assoc]

/-- A ROLL that calls for an answer is answered when one is due, with the ROLL as it stands (R39). -/
theorem State.answerRoll_answers (hl : s.line.tx.length < 4) (calls : Bool) :
    (calls = true → s.answerDue →
      (s.answerRoll calls).line.tx = s.line.tx ++ [⟨.roll, false, 0, (s.answerRoll calls).rollPayload, !s.line.altOther, 0⟩]
      ∧ (s.answerRoll calls).roster.answeredAt = some s.clock)
    ∧ (¬ (calls = true ∧ s.answerDue) → s.answerRoll calls = s) := by
  refine ⟨fun hcalls hdue => ?_, fun hno => ?_⟩
  · have hsame : s.SameRoll (s.answerRoll calls) := by constructor <;> simp
    rw [hsame.rollPayload, State.answerRoll, if_pos ((s.answerRoll_guard calls).mpr ⟨hcalls, hdue⟩)]
    have hline := State.offerRoll_line_free (s := s.setRoster { s.roster with answeredAt := some s.clock }) hdue.2 hl
    rw [hline]
    exact ⟨rfl, by simp⟩
  · rw [State.answerRoll, if_neg (mt (s.answerRoll_guard calls).mp hno)]

/-- Where the handling of a ROLL leaves line, answer limit, clock and debt as they were, the answer is that of R39. -/
theorem State.answered {calls : Bool} (htx : x.line.tx = s.line.tx) (halt : x.line.altOther = s.line.altOther)
    (hat : x.roster.answeredAt = s.roster.answeredAt) (hclock : x.clock = s.clock) (howed : x.roster.rollOwed = false)
    (hl : s.line.tx.length < 4) :
    (calls = true → s.answerDue →
      (x.answerRoll calls).payRoll.line.tx
        = s.line.tx ++ [⟨.roll, false, 0, (x.answerRoll calls).payRoll.rollPayload, !s.line.altOther, 0⟩]
      ∧ (x.answerRoll calls).payRoll.roster.answeredAt = some s.clock)
    ∧ (¬ (calls = true ∧ s.answerDue) →
      (x.answerRoll calls).payRoll.line.tx = s.line.tx
      ∧ (x.answerRoll calls).payRoll.roster.answeredAt = s.roster.answeredAt) := by
  have hdue : x.answerDue ↔ s.answerDue := by rw [State.answerDue, State.answerDue, htx, hat, hclock]
  obtain ⟨hanswers, hsilent⟩ := State.answerRoll_answers (s := x) (by rwa [htx]) calls
  rw [State.payRoll_of_not_owed (by simpa using howed)]
  refine ⟨fun hcalls hdue' => ?_, fun hno => ?_⟩
  · rw [← htx, ← halt, ← hclock]
    exact hanswers hcalls (hdue.mpr hdue')
  · rw [hsilent (by rwa [hdue]), htx, hat]
    exact ⟨rfl, rfl⟩

/-- The tests that follow a report offer nothing where no assembly completes and no digest conflicts. -/
theorem State.testsAfterReport_line (h : (s.phase ≠ .assembling ∧ s.phase ≠ .incomplete)
    ∨ (s.digestConflict = false ∧ s.assembled = false)) : s.testsAfterReport.line = s.line := by
  have hsame : s.completionTest = s := by
    rcases h with ⟨ha, hi⟩ | ⟨hd, ha⟩
    · exact State.completionTest_elsewhere ha hi
    · exact State.completionTest_waits hd ha
  rw [State.testsAfterReport, hsame, State.purgeWaitTest]
  split
  · exact State.enterPhase_line _ _ (by simp [State.carriedOn])
  · rfl

theorem State.afterMerge_line {halted : Bool} {epoch : Nat} (he : epoch ≤ s.epoch)
    (h : (s.phase ≠ .assembling ∧ s.phase ≠ .incomplete) ∨ (s.digestConflict = false ∧ s.assembled = false)) :
    (s.afterMerge halted epoch).line = s.line := by
  rw [State.afterMerge, State.epochTest_same he, State.leaveLockedOn]
  split
  · rw [State.enterPhase_line _ _ (by simp [State.carriedOn]), State.testsAfterReport_line h]
  · exact State.testsAfterReport_line h

/-- A report of the own digest, or of none, brings no conflict. -/
theorem State.Reported.no_conflict {e : RosterEntry} (h : b.Reported u (b.roster.entries.set n e)) (hd : b.digestConflict = false)
    (he : ∀ r, e.last = some (.guard r) → r.digest = b.digest) : u.digestConflict = false := by
  have hdigest : u.digest = b.digest := by simp [State.digest, h.setup]
  have hsn : u.sn = b.sn := h.sn
  rw [State.digestConflict_eq_false_iff] at hd ⊢
  rw [h.entries, hdigest, hsn, State.isMember_congr h.setup]
  intro m hm hne hp r hr
  by_cases heq : n = m
  · subst heq
    rw [Fin.getElem_fin, Vector.getElem_set_self] at hr
    exact he r hr
  · rw [Fin.getElem_fin, Vector.getElem_set_ne _ _ (fun hv => heq (Fin.ext hv))] at hp hr
    exact hd m hm hne hp r hr

/-- A ROLL whose pair opens no purge: it is not merged, it only raises the pair, or it stays below the failure limit (R46, R47). -/
def State.mergesQuietly (b : State) (r : GuardRecord) : Prop :=
  b.phase = .halted ∨ b.phase = .purging ∨ b.phase = .verifying ∨ r.phase = .purging ∨ r.epoch < b.epoch
    ∨ ¬ b.raises r.serial r.count ∨ r.count < b.failureLimit

theorem State.Reported.mergeRoll_quiet (h : b.Reported u entries) (hq : b.mergesQuietly r) :
    (u.mergeRoll r).line = u.line ∧ (u.mergeRoll r).phaseCtl = u.phaseCtl ∧ (u.mergeRoll r).roster = u.roster := by
  by_cases hm : u.mergesRoll r
  · rw [State.mergeRoll_merges hm]
    by_cases hpair : u.mergesPair (r.serial, r.count)
    · by_cases hv : u.phase = .verifying
      · rw [State.mergePair_verifying hpair hv]
        simp
      · obtain ⟨_, hh, hpurging⟩ := Phase.merges_iff.mp hpair.1
        obtain ⟨hroll, hepoch, hraises⟩ := (h.mergesRoll r).mp hm
        rw [h.phase] at hv hh hpurging
        have hless : r.count < b.failureLimit := by
          rcases hq with hq | hq | hq | hq | hq | hq | hq
          · exact absurd hq hh
          · exact absurd hq hpurging
          · exact absurd hq hv
          · exact absurd hq hroll
          · omega
          · exact absurd hraises hq
          · exact hq
        rw [State.mergePair_holds hpair (by rwa [h.phase]) (by rwa [h.failureLimit])]
        simp
    · rw [State.mergePair_same hpair]
      exact ⟨rfl, rfl, rfl⟩
  · rw [State.mergeRoll_same hm]
    exact ⟨rfl, rfl, rfl⟩

/-- Where a ROLL completes no assembly and halts nothing: outside the phases of the assembly, and while a third member is missing and no digest conflicts. -/
def State.restsAt (b : State) (n : StationNo) : Prop :=
  (b.phase ≠ .assembling ∧ b.phase ≠ .incomplete)
    ∨ (b.digestConflict = false ∧ ∃ m, b.isMember m = true ∧ m ≠ n ∧ m ≠ b.sn ∧ b.roster.entries[m].presence ≠ .present)

/-- There a state that shows the phase and the roster of the report neither completes nor halts. -/
theorem State.Reported.rests {e : RosterEntry} {v : State} (h : b.Reported u (b.roster.entries.set n e)) (hr : b.restsAt n)
    (he : (b.phase = .assembling ∨ b.phase = .incomplete) → ∀ r, e.last = some (.guard r) → r.digest = b.digest)
    (hphase : v.phase = u.phase) (hsetup : v.setup = u.setup) (hroster : v.roster = u.roster) :
    (v.phase ≠ .assembling ∧ v.phase ≠ .incomplete) ∨ (v.digestConflict = false ∧ v.assembled = false) := by
  by_cases hp : b.phase = .assembling ∨ b.phase = .incomplete
  · obtain ⟨hd, hmissing⟩ := hr.resolve_left (by rintro ⟨h1, h2⟩; exact hp.elim h1 h2)
    refine .inr ⟨?_, State.not_assembled_of_missing ?_⟩
    · rw [State.digestConflict_congr hsetup (by rw [hroster]) (by rw [hroster])]
      exact h.no_conflict hd (he hp)
    · rw [State.memberMissing_congr hsetup (by rw [hroster]) (by rw [hroster])]
      exact h.missing hmissing
  · rw [hphase, h.phase]
    exact .inl (not_or.mp hp)

/-- There the handling of a guard's ROLL offers nothing before its answer. -/
theorem State.rollTaken_line (he : r.epoch ≤ b.epoch) (hq : b.mergesQuietly r) (hr : b.restsAt n)
    (hdigest : (b.phase = .assembling ∨ b.phase = .incomplete) → r.digest = b.digest) :
    (b.rollTaken n r).line = b.line := by
  have hseen := b.rollSeen_reported n r
  obtain ⟨hline, hphase, hroster⟩ := hseen.mergeRoll_quiet hq
  have hrests := hseen.rests (v := (b.rollSeen n r).mergeRoll r) hr (fun hp r' hr' => by
    simp only [Option.some.injEq, LastRecord.guard.injEq] at hr'
    exact hr' ▸ hdigest hp) (congrArg PhaseController.phase hphase) (by simp) hroster
  rw [State.rollTaken, State.afterMerge_line (by rwa [State.mergeRoll_epoch, hseen.epoch]) hrests, hline, hseen.line]

/-- And it keeps the answer limit, the clock and the debt. -/
theorem State.rollTaken_frame (he : r.epoch ≤ b.epoch) :
    (b.rollTaken n r).roster.answeredAt = b.roster.answeredAt ∧ (b.rollTaken n r).clock = b.clock
      ∧ (b.rollTaken n r).roster.rollOwed = b.roster.rollOwed := by
  have hseen := b.rollSeen_reported n r
  rw [State.rollTaken, State.afterMerge, State.epochTest_same (by rwa [State.mergeRoll_epoch, hseen.epoch])]
  simp [hseen.answeredAt, hseen.clock, hseen.rollOwed]

theorem callsForAnswer_guard {present : Bool} {role : Role} :
    callsForAnswer present (.guard role r) = true
      ↔ present = false ∨ r.phase = .assembling ∨ r.phase = .incomplete ∨ r.phase = .purgeWait := by
  simp [callsForAnswer, or_assoc]

/-! ### The runs of re-announcements -/

/-- The timer that runs goes on, one that does not run starts with 2 s, and the count is zero. -/
theorem State.renewAnnounce_announce (s : State) :
    s.renewAnnounce.roster.announced = 0
      ∧ s.renewAnnounce.roster.announce
        = if s.roster.announce = none then some (s.clock + 2000000) else s.roster.announce := by
  rw [State.renewAnnounce_eq]
  cases s.roster.announce <;> simp

/-- In a phase that neither tests nor leaves on a report, its handling leaves roster and phase as the report does. -/
theorem State.rollTaken_roster (he : r.epoch ≤ b.epoch) (hq : b.mergesQuietly r) (hr : b.restsAt n)
    (hdigest : (b.phase = .assembling ∨ b.phase = .incomplete) → r.digest = b.digest) (hl : b.phase ≠ .locked)
    (hw : b.phase ≠ .purgeWait) : (b.rollTaken n r).roster = (b.markPresent n (.guard r)).roster := by
  have hseen := b.rollSeen_reported n r
  obtain ⟨hline, hphaseCtl, hroster⟩ := hseen.mergeRoll_quiet hq
  have hphase : ((b.rollSeen n r).mergeRoll r).phase = b.phase :=
    (congrArg PhaseController.phase hphaseCtl).trans hseen.phase
  have hrests := hseen.rests (v := (b.rollSeen n r).mergeRoll r) hr (fun hp r' hr' => by
    simp only [Option.some.injEq, LastRecord.guard.injEq] at hr'
    exact hr' ▸ hdigest hp) (congrArg PhaseController.phase hphaseCtl) (by simp) hroster
  have htests : ((b.rollSeen n r).mergeRoll r).testsAfterReport = (b.rollSeen n r).mergeRoll r := by
    rcases hrests with ⟨ha, hi⟩ | ⟨hd, ha⟩
    · exact State.testsAfterReport_elsewhere ha hi (by rwa [hphase])
    · exact State.testsAfterReport_waits hd ha (by rwa [hphase])
  rw [State.rollTaken, State.afterMerge, State.epochTest_same (by rwa [State.mergeRoll_epoch, hseen.epoch]), htests,
    State.leaveLockedOn_elsewhere (.inl (by rwa [hphase])), hroster]
  simp [State.rollSeen]

/-- A member that becomes PRESENT leaves missing who was missing beside it. -/
theorem State.setEntry_missing {last : Option LastRecord} :
    (b.setEntry n ⟨.present, last⟩).memberMissing = true
      ↔ ∃ m, b.isMember m = true ∧ m ≠ n ∧ m ≠ b.sn ∧ b.roster.entries[m].presence ≠ .present := by
  have hmember : (b.setEntry n ⟨.present, last⟩).isMember = b.isMember := State.isMember_congr rfl
  have hentries : (b.setEntry n ⟨.present, last⟩).roster.entries = b.roster.entries.set n ⟨.present, last⟩ := rfl
  have hsn : (b.setEntry n ⟨.present, last⟩).sn = b.sn := rfl
  rw [State.memberMissing_iff, hmember, hentries, hsn]
  refine exists_congr fun m => and_congr_right fun _ => ?_
  by_cases heq : n = m
  · subst heq
    simp
  · rw [Fin.getElem_fin, Vector.getElem_set_ne _ _ (fun hv => heq (Fin.ext hv))]
    simp [Ne.symm heq]

theorem State.markPresent_arrives (hm : b.isMember n = true) (hp : b.roster.entries[n].presence ≠ .present) (rec : LastRecord) :
    b.markPresent n rec = (b.setEntry n ⟨.present, some rec⟩).presenceMoved false := by
  rw [State.markPresent_eq, if_pos ⟨hp, hm⟩]

theorem State.markPresent_stays (hp : b.roster.entries[n].presence = .present) (rec : LastRecord) :
    b.markPresent n rec = b.setEntry n ⟨.present, some rec⟩ := by
  rw [State.markPresent_eq, if_neg (fun h => h.1 hp)]

theorem State.answered_announce (s : State) (calls : Bool) :
    (s.answerRoll calls).payRoll.roster.announced = s.roster.announced
      ∧ (s.answerRoll calls).payRoll.roster.announce = s.roster.announce := by
  have hanswer : (s.answerRoll calls).roster.announced = s.roster.announced := by
    unfold State.answerRoll State.offerRoll
    (repeat' split) <;> simp
  have hpay (t : State) : t.payRoll.roster.announced = t.roster.announced := by
    unfold State.payRoll State.offerRoll
    (repeat' split) <;> simp
  exact ⟨(hpay _).trans hanswer, by simp⟩

end

end Sys2Proof.Machine
end

section
/-! PROOFS. Members that leave PRESENT, and the ROLLs that go out (R36, R38 to R40). -/

namespace Sys2Proof.Machine

section
variable {s : State} {missing : List StationNo}

/-! ### Members that leave PRESENT -/

theorem State.presenceMoved_leaves (h : s.phase = .locked) :
    s.presenceMoved true = (s.enterPhase .incomplete).renewAnnounce := by
  have hphase : s.phaseCtl.phase = .locked := h
  unfold State.presenceMoved
  simp [hphase, State.carriedOn]

theorem State.presenceMoved_left (h : s.phase ≠ .locked) : s.presenceMoved true = s.presenceMoved false := by
  have hphase : s.phaseCtl.phase ≠ .locked := h
  unfold State.presenceMoved
  simp [hphase]

theorem State.foldl_silence_announce (l : List StationNo) (s : State) :
    (l.foldl State.silence s).roster.announced = s.roster.announced
      ∧ (l.foldl State.silence s).roster.announce = s.roster.announce := by
  refine List.foldlRecOn l State.silence
    (motive := fun t => t.roster.announced = s.roster.announced ∧ t.roster.announce = s.roster.announce) ⟨rfl, rfl⟩
    fun t ht n _ => ?_
  unfold State.silence
  split
  · exact ht
  · exact ht

/-- A PRESENT member other than this station is among the missing stations. -/
def State.leftBy (s : State) (missing : List StationNo) : Prop :=
  ∃ n ∈ missing, n ≠ s.sn ∧ s.isMember n = true ∧ s.roster.entries[n].presence = .present

theorem State.markSilent_lost (h : s.leftBy missing) :
    s.markSilent missing = (missing.foldl State.silence s).presenceMoved true := by
  obtain ⟨n, hn, -, hm, hp⟩ := h
  unfold State.markSilent
  dsimp only
  rw [if_pos (List.any_eq_true.mpr ⟨n, hn, by simpa [hm] using hp⟩)]

theorem State.markSilent_missing (h : s.leftBy missing) : (missing.foldl State.silence s).memberMissing = true := by
  obtain ⟨n, hn, hne, hm, hp⟩ := h
  have hmember : (missing.foldl State.silence s).isMember = s.isMember := State.isMember_congr (by simp)
  refine (State.memberMissing_iff _).mpr ⟨n, by rwa [hmember], by simpa using hne, ?_⟩
  rw [State.foldl_silence_entries, if_pos ⟨hn, hp⟩]
  simp

/-- A member that leaves begins a new run in INCOMPLETE, BLANK and UNLOCKED (R40). -/
theorem State.markSilent_renews (h : s.leftBy missing) (hp : s.phase = .incomplete ∨ s.phase = .blank ∨ s.phase = .unlocked) :
    (s.markSilent missing).roster.announced = 0
      ∧ (s.markSilent missing).roster.announce
        = if s.roster.announce = none then some (s.clock + 2000000) else s.roster.announce := by
  have hphase : (missing.foldl State.silence s).phase = s.phase := by
    rw [State.phase, State.foldl_silence_phaseCtl]
  have hrenews := State.presenceMoved_renews (s := missing.foldl State.silence s) (by
    rw [hphase]
    exact hp.imp_right fun hp => ⟨hp, State.markSilent_missing h⟩)
  rw [State.markSilent_lost h, State.presenceMoved_left (by rw [hphase]; rcases hp with hp | hp | hp <;> simp [hp]), hrenews]
  obtain ⟨hannounced, hannounce⟩ := State.renewAnnounce_announce (missing.foldl State.silence s)
  refine ⟨hannounced, ?_⟩
  rw [hannounce, (State.foldl_silence_announce missing s).2]
  simp

/-- LOCKED goes to INCOMPLETE with a run that begins then (R36, R40). -/
theorem State.markSilent_leaves (h : s.leftBy missing) (hp : s.phase = .locked) :
    (s.markSilent missing).roster.announced = 0 ∧ (s.markSilent missing).roster.announce = some (s.clock + 2000000) := by
  rw [State.markSilent_lost h, State.presenceMoved_leaves (by rw [State.phase, State.foldl_silence_phaseCtl]; exact hp)]
  obtain ⟨hannounced, hannounce⟩ := State.renewAnnounce_announce ((missing.foldl State.silence s).enterPhase .incomplete)
  refine ⟨hannounced, ?_⟩
  rw [hannounce, State.enterIncomplete_announce]
  simp

theorem State.markSilent_elsewhere (hi : s.phase ≠ .incomplete) (hb : s.phase ≠ .blank) (hu : s.phase ≠ .unlocked)
    (hl : s.phase ≠ .locked) :
    (s.markSilent missing).roster.announced = s.roster.announced ∧ (s.markSilent missing).roster.announce = s.roster.announce := by
  have hphase : (missing.foldl State.silence s).phase = s.phase := by
    rw [State.phase, State.foldl_silence_phaseCtl]
  have hmoved : (missing.foldl State.silence s).presenceMoved true = missing.foldl State.silence s := by
    rw [State.presenceMoved_left (by rwa [hphase]),
      State.presenceMoved_elsewhere (by rwa [hphase]) (by rwa [hphase]) (by rwa [hphase])]
  have hsame : s.markSilent missing = missing.foldl State.silence s := by
    unfold State.markSilent
    dsimp only
    rw [hmoved, ite_self]
  rw [hsame]
  exact State.foldl_silence_announce missing s

end

/-! ### Members that arrive -/

section
variable {b : State} {n : StationNo} {rec : LastRecord}

/-- An arrival begins a new run in INCOMPLETE, and in BLANK and UNLOCKED while a third member is missing. -/
theorem State.markPresent_renews (hm : b.isMember n = true) (hp : b.roster.entries[n].presence ≠ .present)
    (hmissing : ∃ m, b.isMember m = true ∧ m ≠ n ∧ m ≠ b.sn ∧ b.roster.entries[m].presence ≠ .present)
    (hphase : b.phase = .incomplete ∨ b.phase = .blank ∨ b.phase = .unlocked) :
    (b.markPresent n rec).roster.announced = 0
      ∧ (b.markPresent n rec).roster.announce
        = if b.roster.announce = none then some (b.clock + 2000000) else b.roster.announce := by
  rw [State.markPresent_arrives hm hp, State.presenceMoved_renews]
  · exact State.renewAnnounce_announce _
  · exact hphase.imp_right fun h => ⟨h, State.setEntry_missing.mpr hmissing⟩

/-- With no member missing any more the timer stops in BLANK and UNLOCKED. -/
theorem State.markPresent_stops (hm : b.isMember n = true) (hp : b.roster.entries[n].presence ≠ .present)
    (hnone : ¬ ∃ m, b.isMember m = true ∧ m ≠ n ∧ m ≠ b.sn ∧ b.roster.entries[m].presence ≠ .present)
    (hphase : b.phase = .blank ∨ b.phase = .unlocked) :
    (b.markPresent n rec).roster.announced = 0 ∧ (b.markPresent n rec).roster.announce = none := by
  have hmissing : (b.setEntry n ⟨.present, some rec⟩).memberMissing = false :=
    Bool.eq_false_iff.mpr (mt State.setEntry_missing.mp hnone)
  rw [State.markPresent_arrives hm hp, State.presenceMoved_stops (s := b.setEntry n ⟨.present, some rec⟩) hphase hmissing]
  exact ⟨rfl, rfl⟩

end

/-- Settles O20: the scheduled ROLLs by their rows, the answers from where the handling leaves the line, the runs from where it leaves the roster. -/
theorem scheduledRollsGoOut : Obligations.ScheduledRollsGoOut := by
  refine ⟨fun s hawake => ⟨fun w hw hsends => exec_assemblySend hawake hw hsends, fun due hdue => exec_reannounce hawake hdue⟩,
    fun s f rest hfront hk hu howed hl => ?answers, fun s f rest role r hfront hk hread hrole hne he hq => ?arrival,
    fun s f rest slots hline hmissing hk hattempt => ?leaves⟩
  case answers =>
    intro due answered waits calm
    have hnever : calm → ¬ (s.phase = .assembling ∨ s.phase = .incomplete) := by
      intro h
      rcases h with h | h | h | h | h | h | h <;> simp [h]
    have hrests : calm ∨ waits → (s.taken rest).restsAt f.sender := by
      rintro (h | ⟨-, hd, hmissing⟩)
      · exact .inl (not_or.mp (hnever h))
      · exact .inr ⟨hd, hmissing⟩
    refine ⟨fun role r hread hrole hne he hcalm hq => ?_, fun hread hrole hcalm => ?_, fun role r hread hrole hown hcalm => ?_⟩
    · have hline := State.rollTaken_line (b := s.taken rest) (n := f.sender) he hq (hrests (hcalm.imp_right And.left))
        fun hp => hcalm.elim (fun h => absurd hp (hnever h)) And.right
      obtain ⟨hat, hclock, hdebt⟩ := State.rollTaken_frame (b := s.taken rest) (n := f.sender) he
      obtain ⟨hanswers, hsilent⟩ := State.answered (s := s) (x := (s.taken rest).rollTaken f.sender r)
        (calls := callsForAnswer (decide (s.roster.entries[f.sender].presence = .present)) (.guard role r))
        (by rw [hline, State.taken_line]) (by rw [hline, State.taken_line]) hat hclock (hdebt.trans howed) hl
      rw [callsForAnswer_guard, decide_eq_false_iff_not] at hanswers hsilent
      exact ⟨_, guardRoll_moves hfront hk hread hrole hne, hanswers, hsilent⟩
    · have hseen := (s.taken rest).reported_markPresent f.sender .controller
      have hline : ((s.taken rest).markPresent f.sender .controller).testsAfterReport.line = (s.taken rest).line := by
        rw [State.testsAfterReport_line, hseen.line]
        exact hseen.rests (hrests hcalm) (fun _ r hr => by cases hr) rfl rfl rfl
      obtain ⟨hanswers, hsilent⟩ := State.answered (s := s)
        (x := ((s.taken rest).markPresent f.sender .controller).testsAfterReport)
        (calls := callsForAnswer (decide (s.roster.entries[f.sender].presence = .present)) .controller)
        (by rw [hline, State.taken_line]) (by rw [hline, State.taken_line]) (by simp) (by simp) (by simpa using howed) hl
      have hcalls : callsForAnswer (decide (s.roster.entries[f.sender].presence = .present)) .controller = true
          ↔ s.roster.entries[f.sender].presence ≠ .present := by simp [callsForAnswer]
      rw [hcalls] at hanswers hsilent
      exact ⟨_, controllerRoll_moves hfront hk hread hrole, hanswers, hsilent⟩
    · have hline : (s.taken rest).testsAfterReport.line = (s.taken rest).line := by
        refine State.testsAfterReport_line ((hrests hcalm).imp_right ?_)
        rintro ⟨hd, m, hm, -, hother, hp⟩
        exact ⟨hd, State.not_assembled_of_missing ((State.memberMissing_iff _).mpr ⟨m, hm, hother, hp⟩)⟩
      have hpay : (s.taken rest).testsAfterReport.payRoll = (s.taken rest).testsAfterReport :=
        State.payRoll_of_not_owed (by simpa using howed)
      refine ⟨_, exec_roll hfront hk, ?_⟩
      rw [State.handleRoll_own hread (by exact hrole) (by exact hown), hpay]
      exact ⟨fun h => h.elim, fun _ => ⟨by rw [hline, State.taken_line], by simp⟩⟩
  case arrival =>
    intro missing waits open_
    have hm : s.isMember f.sender = true := by
      rcases readRoll_guard_role hread with h | h <;> simp [State.isMember, hrole, h]
    have hroster : waits ∨ open_ →
        ((s.taken rest).rollTaken f.sender r).roster = ((s.taken rest).markPresent f.sender (.guard r)).roster := by
      have hquiet : (s.taken rest).mergesQuietly r := .inr (.inr (.inr hq))
      rintro (⟨hp, hd, hdigest, hmissing⟩ | hp)
      · exact State.rollTaken_roster (b := s.taken rest) he hquiet (.inr ⟨hd, hmissing⟩) (fun _ => hdigest)
          (by rw [State.phase]; simp_all) (by rw [State.phase]; simp_all)
      · have hother : s.phase ≠ .assembling ∧ s.phase ≠ .incomplete ∧ s.phase ≠ .locked ∧ s.phase ≠ .purgeWait := by
          rcases hp with h | h <;> simp [h]
        exact State.rollTaken_roster (b := s.taken rest) he hquiet (.inl ⟨hother.1, hother.2.1⟩)
          (fun h => (h.elim hother.1 hother.2.1).elim) hother.2.2.1 hother.2.2.2
    obtain ⟨hannounced, hannounce⟩ := State.answered_announce ((s.taken rest).rollTaken f.sender r)
      (callsForAnswer (decide (s.roster.entries[f.sender].presence = .present)) (.guard role r))
    refine ⟨_, guardRoll_moves hfront hk hread hrole hne, fun hp => ⟨fun hrun => ?_, fun hopen hnone => ?_⟩, fun hp hrun => ?_⟩
    · have hphase : s.phase = .incomplete ∨ s.phase = .blank ∨ s.phase = .unlocked := hrun.imp And.left And.left
      have hmissing : missing := hrun.elim (fun h => h.2.2.2) And.right
      rw [hannounced, hannounce, hroster (hrun.imp_right And.left)]
      exact State.markPresent_renews (b := s.taken rest) hm hp hmissing hphase
    · rw [hannounced, hannounce, hroster (.inr hopen)]
      exact State.markPresent_stops (b := s.taken rest) hm hp hnone hopen
    · rw [hannounced, hannounce, hroster hrun, State.markPresent_stays (b := s.taken rest) hp]
      exact ⟨rfl, rfl⟩
  case leaves =>
    intro leaves
    have hexec := exec_attemptComplete hline slots
    rw [State.finishAttempt_partial hmissing, State.partialAttempt_last hk hattempt] at hexec
    have hphase : (s.partialReleased f rest).phase = s.phase := by simp [State.partialReleased_eq]
    have hroster : (s.partialReleased f rest).roster = s.roster := by simp [State.partialReleased_eq]
    have hclock : (s.partialReleased f rest).clock = s.clock := by simp [State.partialReleased_eq]
    have hleft : leaves → (s.partialReleased f rest).leftBy (s.missing f slots) := by
      rintro ⟨n, hn, hne, hm, hp⟩
      have hmember : (s.partialReleased f rest).isMember = s.isMember :=
        State.isMember_congr (by simp [State.partialReleased_eq])
      exact ⟨n, hn, by rwa [State.sn, hroster], by rwa [hmember], by rwa [hroster]⟩
    obtain ⟨hannounced, hannounce⟩ := State.answered_announce ((s.partialReleased f rest).markSilent (s.missing f slots)) false
    have hno (t : State) : t.answerRoll false = t := rfl
    rw [hno] at hannounced hannounce
    refine ⟨_, hexec, fun h hp => ?_, fun h hp => ?_, fun hi hb hu hl => ?_⟩
    · have hrenews := State.markSilent_renews (hleft h) (by rwa [hphase])
      rwa [hroster, hclock, ← hannounced, ← hannounce] at hrenews
    · have hbegins := State.markSilent_leaves (hleft h) (by rwa [hphase])
      rwa [hclock, ← hannounced, ← hannounce] at hbegins
    · have hstays := State.markSilent_elsewhere (missing := s.missing f slots) (s := s.partialReleased f rest) (by rwa [hphase])
        (by rwa [hphase]) (by rwa [hphase]) (by rwa [hphase])
      rwa [hroster, ← hannounced, ← hannounce] at hstays

end Sys2Proof.Machine
end

section
/-! PROOFS. The completion of an assembly in a drive of one member (R43, R90, R91). -/

namespace Sys2Proof.Machine

section
variable {s t : State} {i j : SlotNo}

/-- The drive has this station as its one member. -/
structure State.Alone (s : State) : Prop where
  others : s.others = []
  member : s.isMember s.sn = true

theorem State.Alone.congr (h : s.Alone) (hsetup : t.setup = s.setup) (hsn : t.roster.sn = s.roster.sn) : t.Alone where
  others := (State.others_congr hsetup hsn).trans h.others
  member := by
    have hsn' : t.sn = s.sn := hsn
    rw [State.isMember_congr hsetup, hsn', h.member]

theorem State.Alone.members (h : s.Alone) : s.members = [s.sn] := by
  have hrep := List.eq_replicate_of_mem fun n hn => State.eq_sn_of_alone h.others hn
  have hmem : s.sn ∈ s.members := State.mem_members.mpr h.member
  have hone : s.members.length = 1 := by
    have hnodup : s.members.Nodup := List.Nodup.filter _ (by decide)
    rw [hrep, List.nodup_replicate] at hnodup
    have := List.length_pos_of_mem hmem
    omega
  rw [hrep, hone]
  rfl

/-- Reconciliation sees the own summary alone. -/
theorem State.Alone.slotSummaries (h : s.Alone) (i : SlotNo) : s.slotSummaries i = [(s.slotAt i).summary] := by
  have hown : s.summaries[i] = (s.slotAt i).summary := by
    fin_cases i <;> rfl
  rw [State.slotSummaries, h.members]
  simpa [State.lastGuard_own, State.ownRecord] using hown

/-- A slot that shows its own generation alone is kept (R91). -/
theorem repairOf_alone (m : Summary) : repairOf m.gen (contentAt m.gen [m]) m = .keep := by
  cases hm : m.state <;> simp [repairOf, contentAt, hm]

/-- Its own uses are the least. -/
theorem Slot.withLeastUses_alone (sl : Slot) :
    { sl with staged := none }.withLeastUses sl.gen [sl.summary] = { sl with staged := none } := by
  rcases sl with ⟨g, body, staged⟩
  cases body with
  | active c =>
    rcases c with ⟨verifier, wrapped, readOnly, uses⟩
    cases uses <;> simp [Slot.withLeastUses, Slot.summary, Slot.uses, leastUses]
  | empty => rfl
  | diverged => rfl

/-- Reconciliation takes the stale staged part of each slot and nothing else (R79, R91). -/
theorem State.Alone.reconciledSlot (h : s.Alone) (i : SlotNo) : s.reconciledSlot i = { s.slotAt i with staged := none } := by
  have hgen : largestGen [(s.slotAt i).summary] = (s.slotAt i).gen := by simp [largestGen, Slot.summary]
  have hkeep := repairOf_alone (s.slotAt i).summary
  have hsummary : (s.slotAt i).summary.gen = (s.slotAt i).gen := rfl
  rw [hsummary] at hkeep
  unfold State.reconciledSlot
  dsimp only
  rw [h.slotSummaries, hgen, hkeep]
  exact (s.slotAt i).withLeastUses_alone

theorem State.Alone.foldl_reconcileSlot (h : s.Alone) (l : List SlotNo) (j : SlotNo) :
    (l.foldl State.reconcileSlot s).slotAt j = if j ∈ l then { s.slotAt j with staged := none } else s.slotAt j := by
  induction l generalizing s with
  | nil => simp
  | cons i l ih =>
    have hset : (s.reconcileSlot i).slotAt j = if j = i then { s.slotAt j with staged := none } else s.slotAt j := by
      rw [State.slotAt, State.reconcileSlot_slots, h.reconciledSlot]
      by_cases heq : j = i
      · subst heq
        rw [if_pos rfl, Fin.getElem_fin, Vector.getElem_set_self]
      · rw [if_neg heq, Fin.getElem_fin, Vector.getElem_set_ne _ _ (fun hv => heq (Fin.ext hv.symm))]
        rfl
    rw [List.foldl_cons, ih (h.congr (by simp) (by simp)), hset]
    by_cases heq : j = i <;> by_cases hmem : j ∈ l <;> simp [heq, hmem]

theorem State.Alone.reconcile_slotAt (h : s.Alone) (j : SlotNo) : s.reconcile.slotAt j = { s.slotAt j with staged := none } := by
  have hmem : j ∈ slotNumbers := by
    fin_cases j <;> decide
  have hfold := h.foldl_reconcileSlot slotNumbers j
  rw [if_pos hmem] at hfold
  rw [State.slotAt, State.reconcile_slots]
  exact hfold

theorem State.reconcile_gateEvents (s : State) :
    s.reconcile.gate.gateDenied = s.gate.gateDenied ∧ s.reconcile.gate.stepTimeout = s.gate.stepTimeout := by
  unfold State.reconcile
  dsimp only
  split <;> simp

/-- A blank key record beside an ACTIVE slot 0 is deleted (R91). -/
theorem State.Alone.reconcile_blankKey (h : s.Alone) :
    s.reconcile.slotTable.blankKey = if (s.slotAt 0).isActive = true then none else s.slotTable.blankKey := by
  have hbody : ((slotNumbers.foldl State.reconcileSlot s).slotAt 0).isActive = (s.slotAt 0).isActive := by
    rw [h.foldl_reconcileSlot, if_pos (by decide)]
    rfl
  have deletion (v : State) : v.deleteBlankKey.slotTable.blankKey = none := by
    unfold State.deleteBlankKey
    split
    · simp
    · next hnone => simpa using hnone
  unfold State.reconcile
  dsimp only
  rw [hbody]
  split
  · exact deletion _
  · simp

end

end Sys2Proof.Machine
end

section
/-! PROOFS. The blocks at a start, and the phase it chooses (R31, R32, R134, R194). -/

namespace Sys2Proof.Machine

section
variable {s b t u : State} {i : StartInputs} {cause : StartCause} {r : SetupRecord}

/-! ### The senses and the straps -/

theorem givesSupply_of_senses (h : 4400 ≤ i.attachMv ∨ 3000 ≤ i.cellMv) : givesSupply i = true := by
  rcases h with h | h
  · simp [givesSupply, senseAttached, attachAfter, attachLevel, h]
  · have hband : bandOf i.cellMv ≠ .cutoff := by
      unfold bandOf
      (repeat' split) <;> simp_all
    simp [givesSupply, hband]

theorem strappedNumber_val (i : StartInputs) : (strappedNumber i).val
    = (if i.sn2 = true then 4 else 0) + (if i.sn1 = true then 2 else 0) + (if i.sn0 = true then 1 else 0) := by
  unfold strappedNumber
  cases i.sn2 <;> cases i.sn1 <;> cases i.sn0 <;> rfl

/-! ### The members of the locked record -/

theorem State.isMember_locked (hs : s.setup.state = .locked) (hr : s.setup.held = some r) (n : StationNo) :
    s.isMember n = r.member n := by
  have hrole : s.roleOf n = r.roleOf n := by simp [State.roleOf, State.lockedSetup, hs, hr]
  rw [State.isMember, hrole, SetupRecord.roleOf]
  cases r.member n with
  | true =>
    by_cases hk : n = r.keypad <;> simp [hk]
  | false =>
    by_cases hc : r.controller = some n <;> simp [hc]

theorem State.failureLimit_locked (hs : s.setup.state = .locked) (hr : s.setup.held = some r) :
    s.failureLimit = r.failureLimit := by
  simp [State.failureLimit, State.lockedSetup, hs, hr]

/-! ### What a ROLL shows apart from the phase -/

theorem State.rollPayload_phase (s : State) :
    byteAt s.rollPayload 8 = byte (s.phase.code * 16 + bit s.purge.suspended * 8) := rfl

/-- Before the phase a ROLL shows role, cause, tamper, stage, epoch and pair, behind it progress and digest (Table 11-11). -/
theorem State.rollPayload_besides (hsetup : t.setup = s.setup) (hsn : t.roster.sn = s.roster.sn)
    (hcause : t.roster.startCause = s.roster.startCause) (htampered : t.supervisor.tampered = s.supervisor.tampered)
    (hjournal : t.purge.journal = s.purge.journal) (hnext : t.purge.nextBlock = s.purge.nextBlock)
    (hheld : t.verifier.held = s.verifier.held) :
    t.rollPayload.take 8 = s.rollPayload.take 8 ∧ (t.rollPayload.drop 9).take 3 = (s.rollPayload.drop 9).take 3 := by
  have hstart (v : State) : v.rollPayload.take 8
      = byte ((v.roleOf v.sn).code * 64 + v.roster.startCause.code * 16 + bit v.supervisor.tampered * 8
          + stageCode v.progressStage) :: bytes2 v.rollEpoch ++ bytes4 v.verifier.held.serial
        ++ [byte v.verifier.held.count] := rfl
  have hbehind (v : State) : (v.rollPayload.drop 9).take 3 = byte v.progressPercent :: bytes2 v.digest.toNat := rfl
  rw [hstart, hstart, hbehind, hbehind]
  simp only [State.roleOf, State.lockedSetup, State.rollEpoch, State.digest, State.progressStage, State.progressPercent,
    State.blocks, State.epoch, State.sn, hsetup, hsn, hcause, htampered, hjournal, hnext, hheld, and_self]

/-! ### The gate that has not settled -/

/-- A change of owner during the settle denies no command, and the settle goes on. -/
theorem State.enterPhase_settling (h : s.gate.handOver ≠ .steady) (p : Phase) :
    (s.enterPhase p).gate.gateDenied = s.gate.gateDenied ∧ (s.enterPhase p).gate.handOver = s.gate.handOver := by
  have hsettles (v : State) (hv : v.gate.handOver ≠ .steady) :
      v.recomputeOwner.gate.gateDenied = v.gate.gateDenied ∧ v.recomputeOwner.gate.handOver = v.gate.handOver := by
    unfold State.recomputeOwner
    dsimp only
    rw [if_neg hv]
    split <;> simp
  have hgate : (s.enterPhase p).gate = (((s.setPhaseCtl ⟨s.carriedOn p, grantFor (s.carriedOn p), none⟩).setGate
      { s.gate with grant := grantFor (s.carriedOn p) }).recomputeOwner).gate := by
    simp [State.enterPhase, State.movePhase]
  rw [hgate]
  exact hsettles _ h

/-! ### The blocks as they start -/

/-- What every start begins with, whatever the straps and the store hold. -/
structure State.Fresh (b : State) : Prop where
  phase : b.phase = .uncommissioned
  tx : b.line.tx = []
  rx : b.line.rx = []
  onLine : b.line.onLine = none
  altUrgent : b.line.altUrgent = false
  altOther : b.line.altOther = false
  nobody : b.NobodyKnown
  rests : b.ScannerRests
  rollOwed : b.roster.rollOwed = false
  suspended : b.purge.suspended = false
  settling : b.gate.handOver ≠ .steady

theorem State.startBlocks_fresh (s : State) (i : StartInputs) (cause : StartCause) : (s.startBlocks i cause).Fresh :=
  ⟨rfl, rfl, rfl, rfl, rfl, rfl, rfl, ⟨rfl, rfl⟩, rfl, rfl, nofun⟩

/-- What the choice of the phase keeps of the blocks as they start. -/
structure State.Started (b t : State) : Prop where
  lineState : t.line.state = b.line.state
  onLine : t.line.onLine = b.line.onLine
  rx : t.line.rx = b.line.rx
  txDropped : t.line.txDropped = b.line.txDropped
  rollOwed : t.roster.rollOwed = b.roster.rollOwed
  attempt : t.verifier.attempt = b.verifier.attempt
  unlockedKey : t.slotTable.unlockedKey = b.slotTable.unlockedKey
  keyPort : t.keyPort = b.keyPort
  gateDenied : t.gate.gateDenied = b.gate.gateDenied
  stepTimeout : t.gate.stepTimeout = b.gate.stepTimeout
  tampered : t.supervisor.tampered = b.supervisor.tampered
  held : b.purge.journal.isOpen = false → t.verifier.held = b.verifier.held ∧ t.gate.ranges = b.gate.ranges
  slots : b.purge.journal.isOpen = false → t.phase ≠ .locked → t.phase ≠ .blank →
    t.slotTable.slots = b.slotTable.slots ∧ t.slotTable.blankKey = b.slotTable.blankKey
      ∧ t.slotTable.slotDiverged = b.slotTable.slotDiverged
  engine : t.phase ≠ .purging → t.purge.journal = b.purge.journal ∧ t.purge.badBlocks = b.purge.badBlocks

/-! ### UNCOMMISSIONED and HALTED -/

theorem State.enterUncommissioned_line (b : State) : (b.enterPhase .uncommissioned).line = b.line :=
  State.enterPhase_line _ _ (by simp [State.carriedOn])

theorem State.Fresh.started_uncommissioned (h : b.Fresh) : b.Started (b.enterPhase .uncommissioned) where
  lineState := by simp
  onLine := by simp
  rx := by rw [b.enterUncommissioned_line]
  txDropped := by rw [b.enterUncommissioned_line]
  rollOwed := by simp
  attempt := by simp
  unlockedKey := by simp
  keyPort := by simp
  gateDenied := (State.enterPhase_settling h.settling _).1
  stepTimeout := by simp
  tampered := by simp
  held := by simp
  slots := by simp
  engine := by simp

/-- A first ROLL joins the empty queue. -/
theorem State.offerRoll_first (htx : t.line.tx = []) (halt : t.line.altOther = false) :
    t.offerRoll.line = { t.line with altOther := true, tx := [⟨.roll, false, 0, t.offerRoll.rollPayload, true, 0⟩] } := by
  rw [State.offerRoll_line htx, State.rollPayload_offerRoll, State.rollFrame, halt]
  rfl

/-- The halted station before its ROLL. -/
def State.haltedAtStart (b : State) : State :=
  (b.setSupervisor { b.supervisor with haltMark := true }).enterPhase .halted

theorem State.startHalted_eq (b : State) : b.startHalted = b.haltedAtStart.offerRoll := rfl

theorem State.haltedAtStart_line (b : State) : b.haltedAtStart.line = b.line :=
  State.enterPhase_line _ _ (by simp [State.carriedOn])

theorem State.Fresh.startHalted_line (h : b.Fresh) :
    b.startHalted.line
      = { b.line with altOther := true, tx := [⟨.roll, false, 0, b.startHalted.rollPayload, true, 0⟩] } := by
  rw [State.startHalted_eq, State.offerRoll_first (by rw [b.haltedAtStart_line, h.tx]) (by rw [b.haltedAtStart_line, h.altOther]),
    b.haltedAtStart_line]

theorem State.Fresh.started_halted (h : b.Fresh) : b.Started b.startHalted where
  lineState := by simp
  onLine := by simp
  rx := by rw [h.startHalted_line]
  txDropped := by rw [h.startHalted_line]
  rollOwed := by simp
  attempt := by simp
  unlockedKey := by simp
  keyPort := by simp
  gateDenied := by
    rw [State.startHalted_eq, State.haltedAtStart]
    simpa using (State.enterPhase_settling (s := b.setSupervisor { b.supervisor with haltMark := true }) h.settling .halted).1
  stepTimeout := by simp
  tampered := by simp
  held := by simp
  slots := by simp
  engine := by simp

theorem State.startHalted_halts (b : State) : b.startHalted.phase = .halted ∧ b.startHalted.supervisor.haltMark = true := by
  simp [State.startHalted, State.carriedOn]

end

end Sys2Proof.Machine
end

section
/-! PROOFS. The purge that a start resumes or opens, and the assembly that it begins (R31, R38, R42, R114, R134). -/

namespace Sys2Proof.Machine

section
variable {s b t u : State} {i : StartInputs} {cause : StartCause} {r : SetupRecord}

/-! ### A purge resumed -/

theorem State.eraseAdvance_reoffered (s : State) : s.eraseAdvance.purge.reoffered = s.purge.reoffered := by
  have hsuspends (v : State) : v.suspendOrResume.purge.reoffered = v.purge.reoffered := by
    unfold State.suspendOrResume State.checkpoint
    (repeat' split) <;> simp
  have hends (v : State) (early : Bool) : (v.endErase early).purge.reoffered = v.purge.reoffered := by
    simp [State.endErase]
  unfold State.eraseAdvance
  dsimp only
  (repeat' split) <;> simp [hsuspends, hends]

/-- The stage that begins leaves the roster, the tamper state and the run of offers. -/
theorem State.beginStage_keeps (s : State) :
    s.beginStage.roster = s.roster ∧ s.beginStage.supervisor.tampered = s.supervisor.tampered
      ∧ s.beginStage.purge.reoffered = s.purge.reoffered := by
  unfold State.beginStage
  split
  · simp [State.beginDestroy, State.writePlanHead, destroyPlan]
  · simp [State.beginErase, State.eraseAdvance_reoffered]
  · simp [State.beginRekey, State.writePlanHead]
  · simp [State.beginClose, State.writePlanHead, closePlan]
  · simp

/-- The resumed purge before its ROLL. -/
def State.resumed (b : State) : State := (b.enterPhase .purging).beginOffers.beginStage

theorem State.resumePurge_eq (b : State) : b.resumePurge = b.resumed.offerRoll := rfl

theorem State.resumed_line (b : State) : b.resumed.line = b.line := by
  simp [State.resumed, State.enterPurging_line]

theorem State.Fresh.resumePurge_line (h : b.Fresh) :
    b.resumePurge.line
      = { b.line with altOther := true, tx := [⟨.roll, false, 0, b.resumePurge.rollPayload, true, 0⟩] } := by
  rw [State.resumePurge_eq, State.offerRoll_first (by rw [b.resumed_line, h.tx]) (by rw [b.resumed_line, h.altOther]),
    b.resumed_line]

theorem State.resumePurge_phase (b : State) : b.resumePurge.phase = .purging := by
  simp [State.resumePurge, State.carriedOn]

theorem State.Fresh.started_resumed (h : b.Fresh) (hopen : b.purge.journal.isOpen = true) : b.Started b.resumePurge where
  lineState := by simp
  onLine := by simp
  rx := by rw [h.resumePurge_line]
  txDropped := by rw [h.resumePurge_line]
  rollOwed := by simp [State.resumePurge, State.beginStage_keeps]
  attempt := by simp
  unlockedKey := by simp
  keyPort := by simp
  gateDenied := by simp [State.resumePurge, (State.enterPhase_settling h.settling _).1]
  stepTimeout := by simp
  tampered := by simp [State.resumePurge, State.beginStage_keeps]
  held := by simp [hopen]
  slots := by simp [hopen]
  engine := fun hp => absurd b.resumePurge_phase hp

/-- The engine has the channel, and a run of offers begins (R134). -/
theorem State.resumePurge_begins (b : State) (hopen : b.purge.journal.isOpen = true) :
    b.resumePurge.gate.owner = .guard ∧ b.resumePurge.purge.heard = Vector.replicate 8 false
      ∧ b.resumePurge.purge.reoffered = 0
      ∧ b.resumePurge.purge.reoffer = if b.others = [] then none else some (b.clock + 2000000) := by
  have hothers : (b.enterPhase .purging).others = b.others := State.others_congr (by simp) (by simp)
  simp [State.resumePurge, State.beginStage_keeps, hopen, State.beginOffers, hothers, announcePeriod, seconds]

/-! ### A purge opened at the failure limit -/

theorem State.Fresh.leavePhase (h : b.Fresh) : b.leavePhase = b := by
  simp only [State.leavePhase, h.phase]

/-- A first PURGE joins the empty queue. -/
theorem State.offerPurge_first (htx : t.line.tx = []) (hrx : t.line.rx = []) (hon : t.line.onLine = none)
    (halt : t.line.altUrgent = false) :
    t.offerPurge.line = { t.line with altUrgent := true, tx := [⟨.purge, false, 0, t.purgePayload, true, 0⟩] } := by
  have hout : t.ownOutstanding .purge = false := by simp [State.ownOutstanding, htx, hrx]
  rw [State.offerPurge, if_neg (by simp [hout]), State.offer_taken (by simp [htx]),
    State.takeOffer_urgent (head := []) (ahead := []) (behind := []) (by rfl) htx (by simp [hon]) (by simp) (by simp)]
  simp [State.formFrame, Kind.urgent, halt, State.purgePayload]

theorem State.Fresh.openPurge_line (h : b.Fresh) (c : PurgeCause) (target : Nat) :
    (b.openPurge c target).line
      = { b.line with altUrgent := true, tx := [⟨.purge, false, 0, byte c.code :: bytes2 target, true, 0⟩] } := by
  have hline : ((b.journalOpened c target).enterPhase .purging).beginOffers.line = b.line := by
    simp [State.enterPurging_line]
  have hpayload : ((b.journalOpened c target).enterPhase .purging).beginOffers.purgePayload = byte c.code :: bytes2 target := by
    simp [State.purgePayload, State.beginOffers, State.journalOpened, Journal.opened]
  rw [State.openPurge_eq, h.leavePhase, State.offerPurge_first (by rw [hline, h.tx]) (by rw [hline, h.rx])
    (by rw [hline, h.onLine]) (by rw [hline, h.altUrgent]), hline, hpayload]

/-- The PURGE goes before the ROLL (R116, Table 11-6). -/
theorem State.Fresh.limit_line (h : b.Fresh) (c : PurgeCause) (target : Nat) :
    (b.openPurge c target).offerRoll.line
      = { b.line with
          altUrgent := true, altOther := true
          tx := [⟨.purge, false, 0, byte c.code :: bytes2 target, true, 0⟩,
            ⟨.roll, false, 0, (b.openPurge c target).offerRoll.rollPayload, true, 0⟩] } := by
  rw [State.offerRoll_line_free, h.openPurge_line, State.rollPayload_offerRoll, State.rollFrame, h.openPurge_line, h.altOther]
  · rfl
  · simp [h.openPurge_line]
  · simp [h.openPurge_line]

theorem State.Fresh.started_limit (h : b.Fresh) (c : PurgeCause) (target : Nat) :
    b.Started (b.openPurge c target).offerRoll where
  lineState := by simp
  onLine := by simp
  rx := by rw [h.limit_line]
  txDropped := by rw [h.limit_line]
  rollOwed := by simp
  attempt := by simp [State.openPurge_left, h.leavePhase]
  unlockedKey := by simp [State.openPurge_left, h.leavePhase]
  keyPort := by simp [State.openPurge_left, h.leavePhase]
  gateDenied := by
    simp [State.openPurge_eq, h.leavePhase, (State.enterPhase_settling (s := b.journalOpened c target) (by simpa using h.settling) _).1]
  stepTimeout := by simp
  tampered := by simp
  held := by simp [State.openPurge_left, h.leavePhase]
  slots := by simp
  engine := by simp

end

end Sys2Proof.Machine
end

section
/-! PROOFS. The assembly that a start begins, and the starts (R31, R38, R42, R170, R193). -/

namespace Sys2Proof.Machine

section
variable {s b t u : State} {i : StartInputs} {cause : StartCause} {r : SetupRecord}

/-- The station in ASSEMBLING with its first ROLL queued (R38). -/
def State.assemblyBegun (b : State) : State := (b.enterPhase .assembling).offerRoll

@[simp] theorem State.assemblyBegun_frame (b : State) :
    b.assemblyBegun.clock = b.clock ∧ b.assemblyBegun.roster.sn = b.roster.sn
    ∧ b.assemblyBegun.roster.startCause = b.roster.startCause ∧ b.assemblyBegun.roster.entries = b.roster.entries
    ∧ b.assemblyBegun.roster.rollOwed = b.roster.rollOwed ∧ b.assemblyBegun.verifier = b.verifier
    ∧ b.assemblyBegun.slotTable = b.slotTable ∧ b.assemblyBegun.keyPort = b.keyPort ∧ b.assemblyBegun.purge = b.purge
    ∧ b.assemblyBegun.gate.ranges = b.gate.ranges ∧ b.assemblyBegun.gate.stepTimeout = b.gate.stepTimeout
    ∧ b.assemblyBegun.supervisor = b.supervisor ∧ b.assemblyBegun.setup = b.setup := by
  simp [State.assemblyBegun]

theorem State.assemblyBegun_phaseCtl (b : State) : b.assemblyBegun.phaseCtl = ⟨.assembling, .pub, none⟩ := by
  simp [State.assemblyBegun, State.carriedOn, grantFor]

theorem State.assemblyBegun_window (b : State) : b.assemblyBegun.roster.window = some ⟨b.clock, 0⟩ := by
  simp [State.assemblyBegun, State.enterPhase, State.movePhase, State.carriedOn]

theorem State.Fresh.assemblyBegun_line (h : b.Fresh) :
    b.assemblyBegun.line
      = { b.line with altOther := true, tx := [⟨.roll, false, 0, b.assemblyBegun.rollPayload, true, 0⟩] } := by
  have hline : (b.enterPhase .assembling).line = b.line := State.enterPhase_line _ _ (by simp [State.carriedOn])
  rw [State.assemblyBegun, State.offerRoll_first (by rw [hline, h.tx]) (by rw [hline, h.altOther]), hline]

theorem State.Fresh.assemblyBegun_rests (h : b.Fresh) : b.assemblyBegun.ScannerRests :=
  (h.rests.enterPhase .assembling).congr (by simp [State.assemblyBegun])

theorem State.Fresh.assemblyBegun_settling (h : b.Fresh) :
    b.assemblyBegun.gate.gateDenied = b.gate.gateDenied ∧ b.assemblyBegun.gate.handOver = b.gate.handOver := by
  simpa [State.assemblyBegun] using State.enterPhase_settling h.settling .assembling

theorem State.Fresh.assemblyBegun_nobodyKnown (h : b.Fresh) : b.assemblyBegun.NobodyKnown := by
  simpa [State.NobodyKnown] using h.nobody

theorem State.Fresh.started_assembling (h : b.Fresh) : b.Started b.assemblyBegun where
  lineState := by rw [h.assemblyBegun_line]
  onLine := by rw [h.assemblyBegun_line]
  rx := by rw [h.assemblyBegun_line]
  txDropped := by rw [h.assemblyBegun_line]
  rollOwed := by simp
  attempt := by simp
  unlockedKey := by simp
  keyPort := by simp
  gateDenied := h.assemblyBegun_settling.1
  stepTimeout := by simp
  tampered := by simp
  held := by simp
  slots := by simp
  engine := by simp

/-! ### With other members -/

theorem State.beginAssembly_eq (b : State) : (b.enterPhase .assembling).beginAssembly = b.assemblyBegun.completionTest := rfl

theorem State.Fresh.assembly_waits (h : b.Fresh) (ho : b.others ≠ []) :
    (b.enterPhase .assembling).beginAssembly = b.assemblyBegun := by
  have hothers : b.assemblyBegun.others = b.others := State.others_congr (by simp) (by simp)
  exact State.completionTest_waits h.assemblyBegun_nobodyKnown.no_digestConflict
    (h.assemblyBegun_nobodyKnown.not_assembled (by rwa [hothers]))

/-! ### Alone -/

/-- The one member, its assembly complete and its slots reconciled, before it leaves ASSEMBLING. -/
def State.settledAlone (b : State) : State := b.assemblyBegun.stopAssemblyTimers.reconcile.restartHold

@[simp] theorem State.settledAlone_frame (b : State) :
    b.settledAlone.clock = b.clock ∧ b.settledAlone.line = b.assemblyBegun.line ∧ b.settledAlone.roster.sn = b.roster.sn
    ∧ b.settledAlone.roster.startCause = b.roster.startCause ∧ b.settledAlone.roster.rollOwed = b.roster.rollOwed
    ∧ b.settledAlone.verifier.held = b.verifier.held ∧ b.settledAlone.verifier.attempt = b.verifier.attempt
    ∧ b.settledAlone.slotTable.unlockedKey = b.slotTable.unlockedKey ∧ b.settledAlone.keyPort = b.keyPort
    ∧ b.settledAlone.purge.journal = b.purge.journal ∧ b.settledAlone.purge.badBlocks = b.purge.badBlocks
    ∧ b.settledAlone.purge.nextBlock = b.purge.nextBlock ∧ b.settledAlone.gate.ranges = b.gate.ranges
    ∧ b.settledAlone.gate.handOver = b.assemblyBegun.gate.handOver
    ∧ b.settledAlone.supervisor = b.supervisor ∧ b.settledAlone.setup = b.setup := by
  simp [State.settledAlone, State.stopAssemblyTimers]

/-- The phase in which the assembly of the one member ends (R43, step 5). -/
def State.endsIn (b : State) : Phase := if (b.slotAt 0).body = .empty then .blank else .locked

theorem State.assembly_completes (hj : b.purge.journal.isOpen = false) (ho : b.others = []) :
    (b.enterPhase .assembling).beginAssembly
      = if b.failureLimit ≤ b.verifier.held.count then b.assemblyBegun.stopAssemblyTimers.openOwn .limit
        else b.settledAlone.enterPhase b.settledAlone.endsIn := by
  have hothers : b.assemblyBegun.others = [] := (State.others_congr (by simp) (by simp)).trans ho
  have hagree : b.assemblyBegun.othersAgree := by
    intro n hm hne
    exact absurd (State.eq_sn_of_alone hothers (State.mem_members.mpr hm)) hne
  have hlimit : b.assemblyBegun.stopAssemblyTimers.failureLimit = b.failureLimit :=
    State.failureLimit_congr (by simp [State.stopAssemblyTimers])
  have hcount : b.assemblyBegun.stopAssemblyTimers.verifier = b.verifier := by simp [State.stopAssemblyTimers]
  rw [State.beginAssembly_eq, State.completionTest_completes (.inl (by simp [State.assemblyBegun_phaseCtl])) (by simpa using hj) hagree,
    State.completeAssembly, State.mergeReported_alone hothers]
  dsimp only
  rw [hlimit, hcount]
  rfl

theorem State.assembly_settles (hj : b.purge.journal.isOpen = false) (ho : b.others = [])
    (hless : b.verifier.held.count < b.failureLimit) :
    (b.enterPhase .assembling).beginAssembly = b.settledAlone.enterPhase b.settledAlone.endsIn := by
  rw [State.assembly_completes hj ho, if_neg (by omega)]

/-- At the failure limit and the last epoch nothing opens (log entry 56). -/
theorem State.openOwn_lastEpoch (h : t.epoch = lastEpoch) (c : PurgeCause) : t.openOwn c = t := by
  simp [State.openOwn, State.canOpenOwn, h]

theorem State.Fresh.settled_line (h : b.Fresh) (p : Phase) : (b.settledAlone.enterPhase p).line = b.assemblyBegun.line := by
  have hrests : b.settledAlone.ScannerRests :=
    h.assemblyBegun_rests.congr (by simp [State.settledAlone, State.stopAssemblyTimers])
  rw [hrests.enterPhase_line]
  simp

theorem State.Fresh.started_settled (h : b.Fresh) (p : Phase) (hp : p = .blank ∨ p = .locked)
    (hmissing : b.settledAlone.memberMissing = false) : b.Started (b.settledAlone.enterPhase p) where
  lineState := by rw [h.settled_line, h.assemblyBegun_line]
  onLine := by rw [h.settled_line, h.assemblyBegun_line]
  rx := by rw [h.settled_line, h.assemblyBegun_line]
  txDropped := by rw [h.settled_line, h.assemblyBegun_line]
  rollOwed := by simp
  attempt := by simp
  unlockedKey := by simp
  keyPort := by simp
  gateDenied := by
    rw [(State.enterPhase_settling (by simpa [h.assemblyBegun_settling] using h.settling) _).1, ← h.assemblyBegun_settling.1]
    simp [State.settledAlone, State.stopAssemblyTimers, State.reconcile_gateEvents]
  stepTimeout := by simp [State.settledAlone, State.stopAssemblyTimers, State.reconcile_gateEvents]
  tampered := by simp
  held := by simp
  slots := fun _ hl hb => by
    rcases hp with rfl | rfl
    · exact absurd (by simp [State.carriedOn]) hb
    · exact absurd (by simp [State.carriedOn, hmissing]) hl
  engine := by simp

end

end Sys2Proof.Machine
end

section
/-! PROOFS. Where a start leaves the station, and the starts themselves (R31, R170, R193). -/

namespace Sys2Proof.Machine

section
variable {s b t u : State} {i : StartInputs} {cause : StartCause} {r : SetupRecord}

/-! ### The lone member, settled -/

theorem State.settledAlone_present (ho : b.others = []) : b.settledAlone.memberMissing = false := by
  have hothers : b.settledAlone.others = [] := (State.others_congr (by simp) (by simp)).trans ho
  rw [← Bool.not_eq_true, State.memberMissing_iff]
  rintro ⟨n, hm, hne, -⟩
  exact hne (State.eq_sn_of_alone hothers (State.mem_members.mpr hm))

/-- The stale staged parts are gone, and the hold is that of the held count (R43, R79). -/
theorem State.Alone.settled (h : b.Alone) :
    (∀ j, b.settledAlone.slotAt j = { b.slotAt j with staged := none })
      ∧ b.settledAlone.slotTable.blankKey = (if (b.slotAt 0).isActive = true then none else b.slotTable.blankKey)
      ∧ b.settledAlone.verifier.hold = (holdDuration b.verifier.held.count).map (b.clock + ·) := by
  have halone : b.assemblyBegun.stopAssemblyTimers.Alone :=
    h.congr (by simp [State.stopAssemblyTimers]) (by simp [State.stopAssemblyTimers])
  have hslots (j : SlotNo) : b.assemblyBegun.stopAssemblyTimers.slotAt j = b.slotAt j := by
    simp [State.slotAt, State.stopAssemblyTimers]
  have hreconciled (j : SlotNo) := halone.reconcile_slotAt j
  have hkey := halone.reconcile_blankKey
  simp only [hslots] at hreconciled hkey
  have hkept : b.settledAlone.slotTable = b.assemblyBegun.stopAssemblyTimers.reconcile.slotTable := by
    simp [State.settledAlone]
  refine ⟨fun j => ?_, ?_, ?_⟩
  · rw [State.slotAt, hkept]
    exact hreconciled j
  · rw [hkept, hkey]
    simp [State.stopAssemblyTimers]
  · simp [State.settledAlone, State.restartHold, State.stopAssemblyTimers]

theorem State.Alone.endsIn (h : b.Alone) : b.settledAlone.endsIn = b.endsIn := by
  unfold State.endsIn
  rw [h.settled.1]

theorem State.endsIn_cases (b : State) : b.endsIn = .blank ∨ b.endsIn = .locked := by
  unfold State.endsIn
  split <;> simp

theorem State.settled_carriedOn (ho : b.others = []) (p : Phase) : b.settledAlone.carriedOn p = p := by
  simp [State.carriedOn, State.settledAlone_present ho]

/-! ### The choice of the phase keeps the blocks -/

theorem State.Fresh.started_alone (h : b.Fresh) (hj : b.purge.journal.isOpen = false) (ho : b.others = [])
    (hlast : b.failureLimit ≤ b.verifier.held.count → b.epoch = lastEpoch) :
    b.Started (b.enterPhase .assembling).beginAssembly := by
  rw [State.assembly_completes hj ho]
  split
  · next hlimit =>
    have hepoch : b.assemblyBegun.stopAssemblyTimers.epoch = b.epoch := by
      simp [State.epoch, State.stopAssemblyTimers]
    rw [State.openOwn_lastEpoch (hepoch.trans (hlast hlimit))]
    exact { h.started_assembling with }
  · exact h.started_settled _ (State.endsIn_cases _) (State.settledAlone_present ho)

theorem State.Fresh.started (h : b.Fresh) (cause : StartCause) : b.Started (b.choosePhase cause) := by
  unfold State.choosePhase
  split_ifs with hmark hstate hconflict hopen hlimit
  · exact h.started_halted
  · exact h.started_uncommissioned
  · exact h.started_halted
  · exact h.started_resumed hopen
  · exact h.started_limit _ _
  · by_cases ho : b.others = []
    · exact h.started_alone (by simpa using hopen) ho fun hle => by simpa [hle] using hlimit
    · rw [h.assembly_waits ho]
      exact h.started_assembling

/-! ### The starts -/

theorem State.startBlocks_started (s : State) (i : StartInputs) (cause : StartCause) :
    (s.startBlocks i cause).Started (s.start i cause) :=
  (s.startBlocks_fresh i cause).started cause

theorem State.start_owes_nothing (s : State) (i : StartInputs) (cause : StartCause) :
    (s.start i cause).roster.rollOwed = false :=
  (s.startBlocks_started i cause).rollOwed.trans (s.startBlocks_fresh i cause).rollOwed

theorem exec_powerUp (hs : s.supervisor.supplyValid = false) (hi : 4400 ≤ i.attachMv ∨ 3000 ≤ i.cellMv) :
    exec (.powerUp i) s = .next (s.start i .power) := by
  have hguard : (!s.supervisor.supplyValid && givesSupply i) = true := by simp [hs, givesSupply_of_senses hi]
  change execPowerUp i s = _
  rw [execPowerUp, if_pos hguard, State.done, State.payRoll_of_not_owed (s.start_owes_nothing i .power)]

theorem exec_wake {w : WakeCause} (hs : s.supervisor.supplyValid = true) (hd : s.supervisor.dormant = true)
    (hw : ∀ down, w = .key down → i.kpd = true) (hi : 4400 ≤ i.attachMv ∨ 3000 ≤ i.cellMv) :
    exec (.wake w i) s = .next ((s.start i .wake).settleWakingKey w) := by
  have hwakes : wakesStation w i = true := by
    cases w with
    | key down => exact hw down rfl
    | line => rfl
    | attach => rfl
    | tamper => rfl
  have hpays : ((s.start i .wake).settleWakingKey w).payRoll = (s.start i .wake).settleWakingKey w :=
    State.payRoll_of_not_owed (by simpa using s.start_owes_nothing i .wake)
  change execWake w i s = _
  rw [execWake, if_pos (by simp [hs, hd, hwakes]), if_pos (givesSupply_of_senses hi), State.done, hpays]

/-- A key wakes the keypad station only (R193). -/
theorem exec_wake_other (hk : i.kpd = false) (down : List Key) : exec (.wake (.key down) i) s = .next s := by
  change execWake (.key down) i s = _
  rw [execWake, if_neg (by simp [wakesStation, hk])]

/-- A waking key changes the scanner alone (R170). -/
theorem State.settleWakingKey_eq (t : State) (w : WakeCause) : ∃ x, t.settleWakingKey w = t.setScanner x := by
  unfold State.settleWakingKey
  split
  · split
    · exact ⟨_, rfl⟩
    · exact ⟨t.scanner, rfl⟩
  all_goals exact ⟨t.scanner, rfl⟩

theorem State.settleWakingKey_settles (hk : t.roster.kpd = true) (key : Key) :
    (t.settleWakingKey (.key [key])).scanner.key = .settling key (t.clock + 20000) := by
  simp [State.settleWakingKey, hk, wakingKeys, keyDebounce, ms]

/-! ### Which phase a start chooses (Table 2-1) -/

/-- No halt mark decides the start. -/
def State.unmarked (b : State) (cause : StartCause) : Prop := ¬ (cause = .wake ∧ b.supervisor.haltMark = true)

theorem State.choosePhase_marked (h : b.supervisor.haltMark = true) : b.choosePhase .wake = b.startHalted := by
  simp [State.choosePhase, h]

theorem State.choosePhase_unlocked (h : b.unmarked cause) (hs : b.setup.state ≠ .locked) :
    b.choosePhase cause = b.enterPhase .uncommissioned := by
  rw [State.choosePhase, if_neg h, if_pos hs]

/-- With a locked record the straps, the journal, the failure limit and the members decide in turn. -/
theorem State.choosePhase_locked (h : b.unmarked cause) (hs : b.setup.state = .locked) (hr : b.setup.held = some r) :
    b.choosePhase cause
      = if strapConflict b.roster.sn b.roster.kpd r = true then b.startHalted
        else if b.purge.journal.isOpen = true then b.resumePurge
        else if r.failureLimit ≤ b.verifier.held.count ∧ b.epoch ≠ 65535 then (b.openPurge .limit (b.epoch + 1)).offerRoll
        else (b.enterPhase .assembling).beginAssembly := by
  have hconflict : b.strapsConflict = strapConflict b.roster.sn b.roster.kpd r := by simp [State.strapsConflict, hr]
  rw [State.choosePhase, if_neg h, if_neg (not_not.mpr hs), hconflict, State.failureLimit_locked hs hr]
  rfl

theorem State.mem_others_locked (hs : b.setup.state = .locked) (hr : b.setup.held = some r) :
    b.others ≠ [] ↔ ∃ n : StationNo, n ≠ b.roster.sn ∧ r.members.getLsbD n.val = true := by
  have hmem (n : StationNo) : n ∈ b.others ↔ n ≠ b.roster.sn ∧ r.members.getLsbD n.val = true := by
    rw [State.mem_others, State.mem_members, State.isMember_locked hs hr, and_comm]
    rfl
  simp only [← hmem]
  exact ⟨List.exists_mem_of_ne_nil _, fun ⟨_, hn⟩ => List.ne_nil_of_mem hn⟩

theorem State.alone_locked (hs : b.setup.state = .locked) (hr : b.setup.held = some r)
    (hc : strapConflict b.roster.sn b.roster.kpd r = false)
    (hn : ∀ n : StationNo, r.members.getLsbD n.val = true → n = b.roster.sn) : b.Alone where
  others := by
    by_contra hne
    obtain ⟨n, hne, hm⟩ := (State.mem_others_locked hs hr).mp hne
    exact hne (hn n hm)
  member := by
    rw [State.isMember_locked hs hr]
    simp only [strapConflict, Bool.or_eq_false_iff] at hc
    simpa using hc.1.1

end

end Sys2Proof.Machine
end

section
/-! PROOFS. What a start reads and where it goes (Chapter 9, R31). -/

namespace Sys2Proof.Machine

section
variable {s b : State} {i : StartInputs} {cause : StartCause} {r : SetupRecord}

theorem State.Alone.settled_phaseCtl (h : b.Alone) :
    (b.settledAlone.enterPhase b.endsIn).phase = (if (b.slotAt 0).body = .empty then .blank else .locked)
      ∧ (b.settledAlone.enterPhase b.endsIn).phaseCtl.grant = if (b.slotAt 0).body = .empty then .none else .pub := by
  rw [State.phase, State.enterPhase_phaseCtl, State.settled_carriedOn h.others, State.endsIn]
  split <;> exact ⟨rfl, rfl⟩

theorem State.Alone.settled_timers (h : b.Alone) :
    (b.settledAlone.enterPhase b.endsIn).roster.window = none
      ∧ (b.settledAlone.enterPhase b.endsIn).roster.announce = none := by
  have hcarried := State.settled_carriedOn h.others b.endsIn
  have hends : b.endsIn ≠ .assembling ∧ b.endsIn ≠ .incomplete ∧ b.endsIn ≠ .purgeWait := by
    rcases b.endsIn_cases with hp | hp <;> simp [hp]
  obtain ⟨ha, hi, hw⟩ := hends
  exact ⟨State.enterPhase_window _ _ ha,
    (State.enterPhase_announce (by rwa [hcarried]) (by rwa [hcarried]) (State.settledAlone_present h.others)).1⟩

/-- The ROLL of a lone start shows ASSEMBLING, and else what the station then shows, but for the slots (log entry 22). -/
theorem State.Fresh.settled_roll (h : b.Fresh) (p : Phase) :
    ∃ payload, (b.settledAlone.enterPhase p).line.tx = [⟨.roll, false, 0, payload, true, 0⟩]
      ∧ payload.take 8 = (b.settledAlone.enterPhase p).rollPayload.take 8
      ∧ byteAt payload 8 = byte (Phase.assembling.code * 16)
      ∧ (payload.drop 9).take 3 = ((b.settledAlone.enterPhase p).rollPayload.drop 9).take 3 := by
  obtain ⟨hbefore, hbehind⟩ := State.rollPayload_besides (s := b.settledAlone.enterPhase p) (t := b.assemblyBegun)
    (by simp) (by simp) (by simp) (by simp) (by simp) (by simp) (by simp)
  refine ⟨b.assemblyBegun.rollPayload, by rw [h.settled_line, h.assemblyBegun_line], hbefore, ?_, hbehind⟩
  have hphase : b.assemblyBegun.phase = .assembling := by simp [State.assemblyBegun_phaseCtl]
  have hpurge : b.assemblyBegun.purge = b.purge := by simp
  rw [State.rollPayload_phase, hphase, hpurge, h.suspended]
  rfl

/-! ### What the start read, and the phase it chose -/

/-- The blocks before the phase is chosen, part by part. -/
theorem State.startBlocks_reads (s : State) (i : StartInputs) (cause : StartCause) :
    (s.startBlocks i cause).line = { State.reset.line with settle := some (s.clock + 20000), lastDominant := s.clock }
      ∧ (s.startBlocks i cause).roster
        = { State.reset.roster with sn := strappedNumber i, kpd := i.kpd, startCause := cause }
      ∧ (s.startBlocks i cause).verifier = ⟨s.store.stored.attempt, none, none⟩
      ∧ (s.startBlocks i cause).slotTable
        = { State.reset.slotTable with
            slots := s.store.stored.slots, salt := s.store.stored.salt, blankKey := s.store.stored.blankKey }
      ∧ (s.startBlocks i cause).keyPort = State.reset.keyPort
      ∧ (s.startBlocks i cause).purge
        = { State.reset.purge with
            journal := s.store.stored.journal, badBlocks := s.store.stored.badBlocks
            nextBlock := s.store.stored.journal.nextBlock }
      ∧ (s.startBlocks i cause).gate
        = { State.reset.gate with ranges := s.store.stored.ranges, handOver := .settling (s.clock + 1000) }
      ∧ (s.startBlocks i cause).supervisor
        = ⟨true, false, senseAttached i, bandOf i.cellMv,
            if cause = .wake then s.supervisor.tamperAsserted else s.store.stored.tamper, s.store.stored.tamper,
            if cause = .wake then s.supervisor.haltMark else false⟩
      ∧ (s.startBlocks i cause).setup
        = { State.reset.setup with state := setupStateOf s.store.stored.setup, held := s.store.stored.setup } :=
  ⟨rfl, rfl, rfl, rfl, rfl, rfl, rfl, rfl, rfl⟩

theorem State.startBlocks_unlocked (h : ∀ r, s.store.stored.setup = some r → r.locked = false) :
    (s.startBlocks i cause).setup.state ≠ .locked := by
  have hstate : (s.startBlocks i cause).setup.state = setupStateOf s.store.stored.setup := rfl
  rw [hstate]
  cases hr : s.store.stored.setup with
  | none => simp [setupStateOf]
  | some r => simp [setupStateOf, h r hr]

theorem State.startBlocks_locked (hr : s.store.stored.setup = some r) (hl : r.locked = true) :
    (s.startBlocks i cause).setup.state = .locked ∧ (s.startBlocks i cause).setup.held = some r := by
  have hstate : (s.startBlocks i cause).setup.state = setupStateOf s.store.stored.setup := rfl
  have hheld : (s.startBlocks i cause).setup.held = s.store.stored.setup := rfl
  rw [hstate, hheld, hr]
  exact ⟨if_pos hl, rfl⟩

theorem State.start_sn (s : State) (i : StartInputs) (cause : StartCause) : (s.start i cause).roster.sn = strappedNumber i := by
  have hkept : (s.start i cause).roster.sn = (s.startBlocks i cause).roster.sn := by simp [State.start]
  exact hkept

theorem State.start_kpd (s : State) (i : StartInputs) (cause : StartCause) : (s.start i cause).roster.kpd = i.kpd := by
  have hkept : (s.start i cause).roster.kpd = (s.startBlocks i cause).roster.kpd := by simp [State.start]
  exact hkept

theorem State.start_others (s : State) (i : StartInputs) (cause : StartCause) :
    (s.start i cause).others = (s.startBlocks i cause).others :=
  State.others_congr (by simp [State.start]) (by simp [State.start])

theorem State.startBlocks_clock (s : State) (i : StartInputs) (cause : StartCause) : (s.startBlocks i cause).clock = s.clock := by
  simp

theorem State.start_clock (s : State) (i : StartInputs) (cause : StartCause) : (s.start i cause).clock = s.clock := by
  simp

/-- The first ROLL of a start, that shows the station as it stands. -/
def State.firstRoll (t : State) : TxFrame := ⟨.roll, false, 0, t.rollPayload, true, 0⟩

section
variable (hmark : (s.startBlocks i cause).unmarked cause)
include hmark

theorem State.start_uncommissioned (hn : ∀ r, s.store.stored.setup = some r → r.locked = false) :
    (s.start i cause).phase = .uncommissioned ∧ (s.start i cause).line.tx = [] := by
  rw [State.start, State.choosePhase_unlocked hmark (State.startBlocks_unlocked hn), State.enterUncommissioned_line]
  exact ⟨by simp [State.carriedOn], (s.startBlocks_fresh i cause).tx⟩

variable (hr : s.store.stored.setup = some r) (hl : r.locked = true)
include hr hl

theorem State.start_locked :
    s.start i cause
      = if strapConflict (s.start i cause).roster.sn i.kpd r = true then (s.startBlocks i cause).startHalted
        else if s.store.stored.journal.isOpen = true then (s.startBlocks i cause).resumePurge
        else if r.failureLimit ≤ s.store.stored.attempt.count ∧ s.store.stored.attempt.epoch ≠ 65535 then
          ((s.startBlocks i cause).openPurge .limit (s.store.stored.attempt.epoch + 1)).offerRoll
        else ((s.startBlocks i cause).enterPhase .assembling).beginAssembly := by
  obtain ⟨hstate, hheld⟩ := State.startBlocks_locked (i := i) (cause := cause) hr hl
  rw [s.start_sn]
  exact State.choosePhase_locked hmark hstate hheld

theorem State.start_conflicts (hc : strapConflict (s.start i cause).roster.sn i.kpd r = true) :
    (s.start i cause).phase = .halted ∧ (s.start i cause).supervisor.haltMark = true
      ∧ (s.start i cause).line.tx = [(s.start i cause).firstRoll] := by
  obtain ⟨hphase, hhaltMark⟩ := (s.startBlocks i cause).startHalted_halts
  have ht := State.start_locked hmark hr hl
  rw [if_pos hc] at ht
  rw [ht, (s.startBlocks_fresh i cause).startHalted_line]
  exact ⟨hphase, hhaltMark, rfl⟩

variable (hc : strapConflict (s.start i cause).roster.sn i.kpd r = false)
include hc

theorem State.start_resumes (hj : s.store.stored.journal.isOpen = true) :
    (s.start i cause).phase = .purging ∧ (s.start i cause).gate.owner = .guard
      ∧ (s.start i cause).line.tx = [(s.start i cause).firstRoll]
      ∧ (s.start i cause).purge.heard = Vector.replicate 8 false ∧ (s.start i cause).purge.reoffered = 0
      ∧ (s.start i cause).purge.reoffer = if (s.start i cause).others = [] then none else some (s.clock + 2000000) := by
  obtain ⟨howner, hheard, hreoffered, hreoffer⟩ := (s.startBlocks i cause).resumePurge_begins hj
  rw [State.startBlocks_clock] at hreoffer
  have ht := State.start_locked hmark hr hl
  rw [if_neg (by simp [hc]), if_pos hj] at ht
  rw [s.start_others, ht, (s.startBlocks_fresh i cause).resumePurge_line]
  exact ⟨State.resumePurge_phase _, howner, rfl, hheard, hreoffered, hreoffer⟩

variable (hj : s.store.stored.journal.isOpen = false)
include hj

theorem State.start_opens (hlimit : r.failureLimit ≤ s.store.stored.attempt.count) (hlast : s.store.stored.attempt.epoch ≠ 65535) :
    (s.start i cause).phase = .purging ∧ (s.start i cause).purge.journal.cause = some .limit
      ∧ (s.start i cause).purge.journal.target = some (s.store.stored.attempt.epoch + 1)
      ∧ (s.start i cause).line.tx
        = [⟨.purge, false, 0, byte PurgeCause.limit.code :: bytes2 (s.store.stored.attempt.epoch + 1), true, 0⟩,
            (s.start i cause).firstRoll] := by
  have ht := State.start_locked hmark hr hl
  rw [if_neg (by simp [hc]), if_neg (by simp [hj]), if_pos ⟨hlimit, hlast⟩] at ht
  rw [ht, (s.startBlocks_fresh i cause).limit_line]
  exact ⟨by simp, by simp [Journal.opened], by simp [Journal.opened], rfl⟩

variable (hless : s.store.stored.attempt.count < r.failureLimit)
include hless

theorem State.start_begins : s.start i cause = ((s.startBlocks i cause).enterPhase .assembling).beginAssembly := by
  have ht := State.start_locked hmark hr hl
  rwa [if_neg (by simp [hc]), if_neg (by simp [hj]), if_neg (by omega)] at ht

theorem State.start_assembles (hother : ∃ n : StationNo, n ≠ (s.start i cause).roster.sn ∧ r.members.getLsbD n.val = true) :
    (s.start i cause).phase = .assembling ∧ (s.start i cause).phaseCtl.grant = .pub
      ∧ (s.start i cause).roster.window = some ⟨s.clock, 0⟩ ∧ (s.start i cause).line.tx = [(s.start i cause).firstRoll] := by
  obtain ⟨hstate, hheld⟩ := State.startBlocks_locked (i := i) (cause := cause) hr hl
  rw [s.start_sn] at hother
  have hfresh := s.startBlocks_fresh i cause
  have ht := State.start_begins hmark hr hl hc hj hless
  rw [hfresh.assembly_waits ((State.mem_others_locked hstate hheld).mpr hother)] at ht
  rw [ht, hfresh.assemblyBegun_line, State.assemblyBegun_window, State.startBlocks_clock, State.phase,
    State.assemblyBegun_phaseCtl]
  exact ⟨rfl, rfl, rfl, rfl⟩

theorem State.start_settles (hlone : ∀ n : StationNo, r.members.getLsbD n.val = true → n = (s.start i cause).roster.sn) :
    (s.startBlocks i cause).Alone
      ∧ s.start i cause = (s.startBlocks i cause).settledAlone.enterPhase (s.startBlocks i cause).endsIn := by
  obtain ⟨hstate, hheld⟩ := State.startBlocks_locked (i := i) (cause := cause) hr hl
  rw [s.start_sn] at hlone hc
  have halone := State.alone_locked hstate hheld hc hlone
  have ht := State.start_begins hmark hr hl (by rwa [s.start_sn]) hj hless
  have hcount : (s.startBlocks i cause).verifier.held.count < (s.startBlocks i cause).failureLimit := by
    rwa [State.failureLimit_locked hstate hheld]
  rw [State.assembly_settles hj halone.others hcount, halone.endsIn] at ht
  exact ⟨halone, ht⟩

theorem State.start_alone (hlone : ∀ n : StationNo, r.members.getLsbD n.val = true → n = (s.start i cause).roster.sn) :
    (s.start i cause).phase = (if (s.store.stored.slots[0]).body = .empty then .blank else .locked)
      ∧ (s.start i cause).phaseCtl.grant = (if (s.store.stored.slots[0]).body = .empty then .none else .pub)
      ∧ (s.start i cause).verifier.hold = (holdDuration s.store.stored.attempt.count).map (s.clock + ·)
      ∧ (∀ j : SlotNo, (s.start i cause).slotAt j = { s.store.stored.slots[j] with staged := none })
      ∧ (s.start i cause).slotTable.blankKey
        = (if (s.store.stored.slots[0]).isActive = true then none else s.store.stored.blankKey)
      ∧ (s.start i cause).roster.window = none ∧ (s.start i cause).roster.announce = none
      ∧ ∃ payload, (s.start i cause).line.tx = [⟨.roll, false, 0, payload, true, 0⟩]
          ∧ payload.take 8 = (s.start i cause).rollPayload.take 8
          ∧ byteAt payload 8 = byte (Phase.assembling.code * 16)
          ∧ (payload.drop 9).take 3 = ((s.start i cause).rollPayload.drop 9).take 3 := by
  obtain ⟨halone, ht⟩ := State.start_settles hmark hr hl hc hj hless hlone
  obtain ⟨hslots, hkey, hhold⟩ := halone.settled
  rw [State.startBlocks_clock] at hhold
  obtain ⟨hphase, hgrant⟩ := halone.settled_phaseCtl
  obtain ⟨hwindow, hannounce⟩ := halone.settled_timers
  have hroll := (s.startBlocks_fresh i cause).settled_roll (s.startBlocks i cause).endsIn
  have hverifier : (s.start i cause).verifier = (s.startBlocks i cause).settledAlone.verifier := by simp [ht]
  have hslotTable : (s.start i cause).slotTable = (s.startBlocks i cause).settledAlone.slotTable := by simp [ht]
  rw [hverifier, hslotTable, ht]
  refine ⟨hphase, hgrant, hhold, fun j => ?_, hkey, hwindow, hannounce, hroll⟩
  rw [State.slotAt, ← ht, hslotTable]
  exact hslots j

end

end

/-- Settles O52: the blocks as they start, what the choice of the phase keeps of them, and where each row of Table 2-1 goes. -/
theorem startReadsPinsAndStore : Obligations.StartReadsPinsAndStore := by
  intro s i hi starts roll phased
  have hstarts (cause : StartCause) : starts (s.start i cause) cause := by
    have h := s.startBlocks_started i cause
    have hnumber := s.start_sn i cause
    have hframe := (s.startBlocks i cause).choosePhase_frame cause
    rw [State.start] at h hnumber ⊢
    generalize (s.startBlocks i cause).choosePhase cause = t at h hnumber hframe ⊢
    obtain ⟨hline, hroster, hverifier, hslotTable, hkeyPort, hpurge, hgate, hsupervisor, hrecord⟩ := s.startBlocks_reads i cause
    obtain ⟨hlineState, honLine, hrx, htxDropped, -, hattempt, hkey, hport, hdenied, htimeout, htampered, hheld, hslots, hengine⟩ := h
    simp only [hline, hroster, hverifier, hslotTable, hkeyPort, hpurge, hgate, hsupervisor, hrecord, State.startBlocks_frame]
      at hframe hlineState honLine hrx htxDropped hattempt hkey hport hdenied htimeout htampered hheld hslots hengine
    obtain ⟨-, hclock, hurgent, hother, hparity, hcheck, hmissed, hpartial, hsettle, -, -, hsn, hkpd, hcause, hentries, -,
      hsalt, -, -, -, -, -, hvalid, hdormant, hattached, hband, -, hsetup, hstored, -⟩ := hframe
    refine ⟨?awake, hclock, ?number, hkpd, hcause, hentries, hurgent, hother, hlineState, hrx, honLine, hcheck, hparity,
      hmissed, hpartial, htxDropped, hdenied, htimeout, hsettle, congrArg KeyPort.state hport, hkey,
      hattempt, hattached, hband, htampered, hsalt, congrArg SetupLogic.held hsetup, hstored, hheld, hslots, hengine⟩
    case awake => exact congrArg₂ (fun valid dormant => valid && !dormant) hvalid hdormant
    case number => rw [hnumber, strappedNumber_val]
  have hphased (cause : StartCause) (hmark : (s.startBlocks i cause).unmarked cause) : phased (s.start i cause) :=
    ⟨State.start_uncommissioned hmark, fun r hr hl hc => State.start_conflicts hmark hr hl hc,
      fun r hr hl hc hj => State.start_resumes hmark hr hl hc hj,
      fun r hr hl hc hj hlimit hlast => State.start_opens hmark hr hl hc hj hlimit hlast,
      fun r hr hl hc hj hless hother => State.start_assembles hmark hr hl hc hj hless hother,
      fun r hr hl hc hj hless hlone => State.start_alone hmark hr hl hc hj hless hlone⟩
  have hwoken (t : State) (w : WakeCause) (hw : starts t .wake) : starts (t.settleWakingKey w) .wake := by
    obtain ⟨x, hx⟩ := t.settleWakingKey_eq w
    rw [hx]
    exact hw
  have hwokenPhase (t : State) (w : WakeCause) (hw : phased t) : phased (t.settleWakingKey w) := by
    obtain ⟨x, hx⟩ := t.settleWakingKey_eq w
    rw [hx]
    exact hw
  refine ⟨fun hs => ⟨_, exec_powerUp hs hi, hstarts .power, hphased .power (by simp [State.unmarked])⟩,
    fun w hs hd hw => ⟨_, exec_wake hs hd hw hi, hwoken _ w (hstarts .wake), fun key hkey => ?key, fun hmark => ?marked,
      fun hmark => hwokenPhase _ w (hphased .wake ?unmarked)⟩, fun down _ _ hk => exec_wake_other hk down⟩
  case key =>
    subst hkey
    have hsettles := State.settleWakingKey_settles (t := s.start i .wake) ((s.start_kpd i .wake).trans (hw [key] rfl)) key
    rwa [s.start_clock] at hsettles
  case marked =>
    have ht : s.start i .wake = (s.startBlocks i .wake).startHalted := State.choosePhase_marked hmark
    obtain ⟨x, hx⟩ := (s.start i .wake).settleWakingKey_eq w
    obtain ⟨hphase, hhaltMark⟩ := (s.startBlocks i .wake).startHalted_halts
    have hline := (s.startBlocks_fresh i .wake).startHalted_line
    rw [hx, ht]
    exact ⟨hphase, hhaltMark, congrArg LineInterface.tx hline⟩
  case unmarked =>
    have hkept : (s.startBlocks i .wake).supervisor.haltMark = s.supervisor.haltMark := rfl
    simp [State.unmarked, hkept, hmark]

end Sys2Proof.Machine
end

section
/-! PROOFS. The key stays behind the phase (R51, R107, R109): it is on its way to the cipher only while UNLOCKED, and an attempt stands exactly while VERIFYING. A station that has given its phase up is at rest, and every move begins from rest; all else leaves phase, key port and attempt as they are. -/

namespace Sys2Proof.Machine

/-- The invariant, as each operation keeps it. -/
structure State.Fenced (s : State) : Prop where
  unlocked : s.keyPort.state = .shiftingKey ∨ s.keyPort.state = .presented ∨ s.keyPort.waiting = true → s.phase = .unlocked
  zeros : s.keyPort.waiting = true → s.keyPort.state = .shiftingZero
  verifying : s.verifier.attempt.isSome = true ↔ s.phase = .verifying

/-- No key is on its way to the cipher and no attempt stands: where a station is between two phases. -/
structure State.AtRest (s : State) : Prop where
  port : s.keyPort.state = .clear ∨ s.keyPort.state = .shiftingZero
  noRequest : s.keyPort.waiting = false
  noAttempt : s.verifier.attempt = none

section
variable {s t : State}

theorem State.fenced_iff (s : State) : s.Fenced ↔ s.keyFenced :=
  ⟨fun h => ⟨h.unlocked, h.zeros, h.verifying⟩, fun ⟨hu, hz, hv⟩ => ⟨hu, hz, hv⟩⟩

theorem State.Fenced.congr (h : s.Fenced) (hp : t.phaseCtl.phase = s.phaseCtl.phase) (hk : t.keyPort = s.keyPort)
    (ha : t.verifier.attempt.isSome = s.verifier.attempt.isSome) : t.Fenced := by
  refine ⟨?_, ?_, ?_⟩
  · rw [hk, State.phase, hp]
    exact h.unlocked
  · rw [hk]
    exact h.zeros
  · rw [ha, State.phase, hp]
    exact h.verifying

theorem State.AtRest.congr (h : s.AtRest) (hk : t.keyPort = s.keyPort) (ha : t.verifier.attempt = s.verifier.attempt) :
    t.AtRest :=
  ⟨by rw [hk]; exact h.port, by rw [hk]; exact h.noRequest, by rw [ha]; exact h.noAttempt⟩

/-- At rest a station may be in any phase but VERIFYING. -/
theorem State.AtRest.fenced (h : s.AtRest) (hp : s.phase ≠ .verifying) : s.Fenced where
  unlocked := by rcases h.port with hc | hc <;> simp [hc, h.noRequest]
  zeros := by simp [h.noRequest]
  verifying := by simpa [h.noAttempt] using hp

/-- The key port is at rest in every phase but UNLOCKED. -/
theorem State.Fenced.portAtRest (h : s.Fenced) (hu : s.phase ≠ .unlocked) :
    (s.keyPort.state = .clear ∨ s.keyPort.state = .shiftingZero) ∧ s.keyPort.waiting = false := by
  refine ⟨?_, Bool.eq_false_iff.mpr fun hw => hu (h.unlocked (.inr (.inr hw)))⟩
  cases hc : s.keyPort.state with
  | clear => exact .inl rfl
  | shiftingZero => exact .inr rfl
  | shiftingKey => exact absurd (h.unlocked (.inl hc)) hu
  | presented => exact absurd (h.unlocked (.inr (.inl hc))) hu

/-- Only UNLOCKED and VERIFYING have something to give up. -/
theorem State.Fenced.atRest (h : s.Fenced) (hu : s.phase ≠ .unlocked) (hv : s.phase ≠ .verifying) : s.AtRest where
  port := (h.portAtRest hu).1
  noRequest := (h.portAtRest hu).2
  noAttempt := by simpa using fun hsome => hv (h.verifying.mp hsome)

theorem ite_fenced {p : Prop} [Decidable p] {a b : State} (ha : a.Fenced) (hb : b.Fenced) :
    (if p then a else b).Fenced := by
  split
  · exact ha
  · exact hb

/-- What each of several steps keeps, all of them together keep. -/
theorem foldl_fenced {α : Type} {op : State → α → State} (hop : ∀ s x, s.Fenced → (op s x).Fenced) (h : s.Fenced)
    (l : List α) : (l.foldl op s).Fenced := by
  induction l generalizing s with
  | nil => exact h
  | cons x l ih => exact ih (hop s x h)

/-! ### Phases left and entered -/

/-- A clear leaves no key on its way and no request that waits (R108; log entry 31). -/
theorem KeyPort.cleared_waiting (p : KeyPort) (now : Micros) (h : p.waiting = true → p.state = .shiftingZero) :
    (p.cleared now).waiting = false := by
  cases hs : p.state
  case clear => simpa [KeyPort.cleared, hs] using h
  case shiftingKey => simp only [KeyPort.cleared, hs, KeyPort.stopKeyShift]; split <;> rfl
  case presented | shiftingZero => simp [KeyPort.cleared, hs]

theorem State.voidAttempt_attempt (s : State) : s.voidAttempt.verifier.attempt = none := by
  unfold State.voidAttempt
  split
  · assumption
  · rfl

/-- A station that leaves its phase is at rest (R70, R96). -/
theorem State.Fenced.leavePhase (h : s.Fenced) : s.leavePhase.AtRest := by
  by_cases hu : s.phase = .unlocked
  · have hport : s.leavePhase.keyPort = s.keyPort.cleared s.clock := by rw [State.leavePhase_keyPort, if_pos hu]
    refine ⟨?_, by rw [hport]; exact s.keyPort.cleared_waiting _ h.zeros, ?_⟩
    · rw [hport, KeyPort.cleared_state]
      split <;> simp
    · have hattempt : s.verifier.attempt = none := by simpa [hu] using h.verifying
      simp [State.leavePhase, hu, hattempt]
  by_cases hv : s.phase = .verifying
  · have hleft : s.leavePhase = s.voidAttempt := by simp [State.leavePhase, hv]
    obtain ⟨hport, hwaiting⟩ := h.portAtRest hu
    exact ⟨by simpa [hleft] using hport, by simpa [hleft] using hwaiting, by rw [hleft, State.voidAttempt_attempt]⟩
  · refine (h.atRest hu hv).congr (by rw [State.leavePhase_keyPort, if_neg hu]) ?_
    cases hp : s.phaseCtl.phase <;> simp_all [State.leavePhase]

/-- A station at rest has nothing to give up but what BLANK holds for it. -/
theorem State.AtRest.leavePhase (h : s.AtRest) : s.leavePhase.AtRest := by
  by_cases hv : s.phase = .verifying
  · rwa [State.leavePhase_decided hv h.noAttempt]
  · exact (h.fenced hv).leavePhase

theorem State.AtRest.movePhase (h : s.AtRest) {p : Phase} (hp : p ≠ .verifying) (g : Grant) (a : Option Micros) :
    (s.movePhase p g a).Fenced :=
  State.AtRest.fenced (h.congr (by simp) (by simp)) (by simpa using hp)

theorem State.AtRest.enterPhase (h : s.AtRest) {p : Phase} (hp : p ≠ .verifying) : (s.enterPhase p).Fenced := by
  refine h.movePhase ?_ _ _
  unfold State.carriedOn
  split
  · simp
  · exact hp

/-- Told to present, a port at rest begins the key shift or has the request wait behind zeros (R107). -/
theorem State.AtRest.enterUnlocked (h : s.AtRest) (g : Grant) (key : ChannelKey) : (s.enterUnlocked g key).Fenced := by
  refine ⟨fun _ => by simp [State.enterUnlocked], fun hw => ?_, ?_⟩
  · rcases h.port with hc | hc
    · simp [State.enterUnlocked, State.presentKey, hc, State.beginKeyShift] at hw
    · simp [State.enterUnlocked, State.presentKey, hc]
  · simp [State.enterUnlocked, h.noAttempt]

/-! ### Purges opened, and the ends of an unlock or a verification -/

theorem State.openPurge_fenced_of_left (h : s.leavePhase.AtRest) (cause : PurgeCause) (target : Nat) :
    (s.openPurge cause target).Fenced := by
  obtain ⟨hverifier, hkeyPort, _⟩ := s.openPurge_left cause target
  exact State.AtRest.fenced (h.congr hkeyPort (congrArg Verifier.attempt hverifier)) (by simp)

theorem State.openPurge_fenced (h : s.Fenced) (cause : PurgeCause) (target : Nat) : (s.openPurge cause target).Fenced :=
  State.openPurge_fenced_of_left h.leavePhase cause target

theorem State.openOwn_fenced (h : s.Fenced) (cause : PurgeCause) : (s.openOwn cause).Fenced := by
  unfold State.openOwn
  exact ite_fenced (State.openPurge_fenced h _ _) h

/-- The end of a verification begins where its attempt is gone. -/
theorem State.AtRest.endVerification (h : s.AtRest) : s.endVerification.Fenced := by
  unfold State.endVerification
  split
  · next hends =>
    rw [State.openOwn_opens (Bool.and_eq_true_iff.mp hends).2]
    exact State.openPurge_fenced_of_left h.leavePhase _ _
  · exact State.AtRest.enterPhase (h.congr (by simp) (by simp)) (by simp)

theorem State.lockDown_fenced (h : s.Fenced) : s.lockDown.Fenced := by
  unfold State.lockDown
  (repeat' split)
  · exact h.leavePhase.enterPhase (by simp)
  · exact h.leavePhase.endVerification
  · exact h

theorem State.raiseTarget_fenced (h : s.Fenced) (target : Nat) : (s.raiseTarget target).Fenced :=
  h.congr (by simp) (by simp) (by simp)

theorem State.takeTarget_fenced (h : s.Fenced) (cause : PurgeCause) (target : Nat) : (s.takeTarget cause target).Fenced := by
  unfold State.takeTarget
  exact ite_fenced (State.raiseTarget_fenced h _) (ite_fenced (State.openPurge_fenced h _ _) h)

/-! ### Assembly and reports of members -/

theorem State.presenceMoved_fenced (h : s.Fenced) (left : Bool) : (s.presenceMoved left).Fenced := by
  by_cases hl : left = true ∧ s.phaseCtl.phase = .locked
  · have hrest : s.AtRest := h.atRest (by simp [hl]) (by simp [hl])
    exact State.AtRest.fenced (hrest.congr (by simp) (by simp)) (by simp [hl])
  · exact h.congr (by rw [State.presenceMoved_phase, if_neg hl]) (by simp) (by simp)

theorem State.markPresent_fenced (h : s.Fenced) (n : StationNo) (r : LastRecord) : (s.markPresent n r).Fenced := by
  have hentry : (s.setEntry n ⟨.present, some r⟩).Fenced := h.congr (by simp) (by simp) (by simp)
  unfold State.markPresent
  exact ite_fenced (State.presenceMoved_fenced hentry _) hentry

theorem State.mergePair_fenced (h : s.Fenced) (p : Nat × Nat) : (s.mergePair p).Fenced := by
  have hraised : (s.raisePair .roster p).Fenced := h.congr (by simp) (by simp) (by simp)
  have hheld : (s.raisePair .roster p).restartHold.Fenced := hraised.congr (by simp) (by simp) (by simp)
  unfold State.mergePair
  exact ite_fenced (ite_fenced hraised (ite_fenced (State.openOwn_fenced hheld _) hheld)) h

theorem State.epochTest_fenced (h : s.Fenced) (epoch : Nat) : (s.epochTest epoch).Fenced := by
  unfold State.epochTest
  exact ite_fenced h (State.takeTarget_fenced h _ _)

theorem State.haltOnConflict_phase (s : State) : s.haltOnConflict.phase = .halted := by
  unfold State.haltOnConflict
  dsimp only
  split <;> simp [State.carriedOn]

theorem State.haltOnConflict_fenced (h : s.AtRest) : s.haltOnConflict.Fenced :=
  State.AtRest.fenced (h.congr (by simp) (by simp)) (by rw [s.haltOnConflict_phase]; simp)

theorem State.completeAssembly_fenced (h : s.Fenced) (hr : s.AtRest) : s.completeAssembly.Fenced := by
  have hstopped : s.mergeReported.stopAssemblyTimers.Fenced := h.congr (by simp) (by simp) (by simp)
  have hrest : s.mergeReported.stopAssemblyTimers.reconcile.restartHold.AtRest := hr.congr (by simp) (by simp)
  unfold State.completeAssembly
  refine ite_fenced (State.openOwn_fenced hstopped _) (hrest.enterPhase ?_)
  split <;> simp

theorem State.completionTest_fenced (h : s.Fenced) : s.completionTest.Fenced := by
  unfold State.completionTest
  split
  · next hp =>
    have hrest : s.AtRest := by rcases hp with hp | hp <;> exact h.atRest (by simp [hp]) (by simp [hp])
    exact ite_fenced (State.haltOnConflict_fenced hrest) (ite_fenced (State.completeAssembly_fenced h hrest) h)
  · exact h

theorem State.beginAssembly_fenced (h : s.Fenced) : s.beginAssembly.Fenced :=
  State.completionTest_fenced (s := s.offerRoll) (h.congr (by simp) (by simp) (by simp))

theorem State.purgeWaitTest_fenced (h : s.Fenced) : s.purgeWaitTest.Fenced := by
  unfold State.purgeWaitTest
  split
  · next hw =>
    have hp : s.phase = .purgeWait := of_decide_eq_true (Bool.and_eq_true_iff.mp hw).1
    exact (h.atRest (by simp [hp]) (by simp [hp])).enterPhase (by simp)
  · exact h

theorem State.testsAfterReport_fenced (h : s.Fenced) : s.testsAfterReport.Fenced :=
  State.purgeWaitTest_fenced (State.completionTest_fenced h)

theorem State.leaveLockedOn_fenced (h : s.Fenced) (halted : Bool) (epoch : Nat) :
    (s.leaveLockedOn halted epoch).Fenced := by
  unfold State.leaveLockedOn
  split
  · next hp => exact (h.atRest (by simp [hp.1]) (by simp [hp.1])).enterPhase (by simp)
  · exact h

theorem State.answerRoll_fenced (h : s.Fenced) (calls : Bool) : (s.answerRoll calls).Fenced :=
  h.congr (by simp) (by simp) (by simp)

theorem State.hear_fenced (h : s.Fenced) (n : StationNo) (epoch : Nat) : (s.hear n epoch).Fenced :=
  h.congr (by simp) (by simp) (by simp)

theorem State.handleGuardRoll_fenced (h : s.Fenced) (n : StationNo) (role : Role) (r : GuardRecord) :
    (s.handleGuardRoll n role r).Fenced := by
  have hheard := State.hear_fenced (State.markPresent_fenced h n (.guard r)) n r.epoch
  have hmerged : (((s.markPresent n (.guard r)).hear n r.epoch).mergeRoll r).Fenced := by
    unfold State.mergeRoll
    exact ite_fenced (State.mergePair_fenced hheard _) hheard
  exact State.answerRoll_fenced
    (State.leaveLockedOn_fenced (State.testsAfterReport_fenced (State.epochTest_fenced hmerged _)) _ _) _

theorem State.handleControllerRoll_fenced (h : s.Fenced) (n : StationNo) : (s.handleControllerRoll n).Fenced :=
  State.answerRoll_fenced (State.testsAfterReport_fenced (State.markPresent_fenced h n _)) _

theorem State.handleRoll_fenced (h : s.Fenced) (f : RxFrame) : (s.handleRoll f).Fenced := by
  unfold State.handleRoll
  split
  · exact h
  · exact ite_fenced (State.handleControllerRoll_fenced h _) h
  · exact ite_fenced h (ite_fenced (State.testsAfterReport_fenced h) (State.handleGuardRoll_fenced h _ _ _))

theorem State.handlePurged_fenced (h : s.Fenced) (f : RxFrame) : (s.handlePurged f).Fenced := by
  have hheard : ((s.updateRecord f.sender (purgedRecord (u16 f.payload 0))).hear f.sender (u16 f.payload 0)).Fenced :=
    State.hear_fenced (h.congr (by simp) (by simp) (by simp)) _ _
  unfold State.handlePurged
  exact ite_fenced h (ite_fenced (State.testsAfterReport_fenced h)
    (State.leaveLockedOn_fenced (State.testsAfterReport_fenced (State.epochTest_fenced hheard _)) _ _))

theorem State.markSilent_fenced (h : s.Fenced) (missing : List StationNo) : (s.markSilent missing).Fenced := by
  have hsilent : (missing.foldl State.silence s).Fenced :=
    foldl_fenced (fun s n hs => hs.congr (by simp) (by simp) (by simp)) h missing
  unfold State.markSilent
  exact ite_fenced (State.presenceMoved_fenced hsilent _) hsilent

/-! ### Entries and verdicts -/

/-- An attempt begins from LOCKED, where the key port is at rest (R58, R59). -/
theorem State.beginAttempt_fenced (h : s.Fenced) (hp : s.phase = .locked) (n : StationNo) (e : EntryFields)
    (own : OwnResult) : (s.beginAttempt n e own).Fenced := by
  obtain ⟨hport, hwaiting⟩ := h.portAtRest (by simp [hp])
  refine ⟨?_, ?_, ?_⟩
  · rcases hport with hc | hc <;> simp [State.beginAttempt, hc, hwaiting]
  · simp [State.beginAttempt, hwaiting]
  · simp [State.beginAttempt, State.carriedOn]

/-- Only an ENTRY in LOCKED passes the checks (R53). -/
theorem State.entryRefusal_none_locked {n : StationNo} {e : EntryFields} (h : s.entryRefusal n e = none) :
    s.phase = .locked := by
  by_contra hp
  unfold State.entryRefusal at h
  rw [if_pos hp] at h
  split at h <;> cases h

theorem State.findEntry_locked {n : StationNo} {e : EntryFields} (h : ∀ r, s.findEntry n e ≠ .turnedAway r) :
    s.phase = .locked := by
  unfold State.findEntry at h
  split at h
  · exact absurd rfl (h _)
  · next hnone => exact State.entryRefusal_none_locked hnone

theorem State.offerVerdict_fenced (h : s.Fenced) (origin : StationNo) (seq : Nat) (result : VerdictResult) (slot : Nat)
    (p : Nat × Nat) : (s.offerVerdict origin seq result slot p).Fenced :=
  h.congr (by simp) (by simp) (by simp)

theorem State.actOnEntry_fenced (h : s.Fenced) (n : StationNo) (e : EntryFields) {finding : EntryFinding}
    (hp : (∀ r, finding ≠ .turnedAway r) → s.phase = .locked) : (s.actOnEntry n e finding).Fenced := by
  cases finding with
  | turnedAway r => exact State.offerVerdict_fenced h _ _ _ _ _
  | matched slot key => exact State.offerVerdict_fenced (State.beginAttempt_fenced h (hp (by simp)) _ _ _) _ _ _ _ _
  | mismatched =>
    have hcounted : ((s.setPair s.verifier.held.serial (s.verifier.held.count + 1)).request .verifier .attempt).Fenced :=
      h.congr (by simp) (by simp) (by simp)
    exact State.beginAttempt_fenced hcounted (by simpa using hp (by simp)) _ _ _

theorem State.takeEntry_fenced (h : s.Fenced) (f : RxFrame) : (s.takeEntry f).Fenced := by
  have hacted := State.actOnEntry_fenced h f.sender (readEntry f.payload)
    (finding := s.findEntry f.sender (readEntry f.payload)) State.findEntry_locked
  unfold State.takeEntry
  exact ite_fenced h (hacted.congr (by simp) (by simp) (by simp))

theorem State.handleEntry_fenced (h : s.Fenced) (f : RxFrame) : (s.handleEntry f).Fenced := by
  have hshown : (s.showTransient .amber).Fenced := h.congr (by simp) (by simp) (by simp)
  have htaken : (if s.phase = .halted then s else if f.own = some .dropped then s.showTransient .amber
      else s.takeEntry f).Fenced :=
    ite_fenced h (ite_fenced hshown (State.takeEntry_fenced h f))
  unfold State.handleEntry
  exact ite_fenced (htaken.congr (by simp) (by simp) (by simp)) htaken

/-- While VERIFYING, the end of the attempt leaves the station at rest. -/
theorem State.Fenced.dropAttempt (h : s.Fenced) (hp : s.phase = .verifying) :
    (s.setVerifier { s.verifier with attempt := none }).AtRest :=
  ⟨(h.portAtRest (by simp [hp])).1, (h.portAtRest (by simp [hp])).2, rfl⟩

/-- The current attempt may change while VERIFYING, but not go. -/
theorem State.Fenced.setAttempt (h : s.Fenced) (hp : s.phase = .verifying) (a : Attempt) :
    (s.setVerifier { s.verifier with attempt := some a }).Fenced :=
  h.congr rfl rfl (by simp [h.verifying.mpr hp])

theorem State.handOver_fenced (h : s.Fenced) (hp : s.phase = .verifying) (slot : SlotNo) (readOnly : Bool)
    (key : ChannelKey) : (s.handOver slot readOnly key).Fenced :=
  (h.dropAttempt hp).enterUnlocked _ _

theorem State.changeSlot_fenced (h : s.Fenced) (i : SlotNo) (v : Slot) (discards : Bool) :
    (s.changeSlot i v discards).Fenced :=
  h.congr (by simp) (by simp) (by simp)

theorem State.spendOrHandOver_fenced (h : s.Fenced) (hp : s.phase = .verifying) (a : Attempt) (slot : SlotNo)
    (key : ChannelKey) : (s.spendOrHandOver a slot key).Fenced := by
  unfold State.spendOrHandOver
  (repeat' split)
  · exact State.handOver_fenced h hp _ _ _
  · exact State.handOver_fenced h hp _ _ _
  · exact State.changeSlot_fenced (h.setAttempt hp _) _ _ _

theorem State.clearTamper_fenced (h : s.Fenced) : s.clearTamper.Fenced :=
  h.congr (by simp) (by simp) (by simp)

theorem State.unlockOutcome_fenced (h : s.Fenced) (hp : s.phase = .verifying) (a : Attempt) :
    (s.unlockOutcome a).Fenced := by
  have hcounted : s.countUnlock.Fenced := h.congr (by simp) (by simp) (by simp)
  have hspent (slot : SlotNo) (key : ChannelKey) : (s.countUnlock.spendOrHandOver a slot key).Fenced :=
    State.spendOrHandOver_fenced hcounted (by simpa using hp) a slot key
  unfold State.unlockOutcome
  split
  · exact ite_fenced (State.clearTamper_fenced (hspent _ _)) (hspent _ _)
  · exact (h.dropAttempt hp).endVerification

theorem State.takeDecision_fenced (h : s.Fenced) (hp : s.phase = .verifying) (a : Attempt) :
    (s.takeDecision a).Fenced := by
  have hraised : (s.raisePair .verifier (s.bestFiled a.filed s.mergers)).Fenced := h.congr (by simp) (by simp) (by simp)
  have hphase : (s.raisePair .verifier (s.bestFiled a.filed s.mergers)).phase = .verifying := by simpa using hp
  unfold State.takeDecision
  dsimp only
  split
  · exact State.unlockOutcome_fenced hraised hphase a
  all_goals exact (hraised.dropAttempt hphase).endVerification

theorem State.fileVerdict_fenced (h : s.Fenced) (hp : s.phase = .verifying) (a : Attempt) (n : StationNo) (v : Filed) :
    (s.fileVerdict a n v).Fenced := by
  unfold State.fileVerdict
  exact ite_fenced h (ite_fenced (State.takeDecision_fenced (h.setAttempt hp _) hp _) (h.setAttempt hp _))

theorem State.mergeVerdict_fenced (h : s.Fenced) (n : StationNo) (v : Filed) : (s.mergeVerdict n v).Fenced := by
  unfold State.mergeVerdict
  exact ite_fenced (State.mergePair_fenced h _) h

theorem State.Fenced.verifying_of_attempt (h : s.Fenced) {a : Attempt} (ha : s.verifier.attempt = some a) :
    s.phase = .verifying :=
  h.verifying.mp (by simp [ha])

theorem State.takeVerdict_fenced (h : s.Fenced) (n : StationNo) (v : VerdictFields) : (s.takeVerdict n v).Fenced := by
  have hupdated : (s.updateRecord n (verdictRecord v.filed)).Fenced := h.congr (by simp) (by simp) (by simp)
  unfold State.takeVerdict
  dsimp only
  split
  · next a ha =>
    exact ite_fenced (State.fileVerdict_fenced hupdated (hupdated.verifying_of_attempt ha) _ _ _)
      (State.mergeVerdict_fenced hupdated _ _)
  · exact State.mergeVerdict_fenced hupdated _ _

theorem State.handleVerdict_fenced (h : s.Fenced) (f : RxFrame) : (s.handleVerdict f).Fenced := by
  unfold State.handleVerdict
  split
  · exact ite_fenced (State.takeVerdict_fenced h _ _) h
  · exact h

theorem State.attemptStored_fenced (h : s.Fenced) (w : InFlight) : (s.attemptStored w).Fenced := by
  have hstored (r : AttemptRecord) : (s.storeIncrement w.serial r).Fenced := by
    unfold State.storeIncrement
    split
    · next a ha =>
      split
      · exact ite_fenced (State.offerVerdict_fenced (h.setAttempt (h.verifying_of_attempt ha) _) _ _ _ _ _) h
      all_goals exact h
    · exact h
  unfold State.attemptStored
  split
  · exact ite_fenced (hstored _) h
  all_goals exact h

/-! ### Slots -/

theorem State.firstAdoption_fenced (h : s.Fenced) : s.firstAdoption.Fenced := by
  have hdeleted : s.deleteBlankKey.Fenced := h.congr (by simp) (by simp) (by simp)
  unfold State.firstAdoption
  dsimp only
  split
  · exact ite_fenced (hdeleted.leavePhase.enterUnlocked _ _) hdeleted
  · exact hdeleted

theorem State.settleWait_fenced (h : s.Fenced) (serial : Nat) (sl : Slot) (w : SlotWait) :
    (s.settleWait serial sl w).Fenced := by
  have hadopted : (if (w.first && sl.activeAt w.gen) = true then s.firstAdoption else s).Fenced :=
    ite_fenced (State.firstAdoption_fenced h) h
  unfold State.settleWait
  exact ite_fenced (hadopted.congr (by simp) (by simp) (by simp)) h

theorem State.settleHandOver_fenced (h : s.Fenced) (i : SlotNo) (serial : Nat) : (s.settleHandOver i serial).Fenced := by
  unfold State.settleHandOver
  split
  · next a ha =>
    split
    · exact ite_fenced (State.handOver_fenced h (h.verifying_of_attempt ha) _ _ _) h
    all_goals exact h
  · exact h

theorem State.slotStored_fenced (h : s.Fenced) (w : InFlight) : (s.slotStored w).Fenced := by
  unfold State.slotStored
  dsimp only
  split
  · refine foldl_fenced (fun s x hs => State.settleWait_fenced hs _ _ x) (State.settleHandOver_fenced ?_ _ _) _
    exact h.congr (by simp) (by simp) (by simp)
  all_goals exact h.congr (by simp) (by simp) (by simp)

/-! ### LOCK and PURGE, and the engine's writes -/

theorem State.handleLock_fenced (h : s.Fenced) (f : RxFrame) : (s.handleLock f).Fenced := by
  unfold State.handleLock
  split
  · exact ite_fenced (State.lockDown_fenced h) h
  · exact h

theorem State.handlePurge_fenced (h : s.Fenced) (f : RxFrame) : (s.handlePurge f).Fenced := by
  unfold State.handlePurge
  dsimp only
  split
  · exact ite_fenced h (State.takeTarget_fenced (State.hear_fenced h _ _) _ _)
  · exact h

theorem State.handleControllerPurge_fenced (h : s.Fenced) (f : RxFrame) : (s.handleControllerPurge f).Fenced := by
  unfold State.handleControllerPurge
  dsimp only
  split
  · exact h
  split
  · exact h.congr (by simp) (by simp) (by simp)
  split
  · exact h.congr (by simp) (by simp) (by simp)
  split
  · split
    · exact h.congr (by simp) (by simp) (by simp)
    · exact (State.openPurge_fenced h .request (u16 f.payload 1)).congr (by simp) (by simp) (by simp)
  split
  · exact h.congr (by simp) (by simp) (by simp)
  · exact h

theorem State.openPending_fenced (h : s.Fenced) : s.openPending.Fenced := by
  have hcleared (v : PurgeEngine) : (s.setPurge v).Fenced := h.congr rfl rfl rfl
  unfold State.openPending
  split
  · exact State.openPurge_fenced (hcleared _) _ _
  · exact h

/-- The close begins in PURGING, where the station is at rest (R133). -/
theorem State.closePurge_fenced (h : s.AtRest) : s.closePurge.Fenced := by
  have hoffered (v : PurgeEngine) : ((s.setPurge v).enterPhase .purgeWait).offerPurged.Fenced :=
    (State.AtRest.enterPhase (s := s.setPurge v) (p := .purgeWait) (h.congr rfl rfl) (by simp)).congr (by simp) (by simp)
      (by simp)
  exact State.openPending_fenced (State.purgeWaitTest_fenced (hoffered _))

theorem State.journalStored_fenced (h : s.Fenced) (hp : s.phase = .purging) (j : Journal) : (s.journalStored j).Fenced := by
  have hanswered : (s.answerStored (j.target.getD 0)).Fenced := h.congr (by simp) (by simp) (by simp)
  have hrest : (s.answerStored (j.target.getD 0)).AtRest := hanswered.atRest (by simp [hp]) (by simp [hp])
  unfold State.journalStored
  exact ite_fenced (State.closePurge_fenced hrest)
    (ite_fenced (hanswered.congr (by simp) (by simp) (by simp)) hanswered)

theorem State.purgeStored_fenced (h : s.Fenced) (w : InFlight) : (s.purgeStored w).Fenced := by
  have hclosed : (s.closeWrite .purge w.contents.record).Fenced := h.congr (by simp) (by simp) (by simp)
  unfold State.purgeStored
  dsimp only
  split
  · next hp =>
    unfold State.purgeGoesOn
    split
    · exact State.journalStored_fenced hclosed hp _
    all_goals exact ite_fenced hclosed (hclosed.congr (by simp) (by simp) (by simp))
  · exact hclosed

/-! ### Keypad, senses and starts -/

theorem State.confirmPurge_fenced (h : s.Fenced) : s.confirmPurge.Fenced := by
  have hseq : (s.setSeq .entry).Fenced := h.congr rfl rfl rfl
  unfold State.confirmPurge
  exact ite_fenced (State.openOwn_fenced hseq _) (hseq.congr rfl rfl rfl)

theorem State.enterKey_fenced (h : s.Fenced) : s.enterKey.Fenced := by
  unfold State.enterKey
  split
  case h_2 => exact h
  case h_5 => split <;> exact h.congr (by simp) (by simp) (by simp)
  case h_7 => exact State.confirmPurge_fenced h
  all_goals exact h.congr (by simp) (by simp) (by simp)

theorem State.assertTamper_fenced (h : s.Fenced) : s.assertTamper.Fenced := by
  have hasserted : (((s.setSupervisor { s.supervisor with tamperAsserted := true }).setTampered true).request
      .supervisor .tamper).Fenced := h.congr (by simp) (by simp) (by simp)
  unfold State.assertTamper State.actOnTamper
  exact ite_fenced (State.openOwn_fenced hasserted _) (State.lockDown_fenced hasserted)

/-- Stopped blocks are at rest (R106, R181, R192; log entry 9). -/
theorem State.stopBlocks_atRest (s : State) : s.stopBlocks.AtRest :=
  ⟨.inl rfl, rfl, rfl⟩

theorem State.stopBlocks_fenced (s : State) : s.stopBlocks.Fenced :=
  s.stopBlocks_atRest.fenced (by simp [State.stopBlocks, State.reset])

theorem State.loseSupply_fenced (s : State) (landed : Bool) : (s.loseSupply landed).Fenced :=
  (State.stopBlocks_fenced (s.setStore (s.store.cutOff landed))).congr rfl rfl rfl

theorem State.sleep_fenced (s : State) : s.sleep.Fenced :=
  s.stopBlocks_fenced.congr rfl rfl rfl

theorem State.detachNow_fenced (h : s.Fenced) (landed : Bool) : (s.detachNow landed).Fenced := by
  have hdetached : (s.setSupervisor { s.supervisor with attached := false }).Fenced := h.congr rfl rfl rfl
  unfold State.detachNow
  exact ite_fenced (State.loseSupply_fenced _ _) ((State.lockDown_fenced hdetached).congr (by simp) (by simp) (by simp))

theorem State.takeBand_fenced (h : s.Fenced) (b : Band) (landed : Bool) : (s.takeBand b landed).Fenced := by
  unfold State.takeBand
  exact ite_fenced (State.loseSupply_fenced _ _) (h.congr (by simp) (by simp) (by simp))

theorem State.startHalted_fenced (h : s.AtRest) : s.startHalted.Fenced :=
  State.Fenced.congr (State.AtRest.enterPhase (s := s.setSupervisor { s.supervisor with haltMark := true }) (p := .halted)
    (h.congr rfl rfl) (by simp)) (by simp [State.startHalted]) (by simp [State.startHalted]) (by simp [State.startHalted])

theorem State.resumePurge_fenced (h : s.AtRest) : s.resumePurge.Fenced :=
  State.Fenced.congr (h.enterPhase (p := .purging) (by simp)) (by simp [State.resumePurge]) (by simp [State.resumePurge])
    (by simp [State.resumePurge])

theorem State.choosePhase_fenced (h : s.AtRest) (cause : StartCause) : (s.choosePhase cause).Fenced := by
  have hpurged (target : Nat) : ((s.openPurge .limit target).offerRoll).Fenced :=
    (State.openPurge_fenced_of_left h.leavePhase .limit target).congr (by simp) (by simp) (by simp)
  unfold State.choosePhase
  exact ite_fenced (State.startHalted_fenced h) (ite_fenced (h.enterPhase (by simp))
    (ite_fenced (State.startHalted_fenced h) (ite_fenced (State.resumePurge_fenced h)
      (ite_fenced (hpurged _) (State.beginAssembly_fenced (h.enterPhase (by simp)))))))

theorem State.startBlocks_atRest (s : State) (i : StartInputs) (cause : StartCause) : (s.startBlocks i cause).AtRest :=
  ⟨.inl rfl, rfl, rfl⟩

theorem State.start_fenced (s : State) (i : StartInputs) (cause : StartCause) : (s.start i cause).Fenced :=
  State.choosePhase_fenced (s.startBlocks_atRest i cause) cause

/-! ### Line resets, attempts and the setup -/

theorem State.resetPhase_fenced (h : s.Fenced) : s.resetPhase.Fenced := by
  have hagain : (s.leavePhase.enterPhase .assembling).beginAssembly.Fenced :=
    State.beginAssembly_fenced (h.leavePhase.enterPhase (by simp))
  unfold State.resetPhase
  split
  case h_7 | h_8 | h_9 => exact h.congr (by simp) (by simp) (by simp)
  case h_10 => exact h
  all_goals exact hagain

theorem State.partialAttempt_fenced (h : s.Fenced) (f : TxFrame) (rest : List TxFrame) (missing : List StationNo) :
    (s.partialAttempt f rest missing).Fenced := by
  unfold State.partialAttempt
  (repeat' split)
  · exact h.congr (by simp) (by simp) (by simp)
  · exact h.congr (by simp) (by simp) (by simp)
  · exact State.markSilent_fenced (h.congr (by simp) (by simp) (by simp)) _

theorem State.finishAttempt_fenced (h : s.Fenced) (f : TxFrame) (rest : List TxFrame) (slots : Byte) :
    (s.finishAttempt f rest slots).Fenced := by
  have hended : s.endAttempt.driveOwnSlot.Fenced := h.congr (by simp) (by simp) (by simp)
  unfold State.finishAttempt
  exact ite_fenced (hended.congr (by simp) (by simp) (by simp)) (State.partialAttempt_fenced hended _ _ _)

/-- The locked record moves the station from UNCOMMISSIONED, where it is at rest (R199). -/
theorem State.lockedStored_fenced (h : s.Fenced) : s.lockedStored.Fenced := by
  unfold State.lockedStored
  split
  · next hp =>
    have hrest : (s.setSetup { s.setup with state := .locked }).AtRest :=
      (h.atRest (by simp [hp]) (by simp [hp])).congr rfl rfl
    exact State.beginAssembly_fenced ((hrest.enterPhase (p := .assembling) (by simp)).congr (by simp) (by simp) (by simp))
  · exact h

/-! ### What a command keeps -/

/-- A command that ends in a next state ends in one that meets the invariant. -/
def LeavesFenced (o : Host.Outcome State Fault Refusal) : Prop := ∀ t, o = .next t → t.Fenced

theorem leavesFenced_next (h : s.Fenced) : LeavesFenced (.next s) := by
  rintro t ⟨⟩
  exact h

theorem State.done_fenced (h : s.Fenced) : LeavesFenced s.done :=
  leavesFenced_next (h.congr (by simp) (by simp) (by simp))

theorem State.whileAwake_fenced (h : s.Fenced) {body : State → State} (hb : (body s).Fenced) :
    LeavesFenced (s.whileAwake body) := by
  unfold State.whileAwake
  split
  · exact State.done_fenced hb
  · exact leavesFenced_next h

theorem State.frameRow_fenced (h : s.Fenced) {isMine : RxFrame → Bool} {serve : State → RxFrame → State}
    (hs : ∀ s f, s.Fenced → (serve s f).Fenced) : LeavesFenced (s.frameRow isMine serve) := by
  refine State.whileAwake_fenced h ?_
  unfold State.takeFrame
  split
  · exact h
  · next f rest _ =>
    have htaken : (s.setLine { s.line with rx := rest }).Fenced := h.congr rfl rfl rfl
    exact ite_fenced (ite_fenced (hs _ f htaken) htaken) h

theorem State.completeWrite_fenced (h : s.Fenced) (w : InFlight) {event : State → State}
    (he : ∀ s, s.Fenced → (event s).Fenced) : (s.completeWrite w event).Fenced := by
  rw [State.completeWrite_eq]
  exact (he (s.stores w.contents) (h.congr (by simp) (by simp) (by simp))).congr (by simp) (by simp) (by simp)

theorem State.takeKey_fenced (h : s.Fenced) (key : Key) {act : State → State}
    (ha : ∀ s, s.Fenced → (act s).Fenced) : (s.takeKey key act).Fenced := by
  unfold State.takeKey
  dsimp only
  (repeat' split)
  · exact h
  · exact ha _ (h.congr rfl rfl rfl)
  · exact ha _ (h.congr rfl rfl rfl)
  all_goals exact h

theorem State.serveSetup_fenced (h : s.Fenced) (f : RxFrame) {serve : State → State}
    (hs : ∀ s, s.Fenced → (serve s).Fenced) : (s.serveSetup f serve).Fenced := by
  unfold State.serveSetup
  exact ite_fenced (hs s h) (ite_fenced h (h.congr (by simp) (by simp) (by simp)))

theorem State.takeAdopt_fenced (h : s.Fenced) (f : RxFrame) {effect : State → StationNo → Nat → Nat → State}
    (he : ∀ s n slot gen, s.Fenced → (effect s n slot gen).Fenced) : (s.takeAdopt f effect).Fenced := by
  unfold State.takeAdopt
  exact ite_fenced h (ite_fenced (he s _ _ _ h) (h.congr (by simp) (by simp) (by simp)))

/-! ### The commands that start, stop or shift -/

theorem execPowerUp_fenced (h : s.Fenced) (i : StartInputs) : LeavesFenced (execPowerUp i s) := by
  unfold execPowerUp
  split
  · exact State.done_fenced (s.start_fenced i .power)
  · exact leavesFenced_next h

theorem execSupplyLost_fenced (h : s.Fenced) (landed : Bool) : LeavesFenced (execSupplyLost landed s) := by
  unfold execSupplyLost
  split
  · exact leavesFenced_next (s.loseSupply_fenced landed)
  · exact leavesFenced_next h

theorem execWake_fenced (h : s.Fenced) (cause : WakeCause) (i : StartInputs) : LeavesFenced (execWake cause i s) := by
  unfold execWake
  (repeat' split)
  · exact State.done_fenced ((s.start_fenced i .wake).congr (by simp) (by simp) (by simp))
  · exact leavesFenced_next (s.loseSupply_fenced false)
  · exact leavesFenced_next h

theorem execCellBandChange_fenced (h : s.Fenced) (samples : List Nat) (landed : Bool) :
    LeavesFenced (execCellBandChange samples landed s) := by
  unfold execCellBandChange
  dsimp only
  (repeat' split)
  · exact leavesFenced_next h
  · exact State.done_fenced (State.takeBand_fenced h _ landed)
  · exact leavesFenced_next (s.loseSupply_fenced landed)
  · exact leavesFenced_next h

/-- The end of a key shift presents the key of a station that is UNLOCKED (R107). -/
theorem execKeyShiftEnd_fenced (h : s.Fenced) : LeavesFenced (execKeyShiftEnd s) := by
  refine State.whileAwake_fenced h ?_
  split
  · next hc _ =>
    have hwaiting : s.keyPort.waiting = false := Bool.eq_false_iff.mpr fun hw => by simpa [hc] using h.zeros hw
    exact ⟨fun _ => h.unlocked (.inl hc), by simp [hwaiting], h.verifying⟩
  · exact h

/-- The end of a shift of zeros begins a key shift only for a request that waits, and so only UNLOCKED (R107, R108). -/
theorem execZeroShiftEnd_fenced (h : s.Fenced) : LeavesFenced (execZeroShiftEnd s) := by
  refine State.whileAwake_fenced h ?_
  split
  · dsimp only
    split
    · next hw => exact ⟨fun _ => h.unlocked (.inr (.inr hw)), by simp [State.beginKeyShift], h.verifying⟩
    · exact ⟨by simp, by simp, h.verifying⟩
  · exact h

/-! ### The commands -/

/-- Every command keeps the invariant: the frame rows take a frame and serve it, the completions end a write, the keys act once they are taken, the starts begin at rest, the shifts end where the phase lets them, and any other command leaves phase, key port and attempt as they are. -/
theorem exec_fenced (h : s.Fenced) (c : Instr) : LeavesFenced (exec c s) := by
  cases c <;> unfold exec
  case powerUp i => exact execPowerUp_fenced h i
  case supplyLost landed => exact execSupplyLost_fenced h landed
  case wake cause i => exact execWake_fenced h cause i
  case cellBandChange samples landed => exact execCellBandChange_fenced h samples landed
  case keyShiftEnd => exact execKeyShiftEnd_fenced h
  case zeroShiftEnd => exact execZeroShiftEnd_fenced h
  case roll => exact State.frameRow_fenced h fun _ f hs => State.handleRoll_fenced hs f
  case entry => exact State.frameRow_fenced h fun _ f hs => State.handleEntry_fenced hs f
  case verdict => exact State.frameRow_fenced h fun _ f hs => State.handleVerdict_fenced hs f
  case lock => exact State.frameRow_fenced h fun _ f hs => State.handleLock_fenced hs f
  case purge => exact State.frameRow_fenced h fun _ f hs => State.handlePurge_fenced hs f
  case controllerPurge => exact State.frameRow_fenced h fun _ f hs => State.handleControllerPurge_fenced hs f
  case purged => exact State.frameRow_fenced h fun _ f hs => State.handlePurged_fenced hs f
  case stage | retire | answer | range | query | clear =>
    exact State.frameRow_fenced h fun _ f hs => hs.congr (by simp) (by simp) (by simp)
  case status => exact State.frameRow_fenced h fun _ _ hs => hs
  case setup | setupLock =>
    exact State.frameRow_fenced h fun _ f hs =>
      State.serveSetup_fenced hs f fun _ hs => hs.congr (by simp) (by simp) (by simp)
  case adopt | adoptAbandon =>
    exact State.frameRow_fenced h fun _ f hs =>
      State.takeAdopt_fenced hs f fun _ _ _ _ hs => hs.congr (by simp) (by simp) (by simp)
  case keyDigit | keyLock =>
    exact State.whileAwake_fenced h (State.takeKey_fenced h _ fun _ hs => hs.congr (by simp) (by simp) (by simp))
  case keyEnter => exact State.whileAwake_fenced h (State.takeKey_fenced h _ fun _ hs => State.enterKey_fenced hs)
  case attemptComplete slots =>
    refine State.whileAwake_fenced h ?_
    split
    · exact ite_fenced (State.finishAttempt_fenced h _ _ slots) h
    · exact h
  case lineReset =>
    exact State.whileAwake_fenced h
      (ite_fenced h (State.resetPhase_fenced (h.congr (by simp) (by simp) (by simp))))
  case dormancyEntry _ _ => exact State.whileAwake_fenced h (ite_fenced s.sleep_fenced h)
  case assemblyWindowEnd =>
    refine State.whileAwake_fenced h ?_
    split
    · next w _ =>
      have htested :
          (((s.runTo (w.start + assemblyWindow)).setRoster { s.roster with window := none }).completionTest).Fenced :=
        State.completionTest_fenced (h.congr rfl rfl rfl)
      dsimp only
      split
      · next hp => exact (htested.atRest (by simp [hp]) (by simp [hp])).enterPhase (by simp)
      · exact htested
    · exact h
  case verdictWindowExpire =>
    refine State.whileAwake_fenced h ?_
    split
    · next a ha =>
      split
      · exact State.takeDecision_fenced (s := s.runTo _) (h.congr rfl rfl rfl) (h.verifying_of_attempt ha) _
      · exact h
    · exact h
  case attachWindowExpire =>
    refine State.whileAwake_fenced h ?_
    split
    · exact State.lockDown_fenced (s := s.runTo _) (h.congr rfl rfl rfl)
    · exact h
  case detach landed sense => exact State.whileAwake_fenced h (ite_fenced (State.detachNow_fenced h landed) h)
  case attach sense =>
    exact State.whileAwake_fenced h (ite_fenced (h.congr (by simp) (by simp) (by simp)) h)
  case tamperAssertion => exact State.whileAwake_fenced h (ite_fenced h (State.assertTamper_fenced h))
  case purgeWriteComplete =>
    refine State.whileAwake_fenced h ?_
    split
    · exact State.completeWrite_fenced h _ fun _ hs => State.purgeStored_fenced hs _
    · exact h
  case slotWriteComplete =>
    refine State.whileAwake_fenced h ?_
    split
    · exact State.completeWrite_fenced h _ fun _ hs => State.slotStored_fenced hs _
    · exact h
  case attemptWriteComplete =>
    refine State.whileAwake_fenced h ?_
    split
    · exact ite_fenced (State.completeWrite_fenced h _ fun _ hs => State.attemptStored_fenced hs _) h
    · exact h
  case rangeWriteComplete | setupWriteComplete =>
    refine State.whileAwake_fenced h ?_
    split
    · exact State.completeWrite_fenced h _ fun _ hs => hs.congr (by simp) (by simp) (by simp)
    · exact h
  case tamperWriteComplete =>
    refine State.whileAwake_fenced h ?_
    split
    · exact State.completeWrite_fenced h _ fun _ hs => hs
    · exact h
  case keyingWriteComplete =>
    refine State.whileAwake_fenced h ?_
    split
    · exact ite_fenced h (State.completeWrite_fenced h _ fun _ hs => hs.congr (by simp) (by simp) (by simp))
    · exact h
  case setupLockComplete =>
    refine State.whileAwake_fenced h ?_
    split
    · exact State.completeWrite_fenced h _ fun _ hs => State.lockedStored_fenced hs
    · exact h
  case assemblySend =>
    refine State.whileAwake_fenced h ?_
    dsimp only
    (repeat' split) <;> exact h.congr (by simp) (by simp) (by simp)
  all_goals
    refine State.whileAwake_fenced h ?_
    (repeat' split) <;> exact h.congr (by simp) (by simp) (by simp)

/-- Settles O5: a tick leaves phase, key port and attempt, and a command keeps the invariant. -/
theorem keyStaysBehindThePhase : Obligations.KeyStaysBehindThePhase := by
  intro s t hs hstep
  rw [← State.fenced_iff] at hs ⊢
  unfold Steps step at hstep
  split at hstep
  · cases hstep
    exact hs.congr rfl rfl rfl
  · next c rest _ => exact exec_fenced (s := s.setPending rest) (hs.congr rfl rfl rfl) c t hstep

end
end Sys2Proof.Machine
end

section
/-! PROOFS. The checks on an ENTRY, and its answer (R52 to R55, R167, R169). -/

namespace Sys2Proof.Machine

section
variable {s : State} {f : RxFrame} {rest : List RxFrame} {n : StationNo} {e : EntryFields}

/-! ### The seven checks (R53) -/

/-- The sender may originate an entry (check 1). -/
theorem State.entrySender_iff :
    s.entrySender n = true ↔ s.roleOf n = .keypadGuard ∨ (s.roleOf n = .controller ∧ s.hostEntry = true) := by
  simp [State.entrySender]

/-- The cell allows an entry (check 5). -/
theorem State.cellAllowsEntry_iff :
    s.cellAllowsEntry = true ↔ s.supervisor.attached = true ∨ s.supervisor.band ≠ .floor := by
  simp [State.cellAllowsEntry]

theorem State.entryRefusal_sender (h : ¬ s.entrySender n = true) : s.entryRefusal n e = some .refused := by
  simp [State.entryRefusal, h]

theorem State.entryRefusal_phase (h : s.entrySender n = true) (hp : s.phase ≠ .locked) :
    s.entryRefusal n e = some s.phase.turnsAway := by
  have hp' : s.phaseCtl.phase ≠ .locked := hp
  simp [State.entryRefusal, h, hp']

/-- In LOCKED an ENTRY of a sender that may originate it comes to the checks 3 to 7. -/
theorem State.entryRefusal_locked (h : s.entrySender n = true) (hp : s.phase = .locked) :
    s.entryRefusal n e
      = if e.epoch ≠ s.epoch then some .refused
        else if s.holdActive = true then some .hold
        else if s.cellAllowsEntry = true ∧ s.verifier.held.serial < 4294967295 ∧ s.verifier.held.count < s.failureLimit then none
        else some .refused := by
  have hp' : s.phaseCtl.phase = .locked := hp
  by_cases he : e.epoch = s.epoch
  case neg => simp [State.entryRefusal, h, hp', he]
  by_cases hh : s.holdActive = true
  case pos => simp [State.entryRefusal, h, hp', he, hh]
  by_cases hc : s.cellAllowsEntry = true
  case neg => simp [State.entryRefusal, h, hp', he, hh, hc]
  rcases Nat.lt_or_ge s.verifier.held.serial 4294967295 with hserial | hserial <;>
    rcases Nat.lt_or_ge s.verifier.held.count s.failureLimit with hcount | hcount <;>
    simp [State.entryRefusal, h, hp', he, hh, hc, maxSerial, hserial, hcount, Nat.not_le.mpr, Nat.not_lt.mpr]

/-- A phase other than LOCKED that takes no ENTRY refuses it (check 2). -/
theorem Phase.turnsAway_refused {p : Phase} (hv : p ≠ .verifying) (hp : p ≠ .purging) (hw : p ≠ .purgeWait) :
    p.turnsAway = .refused := by
  cases p <;> simp_all [Phase.turnsAway]

theorem Phase.turnsAway_busy {p : Phase} (h : p = .verifying ∨ p = .purging ∨ p = .purgeWait) : p.turnsAway = .busy := by
  rcases h with rfl | rfl | rfl <;> rfl

/-! ### What the handling of an ENTRY looks at -/

theorem State.taken_repeatsEntry (s : State) (rest : List RxFrame) (n : StationNo) (e : EntryFields) :
    (s.taken rest).repeatsEntry n e = s.repeatsEntry n e := rfl

theorem State.taken_findEntry (s : State) (rest : List RxFrame) (n : StationNo) (e : EntryFields) :
    (s.taken rest).findEntry n e = s.findEntry n e := rfl

theorem State.findEntry_refused {r : VerdictResult} (h : s.entryRefusal n e = some r) : s.findEntry n e = .turnedAway r := by
  simp [State.findEntry, h]

theorem State.repeatsEntry_of_none (h : s.verifier.attempt = none) : s.repeatsEntry n e = false := by
  simp [State.repeatsEntry, h]

/-! ### ENTRY, by its effect -/

/-- An ENTRY that is handled is taken by its finding, and an own one has the pending entry tested (R52, R167, R169). -/
theorem exec_entry (h : s.isFront f rest) (hk : f.kind = .entry) :
    exec .entry s = .next ((s.taken rest).handleEntry f).payRoll :=
  State.frameRow_front h (by simp [hk]) _

/-- An ENTRY that repeats the one of the current attempt is ignored (R55). -/
theorem State.takeEntry_repeated (h : s.repeatsEntry f.sender (readEntry f.payload) = true) : s.takeEntry f = s := by
  simp [State.takeEntry, h]

theorem State.takeEntry_found (h : s.repeatsEntry f.sender (readEntry f.payload) = false) {finding : EntryFinding}
    (hf : s.findEntry f.sender (readEntry f.payload) = finding) :
    s.takeEntry f = (s.actOnEntry f.sender (readEntry f.payload) finding).showFinding f.own.isSome finding := by
  simp [State.takeEntry, h, hf]

theorem State.handleEntry_received (hp : s.phase ≠ .halted) (hown : f.own = none) : s.handleEntry f = s.takeEntry f := by
  have hp' : s.phaseCtl.phase ≠ .halted := hp
  simp [State.handleEntry, hp', hown]

theorem State.handleEntry_returned (hp : s.phase ≠ .halted) (hown : f.own.isSome = true) (hd : f.own ≠ some .dropped) :
    s.handleEntry f = (s.takeEntry f).testPending := by
  have hp' : s.phaseCtl.phase ≠ .halted := hp
  simp [State.handleEntry, hp', hown, hd]

theorem State.handleEntry_dropped (hp : s.phase ≠ .halted) (hd : f.own = some .dropped) :
    s.handleEntry f = (s.showTransient .amber).testPending := by
  have hp' : s.phaseCtl.phase ≠ .halted := hp
  simp [State.handleEntry, hp', hd]

/-! ### The pending entry (R167) -/

theorem State.testPending_elsewhere (h : s.phase ≠ .locked) : s.testPending = s := by
  have h' : s.phaseCtl.phase ≠ .locked := h
  unfold State.testPending
  split
  · exact if_neg (by simp [h'])
  all_goals rfl

/-- A pending entry waits until the station is LOCKED with no own ENTRY outstanding. -/
theorem State.testPending_waits (h : s.phase ≠ .locked ∨ s.ownOutstanding .entry = true) : s.testPending = s := by
  rcases h with h | h
  · exact State.testPending_elsewhere h
  · unfold State.testPending
    split
    · exact if_neg (by simp [h])
    all_goals rfl

/-- A pending entry that is due goes out, or is discarded under a hold. -/
theorem State.testPending_due {token : Token} {readOnly : Bool} {due : Micros}
    (hs : s.scanner.seq = .pending token readOnly due) (hp : s.phase = .locked) (ho : s.ownOutstanding .entry = false) :
    s.testPending
      = if s.holdActive = true then s.setScanner { s.scanner with seq := .entry }
        else (s.setScanner { s.scanner with seq := .entry }).offerEntry token readOnly := by
  have hp' : s.phaseCtl.phase = .locked := hp
  simp only [State.testPending, hs, State.phase, hp', ho, and_self, if_true]
  rfl

end

/-- Settles O22, by who the ENTRY comes from and the finding that the checks give. -/
theorem entriesAreCheckedInOrder : Obligations.EntriesAreCheckedInOrder := by
  refine ⟨fun s n e => ?checks, fun s f rest hfront hk hown hh => ?received,
    fun s f rest o hfront hk hown hh => ?returned, fun s => ?pending⟩
  case checks =>
    intro sender cell
    have hsender : s.entrySender n = true ↔ sender := State.entrySender_iff
    have hcell : s.cellAllowsEntry = true ↔ cell := State.cellAllowsEntry_iff
    rw [← hsender, ← hcell]
    refine ⟨State.entryRefusal_sender, fun h hp => ?_, fun h hl hv hp hw => ?_, fun h hl he => ?_, fun h hl he hh => ?_,
      fun h hl he hh hno => ?_, fun h hl he hh hc hserial hcount => ?_⟩
    · rw [State.entryRefusal_phase h (by rcases hp with hp | hp | hp <;> simp [hp]), Phase.turnsAway_busy hp]
    · rw [State.entryRefusal_phase h hl, Phase.turnsAway_refused hv hp hw]
    · rw [State.entryRefusal_locked h hl, if_pos he]
    · rw [State.entryRefusal_locked h hl, if_neg (not_not.mpr he), if_pos hh]
    · rw [State.entryRefusal_locked h hl, if_neg (not_not.mpr he), if_neg (by simp [hh]), if_neg hno]
    · rw [State.entryRefusal_locked h hl, if_neg (not_not.mpr he), if_neg (by simp [hh]), if_pos ⟨hc, hserial, hcount⟩]
  case received =>
    intro e
    have hh' : (s.taken rest).phase ≠ .halted := hh
    rw [exec_entry hfront hk, State.handleEntry_received hh' hown]
    refine ⟨fun hrepeats => ?_, fun r hrepeats hr => ?_⟩
    · rw [State.takeEntry_repeated (by exact hrepeats)]
    · rw [State.takeEntry_found (s := s.taken rest) (by exact hrepeats) (State.findEntry_refused (by exact hr)), hown]
      rfl
  case returned =>
    intro e amber sent
    have hh' : (s.taken rest).phase ≠ .halted := hh
    rw [exec_entry hfront hk]
    refine ⟨fun hd => ?_, fun hd hrepeats => ?_, fun r hd hrepeats hr => ?_⟩
    · rw [State.handleEntry_dropped hh' (by rw [hown, hd])]
      rfl
    · rw [State.handleEntry_returned hh' (by simp [hown]) (by simpa [hown] using hd),
        State.takeEntry_repeated (by exact hrepeats)]
    · rw [State.handleEntry_returned hh' (by simp [hown]) (by simpa [hown] using hd),
        State.takeEntry_found (s := s.taken rest) (by exact hrepeats) (State.findEntry_refused (by exact hr)), hown]
      refine ⟨?_, ?_⟩
      · rintro rfl
        rfl
      · rintro (rfl | rfl) <;> rfl
  case pending =>
    refine ⟨fun hnot => ?_, fun token readOnly due hs => ⟨State.testPending_waits, fun hp ho hh => ?_, fun hp ho hh => ?_⟩⟩
    · unfold State.testPending
      split
      · next token readOnly due hs => exact absurd hs (hnot token readOnly due)
      all_goals rfl
    · rw [State.testPending_due hs hp ho, if_pos hh]
    · rw [State.testPending_due hs hp ho, if_neg (by simp [hh])]

end Sys2Proof.Machine
end

section
/-! PROOFS. The slot that a token matches, and the refusal under tamper (R56, R57, R75, R76). -/

namespace Sys2Proof.Machine

section
variable {s : State} {n : StationNo} {e : EntryFields} {slot : SlotNo} {key : ChannelKey}

/-! ### The slot that a token matches (R56) -/

theorem WrappedKey.unwrap_eq_some_iff {w : WrappedKey} {v : WrapValue} : w.unwrap v = some key ↔ w = ⟨v, key⟩ := by
  obtain ⟨sealedUnder, held⟩ := w
  simp [WrappedKey.unwrap]

theorem State.matchSlot_eq_some_iff {token : Token} {i j : SlotNo} :
    s.matchSlot token i = some (j, key) ↔ i = j ∧ s.tokenOpens token i key := by
  unfold State.matchSlot State.tokenOpens
  cases (s.slotAt i).body with
  | empty => simp
  | diverged => simp
  | active c =>
    by_cases hv : c.verifier = ⟨s.slotTable.salt, token⟩
    · simp [State.checkValue, State.wrapValue, hv, WrappedKey.unwrap_eq_some_iff, and_comm]
    · simp [State.checkValue, hv]

theorem State.matchSlot_eq_none_iff {token : Token} {i : SlotNo} :
    s.matchSlot token i = none ↔ ∀ key, ¬ s.tokenOpens token i key := by
  refine ⟨fun h key hopens => ?_, fun h => ?_⟩
  · simp [State.matchSlot_eq_some_iff.mpr ⟨rfl, hopens⟩] at h
  · cases hm : s.matchSlot token i with
    | none => rfl
    | some found => exact absurd (State.matchSlot_eq_some_iff.mp hm).2 (h _)

theorem slotNumbers_eq_finRange : slotNumbers = List.finRange 6 := by decide

theorem State.checkToken_eq_findSome (s : State) (token : Token) :
    s.checkToken token = Fin.findSome? (s.matchSlot token) := by
  rw [State.checkToken, slotNumbers_eq_finRange, Fin.findSome?_eq_findSome?_finRange]

/-- A token matches the first slot that it opens. -/
theorem State.checkToken_eq_some_iff {token : Token} :
    s.checkToken token = some (slot, key) ↔
      s.tokenOpens token slot key ∧ ∀ j : SlotNo, j < slot → ∀ k, ¬ s.tokenOpens token j k := by
  simp only [State.checkToken_eq_findSome, Fin.findSome?_eq_some_iff, State.matchSlot_eq_some_iff,
    State.matchSlot_eq_none_iff, and_assoc, exists_eq_left]

theorem State.checkToken_eq_none_iff {token : Token} : s.checkToken token = none ↔ ∀ i key, ¬ s.tokenOpens token i key := by
  simp only [State.checkToken_eq_findSome, Fin.findSome?_eq_none_iff, State.matchSlot_eq_none_iff]

/-! ### The finding past the checks (R57) -/

theorem State.findEntry_mismatched (h : s.entryRefusal n e = none) (ht : s.checkToken e.token = none) :
    s.findEntry n e = .mismatched := by
  simp [State.findEntry, h, ht]

theorem State.findEntry_matched (h : s.entryRefusal n e = none) (ht : s.checkToken e.token = some (slot, key))
    (hallowed : slot = 0 ∨ s.showsTamper = false) : s.findEntry n e = .matched slot key := by
  have hnot : ¬ (slot ≠ 0 ∧ s.showsTamper = true) := by
    rintro ⟨hslot, htamper⟩
    simp [hslot, htamper] at hallowed
  simp [State.findEntry, h, ht, hnot]

theorem State.findEntry_tampered (h : s.entryRefusal n e = none) (ht : s.checkToken e.token = some (slot, key))
    (hslot : slot ≠ 0) (htamper : s.showsTamper = true) : s.findEntry n e = .turnedAway .refused := by
  simp [State.findEntry, h, ht, hslot, htamper]

/-- The drive shows tamper by the own latch or by the flag of a PRESENT member (R57). -/
theorem State.showsTamper_iff :
    s.showsTamper = true ↔ s.supervisor.tampered = true
      ∨ ∃ n r, n ≠ s.sn ∧ s.isMember n = true ∧ s.roster.entries[n].presence = .present
          ∧ s.roster.entries[n].last = some (.guard r) ∧ r.tamper = true := by
  unfold State.showsTamper
  rw [Bool.or_eq_true, List.any_eq_true]
  refine or_congr_right ⟨fun ⟨n, hn, h⟩ => ?_, fun ⟨n, r, hne, hm, hpresent, hlast, htamper⟩ => ?_⟩
  · obtain ⟨hmember, hne⟩ := State.mem_others.mp hn
    obtain ⟨hpresent, hflag⟩ := Bool.and_eq_true_iff.mp h
    rw [State.presence_other hne] at hpresent
    split at hflag
    · next r hr =>
      exact ⟨n, r, hne, State.mem_members.mp hmember, of_decide_eq_true hpresent, (State.lastGuard_other hne r).mp hr, hflag⟩
    · cases hflag
  · refine ⟨n, State.mem_others.mpr ⟨State.mem_members.mpr hm, hne⟩, ?_⟩
    have hseen : s.presence n = .present := (State.presence_other hne).trans hpresent
    simp [hseen, (State.lastGuard_other hne r).mpr hlast, htamper]

end

/-- Settles O56. -/
theorem userMatchIsRefusedUnderTamper : Obligations.UserMatchIsRefusedUnderTamper := by
  refine ⟨fun s => State.showsTamper_iff, fun s n e slot key hpasses hopens hfirst => ?finding,
    fun s f rest slot key hfront hk hown ha hpasses hopens hfirst hslot htamper => ?answered⟩
  case finding =>
    have htoken := State.checkToken_eq_some_iff.mpr ⟨hopens, hfirst⟩
    exact ⟨State.findEntry_tampered hpasses htoken, State.findEntry_matched hpasses htoken⟩
  case answered =>
    have htoken := State.checkToken_eq_some_iff.mpr ⟨hopens, hfirst⟩
    have hp : s.phase = .locked := State.entryRefusal_none_locked hpasses
    have hh : (s.taken rest).phase ≠ .halted := by
      simp [hp]
    rw [exec_entry hfront hk, State.handleEntry_received hh hown,
      State.takeEntry_found (s := s.taken rest) (State.repeatsEntry_of_none ha)
        (State.findEntry_tampered (by exact hpasses) (by exact htoken) hslot (by exact htamper)), hown]
    rfl

end Sys2Proof.Machine
end

section
/-! PROOFS. Requests to the record store, the arbiter's choice, and the increment that a write stores (R59, R206, R207). -/

namespace Sys2Proof.Machine

section
variable {s : State} {r : Requester} {rec : RecordId}

/-! ### The arbiter -/

/-- What a record holds does not depend on the store. -/
theorem State.heldContents_setStore (s : State) (v : Store) (rec : RecordId) :
    (s.setStore v).heldContents rec = s.heldContents rec := by
  cases rec <;> rfl

/-- The first requester with a request pending is the one chosen. -/
theorem Requests.first_append {q : Requests} {before after : List Requester} (hb : ∀ p ∈ before, q.get p = Option.none)
    (hr : q.get r = some rec) : q.first (before ++ r :: after) = some (r, rec) := by
  induction before with
  | nil => simp [Requests.first, hr]
  | cons p before ih =>
    have hp : q.get p = Option.none := hb p List.mem_cons_self
    simp only [List.cons_append, Requests.first, hp]
    exact ih fun p' hp' => hb p' (List.mem_cons_of_mem p hp')

theorem State.arbitrate_some (h : s.store.requests.first arbiterOrder = some (r, rec)) :
    s.arbitrate
      = s.setStore
          { s.store with
            inFlight := some ⟨r, s.heldContents rec, s.store.grants + 1⟩, grants := s.store.grants + 1
            deciding := false, requests := s.store.requests.put r none } := by
  simp [State.arbitrate, h, State.grantWrite, State.heldContents_setStore]

theorem State.arbitrate_none (h : s.store.requests = Requests.none) :
    s.arbitrate = s.setStore { s.store with deciding := false } := by
  simp [State.arbitrate, (Requests.first_eq_none _).mpr h]

/-! ### Requests -/

/-- A request with none of its own pending waits at a store that is not idle. -/
theorem State.request_busy (h : s.store.requests.get r = none)
    (hb : s.store.inFlight.isSome = true ∨ s.store.deciding = true) :
    s.request r rec = s.setStore { s.store with requests := s.store.requests.put r (some rec) } := by
  rcases hb with hb | hb
  · exact s.request_waits r rec h hb
  · simp [State.request, h, hb]

/-! ### The increment (R59) -/

theorem exec_attemptWriteComplete {stored : AttemptRecord} {serial : Nat}
    (h : s.writing .verifier (.attempt stored) serial) :
    exec .attemptWriteComplete s
      = .next ((s.stores (.attempt stored)).storeIncrement serial stored).arbitrate.payRoll := by
  obtain ⟨hawake, hw⟩ := h
  change execAttemptWriteComplete s = _
  simp [execAttemptWriteComplete, State.whileAwake_of_awake hawake, hw, State.completeWrite_eq, State.attemptStored]

theorem State.storeIncrement_none (h : s.verifier.attempt = none) (serial : Nat) (stored : AttemptRecord) :
    s.storeIncrement serial stored = s := by
  simp [State.storeIncrement, h]

/-- The write of a grant after the raise carries it (R59). -/
theorem State.storeIncrement_carried {a : Attempt} {raisedAt serial : Nat} (ha : s.verifier.attempt = some a)
    (hown : a.own = .mismatched false raisedAt) (hless : raisedAt < serial) (stored : AttemptRecord) :
    s.storeIncrement serial stored
      = (s.setVerifier { s.verifier with attempt := some { a with own := .mismatched true raisedAt } }).offerVerdict
          a.origin a.seq .mismatch 0 (stored.serial, stored.count) := by
  simp [State.storeIncrement, ha, hown, hless]

end

/-- Settles O24. -/
theorem storedIncrementIsReported : Obligations.StoredIncrementIsReported := by
  refine ⟨fun s r serial raisedAt a hwriting => ?_, fun s before after r rec horder hb hr => ?_,
    fun s => State.arbitrate_none, fun s r rec => ⟨s.request_pending r rec, s.request_idle r rec, State.request_busy⟩⟩
  · rw [exec_attemptWriteComplete hwriting]
    refine ⟨fun ha => ?_, fun ha hown hless => ?_⟩
    · rw [State.storeIncrement_none (s := s.stores (.attempt r)) ha]
    · rw [State.storeIncrement_carried (s := s.stores (.attempt r)) ha hown hless]
      rfl
  · refine State.arbitrate_some ?_
    rw [arbiterOrder, horder]
    exact Requests.first_append hb hr

end Sys2Proof.Machine
end

section
/-! PROOFS. VERIFYING begins: a match answers at once, a mismatch counts first (R50, R52, R57 to R59, R61). -/

namespace Sys2Proof.Machine

section
variable {s : State} {f : RxFrame} {rest : List RxFrame} {n : StationNo} {e : EntryFields} {slot : SlotNo}
  {key : ChannelKey} {own : OwnResult}

/-! ### The attempt -/

theorem State.beginAttempt_phase (s : State) (n : StationNo) (e : EntryFields) (own : OwnResult) :
    (s.beginAttempt n e own).phase = .verifying := by
  simp [State.beginAttempt, State.carriedOn]

theorem State.beginAttempt_grants (s : State) (n : StationNo) (e : EntryFields) (own : OwnResult) :
    (s.beginAttempt n e own).phaseCtl.grant = .pub ∧ (s.beginAttempt n e own).gate.grant = .pub := by
  simp [State.beginAttempt, State.carriedOn, grantFor]

/-- The attempt as it begins, with its window of 250 ms (R58, R59, R61). -/
theorem State.beginAttempt_verifier (s : State) (n : StationNo) (e : EntryFields) (own : OwnResult) :
    (s.beginAttempt n e own).verifier
      = { s.verifier with
          attempt := some ⟨n, e.seq, e.readOnly, own, some (s.clock + 250000), Vector.replicate 8 none, none⟩ } := by
  simp [State.beginAttempt, verdictWindow, ms]

/-- The move to VERIFYING offers no frame. -/
theorem State.beginAttempt_line (s : State) (n : StationNo) (e : EntryFields) (own : OwnResult) :
    (s.beginAttempt n e own).line = s.line :=
  State.enterPhase_line _ _ (by simp [State.carriedOn])

/-! ### A match, and a mismatch -/

/-- Past the checks the station is LOCKED without an attempt, and what an ENTRY finds it acts on, own or received (R52). -/
theorem State.handleEntry_passed (hd : f.own ≠ some .dropped) (ha : s.verifier.attempt = none)
    (hpasses : s.entryRefusal f.sender (readEntry f.payload) = none) {finding : EntryFinding}
    (hf : s.findEntry f.sender (readEntry f.payload) = finding) :
    s.handleEntry f
      = if f.own.isSome = true then
          ((s.actOnEntry f.sender (readEntry f.payload) finding).showFinding f.own.isSome finding).testPending
        else (s.actOnEntry f.sender (readEntry f.payload) finding).showFinding f.own.isSome finding := by
  have hh : s.phase ≠ .halted := by simp [State.entryRefusal_none_locked hpasses]
  have htaken := State.takeEntry_found (f := f) (State.repeatsEntry_of_none ha) hf
  split
  · next hown => rw [State.handleEntry_returned hh hown hd, htaken]
  · next hown => rw [State.handleEntry_received hh (by simpa using hown), htaken]

/-- A finding that begins VERIFYING shows nothing and leaves a pending entry waiting (R167, R169). -/
theorem State.handleEntry_verifies (hd : f.own ≠ some .dropped) (ha : s.verifier.attempt = none)
    (hpasses : s.entryRefusal f.sender (readEntry f.payload) = none) {finding : EntryFinding}
    (hf : s.findEntry f.sender (readEntry f.payload) = finding) (hno : finding.transient = none)
    (hp : (s.actOnEntry f.sender (readEntry f.payload) finding).phase = .verifying) :
    s.handleEntry f = s.actOnEntry f.sender (readEntry f.payload) finding := by
  have hshown : (s.actOnEntry f.sender (readEntry f.payload) finding).showFinding f.own.isSome finding
      = s.actOnEntry f.sender (readEntry f.payload) finding := by
    cases f.own.isSome <;> simp [State.showFinding, hno]
  rw [State.handleEntry_passed hd ha hpasses hf, hshown, State.testPending_elsewhere (by simp [hp]), ite_self]

theorem exec_entry_matched (hfront : s.isFront f rest) (hk : f.kind = .entry) (hd : f.own ≠ some .dropped)
    (ha : s.verifier.attempt = none) (hpasses : s.entryRefusal f.sender (readEntry f.payload) = none)
    (ht : s.checkToken (readEntry f.payload).token = some (slot, key)) (hallowed : slot = 0 ∨ s.showsTamper = false) :
    exec .entry s
      = .next (((s.taken rest).beginAttempt f.sender (readEntry f.payload) (.matched slot key)).offerVerdict f.sender
          (readEntry f.payload).seq .matched slot.val s.pair).payRoll := by
  have hfound : (s.taken rest).findEntry f.sender (readEntry f.payload) = .matched slot key :=
    State.findEntry_matched hpasses ht hallowed
  have hphase : ((s.taken rest).actOnEntry f.sender (readEntry f.payload) (.matched slot key)).phaseCtl.phase = .verifying := by
    simpa [State.actOnEntry] using State.beginAttempt_phase (s.taken rest) f.sender (readEntry f.payload) (.matched slot key)
  rw [exec_entry hfront hk, State.handleEntry_verifies (s := s.taken rest) hd ha (by exact hpasses) hfound rfl hphase]
  rfl

theorem exec_entry_mismatched (hfront : s.isFront f rest) (hk : f.kind = .entry) (hd : f.own ≠ some .dropped)
    (ha : s.verifier.attempt = none) (hpasses : s.entryRefusal f.sender (readEntry f.payload) = none)
    (ht : s.checkToken (readEntry f.payload).token = none) :
    exec .entry s = .next ((s.taken rest).countFailure f.sender (readEntry f.payload)).payRoll := by
  have hfound : (s.taken rest).findEntry f.sender (readEntry f.payload) = .mismatched :=
    State.findEntry_mismatched hpasses ht
  have hphase : ((s.taken rest).actOnEntry f.sender (readEntry f.payload) .mismatched).phase = .verifying :=
    State.beginAttempt_phase _ _ _ _
  rw [exec_entry hfront hk, State.handleEntry_verifies (s := s.taken rest) hd ha (by exact hpasses) hfound rfl hphase]
  rfl

/-- A user match under tamper is refused, and an own one shows amber (R57, R169). -/
theorem exec_entry_tampered (hfront : s.isFront f rest) (hk : f.kind = .entry) (hd : f.own ≠ some .dropped)
    (ha : s.verifier.attempt = none) (hpasses : s.entryRefusal f.sender (readEntry f.payload) = none)
    (ht : s.checkToken (readEntry f.payload).token = some (slot, key)) (hslot : slot ≠ 0) (htamper : s.showsTamper = true) :
    exec .entry s
      = .next (if f.own.isSome = true then
            (((s.taken rest).offerVerdict f.sender (readEntry f.payload).seq .refused 0 s.pair).showTransient
              .amber).testPending
          else (s.taken rest).offerVerdict f.sender (readEntry f.payload).seq .refused 0 s.pair).payRoll := by
  have hfound : (s.taken rest).findEntry f.sender (readEntry f.payload) = .turnedAway .refused :=
    State.findEntry_tampered hpasses ht hslot htamper
  rw [exec_entry hfront hk, State.handleEntry_passed (s := s.taken rest) hd ha (by exact hpasses) hfound]
  have hpair : (s.taken rest).pair = s.pair := rfl
  cases f.own.isSome <;> simp [State.actOnEntry, State.showFinding, EntryFinding.transient, hpair]

/-! ### The count of a failure (R59) -/

/-- The station with the failure counted and its write requested, before VERIFYING begins. -/
def State.failureCounted (s : State) : State :=
  (s.setPair s.verifier.held.serial (s.verifier.held.count + 1)).request .verifier .attempt

theorem State.countFailure_eq (s : State) (n : StationNo) (e : EntryFields) :
    s.countFailure n e = s.failureCounted.beginAttempt n e (.mismatched false s.store.grants) := rfl

@[simp] theorem State.failureCounted_frame (s : State) :
    s.failureCounted.clock = s.clock ∧ s.failureCounted.line = s.line ∧ s.failureCounted.roster = s.roster
    ∧ s.failureCounted.slotTable = s.slotTable ∧ s.failureCounted.keyPort = s.keyPort
    ∧ s.failureCounted.purge = s.purge ∧ s.failureCounted.gate = s.gate ∧ s.failureCounted.setup = s.setup
    ∧ s.failureCounted.store.stored = s.store.stored
    ∧ s.failureCounted.verifier
        = { s.verifier with held := { s.verifier.held with count := s.verifier.held.count + 1 } } := by
  simp [State.failureCounted, State.setPair]

/-- The write of the counted failure: granted at once, pending, or carried by a request that is pending already (R50, R206). -/
theorem State.failureCounted_store (s : State) :
    (s.store.requests.verifier = none → s.store.inFlight = none → s.store.deciding = false →
      s.failureCounted.store.inFlight
        = some ⟨.verifier, .attempt { s.verifier.held with count := s.verifier.held.count + 1 }, s.store.grants + 1⟩)
    ∧ (s.store.requests.verifier = none → s.store.inFlight.isSome = true ∨ s.store.deciding = true →
      s.failureCounted.store.requests.verifier = some .attempt ∧ s.failureCounted.store.inFlight = s.store.inFlight)
    ∧ (s.store.requests.verifier.isSome = true → s.failureCounted.store = s.store) := by
  refine ⟨fun hq hi hd => ?_, fun hq hb => ?_, fun hq => ?_⟩
  · rw [State.failureCounted, State.request_idle _ _ _ (by exact hq) (by exact hi) (by exact hd)]
    rfl
  · rw [State.failureCounted, State.request_busy (by exact hq) (by exact hb)]
    exact ⟨rfl, rfl⟩
  · rw [State.failureCounted, State.request_pending _ _ _ (by exact hq)]
    rfl

end

/-- Settles O23, by the finding past the checks: a match that is allowed, a match under tamper, or none. -/
theorem acceptedEntryBeginsVerifying : Obligations.AcceptedEntryBeginsVerifying := by
  refine ⟨fun s f rest slot key hfront hk hd ha => ?matched, fun s f rest hfront hk hd ha => ?mismatched,
    fun s token => ⟨fun i key => State.checkToken_eq_some_iff, State.checkToken_eq_none_iff⟩⟩
  case matched =>
    intro e hpasses ht verdict
    refine ⟨fun hallowed => ?_, fun hslot htamper => ?_⟩
    · have hexec := exec_entry_matched hfront hk hd ha hpasses ht hallowed
      obtain ⟨hgrant, hgate⟩ := State.beginAttempt_grants (s.taken rest) f.sender e (.matched slot key)
      exact ⟨_, hexec, State.beginAttempt_phase _ _ _ _, hgrant, hgate, State.beginAttempt_verifier _ _ _ _, by simp, by simp,
        by simp, by simp, State.beginAttempt_line _ _ _ _, by simp [State.keepsRecords]⟩
    · have hexec := exec_entry_tampered hfront hk hd ha hpasses ht hslot htamper
      intro sent
      refine ⟨fun hown => ?_, fun hown => ?_⟩
      · rw [hexec, if_neg (by simp [hown])]
        rfl
      · have hclock : sent.clock = s.clock := by simp [sent]
        rw [hexec, if_pos hown, ← hclock]
        rfl
  case mismatched =>
    intro e hpasses ht
    have hexec := exec_entry_mismatched hfront hk hd ha hpasses ht
    rw [State.countFailure_eq] at hexec
    obtain ⟨hgrant, _⟩ :=
      State.beginAttempt_grants (s.taken rest).failureCounted f.sender e (.mismatched false s.store.grants)
    obtain ⟨hidle, hbusy, hpending⟩ := State.failureCounted_store (s.taken rest)
    refine ⟨_, hexec, by simpa using State.beginAttempt_phase _ _ _ _, by simpa using hgrant, ?_, by simpa using hidle,
      by simpa using hbusy, by simpa using hpending, fun howed => ?_, by simp, by simp, by simp, by simp [State.keepsRecords]⟩
    · simp [State.beginAttempt_verifier, e]
    · rw [State.payRoll_of_not_owed (by simpa using howed), State.beginAttempt_line]
      simp

end Sys2Proof.Machine
end

section
/-! PROOFS. QUERY, STATUS and CLEAR (R72, R135, R195, R196, R201 to R204). -/

namespace Sys2Proof.Machine

section
variable {s : State} {f : RxFrame} {rest : List RxFrame}

/-! ### The three kinds, by their effect -/

theorem exec_query (h : s.isFront f rest) (hk : f.kind = .query) :
    exec .query s = .next ((s.taken rest).answerQuery f).payRoll :=
  State.frameRow_front h (by simp [hk]) _

theorem exec_status (h : s.isFront f rest) (hk : f.kind = .status) : exec .status s = .next (s.taken rest).payRoll :=
  State.frameRow_front h (by simp [hk]) fun s _ => s

theorem exec_clear (h : s.isFront f rest) (hk : f.kind = .clear) :
    exec .clear s = .next ((s.taken rest).handleClear f).payRoll :=
  State.frameRow_front h (by simp [hk]) _

theorem State.handleClear_halted (h : s.phase = .halted) : s.handleClear f = s := if_pos h

theorem State.handleClear_serves (hh : s.phase ≠ .halted) (h : s.phase = .uncommissioned ∨ s.roleOf f.sender = .controller) :
    s.handleClear f = (s.clearEvents (u16 f.payload 0)).answerClear f.sender .done := by
  rw [State.handleClear, if_neg hh, if_pos h]

theorem State.handleClear_refuses (hh : s.phase ≠ .halted)
    (h : ¬ (s.phase = .uncommissioned ∨ s.roleOf f.sender = .controller)) :
    s.handleClear f = s.answerClear f.sender .refused := by
  rw [State.handleClear, if_neg hh, if_neg h]

/-! ### The fields of STATUS (Tables 10-4 and 11-18) -/

theorem bit_mul (b : Bool) (value : Nat) : bit b * value = if b = true then value else 0 := by
  cases b <;> simp [bit]

/-- The grant as STATUS shows it: its kind, its slot and its read-only flag. -/
def Grant.fields : Grant → Nat × Nat × Bool
  | .none => (0, 0, false)
  | .pub => (1, 0, false)
  | .user slot readOnly => (2, slot.val, readOnly)
  | .admin slot readOnly => (3, slot.val, readOnly)

theorem Grant.fields_eq (g : Grant) : g.fields = (g.kindCode, g.shown.1, g.shown.2) := by
  cases g <;> rfl

/-- Without a locked record no station has a role, so none is missing (R33, R36). -/
theorem State.memberMissing_unlocked (h : s.setup.state ≠ .locked) : s.memberMissing = false := by
  have hnone : s.lockedSetup = none := if_neg h
  have hmember (n : StationNo) : s.isMember n = false := by simp [State.isMember, State.roleOf, hnone]
  simp [State.memberMissing, State.members, hmember]

end

/-- Settles O60. -/
theorem queryStatusAndClearAreServed : Obligations.QueryStatusAndClearAreServed := by
  refine ⟨fun s f rest hfront => ⟨fun hk hl => ?query, fun hk hl => ?unlocked, exec_status hfront, fun hk hp => ?halted,
    fun hk hh hu hr => ?refused, fun hk hh hserved => ?cleared⟩, fun s => ?fields⟩
  case query =>
    rw [exec_query hfront hk, State.answerQuery, if_pos (by simpa using hl)]
    rfl
  case unlocked =>
    rw [exec_query hfront hk, State.answerQuery, if_neg (by simpa using hl)]
    rfl
  case halted => rw [exec_clear hfront hk, State.handleClear_halted (by simpa using hp)]
  case refused =>
    rw [exec_clear hfront hk, State.handleClear_refuses (s := s.taken rest) hh (not_or.mpr ⟨hu, hr⟩)]
    rfl
  case cleared =>
    rw [exec_clear hfront hk, State.handleClear_serves (s := s.taken rest) hh hserved]
    rfl
  case fields =>
    intro b grant shown hold journal cause conditions events first
    have hshown : shown = (grant.kindCode, grant.shown.1, grant.shown.2) := grant.fields_eq
    have hcause : cause = causeShown journal.cause := by
      simp only [cause]
      rcases journal.cause with _ | (_ | _ | _ | _) <;> rfl
    have hevents : s.eventsMask = events := rfl
    have hconditions : s.conditionsMask = conditions := rfl
    refine ⟨hevents, hconditions, ?_, ?_, State.memberMissing_unlocked, fun hp => if_pos hp, fun hp => if_neg hp⟩
    · rw [← hevents, ← hconditions, hshown, hcause]
      simp only [b, ← bit_mul, Nat.mul_one]
      rfl
    · rw [← hevents, ← hconditions]
      rfl

end Sys2Proof.Machine
end

section
/-! PROOFS. The outcome of a set of verdicts, the pair that a decision merges, and the hold (R64, R71, R72, Tables 3-5 and 3-7). -/

namespace Sys2Proof.Machine

/-! ### The outcome (Table 3-5) -/

section
variable {l : List Filed}

/-- MATCH verdicts name one slot at most where no two of them differ in their slot. -/
theorem oneSlot_iff :
    oneSlot l = true ↔ ¬ ∃ f ∈ l, ∃ g ∈ l, f.result = .matched ∧ g.result = .matched ∧ f.slot ≠ g.slot := by
  refine ⟨fun h ⟨f, hf, g, hg, hfm, hgm, hne⟩ => ?_, fun h => ?_⟩
  · obtain ⟨slot, hslot⟩ := oneSlot_names h
    exact hne ((hslot f hf hfm).trans (hslot g hg hgm).symm)
  · have hsame (i j : Nat) (hi : i ∈ matchedSlots l) (hj : j ∈ matchedSlots l) : i = j := by
      simp only [matchedSlots, List.mem_map, List.mem_filter, decide_eq_true_eq] at hi hj
      obtain ⟨f, ⟨hf, hfm⟩, rfl⟩ := hi
      obtain ⟨g, ⟨hg, hgm⟩, rfl⟩ := hj
      by_contra hne
      exact h ⟨f, hf, g, hg, hfm, hgm, hne⟩
    unfold oneSlot
    split
    · rfl
    · next i rest hslots =>
      refine List.all_eq_true.mpr fun j hj => decide_eq_true (hsame _ _ ?_ ?_) <;> simp [hslots, hj]

/-- A full set is decided by its mismatches, then its slots, then whether all of it matches; the rows of Table 3-5 in order. -/
theorem outcomeOf_full (l : List Filed) :
    outcomeOf true l
      = if ∃ f ∈ l, f.result = .mismatch then .failure
        else if oneSlot l = false then .failure
        else if ∀ f ∈ l, f.result = .matched then .unlock
        else .void := by
  simp [outcomeOf]

theorem outcomeOf_partial (l : List Filed) : outcomeOf false l = .void := by
  simp [outcomeOf]

end

/-! ### The merged pair (R64) -/

section
variable {s : State} {filed : Vector (Option Filed) 8} {l : List StationNo}

/-- The pair that a filed verdict reports. -/
def filedPair (filed : Vector (Option Filed) 8) (n : StationNo) : Option (Nat × Nat) :=
  filed[n].map fun w => (w.serial, w.count)

theorem filedPair_eq_some_iff {n : StationNo} {q : Nat × Nat} :
    filedPair filed n = some q ↔ ∃ w, filed[n] = some w ∧ q = (w.serial, w.count) := by
  simp [filedPair, eq_comm (a := q)]

theorem State.bestFiled_eq (s : State) (filed : Vector (Option Filed) 8) (l : List StationNo) :
    s.bestFiled filed l = largestOf (filedPair filed) s.pair l := by
  unfold State.bestFiled largestOf
  congr 1
  funext best n
  simp only [filedPair]
  cases filed[n] <;> rfl

theorem State.bestFiled_upper {n : StationNo} {w : Filed} (hn : n ∈ l) (hw : filed[n] = some w) :
    PairGrows (w.serial, w.count) (s.bestFiled filed l) := by
  rw [State.bestFiled_eq]
  exact largestOf_upper hn (filedPair_eq_some_iff.mpr ⟨w, hw, rfl⟩)

theorem State.bestFiled_mem (s : State) (filed : Vector (Option Filed) 8) (l : List StationNo) :
    s.bestFiled filed l = s.pair ∨ ∃ n ∈ l, ∃ w, filed[n] = some w ∧ s.bestFiled filed l = (w.serial, w.count) := by
  have hmem := largestOf_mem (report := filedPair filed) (start := s.pair) (l := l)
  rw [← State.bestFiled_eq] at hmem
  simpa only [filedPair_eq_some_iff] using hmem

theorem State.mem_mergers {n : StationNo} :
    n ∈ s.mergers ↔ s.isMember n = true ∧ (n = s.sn ∨ s.sameEpoch n = true) := by
  simp [State.mergers, State.mem_members]

end

/-! ### The hold -/

theorem exec_holdExpire {s : State} {due : Micros} (hawake : s.awake = true) (hh : s.verifier.hold = some due) :
    exec .holdExpire s = .next (s.runTo due).stopHold.payRoll := by
  change execHoldExpire s = _
  simp [execHoldExpire, State.whileAwake_of_awake hawake, hh]

/-- Settles O26. -/
theorem outcomeAndHoldFollowTheirTables : Obligations.OutcomeAndHoldFollowTheirTables := by
  refine ⟨fun l => ?outcome, ⟨fun n hn => if_pos (by omega), rfl, rfl, rfl, rfl, rfl, rfl, fun n hn => ?greatest,
    fun s due hawake hh => ?ends⟩, fun s filed l => ?merged⟩
  case outcome =>
    intro mismatch twoSlots allMatched
    have hslots : oneSlot l = false ↔ twoSlots := by rw [← Bool.not_eq_true, oneSlot_iff, not_not]
    rw [outcomeOf_full]
    refine ⟨fun hm => if_pos hm, fun hm ht => ?_, fun ht ha => ?_, fun hm ht ha => ?_, outcomeOf_partial l⟩
    · rw [if_neg hm, if_pos (hslots.mpr ht)]
    · have hm : ¬ mismatch := fun ⟨f, hf, hmis⟩ => by simp [ha f hf] at hmis
      rw [if_neg hm, if_neg (hslots.not.mpr ht), if_pos ha]
    · rw [if_neg hm, if_neg (hslots.not.mpr ht), if_neg ha]
  case greatest =>
    unfold holdDuration
    rw [if_neg (by omega), if_neg (by omega), if_neg (by omega), if_neg (by omega), if_neg (by omega), if_neg (by omega),
      if_neg (by omega)]
    rfl
  case ends =>
    rw [exec_holdExpire hawake hh]
    rfl
  case merged =>
    refine ⟨(s.bestFiled_grows filed l).imp_right (s.raises_iff _).mp, s.bestFiled_mem filed l, fun n hn w hw => ?_,
      fun n => State.mem_mergers⟩
    exact pairGrows_iff.mp (State.bestFiled_upper hn hw)

end Sys2Proof.Machine
end

section
/-! PROOFS. The hand-over of an unlock, and what a busy store makes of requests (R65, R66, R103, R107, R206). -/

namespace Sys2Proof.Machine

/-! ### Requests to a store that is not idle -/

/-- A write is in flight, or the store has yet to choose (R206, R207). -/
abbrev Store.busy (v : Store) : Prop := v.inFlight.isSome = true ∨ v.deciding = true

/-- Of a store that is not idle, nothing but the pending request of one requester may have changed. -/
structure Store.WaitsFor (r : Requester) (v w : Store) : Prop where
  inFlight : w.inFlight = v.inFlight
  deciding : w.deciding = v.deciding
  requests : ∀ q, q ≠ r → w.requests.get q = v.requests.get q

theorem Store.WaitsFor.refl (r : Requester) (v : Store) : v.WaitsFor r v := ⟨rfl, rfl, fun _ _ => rfl⟩

theorem Store.WaitsFor.busy {r : Requester} {v w : Store} (h : v.WaitsFor r w) (hb : v.busy) : w.busy := by
  rwa [Store.busy, h.inFlight, h.deciding]

theorem Requests.get_put_other (q : Requests) {r p : Requester} (h : p ≠ r) (v : Option RecordId) :
    (q.put r v).get p = q.get p := by
  cases r <;> cases p <;> simp_all [Requests.get, Requests.put]

section
variable {s t u : State} {r : Requester} {rec : RecordId}

theorem State.request_waitsFor (hb : s.store.busy) (r : Requester) (rec : RecordId) :
    s.store.WaitsFor r (s.request r rec).store := by
  cases hq : s.store.requests.get r with
  | none =>
    rw [State.request_busy hq hb]
    exact ⟨rfl, rfl, fun q hne => Requests.get_put_other _ hne _⟩
  | some rec' =>
    rw [State.request_pending _ _ _ (by simp [hq])]
    exact .refl r _

theorem State.noteWrite_waitsFor (hb : s.store.busy) (r : Requester) (rec : RecordId) :
    s.store.WaitsFor r (s.noteWrite r rec).store := by
  have kick (t : State) (ht : t.store = s.store) : s.store.WaitsFor r (t.kickWrites r).store := by
    unfold State.kickWrites
    (repeat' split)
    · exact ht ▸ .refl r _
    · exact ht ▸ .refl r _
    · exact ht ▸ State.request_waitsFor (s := t) (by rwa [ht]) r _
  exact kick _ (by simp)

/-- A changed slot stands in the slot table's set, or joins it again when its write completes (R74). -/
theorem State.noteWrite_slotTable_noted (s : State) (rec : RecordId) :
    rec ∈ (s.noteWrite .slotTable rec).slotTable.writes.changed
      ∨ (s.noteWrite .slotTable rec).slotTable.writes.rechanged = true := by
  unfold State.noteWrite
  dsimp only
  simp only [State.kickWrites_frame]
  (repeat' split) <;> simp_all [State.setWriteSet, State.writeSet]

/-! ### The hand-over (R65, R76, R103, R107) -/

/-- The unlock that s was to hand over has been handed over at t: UNLOCKED with its grant, and the key told to the key port. -/
structure State.HandedOver (s t : State) (slot : SlotNo) (readOnly : Bool) (key : ChannelKey) : Prop where
  phaseCtl : t.phaseCtl = ⟨.unlocked, unlockGrant slot readOnly,
    if s.supervisor.attached = true then none else some (s.clock + 30000000)⟩
  gateGrant : t.gate.grant = unlockGrant slot readOnly
  presents : s.presents t key
  unlockedKey : t.slotTable.unlockedKey = some key
  attempt : t.verifier.attempt = none

theorem State.handOver_handedOver (s : State) (slot : SlotNo) (readOnly : Bool) (key : ChannelKey) :
    s.HandedOver (s.handOver slot readOnly key) slot readOnly key where
  phaseCtl := by
    simp only [State.handOver, State.enterUnlocked, State.presentKey_frame, State.movePhase_phaseCtl]
    rfl
  gateGrant := by simp [State.handOver, State.enterUnlocked]
  presents :=
    ⟨fun hc => by simp [State.handOver, State.enterUnlocked, State.presentKey, hc, State.beginKeyShift, shiftTime],
      fun hc => by simp [State.handOver, State.enterUnlocked, State.presentKey, hc]⟩
  unlockedKey := by simp [State.handOver, State.enterUnlocked]
  attempt := by simp [State.handOver]

theorem State.HandedOver.unlocked {slot : SlotNo} {readOnly : Bool} {key : ChannelKey}
    (h : s.HandedOver t slot readOnly key) :
    t.phase = .unlocked ∧ t.phaseCtl.grant = unlockGrant slot readOnly
    ∧ t.phaseCtl.attachWindow = (if s.supervisor.attached = true then none else some (s.clock + 30000000)) := by
  simp [h.phaseCtl]

/-- A hand-over from where key port, clock and attach state stand as at s. -/
theorem State.HandedOver.of {slot : SlotNo} {readOnly : Bool} {key : ChannelKey} (h : u.HandedOver t slot readOnly key)
    (hk : u.keyPort = s.keyPort) (hc : u.clock = s.clock) (ha : u.supervisor.attached = s.supervisor.attached) :
    s.HandedOver t slot readOnly key :=
  ⟨by rw [← ha, ← hc]; exact h.phaseCtl, h.gateGrant, by
    have hp := h.presents
    rwa [State.presents, hk, hc] at hp, h.unlockedKey, h.attempt⟩

/-- What follows a hand-over and touches neither phase, gate, key port, unlocked key nor attempt leaves it handed over. -/
theorem State.HandedOver.later {slot : SlotNo} {readOnly : Bool} {key : ChannelKey} (h : s.HandedOver u slot readOnly key)
    (hp : t.phaseCtl = u.phaseCtl) (hg : t.gate.grant = u.gate.grant) (hk : t.keyPort = u.keyPort)
    (hu : t.slotTable.unlockedKey = u.slotTable.unlockedKey) (ha : t.verifier.attempt = u.verifier.attempt) :
    s.HandedOver t slot readOnly key :=
  ⟨hp.trans h.phaseCtl, hg.trans h.gateGrant, by rw [State.presents, hk]; exact h.presents, hu.trans h.unlockedKey,
    ha.trans h.attempt⟩

end
end Sys2Proof.Machine
end

section
/-! PROOFS. A full set of MATCH verdicts on one slot (R63 to R66, R189). -/

namespace Sys2Proof.Machine

section
variable {s t u : State} {m : Nat × Nat} {a : Attempt} {slot : SlotNo} {key : ChannelKey} {c : Credential}

/-! ### The pair of an unlock (R64, R65) -/

/-- The station with the pair of an unlock held, before its write is requested. -/
def State.unlockPaired (s : State) : State :=
  (if s.verifier.held.serial < 4294967295 then s else s.setDraws (s.draws + 1)).setPair
    (unlockSerial s.verifier.held.serial s.draws) 0

theorem State.countUnlock_eq (s : State) : s.countUnlock = (s.unlockPaired.request .verifier .attempt).stopHold := rfl

@[simp] theorem State.unlockPaired_store (s : State) : s.unlockPaired.store = s.store := by
  unfold State.unlockPaired
  split <;> simp

theorem State.unlockPaired_verifier (s : State) :
    s.unlockPaired.verifier
      = { s.verifier with held := ⟨s.epoch, unlockSerial s.verifier.held.serial s.draws, 0⟩ } := by
  unfold State.unlockPaired
  split <;> simp [State.setPair, State.epoch]

theorem State.countUnlock_verifier (s : State) :
    s.countUnlock.verifier
      = { s.verifier with held := ⟨s.epoch, unlockSerial s.verifier.held.serial s.draws, 0⟩, hold := none } := by
  simp [State.countUnlock_eq, State.stopHold, State.unlockPaired_verifier]

theorem State.countUnlock_draws (s : State) :
    s.countUnlock.draws = if s.verifier.held.serial < 4294967295 then s.draws else s.draws + 1 := by
  simp only [State.countUnlock_eq, State.stopHold_frame, State.request_frame, State.unlockPaired, State.setPair_frame]
  split <;> rfl

theorem State.countUnlock_store (s : State) :
    s.countUnlock.store = (s.unlockPaired.request .verifier .attempt).store := by
  simp [State.countUnlock_eq]

/-- The station of a decision that unlocks: the counted pairs merged, and the pair of the unlock held (R64, R65). -/
def State.unlockCounted (s : State) (m : Nat × Nat) : State := (s.raisePair .verifier m).countUnlock

@[simp] theorem State.unlockCounted_frame (s : State) (m : Nat × Nat) :
    (s.unlockCounted m).clock = s.clock ∧ (s.unlockCounted m).slotTable = s.slotTable
    ∧ (s.unlockCounted m).phaseCtl = s.phaseCtl ∧ (s.unlockCounted m).keyPort = s.keyPort
    ∧ (s.unlockCounted m).gate = s.gate ∧ (s.unlockCounted m).supervisor = s.supervisor
    ∧ (s.unlockCounted m).setup = s.setup ∧ (s.unlockCounted m).store.stored = s.store.stored := by
  simp [State.unlockCounted]

theorem State.unlockCounted_verifier (hm : PairGrows s.pair m) :
    (s.unlockCounted m).verifier
      = { s.verifier with held := ⟨s.epoch, unlockSerial m.1 s.draws, 0⟩, hold := none } := by
  simp [State.unlockCounted, State.countUnlock_verifier, State.raisePair_held hm, State.epoch]

theorem State.unlockCounted_draws (hm : PairGrows s.pair m) :
    (s.unlockCounted m).draws = if m.1 < 4294967295 then s.draws else s.draws + 1 := by
  simp [State.unlockCounted, State.countUnlock_draws, State.raisePair_held hm]

/-! ### The write of the attempt record (R65, R206) -/

theorem State.raisePair_same (r : Requester) : s.raisePair r s.pair = s := by
  rw [State.raisePair, if_neg]
  simp [pairLess]

theorem State.raisePair_larger (hm : PairGrows s.pair m) (hne : m ≠ s.pair) (r : Requester) :
    s.raisePair r m = (s.setPair m.1 m.2).request r .attempt := by
  rw [State.raisePair, if_pos (hm.resolve_left hne)]

/-- An idle store takes the new pair at once. -/
theorem State.unlockCounted_granted (hq : s.store.requests.verifier = none) (hi : s.store.inFlight = none)
    (hd : s.store.deciding = false) :
    (s.unlockCounted s.pair).store
      = { s.store with
          inFlight := some ⟨.verifier, .attempt ⟨s.epoch, unlockSerial s.pair.1 s.draws, 0⟩, s.store.grants + 1⟩
          grants := s.store.grants + 1, requests := s.store.requests.put .verifier none } := by
  rw [State.unlockCounted, State.raisePair_same, State.countUnlock_store,
    State.request_idle _ _ _ (by simpa [Requests.get] using hq) (by simpa using hi) (by simpa using hd)]
  simp [State.grantWrite, State.heldContents, State.unlockPaired_verifier, State.pair]

/-- A merge that raises the pair has its write granted first, and the new pair waits behind it. -/
theorem State.unlockCounted_behindMerge (hm : PairGrows s.pair m) (hne : m ≠ s.pair)
    (hq : s.store.requests.verifier = none) (hi : s.store.inFlight = none) (hd : s.store.deciding = false) :
    (s.unlockCounted m).store
      = { s.store with
          inFlight := some ⟨.verifier, .attempt ⟨s.epoch, m.1, m.2⟩, s.store.grants + 1⟩, grants := s.store.grants + 1
          requests := (s.store.requests.put .verifier none).put .verifier (some .attempt) } := by
  have hraised : (s.raisePair .verifier m).store
      = { s.store with
          inFlight := some ⟨.verifier, .attempt ⟨s.epoch, m.1, m.2⟩, s.store.grants + 1⟩, grants := s.store.grants + 1
          requests := s.store.requests.put .verifier none } := by
    rw [State.raisePair_larger hm hne, State.request_idle _ _ _ (by exact hq) (by exact hi) (by exact hd)]
    rfl
  rw [State.unlockCounted, State.countUnlock_store, State.request_waits _ _ _ (by simp [hraised, Requests.get, Requests.put])
    (by simp [hraised])]
  simp [hraised]

/-- Behind the write of another block, the new pair waits. -/
theorem State.unlockCounted_behind (hm : PairGrows s.pair m) (hq : s.store.requests.verifier = none) (hb : s.store.busy) :
    (s.unlockCounted m).store = { s.store with requests := s.store.requests.put .verifier (some .attempt) } := by
  rw [State.unlockCounted, State.countUnlock_store]
  by_cases hne : m = s.pair
  · rw [hne, State.raisePair_same, State.request_busy (by simpa [Requests.get] using hq) (by simpa using hb)]
    simp
  · have hraised : (s.raisePair .verifier m).store
        = { s.store with requests := s.store.requests.put .verifier (some .attempt) } := by
      rw [State.raisePair_larger hm hne, State.request_busy (by exact hq) (by exact hb)]
      rfl
    rw [State.request_pending _ _ _ (by simp [hraised, Requests.get, Requests.put])]
    simp [hraised]

/-- The pair of an unlock leaves no idle store, and the supervisor's request as it is. -/
theorem State.unlockCounted_busy (hm : PairGrows s.pair m) (hq : s.store.requests.verifier = none) :
    (s.unlockCounted m).store.busy ∧ (s.unlockCounted m).store.requests.supervisor = s.store.requests.supervisor := by
  by_cases hb : s.store.busy
  · rw [State.unlockCounted_behind hm hq hb]
    exact ⟨hb, rfl⟩
  · obtain ⟨hi, hd⟩ : s.store.inFlight = none ∧ s.store.deciding = false := by simpa [Store.busy] using hb
    by_cases hne : m = s.pair
    · rw [hne, State.unlockCounted_granted hq hi hd]
      exact ⟨.inl rfl, rfl⟩
    · rw [State.unlockCounted_behindMerge hm hne hq hi hd]
      exact ⟨.inl rfl, rfl⟩

/-! ### The use that is spent, or the hand-over (R65, R66) -/

theorem Slot.credential_of_active {sl : Slot} (h : sl.body = .active c) : sl.credential = some c := by
  simp [Slot.credential, h]

theorem State.spendOrHandOver_hands (hc : (s.slotAt slot).body = .active c) (hu : c.uses = none) :
    s.spendOrHandOver a slot key = s.handOver slot (c.readOnly || a.readOnly) key := by
  simp [State.spendOrHandOver, Slot.credential_of_active hc, hu]

/-- The attempt as it waits for the write that spends a use: its window stopped (R66). -/
def Attempt.awaiting (a : Attempt) (slot : SlotNo) (readOnly : Bool) (changedAt : Nat) : Attempt :=
  { a with window := none, waiting := some ⟨slot, readOnly, changedAt⟩ }

theorem State.spendOrHandOver_spends (hc : (s.slotAt slot).body = .active c) {uses : Nat} (hu : c.uses = some uses) :
    s.spendOrHandOver a slot key
      = (s.setVerifier
          { s.verifier with attempt := some (a.awaiting slot (c.readOnly || a.readOnly) s.store.grants) }).changeSlot slot
        ((s.slotAt slot).spent c uses) (uses ≤ 1) := by
  simp [State.spendOrHandOver, Slot.credential_of_active hc, hu, Attempt.awaiting]

theorem State.changeSlot_noted (s : State) (i : SlotNo) (v : Slot) (discards : Bool) :
    .slot i ∈ (s.changeSlot i v discards).slotTable.writes.changed
      ∨ (s.changeSlot i v discards).slotTable.writes.rechanged = true :=
  State.noteWrite_slotTable_noted _ _

theorem State.changeSlot_waitsFor (hb : s.store.busy) (i : SlotNo) (v : Slot) (discards : Bool) :
    s.store.WaitsFor .slotTable (s.changeSlot i v discards).store := by
  have hnoted (st : SlotTable) : s.store.WaitsFor .slotTable ((s.setSlotTable st).noteWrite .slotTable (.slot i)).store :=
    State.noteWrite_waitsFor (s := s.setSlotTable st) hb _ _
  exact hnoted _

theorem State.spendOrHandOver_waitsFor (hb : s.store.busy) (a : Attempt) (slot : SlotNo) (key : ChannelKey) :
    s.store.WaitsFor .slotTable (s.spendOrHandOver a slot key).store := by
  have hkept (ro : Bool) : s.store.WaitsFor .slotTable (s.handOver slot ro key).store := by
    rw [show (s.handOver slot ro key).store = s.store by simp]
    exact .refl _ _
  have hspent (v : Verifier) (sl : Slot) (discards : Bool) :
      s.store.WaitsFor .slotTable ((s.setVerifier v).changeSlot slot sl discards).store :=
    State.changeSlot_waitsFor (s := s.setVerifier v) hb _ _ _
  unfold State.spendOrHandOver
  (repeat' split)
  · exact hkept _
  · exact hkept _
  · exact hspent _ _ _

/-! ### TAMPERED at an admin unlock (R65, R189) -/

/-- The unlock of slot 0 clears TAMPERED. -/
def State.tamperClearedFor (s : State) (slot : SlotNo) : State := if slot = 0 then s.clearTamper else s

@[simp] theorem State.tamperClearedFor_frame (s : State) (slot : SlotNo) :
    (s.tamperClearedFor slot).clock = s.clock ∧ (s.tamperClearedFor slot).draws = s.draws
    ∧ (s.tamperClearedFor slot).verifier = s.verifier ∧ (s.tamperClearedFor slot).slotTable = s.slotTable
    ∧ (s.tamperClearedFor slot).phaseCtl = s.phaseCtl ∧ (s.tamperClearedFor slot).keyPort = s.keyPort
    ∧ (s.tamperClearedFor slot).gate = s.gate ∧ (s.tamperClearedFor slot).setup = s.setup
    ∧ (s.tamperClearedFor slot).store.stored = s.store.stored := by
  unfold State.tamperClearedFor
  split <;> simp

theorem State.tamperClearedFor_admin : (s.tamperClearedFor 0).supervisor.tampered = false := by
  rw [State.tamperClearedFor, if_pos rfl, State.clearTamper]
  split
  · simp [State.setTampered_supervisor]
  · next h => simpa using h

theorem State.tamperClearedFor_clear (h : slot ≠ 0 ∨ s.supervisor.tampered = false) : s.tamperClearedFor slot = s := by
  unfold State.tamperClearedFor State.clearTamper
  rcases h with h | h <;> simp [h]

theorem State.tamperClearedFor_latched (h : s.supervisor.tampered = true) :
    s.tamperClearedFor 0 = (s.setTampered false).request .supervisor .tamper := by
  simp [State.tamperClearedFor, State.clearTamper, h]

theorem State.tamperClearedFor_waitsFor (hb : s.store.busy) (slot : SlotNo) :
    s.store.WaitsFor .supervisor (s.tamperClearedFor slot).store := by
  by_cases h : slot ≠ 0 ∨ s.supervisor.tampered = false
  · rw [State.tamperClearedFor_clear h]
    exact .refl _ _
  · obtain ⟨rfl, ht⟩ : slot = 0 ∧ s.supervisor.tampered = true := by simpa using h
    have hstore : (s.setTampered false).store = s.store := by simp
    rw [State.tamperClearedFor_latched ht, ← hstore]
    exact State.request_waitsFor (by rwa [hstore]) _ _

end
end Sys2Proof.Machine
end

section
/-! PROOFS. The decision that unlocks, and the completion of the write that spends a use (R63 to R66, R74, R189, R206). -/

namespace Sys2Proof.Machine

/-- A full set of MATCH verdicts on one slot unlocks (Table 3-5). -/
theorem outcomeOf_unlocks {l : List Filed} {i : Nat} (h : ∀ f ∈ l, f.result = .matched ∧ f.slot = i) :
    outcomeOf true l = .unlock := by
  have hslots : oneSlot l = true :=
    oneSlot_iff.mpr fun ⟨f, hf, g, hg, _, _, hne⟩ => hne ((h f hf).2.trans (h g hg).2.symm)
  have hmismatch : ¬ ∃ f ∈ l, f.result = .mismatch := fun ⟨f, hf, hm⟩ => by simp [(h f hf).1] at hm
  rw [outcomeOf_full, if_neg hmismatch, if_neg (by simp [hslots]), if_pos fun f hf => (h f hf).1]

section
variable {s t u : State} {m : Nat × Nat} {a : Attempt} {slot : SlotNo} {key : ChannelKey} {c : Credential}

/-! ### The decision -/

/-- A decision that unlocks: its pair counted, the matched slot handed over or a use of it spent, TAMPERED cleared (R64 to
R66, R189). -/
def State.unlocks (s : State) (m : Nat × Nat) (a : Attempt) (slot : SlotNo) (key : ChannelKey) : State :=
  ((s.unlockCounted m).spendOrHandOver a slot key).tamperClearedFor slot

theorem State.takeDecision_unlocks (h : outcomeOf (s.fullSet a) (s.filedVerdicts a) = .unlock)
    (hown : a.own = .matched slot key) :
    s.takeDecision a = s.unlocks (s.bestFiled a.filed s.mergers) a slot key := by
  have hmembers (p : Nat × Nat) : (s.raisePair .verifier p).members = s.members := State.members_congr (by simp)
  have hfull (p : Nat × Nat) : (s.raisePair .verifier p).fullSet a = s.fullSet a := by
    rw [State.fullSet, hmembers, State.fullSet]
  have hfiled (p : Nat × Nat) : (s.raisePair .verifier p).filedVerdicts a = s.filedVerdicts a := by
    rw [State.filedVerdicts, hmembers, State.filedVerdicts]
  unfold State.takeDecision
  dsimp only
  rw [hfull, hfiled, h]
  dsimp only
  rw [State.unlockOutcome, hown]
  rfl

/-! ### What the decision leaves, and its pair -/

theorem State.unlocks_frame (s : State) (m : Nat × Nat) (a : Attempt) (slot : SlotNo) (key : ChannelKey) :
    (s.unlocks m a slot key).verifier.held = (s.unlockCounted m).verifier.held
    ∧ (s.unlocks m a slot key).verifier.hold = (s.unlockCounted m).verifier.hold
    ∧ (s.unlocks m a slot key).draws = (s.unlockCounted m).draws
    ∧ (s.unlocks m a slot key).gate.ranges = s.gate.ranges ∧ (s.unlocks m a slot key).setup = s.setup
    ∧ (s.unlocks m a slot key).store.stored = s.store.stored := by
  simp [State.unlocks]

theorem State.unlocks_hold (hm : PairGrows s.pair m) : (s.unlocks m a slot key).verifier.hold = none := by
  obtain ⟨_, hhold, _⟩ := s.unlocks_frame m a slot key
  rw [hhold, State.unlockCounted_verifier hm]

/-- The serial of the unlock is the merged one plus one, or a free value where there is none (R65; log entry 5). -/
theorem State.unlocks_pair (hm : PairGrows s.pair m) :
    (m.1 < 4294967295 →
      (s.unlocks m a slot key).verifier.held = ⟨s.epoch, m.1 + 1, 0⟩ ∧ (s.unlocks m a slot key).draws = s.draws)
    ∧ (4294967295 ≤ m.1 →
      (s.unlocks m a slot key).verifier.held = ⟨s.epoch, (Config.freeSerial s.draws).toNat, 0⟩
      ∧ (s.unlocks m a slot key).draws = s.draws + 1) := by
  obtain ⟨hheld, _, hdraws, _⟩ := s.unlocks_frame m a slot key
  rw [hheld, hdraws, State.unlockCounted_verifier hm, State.unlockCounted_draws hm, unlockSerial]
  refine ⟨fun hless => ?_, fun hover => ?_⟩
  · simp [hless]
  · simp [hover.not_gt]

theorem State.unlocks_supervisor (s : State) (m : Nat × Nat) (a : Attempt) (slot : SlotNo) (key : ChannelKey) :
    (slot = 0 → (s.unlocks m a slot key).supervisor.tampered = false)
    ∧ (slot ≠ 0 → (s.unlocks m a slot key).supervisor = s.supervisor) := by
  refine ⟨fun h => ?_, fun h => ?_⟩
  · subst h
    exact State.tamperClearedFor_admin
  · rw [State.unlocks, State.tamperClearedFor_clear (.inl h)]
    simp

/-! ### The requests of the decision (R65, R206) -/

/-- The requests of slot table and supervisor follow the request of the pair, so they change nothing of it. -/
theorem State.unlocks_behindPair (hb : (s.unlockCounted m).store.busy) (a : Attempt) (slot : SlotNo) (key : ChannelKey) :
    (s.unlocks m a slot key).store.inFlight = (s.unlockCounted m).store.inFlight
    ∧ (s.unlocks m a slot key).store.requests.verifier = (s.unlockCounted m).store.requests.verifier := by
  have hslot := State.spendOrHandOver_waitsFor hb a slot key
  have htamper := State.tamperClearedFor_waitsFor (hslot.busy hb) slot
  exact ⟨htamper.inFlight.trans hslot.inFlight,
    (htamper.requests .verifier (by simp)).trans (hslot.requests .verifier (by simp))⟩

/-- The new pair is granted, or waits behind the merge or the write of another block. -/
theorem State.unlocks_pairRequest (hm : PairGrows s.pair m) (hq : s.store.requests.verifier = none) :
    (s.store.inFlight = none → s.store.deciding = false → m = s.pair →
      (s.unlocks m a slot key).store.inFlight
        = some ⟨.verifier, .attempt (s.unlocks m a slot key).verifier.held, s.store.grants + 1⟩)
    ∧ (s.store.inFlight = none → s.store.deciding = false → m ≠ s.pair →
      (s.unlocks m a slot key).store.inFlight = some ⟨.verifier, .attempt ⟨s.epoch, m.1, m.2⟩, s.store.grants + 1⟩
      ∧ (s.unlocks m a slot key).store.requests.verifier = some .attempt)
    ∧ (∀ w, s.store.inFlight = some w →
      (s.unlocks m a slot key).store.inFlight = some w
      ∧ (s.unlocks m a slot key).store.requests.verifier = some .attempt) := by
  obtain ⟨hb, _⟩ := State.unlockCounted_busy hm hq
  obtain ⟨hwrite, hrequest⟩ := State.unlocks_behindPair hb a slot key
  obtain ⟨hheld, _⟩ := s.unlocks_frame m a slot key
  rw [hwrite, hrequest, hheld, State.unlockCounted_verifier hm]
  refine ⟨fun hi hd hsame => ?_, fun hi hd hne => ?_, fun w hi => ?_⟩
  · subst hsame
    rw [State.unlockCounted_granted hq hi hd]
  · rw [State.unlockCounted_behindMerge hm hne hq hi hd]
    exact ⟨rfl, rfl⟩
  · rw [State.unlockCounted_behind hm hq (.inl (by simp [hi]))]
    exact ⟨hi, rfl⟩

theorem State.unlocks_tamperRequest (hm : PairGrows s.pair m) (hq : s.store.requests.verifier = none) :
    (slot = 0 → s.supervisor.tampered = true → s.store.requests.supervisor = none →
      (s.unlocks m a slot key).store.requests.supervisor = some .tamper)
    ∧ (slot ≠ 0 ∨ s.supervisor.tampered = false →
      (s.unlocks m a slot key).store.requests.supervisor = s.store.requests.supervisor) := by
  obtain ⟨hb, hcounted⟩ := State.unlockCounted_busy hm hq
  have hslot := State.spendOrHandOver_waitsFor hb a slot key
  have hsame : ((s.unlockCounted m).spendOrHandOver a slot key).store.requests.supervisor
      = s.store.requests.supervisor := (hslot.requests .supervisor (by simp)).trans hcounted
  refine ⟨fun h ht hnone => ?_, fun h => ?_⟩
  · subst h
    rw [State.unlocks, State.tamperClearedFor_latched (by simpa using ht), State.request_busy]
    · simp [Requests.put]
    · simpa [Requests.get] using hsame.trans hnone
    · rw [show (((s.unlockCounted m).spendOrHandOver a 0 key).setTampered false).store
        = ((s.unlockCounted m).spendOrHandOver a 0 key).store by simp]
      exact hslot.busy hb
  · rw [State.unlocks, State.tamperClearedFor_clear (by simpa using h)]
    exact hsame

/-! ### The hand-over and the spent use -/

theorem State.unlocks_hands (hc : (s.slotAt slot).body = .active c) (hu : c.uses = none) (m : Nat × Nat) (a : Attempt)
    (key : ChannelKey) :
    s.HandedOver (s.unlocks m a slot key) slot (c.readOnly || a.readOnly) key
      ∧ (s.unlocks m a slot key).slotTable.slots = s.slotTable.slots := by
  have hslot : ((s.unlockCounted m).slotAt slot).body = .active c := by simpa [State.slotAt] using hc
  rw [State.unlocks, State.spendOrHandOver_hands hslot hu]
  refine ⟨(((s.unlockCounted m).handOver_handedOver slot _ key).of ?_ ?_ ?_).later ?_ ?_ ?_ ?_ ?_, ?_⟩
  all_goals simp

theorem State.unlocks_spends (hc : (s.slotAt slot).body = .active c) {uses : Nat} (hu : c.uses = some uses) (m : Nat × Nat)
    (a : Attempt) (key : ChannelKey) :
    (s.unlocks m a slot key).phaseCtl = s.phaseCtl ∧ (s.unlocks m a slot key).keyPort = s.keyPort
    ∧ (s.unlocks m a slot key).slotTable.unlockedKey = s.slotTable.unlockedKey
    ∧ (s.unlocks m a slot key).verifier.attempt
        = some (a.awaiting slot (c.readOnly || a.readOnly) (s.unlockCounted m).store.grants)
    ∧ (s.unlocks m a slot key).slotTable.slots = s.slotTable.slots.set slot ((s.slotAt slot).spent c uses)
    ∧ (.slot slot ∈ (s.unlocks m a slot key).slotTable.writes.changed
        ∨ (s.unlocks m a slot key).slotTable.writes.rechanged = true) := by
  have hsame : (s.unlockCounted m).slotAt slot = s.slotAt slot := by simp [State.slotAt]
  rw [State.unlocks, State.spendOrHandOver_spends (by rwa [hsame]) hu, hsame]
  refine ⟨?_, ?_, ?_, ?_, ?_, ?_⟩
  case refine_6 =>
    obtain ⟨_, _, _, hsame, _⟩ := State.tamperClearedFor_frame (State.changeSlot _ _ _ _) slot
    rw [hsame]
    exact State.changeSlot_noted _ _ _ _
  all_goals simp

/-! ### VERDICT that unlocks -/

/-- The attempt with a verdict filed at its sender's place (R62). -/
def Attempt.filing (a : Attempt) (n : StationNo) (v : Filed) : Attempt := { a with filed := a.filed.set n (some v) }

theorem State.verdictFiled_frame (s : State) (rest : List RxFrame) (a : Attempt) (n : StationNo) (v : Filed) :
    ((s.taken rest).verdictFiled a n v).clock = s.clock ∧ ((s.taken rest).verdictFiled a n v).draws = s.draws
    ∧ ((s.taken rest).verdictFiled a n v).verifier = { s.verifier with attempt := some (a.filing n v) }
    ∧ ((s.taken rest).verdictFiled a n v).slotTable = s.slotTable
    ∧ ((s.taken rest).verdictFiled a n v).phaseCtl = s.phaseCtl
    ∧ ((s.taken rest).verdictFiled a n v).keyPort = s.keyPort
    ∧ ((s.taken rest).verdictFiled a n v).gate = s.gate
    ∧ ((s.taken rest).verdictFiled a n v).supervisor = s.supervisor
    ∧ ((s.taken rest).verdictFiled a n v).setup = s.setup
    ∧ ((s.taken rest).verdictFiled a n v).store = s.store := by
  simp [State.verdictFiled, State.taken, Attempt.filing]

/-- The VERDICT that completes a set of MATCH verdicts on one slot takes the decision that unlocks (R62, R63). -/
theorem exec_verdict_unlocks {f : RxFrame} {rest : List RxFrame} {v : VerdictFields} (hfront : s.isFront f rest)
    (hk : f.kind = .verdict) (hv : readVerdict f.payload = some v) (hm : s.isMember f.sender = true)
    (ha : s.verifier.attempt = some a) (hfor : a.waiting = none ∧ a.origin = v.origin ∧ a.seq = v.seq)
    (hplace : a.filed[f.sender] = none) {i : Nat}
    (hset : ∀ n, s.isMember n = true →
      ∃ w, (a.filing f.sender v.filed).filed[n] = some w ∧ w.result = .matched ∧ w.slot = i)
    (hown : a.own = .matched slot key) :
    exec .verdict s = .next (((s.taken rest).verdictFiled a f.sender v.filed).unlocks
      (s.bestFiled (a.filing f.sender v.filed).filed s.mergers) (a.filing f.sender v.filed) slot key).payRoll := by
  have hmember : ((s.taken rest).verdictFiled a f.sender v.filed).isMember = s.isMember :=
    State.isMember_congr (by simp [State.verdictFiled])
  have hfull : ((s.taken rest).verdictFiled a f.sender v.filed).fullSet (a.filing f.sender v.filed) = true := by
    rw [State.fullSet_iff, hmember]
    intro n hn
    obtain ⟨w, hw, _⟩ := hset n hn
    exact Option.isSome_iff_exists.mpr ⟨w, hw⟩
  have houtcome : outcomeOf true (((s.taken rest).verdictFiled a f.sender v.filed).filedVerdicts (a.filing f.sender v.filed))
      = .unlock := by
    refine outcomeOf_unlocks (i := i) fun w hw => ?_
    obtain ⟨n, hn, hplaced⟩ := State.mem_filedVerdicts.mp hw
    rw [hmember] at hn
    obtain ⟨w', hw', hmatched⟩ := hset n hn
    obtain rfl : w' = w := Option.some.inj (hw'.symm.trans hplaced)
    exact hmatched
  have htakes : (s.taken rest).handleVerdict f
      = ((s.taken rest).verdictFiled a f.sender v.filed).takeDecision (a.filing f.sender v.filed) := by
    rw [State.handleVerdict_takes hv (by exact hm), State.takeVerdict_files (a := a) (by exact ha) hfor,
      State.fileVerdict_places hplace]
    exact if_pos hfull
  rw [exec_verdict hfront hk, htakes,
    State.takeDecision_unlocks (a := a.filing f.sender v.filed) (by rwa [hfull]) (by exact hown), State.verdictFiled_bestFiled]

/-- No serial that counts is above the merged one (R64). -/
theorem PairGrows.serial_le {p q : Nat × Nat} (h : PairGrows p q) : p.1 ≤ q.1 := by
  rw [pairGrows_iff, pairLess_eq_false_iff] at h
  omega

/-! ### The completion of the write that spends a use (R66, R74) -/

theorem exec_slotWriteComplete {i : SlotNo} {sl : Slot} {serial : Nat} (h : s.writing .slotTable (.slot i sl) serial) :
    exec .slotWriteComplete s
      = .next (((s.stores (.slot i sl)).slotStored ⟨.slotTable, .slot i sl, serial⟩).arbitrate).payRoll := by
  change execSlotWriteComplete s = _
  rw [execSlotWriteComplete, State.whileAwake_of_awake h.1, State.writeOf_writing h]
  rfl

theorem State.settleHandOver_hands {h : HandOverWait} {matched : SlotNo} {serial : Nat} (ha : s.verifier.attempt = some a)
    (hw : a.waiting = some h) (hown : a.own = .matched matched key) (hserial : h.changedAt < serial) :
    s.settleHandOver h.slot serial = s.handOver h.slot h.readOnly key := by
  simp [State.settleHandOver, ha, hw, hown, hserial]

/-- With no answer waiting, the completion of a slot's write closes it and settles the unlock that waited for it. -/
theorem State.slotStored_settles {i : SlotNo} {sl : Slot} {serial : Nat} (hw : s.slotTable.waits = []) :
    s.slotStored ⟨.slotTable, .slot i sl, serial⟩ = (s.closeWrite .slotTable (.slot i)).settleHandOver i serial := by
  have hclosed : (s.closeWrite .slotTable (.slot i)).slotTable.waits = [] := by simpa using hw
  have hset : (s.closeWrite .slotTable (.slot i)).setSlotTable
      { (s.closeWrite .slotTable (.slot i)).slotTable with waits := [] } = s.closeWrite .slotTable (.slot i) := by
    rw [← hclosed]
    rfl
  simp only [State.slotStored, Contents.record, hclosed, List.filter_nil, List.foldl_nil, hset]

/-- The completion of the write that spends a use hands the unlock over, then the arbiter chooses (R66, R207). -/
theorem exec_slotWriteComplete_hands {h : HandOverWait} {sl : Slot} {matched : SlotNo} {serial : Nat}
    (hwriting : s.writing .slotTable (.slot h.slot sl) serial) (ha : s.verifier.attempt = some a) (hw : a.waiting = some h)
    (hown : a.own = .matched matched key) (hserial : h.changedAt < serial) (hwaits : s.slotTable.waits = []) :
    exec .slotWriteComplete s
      = .next (((s.stores (.slot h.slot sl)).closeWrite .slotTable (.slot h.slot)).handOver h.slot h.readOnly
          key).arbitrate.payRoll := by
  rw [exec_slotWriteComplete hwriting, State.slotStored_settles (by simpa using hwaits),
    State.settleHandOver_hands (by simpa using ha) hw hown hserial]

end

/-- Settles O27, from the decision that unlocks and the completion of the write that it may wait for. -/
theorem fullSetOfMatchesUnlocks : Obligations.FullSetOfMatchesUnlocks := by
  refine ⟨fun s f rest v a slot key c hfront hk hv hm ha hwaiting horigin hseq hplace => ?decided,
    fun s sl serial a h key matched hwriting ha hw hown hserial hwaits => ?completed⟩
  case decided =>
    intro filed hset hown hactive readOnly merged grant
    obtain ⟨hclock, hdraws, hverifier, hslots, hphase, hport, hgate, hsupervisor, hsetup, hstore⟩ :=
      s.verdictFiled_frame rest a f.sender v.filed
    have hexec : exec .verdict s = .next (((s.taken rest).verdictFiled a f.sender v.filed).unlocks merged
        (a.filing f.sender v.filed) slot key).payRoll :=
      exec_verdict_unlocks hfront hk hv hm ha ⟨hwaiting, horigin, hseq⟩ hplace hset hown
    generalize (s.taken rest).verdictFiled a f.sender v.filed = u at *
    have hpair : u.pair = s.pair := by simp [State.pair, hverifier]
    have hepoch : u.epoch = s.epoch := by simp [State.epoch, hverifier]
    have hgrows : PairGrows s.pair merged := s.bestFiled_grows filed s.mergers
    have hcounted (n : StationNo) (w : Filed) (hn : s.isMember n = true) (hcounts : n = s.sn ∨ s.sameEpoch n = true)
        (hw : filed[n] = some w) : PairGrows (w.serial, w.count) merged :=
      State.bestFiled_upper (State.mem_mergers.mpr ⟨hn, hcounts⟩) hw
    clear_value merged
    have hgrows' : PairGrows u.pair merged := hpair ▸ hgrows
    obtain ⟨_, _, _, hranges, hsetup', hstored⟩ := u.unlocks_frame merged (a.filing f.sender v.filed) slot key
    refine ⟨_, hexec, ?hold, ⟨hgrows.serial_le, fun n w hn hcounts hw => (hcounted n w hn hcounts hw).serial_le⟩, ?next, ?past,
      ?admin, ?user, ?records, ?requests, ?hands, ?spends⟩
    case hold => simpa using State.unlocks_hold hgrows'
    case next => simpa [hepoch, hdraws] using (State.unlocks_pair hgrows').1
    case past => simpa [hepoch, hdraws] using (State.unlocks_pair hgrows').2
    case admin => simpa using (u.unlocks_supervisor merged (a.filing f.sender v.filed) slot key).1
    case user => simpa [hsupervisor] using (u.unlocks_supervisor merged (a.filing f.sender v.filed) slot key).2
    case records => simp [State.keepsRecords, hranges, hsetup', hstored, hgate, hsetup, hstore]
    case requests =>
      intro hq
      rw [← hstore] at hq
      obtain ⟨hgranted, hmerged, hbehind⟩ :=
        State.unlocks_pairRequest (a := a.filing f.sender v.filed) (slot := slot) (key := key) hgrows' hq
      obtain ⟨htamper, hnoTamper⟩ :=
        State.unlocks_tamperRequest (a := a.filing f.sender v.filed) (slot := slot) (key := key) hgrows' hq
      rw [hpair, hepoch, hstore] at *
      exact ⟨by simpa using hgranted, by simpa using hmerged, by simpa using hbehind, by simpa [hsupervisor] using htamper,
        by simpa [hsupervisor] using hnoTamper⟩
    case hands =>
      intro huses
      obtain ⟨hhands, hsame⟩ :=
        State.unlocks_hands (s := u) (by rwa [State.slotAt, hslots]) huses merged (a.filing f.sender v.filed) key
      have hdone : s.HandedOver (u.unlocks merged (a.filing f.sender v.filed) slot key).payRoll slot readOnly key :=
        (hhands.of hport hclock (by rw [hsupervisor])).later (by simp) (by simp) (by simp) (by simp) (by simp)
      obtain ⟨hunlocked, hgrant, hattach⟩ := hdone.unlocked
      exact ⟨hunlocked, hgrant, hdone.gateGrant, hdone.presents, hdone.unlockedKey, hattach, hdone.attempt,
        by simp [hsame, hslots]⟩
    case spends =>
      intro uses huses
      obtain ⟨hphase', hport', hkey, hattempt, hspent, hnoted⟩ :=
        State.unlocks_spends (s := u) (by rwa [State.slotAt, hslots]) huses merged (a.filing f.sender v.filed) key
      rw [State.slotAt, hslots] at hspent
      exact ⟨by simp [hphase', hphase], by simp [hport', hport], by simp [hkey, hslots],
        ⟨_, (congrArg Verifier.attempt (by simp)).trans hattempt⟩, (congrArg SlotTable.slots (by simp)).trans hspent,
        by simpa using hnoted⟩
  case completed =>
    intro grant
    have hexec := exec_slotWriteComplete_hands hwriting ha hw hown hserial hwaits
    set closed := (s.stores (.slot h.slot sl)).closeWrite .slotTable (.slot h.slot) with hclosed
    have hdone : s.HandedOver (closed.handOver h.slot h.readOnly key).arbitrate.payRoll h.slot h.readOnly key := by
      refine ((closed.handOver_handedOver h.slot h.readOnly key).of ?_ ?_ ?_).later ?_ ?_ ?_ ?_ ?_
      all_goals simp [hclosed]
    obtain ⟨hunlocked, hgrant, hattach⟩ := hdone.unlocked
    exact ⟨_, hexec, hunlocked, hgrant, hdone.gateGrant, hdone.presents, hdone.unlockedKey, hattach,
      by simp [hclosed, State.handOver], by simp [hclosed], by simp [hclosed, Stored.put]⟩

end Sys2Proof.Machine
end

section
/-! PROOFS. STAGE, ADOPT and RETIRE through the checks of Table 4-3 (R78, R79). -/

namespace Sys2Proof.Machine

section
variable {s : State} {f : RxFrame} {rest : List RxFrame} {n : StationNo} {k : Kind}

/-! ### The four rows, by their effect -/

theorem exec_stage (h : s.isFront f rest) (hk : f.kind = .stage) :
    exec .stage s = .next ((s.taken rest).handleStage f).payRoll :=
  State.frameRow_front h (by simp [hk]) _

theorem exec_adopt (h : s.isFront f rest) (hk : f.kind = .adopt) (hf : abandonFlag f.payload = false) :
    exec .adopt s = .next ((s.taken rest).takeAdopt f State.adoptSlot).payRoll :=
  State.frameRow_front h (by simp [hk, hf]) fun s f => s.takeAdopt f State.adoptSlot

theorem exec_adoptAbandon (h : s.isFront f rest) (hk : f.kind = .adopt) (hf : abandonFlag f.payload = true) :
    exec .adoptAbandon s = .next ((s.taken rest).takeAdopt f State.abandonSlot).payRoll :=
  State.frameRow_front h (by simp [hk, hf]) fun s f => s.takeAdopt f State.abandonSlot

theorem exec_retire (h : s.isFront f rest) (hk : f.kind = .retire) :
    exec .retire s = .next ((s.taken rest).handleRetire f).payRoll :=
  State.frameRow_front h (by simp [hk]) _

/-! ### Requests (R78, R79) -/

/-- A frame of a kind is at the front, was not DROPPED, and finds the station neither UNCOMMISSIONED nor HALTED. -/
structure State.Requested (s : State) (f : RxFrame) (rest : List RxFrame) (k : Kind) : Prop where
  front : s.isFront f rest
  kind : f.kind = k
  kept : f.own ≠ some .dropped
  commissioned : s.phase ≠ .uncommissioned
  running : s.phase ≠ .halted

theorem State.isAsked.requested (h : s.isAsked f rest k) : s.Requested f rest k := by
  obtain ⟨hfront, hk, hown, _, hu, hh⟩ := h
  exact ⟨hfront, hk, by simp [hown], hu, hh⟩

theorem State.Requested.isRequest (h : s.Requested f rest k) : (s.taken rest).isRequest f = true := by
  have hu : s.phaseCtl.phase ≠ .uncommissioned := h.commissioned
  have hh : s.phaseCtl.phase ≠ .halted := h.running
  simp [State.isRequest, State.asleepToRequests, hu, hh, h.kept]

theorem State.isRequest_stopped (h : s.phase = .uncommissioned ∨ s.phase = .halted) : s.isRequest f = false := by
  rcases h with h | h <;> simp_all [State.isRequest, State.asleepToRequests]

theorem State.isRequest_dropped (h : f.own = some .dropped) : s.isRequest f = false := by
  simp [State.isRequest, h]

/-! ### The rights (Table 4-3) -/

theorem State.adminSender_iff : s.adminSender n = true ↔ s.mayAdminister n := by
  simp [State.adminSender]

/-- The sender may act as admin, with grant ADMIN or on slot 0 in BLANK (checks 1 and 2). -/
abbrev State.slotRights (s : State) (n : StationNo) (slot : Nat) : Prop :=
  s.mayAdminister n ∧ (s.phaseCtl.grant.isAdmin = true ∨ (s.phase = .blank ∧ slot = 0))

/-- Of a STAGE: without grant ADMIN no member may be missing (check 3). -/
abbrev State.stageRights (s : State) (n : StationNo) (slot : Nat) : Prop :=
  s.slotRights n slot ∧ (s.phaseCtl.grant.isAdmin = true ∨ s.memberMissing = false)

/-- Of a RETIRE: grant ADMIN, and TAMPERED clear (checks 2 and 4). -/
abbrev State.retireRights (s : State) (n : StationNo) : Prop :=
  s.mayAdminister n ∧ s.phaseCtl.grant.isAdmin = true ∧ s.supervisor.tampered = false

theorem State.adminAllowed_iff {blankCase : Bool} :
    s.adminAllowed n blankCase = true
      ↔ s.mayAdminister n ∧ (s.phaseCtl.grant.isAdmin = true ∨ (s.phase = .blank ∧ blankCase = true)) := by
  rw [State.adminAllowed, Bool.and_eq_true, State.adminSender_iff]
  simp

theorem State.slotRights_iff {slot : Nat} : s.adminAllowed n (slot = 0) = true ↔ s.slotRights n slot := by
  simp [State.adminAllowed_iff]

theorem State.stageRights_iff {slot : Nat} :
    (s.adminAllowed n (slot = 0) && !(!s.phaseCtl.grant.isAdmin && s.memberMissing)) = true ↔ s.stageRights n slot := by
  rw [Bool.and_eq_true, State.slotRights_iff]
  simp

theorem State.retireRights_iff : (s.adminAllowed n false && !s.supervisor.tampered) = true ↔ s.retireRights n := by
  rw [Bool.and_eq_true, State.adminAllowed_iff]
  simp [and_assoc]

/-! ### The answer (R79) -/

theorem State.answerSlot_other (h : n ≠ s.sn) (result : AnswerResult) (slot gen : Nat) :
    s.answerSlot n k result slot gen = s.answers n k result slot gen := if_neg h

/-- An own ADOPT or RETIRE is answered by nothing. -/
theorem State.answerSlot_own (h : n = s.sn) (hk : k ≠ .stage) (result : AnswerResult) (slot gen : Nat) :
    s.answerSlot n k result slot gen = s := by
  simp [State.answerSlot, h, hk]

/-- An own STAGE is answered to the enrollment record. -/
theorem State.answerSlot_ownStage (h : n = s.sn) (result : AnswerResult) (slot gen : Nat) :
    s.answerSlot n .stage result slot gen = s.fileAnswer s.sn slot gen (byte result.code) := by
  simp [State.answerSlot, h]

/-! ### The kinds, past the checks or refused -/

/-- A STAGE of another station touches no collection timer. -/
theorem State.ownStage_received (h : f.own = none) : s.ownStage f = s := by
  unfold State.ownStage
  split
  · simp [h]
  · rfl

/-- The checks of Table 4-3 look at nothing that the own STAGE changes. -/
theorem State.ownStage_stageRights {slot : Nat} : (s.ownStage f).stageRights n slot ↔ s.stageRights n slot := by
  obtain ⟨hroster, hphase, hsetup⟩ :
      (s.ownStage f).roster = s.roster ∧ (s.ownStage f).phaseCtl = s.phaseCtl ∧ (s.ownStage f).setup = s.setup := by simp
  have hmissing : (s.ownStage f).memberMissing = s.memberMissing :=
    State.memberMissing_congr hsetup (by rw [hroster]) (by rw [hroster])
  have hadmin : (s.ownStage f).mayAdminister n ↔ s.mayAdminister n := by
    simp [State.mayAdminister, State.roleOf_congr hsetup, State.hostAdmin, State.lockedSetup]
  rw [State.stageRights, State.slotRights, hadmin, hmissing, State.phase, hphase]

/-- A STAGE that is a request goes through the checks of Table 4-3, after its own collection timer has started. -/
theorem State.Requested.handleStage (h : s.Requested f rest .stage) :
    (s.taken rest).handleStage f = ((s.taken rest).ownStage f).takeStage f := by
  have hphase : ((s.taken rest).ownStage f).phaseCtl = (s.taken rest).phaseCtl := by simp
  have hrequest : ((s.taken rest).ownStage f).isRequest f = true := by
    rw [← h.isRequest, State.isRequest, State.isRequest, State.asleepToRequests, State.asleepToRequests, State.phase,
      hphase]
  rw [State.handleStage, if_pos hrequest]

theorem State.takeStage_allowed (h : s.stageRights f.sender (u8 f.payload 0)) :
    s.takeStage f = s.stageSlot f.sender (readStage f.payload) :=
  if_pos (State.stageRights_iff.mpr h)

theorem State.takeStage_refused (h : ¬ s.stageRights f.sender (u8 f.payload 0)) :
    s.takeStage f = s.answerSlot f.sender .stage .refused (u8 f.payload 0) (u16 f.payload 1) :=
  if_neg (mt State.stageRights_iff.mp h)

theorem exec_stage_allowed (h : s.Requested f rest .stage) (hr : s.stageRights f.sender (u8 f.payload 0)) :
    exec .stage s = .next (((s.taken rest).ownStage f).stageSlot f.sender (readStage f.payload)).payRoll := by
  rw [exec_stage h.front h.kind, h.handleStage,
    State.takeStage_allowed (State.ownStage_stageRights.mpr (by exact hr))]

theorem exec_stage_refused (h : s.Requested f rest .stage) (hr : ¬ s.stageRights f.sender (u8 f.payload 0)) :
    exec .stage s
      = .next (((s.taken rest).ownStage f).answerSlot f.sender .stage .refused (u8 f.payload 0)
          (u16 f.payload 1)).payRoll := by
  rw [exec_stage h.front h.kind, h.handleStage,
    State.takeStage_refused (mt State.ownStage_stageRights.mp (by exact hr))]

section
variable {effect : State → StationNo → Nat → Nat → State}

theorem State.Requested.takeAdopt_allowed (h : s.Requested f rest .adopt) (hr : s.slotRights f.sender (u8 f.payload 0)) :
    (s.taken rest).takeAdopt f effect = effect (s.taken rest) f.sender (u8 f.payload 0) (u16 f.payload 1) := by
  rw [State.takeAdopt, if_neg (by simp [h.isRequest]), if_pos (State.slotRights_iff.mpr (by exact hr))]

theorem State.Requested.takeAdopt_refused (h : s.Requested f rest .adopt)
    (hr : ¬ s.slotRights f.sender (u8 f.payload 0)) :
    (s.taken rest).takeAdopt f effect
      = (s.taken rest).answerSlot f.sender .adopt .refused (u8 f.payload 0) (u16 f.payload 1) := by
  rw [State.takeAdopt, if_neg (by simp [h.isRequest]), if_neg (mt State.slotRights_iff.mp (by exact hr))]

theorem State.takeAdopt_ignored (h : s.isRequest f = false) : s.takeAdopt f effect = s := by
  simp [State.takeAdopt, h]

end

theorem State.Requested.handleRetire_allowed (h : s.Requested f rest .retire) (hr : s.retireRights f.sender) :
    (s.taken rest).handleRetire f = (s.taken rest).retireSlot f.sender (u8 f.payload 0) (u16 f.payload 1) := by
  rw [State.handleRetire, if_neg (by simp [h.isRequest]), if_pos (State.retireRights_iff.mpr (by exact hr))]

theorem State.Requested.handleRetire_refused (h : s.Requested f rest .retire) (hr : ¬ s.retireRights f.sender) :
    (s.taken rest).handleRetire f
      = (s.taken rest).answerSlot f.sender .retire .refused (u8 f.payload 0) (u16 f.payload 1) := by
  rw [State.handleRetire, if_neg (by simp [h.isRequest]), if_neg (mt State.retireRights_iff.mp (by exact hr))]

theorem State.handleRetire_ignored (h : s.isRequest f = false) : s.handleRetire f = s := by
  simp [State.handleRetire, h]

theorem State.handleStage_ignored (hown : f.own = none) (h : s.isRequest f = false) : s.handleStage f = s := by
  simp [State.handleStage, State.ownStage_received hown, h]

/-- An answer leaves slots, waits, keys and store as they are. -/
theorem State.answerSlot_leaves (s : State) (n : StationNo) (k : Kind) (r : AnswerResult) (slot gen : Nat) :
    (s.answerSlot n k r slot gen).payRoll.slotTable.slots = s.slotTable.slots
    ∧ (s.answerSlot n k r slot gen).payRoll.slotTable.waits = s.slotTable.waits
    ∧ (s.answerSlot n k r slot gen).payRoll.slotTable.unlockedKey = s.slotTable.unlockedKey
    ∧ (s.answerSlot n k r slot gen).payRoll.store = s.store := by
  simp

end

/-- Settles O29, by the checks of Table 4-3: the rights are there, they are not, or the station is stopped. -/
theorem adminRequestsNeedTheirRights : Obligations.AdminRequestsNeedTheirRights := by
  refine ⟨fun s f rest => ?requests, fun s hfollows hp => ?grant⟩
  case grant =>
    obtain ⟨_, _, hgrant, _⟩ := hfollows
    rw [hgrant hp]
    cases s.phase <;> rfl
  case requests =>
    intro slot gen refused own slotRights stageRights retireRights unchanged
    have asked {k : Kind} (h : s.isAsked f rest k) : s.Requested f rest k ∧ f.own = none ∧ f.sender ≠ s.sn :=
      ⟨h.requested, h.2.2.1, h.2.2.2.1⟩
    have returned {k : Kind} (h : own k) : s.Requested f rest k := by
      obtain ⟨hfront, hk, _, _, hkept, hu, hh⟩ := h
      exact ⟨hfront, hk, hkept, hu, hh⟩
    have either {k : Kind} (h : s.isAsked f rest k ∨ own k) : s.Requested f rest k :=
      h.elim State.isAsked.requested returned
    have answered (k : Kind) (h : f.sender ≠ s.sn) :
        (s.taken rest).answerSlot f.sender k .refused slot gen = (s.taken rest).answers f.sender k .refused slot gen :=
      State.answerSlot_other (by exact h) _ _ _
    refine ⟨fun h hr => ?_, fun h hf hr => ?_, fun h hf hr => ?_, fun h hr => ?_, fun h hr => ?_, fun h hf hr => ?_,
      fun h hf hr => ?_, fun h hr => ?_, fun h => exec_stage_allowed (either h), fun h hf hr => ?_, fun h hf hr => ?_,
      fun h hr => ?_, fun ha hrx hown hp => ?_⟩
    · obtain ⟨hreq, hown, hne⟩ := asked h
      rw [exec_stage_refused hreq hr, State.ownStage_received hown, answered _ hne]
    · obtain ⟨hreq, hown, hne⟩ := asked h
      rw [exec_adopt hreq.front hreq.kind hf, hreq.takeAdopt_refused hr, answered _ hne]
    · obtain ⟨hreq, hown, hne⟩ := asked h
      rw [exec_adoptAbandon hreq.front hreq.kind hf, hreq.takeAdopt_refused hr, answered _ hne]
    · obtain ⟨hreq, hown, hne⟩ := asked h
      rw [exec_retire hreq.front hreq.kind, hreq.handleRetire_refused hr, answered _ hne]
    · refine ⟨_, exec_stage_refused (returned h) hr, ?_⟩
      simp
    · have hreq := returned h
      refine ⟨_, by rw [exec_adopt hreq.front hreq.kind hf, hreq.takeAdopt_refused hr], ?_⟩
      exact State.answerSlot_leaves (s.taken rest) f.sender .adopt .refused slot gen
    · have hreq := returned h
      refine ⟨_, by rw [exec_adoptAbandon hreq.front hreq.kind hf, hreq.takeAdopt_refused hr], ?_⟩
      exact State.answerSlot_leaves (s.taken rest) f.sender .adopt .refused slot gen
    · have hreq := returned h
      refine ⟨_, by rw [exec_retire hreq.front hreq.kind, hreq.handleRetire_refused hr], ?_⟩
      exact State.answerSlot_leaves (s.taken rest) f.sender .retire .refused slot gen
    · have hreq := either h
      rw [exec_adopt hreq.front hreq.kind hf, hreq.takeAdopt_allowed hr]
    · have hreq := either h
      rw [exec_adoptAbandon hreq.front hreq.kind hf, hreq.takeAdopt_allowed hr]
    · have hreq := either h
      rw [exec_retire hreq.front hreq.kind, hreq.handleRetire_allowed hr]
    · have hstopped : (s.taken rest).isRequest f = false := State.isRequest_stopped hp
      refine ⟨fun hk => ?_, fun hk hf => ?_, fun hk hf => ?_, fun hk => ?_⟩
      · exact State.frameRow_silent ha hrx (by simp [hk]) fun _ => State.handleStage_ignored hown hstopped
      · exact State.frameRow_silent ha hrx (serve := fun s f => s.takeAdopt f State.adoptSlot) (by simp [hk, hf])
          fun _ => State.takeAdopt_ignored hstopped
      · exact State.frameRow_silent ha hrx (serve := fun s f => s.takeAdopt f State.abandonSlot) (by simp [hk, hf])
          fun _ => State.takeAdopt_ignored hstopped
      · exact State.frameRow_silent ha hrx (by simp [hk]) fun _ => State.handleRetire_ignored hstopped

end Sys2Proof.Machine
end

section
/-! PROOFS. A changed slot, its write and the answers that wait (R74, R79, R206). -/

namespace Sys2Proof.Machine

section
variable {s t u : State} {i : SlotNo} {v : Slot} {rec : RecordId} {w : SlotWait}

/-! ### The write of a changed slot (R74, R206) -/

/-- A write of the slot table leaves the sets of the other blocks as they are. -/
@[simp] theorem State.noteWrite_slotTable_frame (s : State) (rec : RecordId) :
    (s.noteWrite .slotTable rec).purge = s.purge ∧ (s.noteWrite .slotTable rec).gate = s.gate := by
  simp [State.noteWrite, State.setWriteSet]

@[simp] theorem State.changeSlot_blocks (s : State) (i : SlotNo) (v : Slot) (discards : Bool) :
    (s.changeSlot i v discards).purge = s.purge ∧ (s.changeSlot i v discards).gate = s.gate := by
  simp [State.changeSlot]

/-- A slot table with nothing to write requests its write at once. -/
theorem State.noteWrite_slotTable_first (hc : s.slotTable.writes.changed = [])
    (hw : ∀ w, s.store.inFlight = some w → w.requester ≠ .slotTable) :
    s.noteWrite .slotTable rec
      = (s.setSlotTable { s.slotTable with writes := ⟨[rec], s.slotTable.writes.rechanged⟩ }).request .slotTable rec := by
  have hnone : s.writeOf .slotTable = none := by
    unfold State.writeOf
    split
    · next w h => rw [if_neg (hw w h)]
    · rfl
  have hnone' : (s.setSlotTable { s.slotTable with writes := ⟨[rec], s.slotTable.writes.rechanged⟩ }).writeOf .slotTable
      = none := hnone
  simp [State.noteWrite, State.kickWrites, hnone, State.writeSet, hc, State.setWriteSet, hnone']

/-- The slot's write is requested from where slot table and store have as much to write as at s. -/
theorem State.changeSlot_requested (hwrites : u.slotTable.writes = s.slotTable.writes) (hstore : u.store = s.store)
    (i : SlotNo) (v : Slot) (discards : Bool) : s.slotWriteRequested (u.changeSlot i v discards) i v := by
  refine ⟨u.changeSlot_noted i v discards, fun hq hc => ?_⟩
  have first (hw : ∀ w, s.store.inFlight = some w → w.requester ≠ .slotTable) :
      ∃ st, st.slots[i] = v ∧ u.changeSlot i v discards = (u.setSlotTable st).request .slotTable (.slot i) := by
    refine ⟨_, ?_, State.noteWrite_slotTable_first (by simpa [hwrites] using hc) (by simpa [hstore] using hw)⟩
    simp
  refine ⟨fun hi hd => ?_, fun w hi hw => ?_⟩
  · obtain ⟨st, hst, heq⟩ := first (by simp [hi])
    rw [heq, State.request_idle _ _ _ (by simpa [hstore, Requests.get] using hq) (by simpa [hstore] using hi)
      (by simpa [hstore] using hd)]
    simp [State.grantWrite, State.heldContents, ← hst, hstore]
  · obtain ⟨st, -, heq⟩ := first (by simpa [hi] using hw)
    rw [heq, State.request_waits _ _ _ (by simpa [hstore, Requests.get] using hq) (by simp [hstore, hi])]
    rfl

theorem State.slotWriteRequested.later (h : s.slotWriteRequested t i v) (hw : u.slotTable.writes = t.slotTable.writes)
    (hs : u.store = t.store) : s.slotWriteRequested u i v := by
  rwa [State.slotWriteRequested, hw, hs]

/-! ### The change of a slot, and what it leaves -/

/-- u has the slots of s with as much to write, and phase, key port, attempt, purge and records stand as at s. -/
structure State.SlotsStand (s u : State) : Prop where
  slots : u.slotTable.slots = s.slotTable.slots
  writes : u.slotTable.writes = s.slotTable.writes
  store : u.store = s.store
  phaseCtl : u.phaseCtl = s.phaseCtl
  keyPort : u.keyPort = s.keyPort
  verifier : u.verifier = s.verifier
  purge : u.purge = s.purge
  gate : u.gate = s.gate
  setup : u.setup = s.setup

/-- At t a slot of s has become v and its write is requested; phase, key port, attempt, purge and records stand as at s. -/
structure State.SlotChanged (s t : State) (i : SlotNo) (v : Slot) : Prop where
  slots : t.slotTable.slots = s.slotTable.slots.set i v
  requested : s.slotWriteRequested t i v
  phaseCtl : t.phaseCtl = s.phaseCtl
  keyPort : t.keyPort = s.keyPort
  verifier : t.verifier = s.verifier
  purge : t.purge = s.purge
  records : s.keepsRecords t

theorem State.slotsStand_refl (s : State) : s.SlotsStand s := ⟨rfl, rfl, rfl, rfl, rfl, rfl, rfl, rfl, rfl⟩

theorem State.slotsStand_taken (s : State) (rest : List RxFrame) : s.SlotsStand (s.taken rest) :=
  ⟨rfl, rfl, rfl, rfl, rfl, rfl, rfl, rfl, rfl⟩

/-- Waiting answers, keys and enrollment do not matter. -/
theorem State.SlotsStand.setSlotTable (h : s.SlotsStand u) {st : SlotTable} (hslots : st.slots = u.slotTable.slots)
    (hwrites : st.writes = u.slotTable.writes) : s.SlotsStand (u.setSlotTable st) :=
  ⟨hslots.trans h.slots, hwrites.trans h.writes, h.store, h.phaseCtl, h.keyPort, h.verifier, h.purge, h.gate, h.setup⟩

theorem State.SlotsStand.changeSlot (h : s.SlotsStand u) (i : SlotNo) (v : Slot) (discards : Bool) :
    s.SlotChanged (u.changeSlot i v discards) i v where
  slots := by simp [h.slots]
  requested := State.changeSlot_requested h.writes h.store i v discards
  phaseCtl := by simp [h.phaseCtl]
  keyPort := by simp [h.keyPort]
  verifier := by simp [h.verifier]
  purge := by simp [h.purge]
  records := by simp [State.keepsRecords, h.store, h.gate, h.setup]

theorem State.SlotsStand.changeAndWait (h : s.SlotsStand u) (i : SlotNo) (v : Slot) (discards : Bool) (w : SlotWait) :
    s.SlotChanged (u.changeAndWait i v discards w) i v := by
  have hawaits : s.SlotsStand (u.awaitSlot w) := h.setSlotTable rfl rfl
  exact hawaits.changeSlot i v discards

/-- The first adoption's unlocked key does not matter. -/
theorem State.SlotsStand.takeBlankKey (h : s.SlotsStand u) (first : Bool) : s.SlotsStand (u.takeBlankKey first) := by
  unfold State.takeBlankKey
  split
  · exact h.setSlotTable rfl rfl
  · exact h

theorem State.SlotChanged.answerSlot (h : s.SlotChanged t i v) (n : StationNo) (k : Kind) (r : AnswerResult)
    (slot gen : Nat) : s.SlotChanged (t.answerSlot n k r slot gen) i v where
  slots := by simpa using h.slots
  requested := h.requested.later (by simp) (by simp)
  phaseCtl := by simpa using h.phaseCtl
  keyPort := by simpa using h.keyPort
  verifier := by simpa using h.verifier
  purge := by simpa using h.purge
  records := by simpa [State.keepsRecords] using h.records

theorem State.SlotChanged.payRoll (h : s.SlotChanged t i v) : s.SlotChanged t.payRoll i v where
  slots := by simpa using h.slots
  requested := h.requested.later (by simp) (by simp)
  phaseCtl := by simpa using h.phaseCtl
  keyPort := by simpa using h.keyPort
  verifier := by simpa using h.verifier
  purge := by simpa using h.purge
  records := by simpa [State.keepsRecords] using h.records

/-- What has changed from where the slots stand as at s has changed from s. -/
theorem State.SlotsStand.changed (h : s.SlotsStand u) (hc : u.SlotChanged t i v) : s.SlotChanged t i v where
  slots := by rw [hc.slots, h.slots]
  requested := by
    have hr := hc.requested
    rwa [State.slotWriteRequested, h.store, h.writes] at hr
  phaseCtl := hc.phaseCtl.trans h.phaseCtl
  keyPort := hc.keyPort.trans h.keyPort
  verifier := hc.verifier.trans h.verifier
  purge := hc.purge.trans h.purge
  records := by
    have hr := hc.records
    rwa [State.keepsRecords, h.store, h.gate, h.setup] at hr

/-- The changed slot is the new one. -/
theorem State.SlotChanged.slotAt (h : s.SlotChanged t i v) : t.slotAt i = v := by
  simp [State.slotAt, h.slots]

/-! ### The answers that wait (R79) -/

/-- A change that discards nothing leaves the answers that wait, with its own behind them. -/
theorem State.changeAndWait_waits_kept (s : State) (i : SlotNo) (v : Slot) (w : SlotWait) :
    (s.changeAndWait i v false w).slotTable.waits = s.slotTable.waits ++ [{ w with changedAt := s.store.grants }] := by
  rw [State.changeAndWait, State.changeSlot_waits_kept]
  rfl

/-- A change that discards the staged part tells the answer that waits for it, and no other change is told. -/
theorem State.changeAndWait_waits_discard (s : State) (i : SlotNo) (v : Slot) (hw : w.change ≠ .stage) :
    (s.changeAndWait i v true w).slotTable.waits
      = (if (s.slotAt i).staged = none then s.slotTable.waits else s.slotTable.waits.map (·.discard i s.store.grants))
        ++ [{ w with changedAt := s.store.grants }] := by
  rw [State.changeAndWait, State.changeSlot_waits_discard]
  have hslot : (s.awaitSlot w).slotAt i = s.slotAt i := rfl
  rw [hslot]
  cases (s.slotAt i).staged with
  | none => simp [State.awaitSlot]
  | some st => simp [State.awaitSlot, SlotWait.discard, hw]

/-- An answer goes out the same way from stations with the same line. -/
theorem State.offer_line_congr (hl : u.line = s.line) (hsn : u.sn = s.sn) (k : Kind) (target : Option StationNo)
    (payload : List Byte) : (u.offer k target payload).line = (s.offer k target payload).line := by
  have hform : u.formFrame k target payload = s.formFrame k target payload := by simp [State.formFrame, hl]
  by_cases hfree : s.line.tx.length < 4
  · rw [State.offer_taken (by rwa [hl]), State.offer_taken hfree, hform, State.takeOffer, State.takeOffer, hl]
    rfl
  · rw [State.offer_full (by rw [hl]; omega), State.offer_full (by omega), hform, State.offerToFull, State.offerToFull, hl]
    split
    · split <;> simp [State.takeOffer, State.dropFrame_eq, hl, hsn]
    · simp [State.dropFrame_eq, hl, hsn]

end

end Sys2Proof.Machine
end

section
/-! PROOFS. STAGE, ADOPT and RETIRE past the checks of Table 4-3 (R77, R80 to R85). -/

namespace Sys2Proof.Machine

section
variable {s u : State} {f : RxFrame} {rest : List RxFrame} {n : StationNo} {i : SlotNo} {k : Kind} {slot gen : Nat}

/-! ### Slot numbers and staged parts -/

@[simp] theorem slotNo?_val (i : SlotNo) : slotNo? i.val = some i := dif_pos i.isLt

theorem slotNo?_outside (h : 5 < slot) : slotNo? slot = none := dif_neg (by omega)

theorem mem_slotNumbers (i : SlotNo) : i ∈ slotNumbers := by
  rw [slotNumbers_eq_finRange]
  exact List.mem_finRange i

theorem Slot.stagedAt_eq_some {sl : Slot} {c : Credential} (h : sl.staged = some ⟨gen, c⟩) :
    sl.stagedAt gen = some ⟨gen, c⟩ := by
  simp [Slot.stagedAt, h]

theorem Slot.stagedAt_eq_none {sl : Slot} (h : ∀ c, sl.staged ≠ some ⟨gen, c⟩) : sl.stagedAt gen = none := by
  unfold Slot.stagedAt
  split
  · next st hst =>
    refine if_neg ?_
    rintro rfl
    exact h st.cred hst
  · rfl

/-! ### The test for an equal verifier (R77) -/

theorem Slot.mem_verifiers {sl : Slot} {v : CheckValue} :
    v ∈ sl.verifiers ↔ (∃ c, sl.body = .active c ∧ c.verifier = v) ∨ (∃ st, sl.staged = some st ∧ st.cred.verifier = v) := by
  rw [Slot.verifiers, List.mem_append]
  refine or_congr ?_ (by simp)
  cases sl.body <;> simp [eq_comm]

theorem State.duplicate_iff {v : CheckValue} :
    s.duplicate i v = true ↔ ∃ j, j ≠ i
      ∧ ((∃ c, (s.slotAt j).body = .active c ∧ c.verifier = v)
        ∨ (∃ st, (s.slotAt j).staged = some st ∧ st.cred.verifier = v)) := by
  simp [State.duplicate, mem_slotNumbers, Slot.mem_verifiers]

/-! ### STAGE (R80) -/

section
variable {e : StageFields} {r : AnswerResult}

/-- The first four checks of Table 4-4: the terms of the STAGE do not fit the slot. -/
def State.stageUnfit (s : State) (i : SlotNo) (e : StageFields) : Prop :=
  (i = 0 ∧ (e.readOnly = true ∨ e.uses.isSome = true)) ∨ (∃ u, e.uses = some u ∧ (u < 1 ∨ 99 < u))
    ∨ ((s.slotAt i).gen = 65535 ∨ e.gen ≠ (s.slotAt i).gen + 1) ∨ (e.uses.isSome = true ∧ e.gen = 65535)

theorem StageFields.badUses_iff : e.badUses = true ↔ ∃ u, e.uses = some u ∧ (u < 1 ∨ 99 < u) := by
  unfold StageFields.badUses
  cases e.uses <;> simp

theorem State.stageRefusal_unfit (h : s.stageUnfit i e) : s.stageRefusal i e = some .invalid := by
  rw [State.stageUnfit, ← StageFields.badUses_iff] at h
  unfold State.stageRefusal
  split
  · rfl
  next hflags =>
    split
    · rfl
    next huses =>
      split
      · rfl
      next hgen =>
        exact if_pos (((h.resolve_left hflags).resolve_left huses).resolve_left hgen)

theorem State.stageRefusal_fit (h : ¬ s.stageUnfit i e) :
    s.stageRefusal i e
      = if (s.slotAt i).staged.isSome = true then some .busy
        else if s.duplicate i (s.checkValue e.token) = true then some .duplicate else none := by
  rw [State.stageUnfit, ← StageFields.badUses_iff] at h
  obtain ⟨hflags, huses, hgen, hlast⟩ := by simpa only [not_or] using h
  rw [State.stageRefusal, if_neg hflags, if_neg huses]
  exact (if_neg (not_or.mpr hgen)).trans (if_neg hlast)

/-- No check of Table 4-4 answers DONE. -/
theorem State.stageRefusal_ne_done : s.stageRefusal i e ≠ some .done := by
  by_cases h : s.stageUnfit i e
  · simp [State.stageRefusal_unfit h]
  · rw [State.stageRefusal_fit h]
    (repeat' split) <;> simp

theorem State.stageSlot_outside (h : 5 < e.slot) : s.stageSlot n e = s.answerSlot n .stage .invalid e.slot e.gen := by
  rw [State.stageSlot, slotNo?_outside h]

theorem State.stageSlot_refused (hi : e.slot = i.val) (hr : s.stageRefusal i e = some r) :
    s.stageSlot n e = s.answerSlot n .stage r e.slot e.gen := by
  simp [State.stageSlot, hi, hr]

theorem State.stageSlot_stages (hi : e.slot = i.val) (hr : s.stageRefusal i e = none) :
    s.stageSlot n e
      = s.changeAndWait i { s.slotAt i with staged := some ⟨e.gen, s.sealToken e⟩ } false
        ⟨i, e.gen, .stage, false, n, 0, none⟩ := by
  simp [State.stageSlot, hi, hr]

/-- The credential that a STAGE seals with the key of the epoch (R75, R76, R80). -/
theorem State.sealToken_eq {key : ChannelKey}
    (hkey : (if s.phase = .blank then s.slotTable.blankKey else s.slotTable.unlockedKey) = some key) :
    s.sealToken e
      = ⟨⟨s.slotTable.salt, e.token⟩, ⟨⟨s.slotTable.salt, e.token⟩, key⟩, e.readOnly, e.uses⟩ := by
  simp [State.sealToken, State.sealingKey, hkey, State.checkValue, State.wrapValue]

end

/-! ### ADOPT, with and without abandon (R82 to R84) -/

section
variable {c : Credential}

theorem State.adoptSlot_outside (h : 5 < slot) : s.adoptSlot n slot gen = s.answerSlot n .adopt .refused slot gen := by
  rw [State.adoptSlot, slotNo?_outside h]

theorem State.adoptSlot_refused (h : ∀ c, (s.slotAt i).staged ≠ some ⟨gen, c⟩) :
    s.adoptSlot n i.val gen = s.answerSlot n .adopt .refused i.val gen := by
  simp [State.adoptSlot, Slot.stagedAt_eq_none h]

theorem State.adoptSlot_duplicate (h : (s.slotAt i).staged = some ⟨gen, c⟩) (hd : s.duplicate i c.verifier = true) :
    s.adoptSlot n i.val gen
      = (s.changeSlot i { s.slotAt i with staged := none } true).answerSlot n .adopt .duplicate i.val gen := by
  simp [State.adoptSlot, Slot.stagedAt_eq_some h, hd]

theorem State.adoptSlot_adopts (h : (s.slotAt i).staged = some ⟨gen, c⟩) (hd : s.duplicate i c.verifier = false) :
    s.adoptSlot n i.val gen
      = (s.takeBlankKey (i = 0 && s.phase = .blank)).changeAndWait i ⟨gen, .active c, none⟩ false
        ⟨i, gen, .adopt, i = 0 && s.phase = .blank, n, 0, none⟩ := by
  simp [State.adoptSlot, Slot.stagedAt_eq_some h, hd, Staged.adopted]

theorem State.abandonSlot_outside (h : 5 < slot) :
    s.abandonSlot n slot gen = s.answerSlot n .adopt .refused slot gen := by
  rw [State.abandonSlot, slotNo?_outside h]

theorem State.abandonSlot_refused (h : ∀ c, (s.slotAt i).staged ≠ some ⟨gen, c⟩) :
    s.abandonSlot n i.val gen = s.answerSlot n .adopt .refused i.val gen := by
  simp [State.abandonSlot, Slot.stagedAt_eq_none h]

theorem State.abandonSlot_discards (h : (s.slotAt i).staged = some ⟨gen, c⟩) :
    s.abandonSlot n i.val gen
      = s.changeAndWait i { s.slotAt i with staged := none } true ⟨i, gen, .abandon, false, n, 0, none⟩ := by
  simp [State.abandonSlot, Slot.stagedAt_eq_some h]

end

theorem State.takeBlankKey_line (s : State) (first : Bool) : (s.takeBlankKey first).line = s.line := by
  simp

theorem State.takeBlankKey_unlockedKey (s : State) (first : Bool) :
    (s.takeBlankKey first).slotTable.unlockedKey = if first = true then s.slotTable.blankKey else s.slotTable.unlockedKey := by
  cases first <;> rfl

/-! ### RETIRE (R85) -/

theorem State.retireSlot_outside (h : 5 < slot) : s.retireSlot n slot gen = s.answerSlot n .retire .invalid slot gen := by
  rw [State.retireSlot, slotNo?_outside h]

theorem State.retireSlot_invalid (h : i = 0 ∨ (s.slotAt i).gen = 65535 ∨ gen ≠ (s.slotAt i).gen + 1) :
    s.retireSlot n i.val gen = s.answerSlot n .retire .invalid i.val gen := by
  rw [State.retireSlot, slotNo?_val]
  exact if_pos h

theorem State.retireSlot_retires (h : ¬ (i = 0 ∨ (s.slotAt i).gen = 65535 ∨ gen ≠ (s.slotAt i).gen + 1)) :
    s.retireSlot n i.val gen = s.changeAndWait i ⟨gen, .empty, none⟩ true ⟨i, gen, .retire, false, n, 0, none⟩ := by
  rw [State.retireSlot, slotNo?_val]
  exact if_neg h

/-! ### What the four changes make of the station, whoever asked for them -/

/-- The line of a station that owes no ROLL, once an event is over that leaves the roster. -/
theorem State.payRoll_line_of (ho : s.roster.rollOwed = false) (hr : u.roster = s.roster) : u.payRoll.line = u.line := by
  rw [State.payRoll_of_not_owed (by rw [hr, ho])]

/-- A slot with the staged part of a STAGE, sealed with a key (Table 4-2, R75, R76). -/
def State.stagedSlot (s : State) (i : SlotNo) (e : StageFields) (key : ChannelKey) : Slot :=
  { s.slotAt i with
    staged := some ⟨e.gen, ⟨⟨s.slotTable.salt, e.token⟩, ⟨⟨s.slotTable.salt, e.token⟩, key⟩, e.readOnly, e.uses⟩⟩ }

/-- A STAGE that passes its checks: the staged part is held and its write requested, and the answer waits (R79, R80). -/
theorem State.stageSlot_holds {e : StageFields} {key : ChannelKey} (hi : e.slot = i.val)
    (hr : s.stageRefusal i e = none)
    (hkey : (if s.phase = .blank then s.slotTable.blankKey else s.slotTable.unlockedKey) = some key) :
    s.SlotChanged (s.stageSlot n e).payRoll i (s.stagedSlot i e key)
    ∧ (s.stageSlot n e).payRoll.slotTable.waits
        = s.slotTable.waits ++ [⟨i, e.gen, .stage, false, n, s.store.grants, none⟩]
    ∧ (s.stageSlot n e).payRoll.slotTable.enrollment = s.slotTable.enrollment
    ∧ (s.roster.rollOwed = false → (s.stageSlot n e).payRoll.line = s.line) := by
  rw [State.stageSlot_stages hi hr, State.sealToken_eq hkey]
  refine ⟨(s.slotsStand_refl.changeAndWait i (s.stagedSlot i e key) false _).payRoll,
    by simp [State.changeAndWait_waits_kept], by simp, fun ho => ?_⟩
  rw [State.payRoll_line_of ho (by simp)]
  simp

section
variable {c : Credential}

/-- An ADOPT makes its staged part the ACTIVE record; the first adoption takes the key of the blank key record (R82, R84). -/
theorem State.adoptSlot_activates (h : (s.slotAt i).staged = some ⟨gen, c⟩) (hd : s.duplicate i c.verifier = false) :
    s.SlotChanged (s.adoptSlot n i.val gen).payRoll i ⟨gen, .active c, none⟩
    ∧ (s.adoptSlot n i.val gen).payRoll.slotTable.waits
        = s.slotTable.waits ++ [⟨i, gen, .adopt, i = 0 && s.phase = .blank, n, s.store.grants, none⟩]
    ∧ (s.adoptSlot n i.val gen).payRoll.slotTable.unlockedKey
        = (if i = 0 ∧ s.phase = .blank then s.slotTable.blankKey else s.slotTable.unlockedKey)
    ∧ (s.roster.rollOwed = false → (s.adoptSlot n i.val gen).payRoll.line = s.line) := by
  rw [State.adoptSlot_adopts h hd]
  refine ⟨((s.slotsStand_refl.takeBlankKey _).changeAndWait i ⟨gen, .active c, none⟩ false _).payRoll, ?_, ?_,
    fun ho => ?_⟩
  · simp [State.changeAndWait_waits_kept]
  · simp [State.takeBlankKey_unlockedKey]
  · rw [State.payRoll_line_of ho (by simp)]
    simp

/-- An ADOPT of an equal verifier discards the staged part, tells the answer that waits for it, and is answered DUPLICATE (R77, R82). -/
theorem State.adoptSlot_discards (h : (s.slotAt i).staged = some ⟨gen, c⟩) (hd : s.duplicate i c.verifier = true) :
    s.SlotChanged (s.adoptSlot n i.val gen).payRoll i { s.slotAt i with staged := none }
    ∧ (s.adoptSlot n i.val gen).payRoll.slotTable.waits = s.slotTable.waits.map (·.discard i s.store.grants)
    ∧ (s.roster.rollOwed = false → n ≠ s.sn →
        (s.adoptSlot n i.val gen).payRoll.line = (s.answers n .adopt .duplicate i.val gen).line)
    ∧ (s.roster.rollOwed = false → n = s.sn → (s.adoptSlot n i.val gen).payRoll.line = s.line) := by
  rw [State.adoptSlot_duplicate h hd]
  refine ⟨((s.slotsStand_refl.changeSlot i { s.slotAt i with staged := none } true).answerSlot n .adopt .duplicate i.val
    gen).payRoll, ?_, fun ho hne => ?_, fun ho hself => ?_⟩
  · simp [State.changeSlot_waits_discard, h]
  · rw [State.payRoll_line_of ho (by simp), State.answerSlot_other (by simpa using hne)]
    exact State.offer_line_congr (by simp) (by simp) _ _ _
  · rw [State.payRoll_line_of ho (by simp), State.answerSlot_own (by simpa using hself) (by simp)]
    simp

/-- An ADOPT with the abandon flag discards the staged part and leaves the rest of the slot (R83). -/
theorem State.abandonSlot_abandons (h : (s.slotAt i).staged = some ⟨gen, c⟩) :
    s.SlotChanged (s.abandonSlot n i.val gen).payRoll i { s.slotAt i with staged := none }
    ∧ (s.abandonSlot n i.val gen).payRoll.slotTable.waits
        = s.slotTable.waits.map (·.discard i s.store.grants)
          ++ [⟨i, gen, .abandon, false, n, s.store.grants, none⟩]
    ∧ (s.roster.rollOwed = false → (s.abandonSlot n i.val gen).payRoll.line = s.line) := by
  rw [State.abandonSlot_discards h]
  refine ⟨(s.slotsStand_refl.changeAndWait i { s.slotAt i with staged := none } true _).payRoll, ?_, fun ho => ?_⟩
  · simp [State.changeAndWait_waits_discard, h]
  · rw [State.payRoll_line_of ho (by simp)]
    simp

end

/-- A RETIRE of a user slot at its generation plus one empties the slot (R85). -/
theorem State.retireSlot_empties (h : ¬ (i = 0 ∨ (s.slotAt i).gen = 65535 ∨ gen ≠ (s.slotAt i).gen + 1)) :
    s.SlotChanged (s.retireSlot n i.val gen).payRoll i ⟨gen, .empty, none⟩
    ∧ (s.retireSlot n i.val gen).payRoll.slotTable.waits
        = (if (s.slotAt i).staged = none then s.slotTable.waits
            else s.slotTable.waits.map (·.discard i s.store.grants))
          ++ [⟨i, gen, .retire, false, n, s.store.grants, none⟩]
    ∧ (s.roster.rollOwed = false → (s.retireSlot n i.val gen).payRoll.line = s.line) := by
  rw [State.retireSlot_retires h]
  refine ⟨(s.slotsStand_refl.changeAndWait i ⟨gen, .empty, none⟩ true _).payRoll, ?_, fun ho => ?_⟩
  · simp [State.changeAndWait_waits_discard]
  · rw [State.payRoll_line_of ho (by simp)]
    simp

/-! ### The rows of a change, own or received -/

theorem exec_adopt_allowed (h : s.Requested f rest .adopt) (hf : abandonFlag f.payload = false)
    (hslot : u8 f.payload 0 = slot) (hr : s.slotRights f.sender slot) :
    exec .adopt s = .next ((s.taken rest).adoptSlot f.sender slot (u16 f.payload 1)).payRoll := by
  subst hslot
  rw [exec_adopt h.front h.kind hf, h.takeAdopt_allowed hr]

theorem exec_adoptAbandon_allowed (h : s.Requested f rest .adopt) (hf : abandonFlag f.payload = true)
    (hslot : u8 f.payload 0 = slot) (hr : s.slotRights f.sender slot) :
    exec .adoptAbandon s = .next ((s.taken rest).abandonSlot f.sender slot (u16 f.payload 1)).payRoll := by
  subst hslot
  rw [exec_adoptAbandon h.front h.kind hf, h.takeAdopt_allowed hr]

theorem exec_retire_allowed (h : s.Requested f rest .retire) (hslot : u8 f.payload 0 = slot) (hr : s.retireRights f.sender) :
    exec .retire s = .next ((s.taken rest).retireSlot f.sender slot (u16 f.payload 1)).payRoll := by
  subst hslot
  rw [exec_retire h.front h.kind, h.handleRetire_allowed hr]

end

/-- Settles O30: the test for an equal verifier, the checks in their order, and a STAGE by what they answer. -/
theorem stageIsCheckedAndHeld : Obligations.StageIsCheckedAndHeld := by
  refine ⟨fun s i v => State.duplicate_iff, fun s i e => ?checks, fun s f rest hasked => ?staged⟩
  case checks =>
    intro adminFlags badUses badGen lastUses
    have fit (h₁ : ¬ adminFlags) (h₂ : ¬ badUses) (h₃ : ¬ badGen) (h₄ : ¬ lastUses) : ¬ s.stageUnfit i e := by
      rintro (h | h | h | h)
      exacts [h₁ h, h₂ h, h₃ h, h₄ h]
    refine ⟨State.stageRefusal_unfit, fun h₁ h₂ h₃ h₄ hbusy => ?_, fun h₁ h₂ h₃ h₄ hfree hd => ?_,
      fun h₁ h₂ h₃ h₄ hfree hd => ?_⟩
    · rw [State.stageRefusal_fit (fit h₁ h₂ h₃ h₄), if_pos hbusy]
    · rw [State.stageRefusal_fit (fit h₁ h₂ h₃ h₄), if_neg (by simp [hfree]), if_pos hd]
    · rw [State.stageRefusal_fit (fit h₁ h₂ h₃ h₄), if_neg (by simp [hfree]), if_neg (by simp [hd])]
  case staged =>
    intro e hadmin hgrant hpresent reply
    have hne : f.sender ≠ s.sn := hasked.2.2.2.1
    have hexec : exec .stage s = .next ((s.taken rest).stageSlot f.sender e).payRoll := by
      rw [exec_stage_allowed hasked.requested ⟨⟨hadmin, hgrant⟩, hpresent⟩, State.ownStage_received hasked.2.2.1]
    refine ⟨fun hout => ?_, fun i r hi hr => ?_, fun i key hi hr hkey => ⟨_, hexec, ?_⟩⟩
    · rw [hexec, State.stageSlot_outside hout, State.answerSlot_other (by exact hne)]
    · rw [hexec, State.stageSlot_refused hi (by exact hr), State.answerSlot_other (by exact hne)]
    · obtain ⟨hchanged, hwaits, -, hline⟩ :=
        State.stageSlot_holds (s := s.taken rest) (n := f.sender) hi (by exact hr) (by exact hkey)
      have hchanged := (s.slotsStand_taken rest).changed hchanged
      exact ⟨hchanged.slots, hwaits, hchanged.slotAt ▸ hchanged.requested, hline, hchanged.phaseCtl, hchanged.keyPort,
        hchanged.verifier, hchanged.purge, hchanged.records⟩

/-- Settles O31: an ADOPT by its staged part and the test for an equal verifier, a RETIRE by slot and generation. -/
theorem adoptAndRetireChangeTheSlot : Obligations.AdoptAndRetireChangeTheSlot := by
  refine ⟨fun s f rest i hasked hflag hslot hadmin hgrant => ?adopt, fun s f rest hasked hadmin hgrant htamper => ?retire⟩
  case adopt =>
    intro gen
    have hne : f.sender ≠ s.sn := hasked.2.2.2.1
    have hexec := exec_adopt_allowed hasked.requested hflag hslot
      ⟨hadmin, hgrant.imp_right fun ⟨hp, hi⟩ => ⟨hp, by rw [hi]; rfl⟩⟩
    refine ⟨fun c hst hd => ⟨_, hexec, ?_⟩, fun hnone => ?_, fun c hst hd => ⟨_, hexec, ?_⟩⟩
    · obtain ⟨hchanged, hwaits, hkey, hline⟩ :=
        State.adoptSlot_activates (s := s.taken rest) (n := f.sender) (by exact hst) (by exact hd)
      have hchanged := (s.slotsStand_taken rest).changed hchanged
      exact ⟨hchanged.slots, hwaits, hchanged.requested, hkey, hline, hchanged.phaseCtl, hchanged.keyPort,
        hchanged.verifier, hchanged.purge, hchanged.records⟩
    · rw [hexec, State.adoptSlot_refused (s := s.taken rest) (by exact hnone), State.answerSlot_other (by exact hne)]
    · obtain ⟨hchanged, hwaits, hline, -⟩ :=
        State.adoptSlot_discards (s := s.taken rest) (n := f.sender) (by exact hst) (by exact hd)
      have hchanged := (s.slotsStand_taken rest).changed hchanged
      exact ⟨hchanged.slots, hwaits, hchanged.requested, fun ho => hline ho hne, hchanged.phaseCtl, hchanged.keyPort,
        hchanged.verifier, hchanged.purge, hchanged.records⟩
  case retire =>
    intro slot gen
    have hne : f.sender ≠ s.sn := hasked.2.2.2.1
    have hexec (n : Nat) (hn : slot = n) := exec_retire_allowed hasked.requested hn ⟨hadmin, hgrant, htamper⟩
    refine ⟨fun i hi h0 hlast hgen => ⟨_, hexec _ hi, ?_⟩, fun hinvalid => ?_⟩
    · obtain ⟨hchanged, hwaits, hline⟩ :=
        State.retireSlot_empties (s := s.taken rest) (i := i) (gen := gen) (n := f.sender) (by
          rintro (h | h | h)
          exacts [h0 h, hlast h, h hgen])
      have hchanged := (s.slotsStand_taken rest).changed hchanged
      exact ⟨hchanged.slots, hwaits, hchanged.requested, hline, hchanged.phaseCtl, hchanged.keyPort,
        hchanged.verifier, hchanged.purge, hchanged.records⟩
    · rw [← State.answerSlot_other (by exact hne)]
      rcases hinvalid with h | h | ⟨i, hi, h⟩
      · rw [hexec (0 : SlotNo).val h, State.retireSlot_invalid (.inl rfl), h]
        rfl
      · rw [hexec slot rfl, State.retireSlot_outside h]
      · rw [hexec i.val hi, State.retireSlot_invalid (s := s.taken rest) (.inr h), hi]

/-- Settles O32, by the staged part of the generation. -/
theorem abandonDiscardsTheStagedPart : Obligations.AbandonDiscardsTheStagedPart := by
  intro s f rest i hasked hflag hslot hadmin hgrant gen
  have hne : f.sender ≠ s.sn := hasked.2.2.2.1
  have hexec := exec_adoptAbandon_allowed hasked.requested hflag hslot
    ⟨hadmin, hgrant.imp_right fun ⟨hp, hi⟩ => ⟨hp, by rw [hi]; rfl⟩⟩
  refine ⟨fun c hst => ⟨_, hexec, ?_⟩, fun hnone => ?_⟩
  · obtain ⟨hchanged, hwaits, hline⟩ := State.abandonSlot_abandons (s := s.taken rest) (n := f.sender) (by exact hst)
    have hchanged := (s.slotsStand_taken rest).changed hchanged
    exact ⟨hchanged.slots, hwaits, hchanged.requested, hline, hchanged.phaseCtl, hchanged.keyPort, hchanged.verifier,
      hchanged.purge, hchanged.records⟩
  · rw [hexec, State.abandonSlot_refused (s := s.taken rest) (by exact hnone), State.answerSlot_other (by exact hne)]

end Sys2Proof.Machine
end

section
/-! PROOFS. The completion of a slot's write, the answer that it settles, and the first adoption (R74, R79, R84, R206). -/

namespace Sys2Proof.Machine

section
variable {s : State} {i : SlotNo} {sl : Slot} {w : SlotWait} {serial : Nat} {key : ChannelKey}

/-! ### The write that completes, with one answer waiting -/

/-- The station with the write of a slot stored and closed, and the one answer that waited for it in hand (R74, R206). -/
def State.slotClosed (s : State) (i : SlotNo) (sl : Slot) : State :=
  let closed := (s.stores (.slot i sl)).closeWrite .slotTable (.slot i)
  closed.setSlotTable { closed.slotTable with waits := [] }

@[simp] theorem State.closeWrite_slotTable_frame (s : State) (rec : RecordId) :
    (s.closeWrite .slotTable rec).purge = s.purge ∧ (s.closeWrite .slotTable rec).gate = s.gate := by
  simp [State.closeWrite, State.setWriteSet]

@[simp] theorem State.slotClosed_frame (s : State) (i : SlotNo) (sl : Slot) :
    (s.slotClosed i sl).clock = s.clock ∧ (s.slotClosed i sl).line = s.line ∧ (s.slotClosed i sl).roster = s.roster
    ∧ (s.slotClosed i sl).verifier = s.verifier ∧ (s.slotClosed i sl).slotTable.slots = s.slotTable.slots
    ∧ (s.slotClosed i sl).slotTable.blankKey = s.slotTable.blankKey
    ∧ (s.slotClosed i sl).slotTable.unlockedKey = s.slotTable.unlockedKey
    ∧ (s.slotClosed i sl).slotTable.enrollment = s.slotTable.enrollment
    ∧ (s.slotClosed i sl).slotTable.waits = [] ∧ (s.slotClosed i sl).phaseCtl = s.phaseCtl
    ∧ (s.slotClosed i sl).keyPort = s.keyPort ∧ (s.slotClosed i sl).purge = s.purge ∧ (s.slotClosed i sl).gate = s.gate
    ∧ (s.slotClosed i sl).scanner = s.scanner ∧ (s.slotClosed i sl).supervisor = s.supervisor
    ∧ (s.slotClosed i sl).setup = s.setup
    ∧ (s.slotClosed i sl).store.stored = { s.store.stored with slots := s.store.stored.slots.set i sl } := by
  simp [State.slotClosed, Stored.put]

theorem State.settleHandOver_none (ha : s.verifier.attempt = none) : s.settleHandOver i serial = s := by
  simp [State.settleHandOver, ha]

/-- With one answer waiting, for a change made before the grant, the completion settles it (R79). -/
theorem exec_slotWriteComplete_settles (h : s.writing .slotTable (.slot i sl) serial) (hw : s.slotTable.waits = [w])
    (hi : w.slot = i) (hchanged : w.changedAt < serial) (ha : s.verifier.attempt = none) :
    exec .slotWriteComplete s = .next ((s.slotClosed i sl).settleWait serial sl w).arbitrate.payRoll := by
  have hsettled : w.settledBy i serial = true := by simp [SlotWait.settledBy, hi, hchanged]
  have hwaits : ((s.stores (.slot i sl)).closeWrite .slotTable (.slot i)).slotTable.waits = [w] := by simpa using hw
  have hnone (t : SlotTable) :
      ((((s.stores (.slot i sl)).closeWrite .slotTable (.slot i)).setSlotTable t).settleHandOver i serial)
        = ((s.stores (.slot i sl)).closeWrite .slotTable (.slot i)).setSlotTable t :=
    State.settleHandOver_none (by simpa using ha)
  rw [exec_slotWriteComplete h]
  simp only [State.slotStored, Contents.record, hwaits, hsettled, List.filter_cons, List.filter_nil, if_true, hnone,
    Bool.not_true, Bool.false_eq_true, if_false, List.foldl_cons, List.foldl_nil]
  rfl

/-! ### The answer in hand (R79) -/

theorem SlotWait.storedBy_iff : w.storedBy serial = true ↔ ∀ d, w.discardedAt = some d → serial ≤ d := by
  unfold SlotWait.storedBy
  cases w.discardedAt <;> simp

theorem State.settleWait_discarded (h : ¬ w.storedBy serial = true) : s.settleWait serial sl w = s := if_neg h

theorem State.settleWait_done (h : w.storedBy serial = true) (hf : w.first = false) :
    s.settleWait serial sl w = s.answerSlot w.replyTo w.change.request .done w.slot.val w.gen := by
  simp [State.settleWait, h, hf]

theorem State.settleWait_first (h : w.storedBy serial = true) (hf : w.first = true) (hsl : sl.activeAt w.gen = true) :
    s.settleWait serial sl w = s.firstAdoption.answerSlot w.replyTo w.change.request .done w.slot.val w.gen := by
  simp [State.settleWait, h, hf, hsl]

theorem SlotChange.request_ne_stage {c : SlotChange} (h : c ≠ .stage) : c.request ≠ .stage := by
  cases c <;> simp_all [SlotChange.request]

/-- What ends an event after an answer leaves the parts that an answer leaves. -/
theorem State.arbitrate_payRoll_line {u : State} (ho : u.roster.rollOwed = false) : u.arbitrate.payRoll.line = u.line := by
  rw [State.payRoll_of_not_owed (by simpa using ho)]
  simp

/-! ### The first adoption (R84) -/

theorem State.deleteBlankKey_blankKey (s : State) : s.deleteBlankKey.slotTable.blankKey = none := by
  unfold State.deleteBlankKey
  split
  · simp
  · next h => simpa using h

/-- A station that leaves BLANK gives up the unlocked key and the enrollment of the first adoption (R84, R87). -/
theorem State.leavePhase_blank (hp : s.phase = .blank) :
    s.leavePhase = s.setSlotTable { s.slotTable with unlockedKey := none, enrollment := none } := by
  have hp' : s.phaseCtl.phase = .blank := hp
  simp [State.leavePhase, hp']

/-- The move to UNLOCKED offers no frame. -/
theorem State.handOver_line (s : State) (slot : SlotNo) (readOnly : Bool) (key : ChannelKey) :
    (s.handOver slot readOnly key).line = s.line := by
  simp [State.handOver, State.enterUnlocked, State.movePhase_line]

/-- Outside BLANK, and without the key that a purge has discarded, the first adoption deletes the blank key record alone. -/
theorem State.firstAdoption_stays (h : s.slotTable.unlockedKey = none ∨ s.phase ≠ .blank) :
    s.firstAdoption = s.deleteBlankKey := by
  unfold State.firstAdoption
  dsimp only
  split
  · next key hkey =>
    have hkey' : s.slotTable.unlockedKey = some key := by simpa using hkey
    have hp : s.phaseCtl.phase ≠ .blank := h.resolve_left (by simp [hkey'])
    exact if_neg (by simpa using hp)
  · rfl

/-- The first adoption of a station without an attempt in BLANK is the hand-over of an admin unlock (R65, R84). -/
theorem State.firstAdoption_unlocks (hp : s.phase = .blank) (hkey : s.slotTable.unlockedKey = some key)
    (ha : s.verifier.attempt = none) : s.firstAdoption = s.deleteBlankKey.leavePhase.handOver 0 false key := by
  have hp' : s.deleteBlankKey.phase = .blank := by simpa using hp
  have hkey' : s.deleteBlankKey.slotTable.unlockedKey = some key := by simpa using hkey
  have hattempt : s.deleteBlankKey.leavePhase.verifier.attempt = none := by
    rw [State.leavePhase_blank hp']
    simpa using ha
  have hsame : s.deleteBlankKey.leavePhase.setVerifier
      { s.deleteBlankKey.leavePhase.verifier with attempt := none } = s.deleteBlankKey.leavePhase := by
    rw [← hattempt]
    rfl
  unfold State.firstAdoption
  dsimp only
  rw [hkey', State.handOver, hsame]
  exact if_pos hp'

/-- What the first adoption leaves in every case: the blank key record is gone, and the attempt record stays. -/
theorem State.firstAdoption_leaves (ha : s.verifier.attempt = none) :
    s.firstAdoption.slotTable.blankKey = none ∧ s.firstAdoption.verifier = s.verifier
    ∧ s.firstAdoption.line = s.line := by
  cases hkey : s.slotTable.unlockedKey with
  | none =>
    rw [State.firstAdoption_stays (.inl hkey)]
    exact ⟨s.deleteBlankKey_blankKey, by simp, by simp⟩
  | some key =>
    by_cases hp : s.phase = .blank
    · have hp' : s.deleteBlankKey.phase = .blank := by simpa using hp
      rw [State.firstAdoption_unlocks hp hkey ha, State.handOver_line, State.leavePhase_blank hp']
      refine ⟨by simp [s.deleteBlankKey_blankKey], ?_, by simp⟩
      simp [State.handOver, ← ha]
    · rw [State.firstAdoption_stays (.inr hp)]
      exact ⟨s.deleteBlankKey_blankKey, by simp, by simp⟩

/-- In BLANK the station unlocks as ADMIN with the key. -/
theorem State.firstAdoption_handedOver (hp : s.phase = .blank) (hkey : s.slotTable.unlockedKey = some key)
    (ha : s.verifier.attempt = none) : s.HandedOver s.firstAdoption 0 false key := by
  have hp' : s.deleteBlankKey.phase = .blank := by simpa using hp
  rw [State.firstAdoption_unlocks hp hkey ha, State.leavePhase_blank hp']
  exact (State.handOver_handedOver _ 0 false key).of (by simp) (by simp) (by simp)

/-- The stored first adoption: the blank key record goes, and DONE is answered (R79, R84). -/
theorem exec_slotWriteComplete_first (h : s.writing .slotTable (.slot 0 sl) serial) (hw : s.slotTable.waits = [w])
    (hi : w.slot = 0) (hchanged : w.changedAt < serial) (hd : w.discardedAt = none) (hf : w.first = true)
    (hgen : sl.gen = w.gen) (hact : ∃ c, sl.body = .active c) (ha : s.verifier.attempt = none) :
    exec .slotWriteComplete s
      = .next ((s.slotClosed 0 sl).firstAdoption.answerSlot w.replyTo w.change.request .done 0 w.gen).arbitrate.payRoll := by
  obtain ⟨c, hc⟩ := hact
  rw [exec_slotWriteComplete_settles h hw hi hchanged ha,
    State.settleWait_first (SlotWait.storedBy_iff.mpr (by simp [hd])) hf
      (by simp [Slot.activeAt, Slot.isActive, hc, hgen]), hi]
  rfl

end

/-- Settles O33, by the answer in hand: of a change, or of the first adoption with or without its key. -/
theorem storedSlotsAreAnswered : Obligations.StoredSlotsAreAnswered := by
  refine ⟨fun s i sl serial w hwriting hwaits hi hchanged hf hne ha => ?change,
    fun s sl serial w key hwriting hwaits hi hchanged hd hf hgen hact ha hkey => ?first,
    fun s sl serial w hwriting hwaits hi hchanged hd hf hgen hact ha hkey => ?discarded,
    fun s => State.leavePhase_blank⟩
  case change =>
    intro kept
    have hexec := exec_slotWriteComplete_settles hwriting hwaits hi hchanged ha
    have hkept : w.storedBy serial = true ↔ kept := SlotWait.storedBy_iff
    by_cases hstored : w.storedBy serial = true
    · rw [State.settleWait_done hstored hf, State.answerSlot_other (by simpa using hne)] at hexec
      refine ⟨_, hexec, by simp [State.answers], by simp [State.answers], by simp [State.answers], fun ho _ => ?_,
        fun _ hnot => absurd (hkept.mp hstored) hnot, by simp [State.answers], by simp [State.answers],
        by simp [State.answers], by simp [State.answers], by simp [State.answers], by simp [State.answers]⟩
      rw [State.arbitrate_payRoll_line (by simpa [State.answers] using ho)]
      exact State.offer_line_congr (by simp) (by simp) _ _ _
    · rw [State.settleWait_discarded hstored] at hexec
      refine ⟨_, hexec, by simp, by simp, by simp, fun _ h => absurd (hkept.mpr h) hstored, fun ho _ => ?_, by simp,
        by simp, by simp, by simp, by simp, by simp⟩
      rw [State.arbitrate_payRoll_line (by simpa using ho)]
      simp
  case first =>
    have hexec := exec_slotWriteComplete_first hwriting hwaits hi hchanged hd hf hgen hact ha
    obtain ⟨hblank, hverifier, hline⟩ := (s.slotClosed 0 sl).firstAdoption_leaves (by simpa using ha)
    refine ⟨_, hexec, by simpa using hblank, by simpa using hverifier, by simp, by simp, fun hne ho => ?_,
      fun hself hstage ho => ?_, fun hp => ?_, fun hp => ?_⟩
    · rw [State.arbitrate_payRoll_line (by simpa using ho), State.answerSlot_other (by simpa using hne)]
      exact State.offer_line_congr (by simpa using hline) (by simp) _ _ _
    · rw [State.arbitrate_payRoll_line (by simpa using ho),
        State.answerSlot_own (by simpa using hself) (SlotChange.request_ne_stage hstage)]
      simpa using hline
    · rw [State.firstAdoption_stays (.inr (by simpa using hp))]
      simp
    · have hdone := (s.slotClosed 0 sl).firstAdoption_handedOver (by simpa using hp) (by simpa using hkey)
        (by simpa using ha)
      have hdone : s.HandedOver (((s.slotClosed 0 sl).firstAdoption.answerSlot w.replyTo w.change.request .done 0
          w.gen).arbitrate.payRoll) 0 false key :=
        (hdone.of (by simp) (by simp) (by simp)).later (by simp) (by simp) (by simp) (by simp) (by simp)
      obtain ⟨hunlocked, hgrant, hattach⟩ := hdone.unlocked
      exact ⟨hunlocked, hgrant, hdone.gateGrant, hdone.presents, hdone.unlockedKey, hattach⟩
  case discarded =>
    have hexec := exec_slotWriteComplete_first hwriting hwaits hi hchanged hd hf hgen hact ha
    have hstays : (s.slotClosed 0 sl).firstAdoption = (s.slotClosed 0 sl).deleteBlankKey :=
      State.firstAdoption_stays (.inl (by simpa using hkey))
    obtain ⟨hblank, hverifier, hline⟩ := (s.slotClosed 0 sl).firstAdoption_leaves (by simpa using ha)
    refine ⟨_, hexec, by simpa using hblank, by simpa using hverifier, by simp [hstays], by simp [hstays], by simp,
      by simp, fun hne ho => ?_⟩
    rw [State.arbitrate_payRoll_line (by simpa using ho), State.answerSlot_other (by simpa using hne)]
    exact State.offer_line_congr (by simpa using hline) (by simp) _ _ _

end Sys2Proof.Machine
end

section
/-! PROOFS. The enrollment record at its origin, and the station's own STAGE, ADOPT and RETIRE on return (R79, R82 to R87). -/

namespace Sys2Proof.Machine

section
variable {s : State} {e : Enrollment} {f : RxFrame} {rest : List RxFrame} {n : StationNo} {o : SendOutcome} {result : Byte}

/-! ### The end of the record (R87) -/

/-- The station with its enrollment ended: ADOPT offered with its flag byte, and a transient shown (R87, R174). -/
def State.enrollmentEnded (s : State) (e : Enrollment) (abandon : Nat) (pattern : Transient) : State :=
  let sent := (s.setSlotTable { s.slotTable with enrollment := none }).offer .adopt none
    (byte e.slot :: bytes2 e.gen ++ [byte abandon])
  sent.setScanner { sent.scanner with transient := some (pattern, s.clock + 2000000) }

theorem State.endEnrollment_abandons (s : State) (e : Enrollment) :
    s.endEnrollment e true = s.enrollmentEnded e 128 .red := by
  simp [State.endEnrollment, State.enrollmentEnded, State.dropEnrollment, State.showTransient, bit, transientTime, seconds]

theorem State.endEnrollment_adopts (s : State) (e : Enrollment) :
    s.endEnrollment e false = s.enrollmentEnded e 0 .green := by
  simp [State.endEnrollment, State.enrollmentEnded, State.dropEnrollment, State.showTransient, bit, transientTime, seconds]

/-! ### The answers (R86) -/

/-- The record with an answer in its sender's place. -/
def Enrollment.answered (e : Enrollment) (n : StationNo) (result : Byte) : Enrollment :=
  { e with places := e.places.set n (some result) }

/-- An answer that belongs to the record is filed in its sender's empty place, and may end the record. -/
theorem State.fileAnswer_places (he : s.slotTable.enrollment = some e) (hm : s.isMember n = true)
    (hplace : e.places[n] = none) :
    s.fileAnswer n e.slot e.gen result
      = if result ≠ 0 then s.enrollmentEnded e 128 .red
        else if s.allDone (e.answered n result) = true then s.enrollmentEnded e 0 .green
        else s.setSlotTable { s.slotTable with enrollment := some (e.answered n result) } := by
  have hdone : byte AnswerResult.done.code = 0 := rfl
  have hplace' : e.places[n].isNone = true := by simp [hplace]
  simp only [State.fileAnswer, he, hm, hplace', hdone, State.endEnrollment_abandons, State.endEnrollment_adopts,
    Bool.and_true, decide_true, if_true]
  rfl

/-- Every place holds DONE once the last other member's does. -/
theorem State.allDone_answered : s.allDone (e.answered n 0) = true
    ↔ ∀ m, s.isMember m = true → m ≠ n → e.places[m] = some 0 := by
  have hplace (m : StationNo) : (e.answered n 0).places[m] = if m = n then some 0 else e.places[m] := by
    by_cases h : m = n
    · subst h
      simp [Enrollment.answered]
    · rw [if_neg h, Enrollment.answered, Fin.getElem_fin, Vector.getElem_set_ne _ _ fun hv => h (Fin.ext hv.symm)]
      rfl
  have hdone : byte AnswerResult.done.code = 0 := rfl
  simp only [State.allDone, List.all_eq_true, State.mem_members, decide_eq_true_eq, hdone, hplace]
  refine forall_congr' fun m => forall_congr' fun _ => ?_
  by_cases h : m = n <;> simp [h]

theorem State.fileAnswer_abandons (he : s.slotTable.enrollment = some e) (hm : s.isMember n = true)
    (hplace : e.places[n] = none) (hr : result ≠ 0) :
    s.fileAnswer n e.slot e.gen result = s.enrollmentEnded e 128 .red := by
  rw [State.fileAnswer_places he hm hplace, if_pos hr]

theorem State.fileAnswer_adopts (he : s.slotTable.enrollment = some e) (hm : s.isMember n = true)
    (hplace : e.places[n] = none) (hall : ∀ m, s.isMember m = true → m ≠ n → e.places[m] = some 0) :
    s.fileAnswer n e.slot e.gen 0 = s.enrollmentEnded e 0 .green := by
  rw [State.fileAnswer_places he hm hplace, if_neg (by simp), if_pos (State.allDone_answered.mpr hall)]

theorem State.fileAnswer_waits (he : s.slotTable.enrollment = some e) (hm : s.isMember n = true)
    (hplace : e.places[n] = none) (hleft : ∃ m, s.isMember m = true ∧ m ≠ n ∧ e.places[m] ≠ some 0) :
    s.fileAnswer n e.slot e.gen 0 = s.setSlotTable { s.slotTable with enrollment := some (e.answered n 0) } := by
  obtain ⟨m, hmem, hne, hopen⟩ := hleft
  rw [State.fileAnswer_places he hm hplace, if_neg (by simp),
    if_neg fun h => hopen (State.allDone_answered.mp h m hmem hne)]

theorem exec_answer (h : s.isFront f rest) (hk : f.kind = .answer) (hstage : u8 f.payload 0 % 32 = 10) :
    exec .answer s
      = .next ((s.taken rest).fileAnswer f.sender (u8 f.payload 2) (u16 f.payload 3) (byteAt f.payload 1)).payRoll := by
  have hrow : exec .answer s = .next ((s.taken rest).handleAnswer f).payRoll :=
    State.frameRow_front h (by simp [hk]) _
  rw [hrow, State.handleAnswer, if_pos (by exact hstage)]

/-- The end of the collection timer abandons (R87; log entry 2). -/
theorem exec_enrollmentTimeout {due : Micros} (ha : s.awake = true) (he : s.slotTable.enrollment = some e)
    (ht : e.timer = some due) :
    exec .enrollmentTimeout s = .next ((s.setClock (max s.clock due)).enrollmentEnded e 128 .red).payRoll := by
  change execEnrollmentTimeout s = _
  simp [execEnrollmentTimeout, State.whileAwake_of_awake ha, he, ht, State.runTo, State.endEnrollment_abandons]

/-! ### The own STAGE on return (R86, R87) -/

/-- The station with the collection timer of its enrollment running (R86). -/
def State.collecting (s : State) (e : Enrollment) : State :=
  s.setSlotTable { s.slotTable with enrollment := some { e with timer := some (s.clock + 500000) } }

theorem State.slotsStand_collecting (s : State) (e : Enrollment) : s.SlotsStand (s.collecting e) :=
  s.slotsStand_refl.setSlotTable rfl rfl

section
variable (he : s.slotTable.enrollment = some e) (hslot : u8 f.payload 0 = e.slot) (hgen : u16 f.payload 1 = e.gen)
include he hslot hgen

theorem State.ownStage_dropped (hown : f.own = some .dropped) : s.ownStage f = s.enrollmentEnded e 128 .red := by
  simp [State.ownStage, he, hown, hslot, hgen, State.endEnrollment_abandons]

/-- The collection timer runs from the return of the own STAGE. -/
theorem State.ownStage_collects (hown : f.own.isSome = true) (hd : f.own ≠ some .dropped) :
    s.ownStage f = s.collecting e := by
  simp [State.ownStage, State.collecting, he, hown, hd, hslot, hgen, collectionTime, ms]

/-- The own result of a STAGE that is turned away ends the enrollment at once (R79, R87). -/
theorem State.ownStage_turnedAway (hown : f.own.isSome = true) (hd : f.own ≠ some .dropped) (hself : n = s.sn)
    (hm : s.isMember s.sn = true) (hplace : e.places[s.sn] = none) {r : AnswerResult} (hr : r ≠ .done) :
    (s.ownStage f).answerSlot n .stage r e.slot e.gen = s.enrollmentEnded e 128 .red := by
  have hcode : byte r.code = 0 → r = .done := by
    cases r <;> decide
  rw [State.ownStage_collects he hslot hgen hown hd, State.answerSlot_ownStage (by exact hself)]
  exact State.fileAnswer_abandons (e := { e with timer := some (s.clock + 500000) }) rfl hm hplace (mt hcode hr)

end

theorem State.isMember_of_keypadGuard (h : s.roleOf n = .keypadGuard) : s.isMember n = true := by
  simp [State.isMember, h]

/-! ### The own requests on return (R79) -/

/-- A request of the station itself, which carries the keypad, has come back and was not DROPPED. -/
structure State.Returned (s : State) (f : RxFrame) (rest : List RxFrame) (k : Kind) : Prop
    extends s.Requested f rest k where
  self : f.sender = s.sn
  keypad : s.roleOf s.sn = .keypadGuard

section
variable {k : Kind} {slot : Nat}

theorem State.Returned.mayAdminister (h : s.Returned f rest k) : s.mayAdminister f.sender :=
  .inl (by rw [h.self, h.keypad])

theorem State.Returned.slotRights (h : s.Returned f rest k)
    (hgrant : s.phaseCtl.grant.isAdmin = true ∨ (s.phase = .blank ∧ slot = 0)) : s.slotRights f.sender slot :=
  ⟨h.mayAdminister, hgrant⟩

theorem State.Returned.stageRights_iff (h : s.Returned f rest k) :
    s.stageRights f.sender slot
      ↔ s.phaseCtl.grant.isAdmin = true ∨ (s.phase = .blank ∧ slot = 0 ∧ s.memberMissing = false) := by
  rw [State.stageRights, State.slotRights, and_iff_right h.mayAdminister, ← or_and_left, and_assoc]

/-- No ANSWER goes out to an own ADOPT or RETIRE. -/
theorem State.Returned.unanswered (h : s.Returned f rest k) (hk : k ≠ .stage) (r : AnswerResult) (slot gen : Nat) :
    (s.taken rest).answerSlot f.sender k r slot gen = s.taken rest :=
  State.answerSlot_own (by exact h.self) hk r slot gen

/-- An own ADOPT that is not allowed, or of no slot, does nothing. -/
theorem State.Returned.takeAdopt_silent (h : s.Returned f rest .adopt)
    (hnot : 5 < u8 f.payload 0
      ∨ (s.phaseCtl.grant.isAdmin = false ∧ ¬ (s.phase = .blank ∧ u8 f.payload 0 = 0)))
    {effect : State → StationNo → Nat → Nat → State}
    (hout : 5 < u8 f.payload 0 → effect (s.taken rest) f.sender (u8 f.payload 0) (u16 f.payload 1)
      = (s.taken rest).answerSlot f.sender .adopt .refused (u8 f.payload 0) (u16 f.payload 1)) :
    (s.taken rest).takeAdopt f effect = s.taken rest := by
  by_cases hr : s.slotRights f.sender (u8 f.payload 0)
  · have h5 : 5 < u8 f.payload 0 := hnot.resolve_right fun ⟨hgrant, hblank⟩ => by simpa [hgrant, hblank] using hr.2
    rw [h.takeAdopt_allowed hr, hout h5, h.unanswered (by simp)]
  · rw [h.takeAdopt_refused hr, h.unanswered (by simp)]

/-- An own RETIRE that is not allowed, or of no slot, does nothing. -/
theorem State.Returned.handleRetire_silent (h : s.Returned f rest .retire)
    (hnot : 5 < u8 f.payload 0 ∨ s.phaseCtl.grant.isAdmin = false ∨ s.supervisor.tampered = true) :
    (s.taken rest).handleRetire f = s.taken rest := by
  by_cases hr : s.retireRights f.sender
  · have h5 : 5 < u8 f.payload 0 := hnot.resolve_right (by
      obtain ⟨-, hgrant, htamper⟩ := hr
      simp [hgrant, htamper])
    rw [h.handleRetire_allowed hr, State.retireSlot_outside h5, h.unanswered (by simp)]
  · rw [h.handleRetire_refused hr, h.unanswered (by simp)]

end

/-! ### The own STAGE, staged here as at any member (R79, R80, R86) -/

section
variable (h : s.Returned f rest .stage) (he : s.slotTable.enrollment = some e) (hown : f.own.isSome = true)
  (hslot : u8 f.payload 0 = e.slot) (hgen : u16 f.payload 1 = e.gen)
include h he hown hslot hgen

/-- Refused, or turned away by a check of Table 4-4, the own STAGE ends the enrollment. -/
theorem exec_ownStage_abandons (hplace : e.places[s.sn] = none)
    (hnot : ¬ s.stageRights f.sender e.slot ∨ 5 < e.slot
      ∨ ∃ i : SlotNo, e.slot = i.val ∧ (s.stageRefusal i (readStage f.payload)).isSome = true) :
    exec .stage s = .next ((s.taken rest).enrollmentEnded e 128 .red).payRoll := by
  have turned {r : AnswerResult} (hr : r ≠ .done) :=
    State.ownStage_turnedAway (s := s.taken rest) (f := f) (n := f.sender) he hslot hgen hown h.kept h.self
      (State.isMember_of_keypadGuard h.keypad) hplace hr
  have hfslot : (readStage f.payload).slot = e.slot := hslot
  have hfgen : (readStage f.payload).gen = e.gen := hgen
  by_cases hr : s.stageRights f.sender e.slot
  · rw [exec_stage_allowed h.toRequested (by rwa [hslot])]
    rcases hnot.resolve_left (not_not.mpr hr) with hout | ⟨i, hi, hsome⟩
    · rw [State.stageSlot_outside (by rwa [hfslot]), hfslot, hfgen, turned (by simp)]
    · obtain ⟨r, hrefused⟩ := Option.isSome_iff_exists.mp hsome
      have hrefused' : ((s.taken rest).ownStage f).stageRefusal i (readStage f.payload) = some r := by
        rw [State.ownStage_collects (s := s.taken rest) he hslot hgen hown h.kept]
        exact hrefused
      have hne : r ≠ .done := by
        rintro rfl
        exact State.stageRefusal_ne_done hrefused
      rw [State.stageSlot_refused (hfslot.trans hi) hrefused', hfslot, hfgen, turned hne]
  · rw [exec_stage_refused h.toRequested (by rwa [hslot]), hslot, hgen, turned (by simp)]

/-- Past every check it is staged, with the collection timer running. -/
theorem exec_ownStage_stages (hr : s.stageRights f.sender e.slot) :
    exec .stage s = .next (((s.taken rest).collecting e).stageSlot s.sn (readStage f.payload)).payRoll := by
  rw [exec_stage_allowed h.toRequested (by rwa [hslot]),
    State.ownStage_collects (s := s.taken rest) he hslot hgen hown h.kept, h.self]

end

/-! ### The own STAGE's write completes (R79, R86) -/

/-- The own result DONE reaches the enrollment record when the slot's write completes. -/
theorem exec_slotWriteComplete_files {i : SlotNo} {sl : Slot} {serial : Nat} {w : SlotWait}
    (h : s.writing .slotTable (.slot i sl) serial) (hw : s.slotTable.waits = [w]) (hi : w.slot = i)
    (hchanged : w.changedAt < serial) (ha : s.verifier.attempt = none) (hd : w.discardedAt = none) (hf : w.first = false)
    (hc : w.change = .stage) (hself : w.replyTo = s.sn) :
    exec .slotWriteComplete s = .next ((s.slotClosed i sl).fileAnswer s.sn i.val w.gen 0).arbitrate.payRoll := by
  have hself' : w.replyTo = (s.slotClosed i sl).sn := by simpa using hself
  have hdone : byte AnswerResult.done.code = 0 := rfl
  rw [exec_slotWriteComplete_settles h hw hi hchanged ha,
    State.settleWait_done (SlotWait.storedBy_iff.mpr (by simp [hd])) hf, hc, hi, SlotChange.request,
    State.answerSlot_ownStage hself', ← hself', hself, hdone]

end

/-- Settles O34: the record by its answers, its timer, the own STAGE on return and its slot's write; then the own ADOPT and
RETIRE on return. -/
theorem enrollmentEndsWithAdopt : Obligations.EnrollmentEndsWithAdopt := by
  refine ⟨fun s e hawake he => ?record, fun s f rest o hfront hown hself hu hh => ?returned⟩
  case record =>
    intro ending
    refine ⟨fun f rest hfront hk hstage hm hslot hgen hplace => ?answers, fun due => exec_enrollmentTimeout hawake he,
      fun f rest o hfront hk hown hself hslot hgen => ⟨fun hd => ?dropped, fun hd hkeypad hu hh => ?staged⟩,
      fun i sl serial w hwriting hwaits hi hchanged hd hf hc hself hslot hgen hm hplace ha => ?stored⟩
    case answers =>
      have hexec := exec_answer hfront hk hstage
      rw [hslot, hgen] at hexec
      refine ⟨fun hr => ?_, fun hr hall => ?_, fun hr hleft => ?_⟩
      · rw [hexec, State.fileAnswer_abandons (s := s.taken rest) he hm hplace hr]
        rfl
      · rw [hexec, hr, State.fileAnswer_adopts (s := s.taken rest) he hm hplace hall]
        rfl
      · rw [hexec, hr, State.fileAnswer_waits (s := s.taken rest) he hm hplace hleft]
        rfl
    case dropped =>
      have hdropped : f.own = some .dropped := by rw [hown, hd]
      rw [exec_stage hfront hk, State.handleStage, State.ownStage_dropped (s := s.taken rest) he hslot hgen hdropped,
        if_neg (by simp [State.isRequest_dropped hdropped])]
      rfl
    case staged =>
      intro allowed
      have hsome : f.own.isSome = true := by simp [hown]
      have h : s.Returned f rest .stage := ⟨⟨hfront, hk, by simpa [hown] using hd, hu, hh⟩, hself, hkeypad⟩
      have hallowed : s.stageRights f.sender e.slot ↔ allowed := h.stageRights_iff
      have abandons := exec_ownStage_abandons h he hsome hslot hgen
      have hfgen : (readStage f.payload).gen = e.gen := hgen
      refine ⟨fun hnot hplace => ?_, fun i hr hi => ⟨fun r hrefused hplace => ?_, fun key hfree hkey =>
        ⟨_, exec_ownStage_stages h he hsome hslot hgen (hallowed.mpr hr), ?_⟩⟩⟩
      · exact abandons hplace (hnot.imp (mt hallowed.mp) .inl)
      · exact abandons hplace (.inr (.inr ⟨i, hi, by rw [hrefused]; rfl⟩))
      · obtain ⟨hchanged, hwaits, henrollment, hline⟩ :=
          State.stageSlot_holds (s := (s.taken rest).collecting e) (n := s.sn) (hslot.trans hi) (by exact hfree)
            (by exact hkey)
        have hchanged := (s.slotsStand_taken rest).changed (((s.taken rest).slotsStand_collecting e).changed hchanged)
        have hslots := hchanged.slots
        rw [State.stagedSlot, hfgen] at hslots
        rw [hfgen] at hwaits
        exact ⟨henrollment, hslots, hwaits, hchanged.slotAt ▸ hchanged.requested, hline, hchanged.phaseCtl,
          hchanged.keyPort, hchanged.verifier, hchanged.records⟩
    case stored =>
      have hexec := exec_slotWriteComplete_files hwriting hwaits hi hchanged ha hd hf hc hself
      have he' : (s.slotClosed i sl).slotTable.enrollment = some e := by simpa using he
      have hmember : (s.slotClosed i sl).isMember = s.isMember := State.isMember_congr (by simp)
      rw [← hslot, ← hgen] at hexec
      refine ⟨_, hexec, by simp, by simp, by simp, by simp, fun hleft => ?_, fun hall => ?_⟩
      · rw [State.fileAnswer_waits he' (by rwa [hmember]) hplace (by rwa [hmember])]
        refine ⟨by simp [Enrollment.answered], by simp, fun ho => ?_⟩
        rw [State.arbitrate_payRoll_line (by simpa using ho)]
        simp
      · rw [State.fileAnswer_adopts he' (by rwa [hmember]) hplace (by rwa [hmember])]
        refine ⟨by simp [State.enrollmentEnded], by simp [State.enrollmentEnded, ending], fun ho => ?_⟩
        rw [State.arbitrate_payRoll_line (by simpa [State.enrollmentEnded] using ho)]
        exact State.offer_line_congr (by simp) (by simp) _ _ _
  case returned =>
    intro slot gen silent
    refine ⟨fun hd => ?dropped, fun hd hkeypad => ?kept⟩
    case dropped =>
      have hignored : (s.taken rest).isRequest f = false := State.isRequest_dropped (by rw [hown, hd])
      refine ⟨fun hk hf => ?_, fun hk hf => ?_, fun hk => ?_⟩
      · rw [exec_adopt hfront hk hf, State.takeAdopt_ignored hignored]
      · rw [exec_adoptAbandon hfront hk hf, State.takeAdopt_ignored hignored]
      · rw [exec_retire hfront hk, State.handleRetire_ignored hignored]
    case kept =>
      have returned {k : Kind} (hk : f.kind = k) : s.Returned f rest k :=
        ⟨⟨hfront, hk, by simpa [hown] using hd, hu, hh⟩, hself, hkeypad⟩
      refine ⟨fun hnot => ⟨fun hk hf => ?_, fun hk hf => ?_⟩, fun hnot hk => ?_, fun i hk hi hgrant => ?adopts,
        fun i hk hi hgrant htamper => ?retires⟩
      · rw [exec_adopt hfront hk hf, (returned hk).takeAdopt_silent hnot State.adoptSlot_outside]
      · rw [exec_adoptAbandon hfront hk hf, (returned hk).takeAdopt_silent hnot State.abandonSlot_outside]
      · rw [exec_retire hfront hk, (returned hk).handleRetire_silent hnot]
      case adopts =>
        have h := returned hk
        have hrights := h.slotRights (slot := i.val) (hgrant.imp_right fun ⟨hp, hi⟩ => ⟨hp, by rw [hi]; rfl⟩)
        have hadopt (hf : abandonFlag f.payload = false) := exec_adopt_allowed h.toRequested hf hi hrights
        have habandon (hf : abandonFlag f.payload = true) := exec_adoptAbandon_allowed h.toRequested hf hi hrights
        refine ⟨fun hnone => ⟨fun hf => ?_, fun hf => ?_⟩, fun c hst hd hf => ⟨_, hadopt hf, ?_⟩,
          fun c hst hd hf => ⟨_, hadopt hf, ?_⟩, fun c hst hf => ⟨_, habandon hf, ?_⟩⟩
        · rw [hadopt hf, State.adoptSlot_refused (s := s.taken rest) (by exact hnone), h.unanswered (by simp)]
        · rw [habandon hf, State.abandonSlot_refused (s := s.taken rest) (by exact hnone), h.unanswered (by simp)]
        · rw [hself]
          obtain ⟨hchanged, hwaits, -, hline⟩ :=
            State.adoptSlot_activates (s := s.taken rest) (n := s.sn) (by exact hst) (by exact hd)
          have hchanged := (s.slotsStand_taken rest).changed hchanged
          exact ⟨hchanged.slots, hwaits, hchanged.requested, hline, hchanged.phaseCtl, hchanged.records⟩
        · obtain ⟨hchanged, -, -, hline⟩ :=
            State.adoptSlot_discards (s := s.taken rest) (n := f.sender) (by exact hst) (by exact hd)
          have hchanged := (s.slotsStand_taken rest).changed hchanged
          exact ⟨hchanged.slots, hchanged.requested, fun ho => hline ho hself, hchanged.phaseCtl, hchanged.records⟩
        · obtain ⟨hchanged, -, hline⟩ := State.abandonSlot_abandons (s := s.taken rest) (n := f.sender) (by exact hst)
          have hchanged := (s.slotsStand_taken rest).changed hchanged
          exact ⟨hchanged.slots, hchanged.requested, hline, hchanged.phaseCtl, hchanged.records⟩
      case retires =>
        have h := returned hk
        have hexec := exec_retire_allowed h.toRequested hi ⟨h.mayAdminister, hgrant, htamper⟩
        refine ⟨fun hinvalid => ?_, fun h0 hlast hgen => ⟨_, hexec, ?_⟩⟩
        · rw [hexec, State.retireSlot_invalid (s := s.taken rest) hinvalid, h.unanswered (by simp)]
        · obtain ⟨hchanged, -, hline⟩ :=
            State.retireSlot_empties (s := s.taken rest) (i := i) (gen := gen) (n := f.sender) (by
              rintro (h | h | h)
              exacts [h0 h, hlast h, h hgen])
          have hchanged := (s.slotsStand_taken rest).changed hchanged
          exact ⟨hchanged.slots, hchanged.requested, hline, hchanged.phaseCtl, hchanged.records⟩

end Sys2Proof.Machine
end

section
/-! PROOFS. ENTER, by the sequence state that it finds (R86, R113, R165 to R168, R171 to R176). -/

namespace Sys2Proof.Machine

section
variable {s : State} {due : Micros} {key : Key} {token : Token} {readOnly : Bool} {kind : ModeKind}

/-! ### A settled key (R162) -/

/-- A key that has settled is HELD, and is then taken. -/
theorem State.takeKey_ready (h : s.keyReady key due) (act : State → State) :
    s.takeKey key act = act (s.withHeld key due) := by
  obtain ⟨-, hkpd, hkey⟩ := h
  simp [State.takeKey, hkpd, hkey, State.withHeld, State.runTo]

theorem exec_keyEnter (h : s.keyReady .enter due) :
    exec .keyEnter s = .next (s.withHeld .enter due).enterKey.payRoll := by
  change execKeyEnter s = _
  rw [execKeyEnter, State.whileAwake_of_awake h.1, State.takeKey_ready h]

/-! ### The ends of an entry and of a sequence (R164, R165, R172, R173) -/

/-- The scanner after a sequence has failed at a moment. -/
def Scanner.failedAt (k : Scanner) (now : Micros) : Scanner :=
  { k.emptied with seq := .entry, transient := some (.red, now + 2000000) }

theorem State.failSequence_eq (s : State) : s.failSequence = s.setScanner (s.scanner.failedAt s.clock) := rfl

theorem State.discardEntry_eq (s : State) :
    s.discardEntry = s.setScanner { s.scanner.emptied with transient := some (.amber, s.clock + 2000000) } := rfl

theorem State.entryRejected_iff :
    s.entryRejected = true ↔ s.scanner.digits.length < s.minDigits ∨ s.scanner.overlong = true := by
  simp [State.entryRejected]

/-! ### ENTRY (R165 to R168, R175) -/

theorem State.enterInEntry_rejected (hp : s.phase.takesEntry = true ∨ s.phase = .blank)
    (hr : s.entryRejected = true) : s.enterInEntry = s.discardEntry := by
  rw [State.enterInEntry, if_pos hr, if_pos hr]
  split
  · rfl
  · next hno => exact if_pos (hp.resolve_left hno)

theorem State.enterInEntry_accepted (hp : s.phase.takesEntry = true) (hr : ¬ s.entryRejected = true) :
    s.enterInEntry = s.emptyBuffer.placeEntry s.keyedToken s.scanner.readOnly := by
  rw [State.enterInEntry, if_pos hp, if_neg hr]

theorem State.enterInEntry_recordOpen (hp : s.phase = .blank) (hr : ¬ s.entryRejected = true)
    (he : s.slotTable.enrollment.isSome = true) : s.enterInEntry = s.failSequence := by
  rw [State.enterInEntry, if_neg (by simp [hp, Phase.takesEntry]), if_pos hp, if_neg hr, if_pos he]

theorem State.enterInEntry_blank (hp : s.phase = .blank) (hr : ¬ s.entryRejected = true)
    (he : s.slotTable.enrollment = none) :
    s.enterInEntry = s.emptyBuffer.setSeq (.modeSecond .blank s.keyedToken (s.clock + modeTime)) := by
  rw [State.enterInEntry, if_neg (by simp [hp, Phase.takesEntry]), if_pos hp, if_neg hr, if_neg (by simp [he])]

theorem State.enterInEntry_elsewhere (hp : s.phase.takesEntry = false) (hb : s.phase ≠ .blank) :
    s.enterInEntry = s := by
  rw [State.enterInEntry, if_neg (by simp [hp]), if_neg hb]

/-- An accepted entry under the hold is discarded (log entry 30). -/
theorem State.placeEntry_held (hp : s.phase = .locked) (hh : s.holdActive = true) : s.placeEntry token readOnly = s :=
  if_pos ⟨hp, hh⟩

theorem State.placeEntry_offers (hp : s.phase = .locked) (hh : s.holdActive = false)
    (ho : s.ownOutstanding .entry = false) : s.placeEntry token readOnly = s.offerEntry token readOnly := by
  rw [State.placeEntry, if_neg (by simp [hh]), if_pos ⟨hp, ho⟩]

/-- Elsewhere it waits for LOCKED, or for the own ENTRY that is outstanding (R166). -/
theorem State.placeEntry_waits (hh : s.phase = .locked → s.holdActive = false ∧ s.ownOutstanding .entry = true) :
    s.placeEntry token readOnly = s.setSeq (.pending token readOnly (s.clock + pendingTime)) := by
  rw [State.placeEntry, if_neg fun ⟨hp, hhold⟩ => by simp [(hh hp).1] at hhold,
    if_neg fun ⟨hp, hout⟩ => by simp [(hh hp).2] at hout]

/-! ### The slot that an enrollment takes (R172, R174, R175) -/

/-- A slot takes a new enrollment: no staged part, and below the last generation. -/
abbrev State.takesStage (s : State) (i : SlotNo) : Prop := (s.slotAt i).staged = none ∧ (s.slotAt i).gen < 65535

/-- A user slot is free for an enrollment. -/
abbrev State.freeUser (s : State) (i : SlotNo) : Prop := i ≠ 0 ∧ (s.slotAt i).body = .empty ∧ s.takesStage i

/-- The slot that a mode of a kind enrolls. -/
def State.enrolls (s : State) (kind : ModeKind) (i : SlotNo) : Prop :=
  match kind with
  | .user => s.freeUser i ∧ ∀ j, j < i → ¬ s.freeUser j
  | .adminPin => i = 0 ∧ s.takesStage 0
  | .blank => i = 0 ∧ s.takesStage 0 ∧ s.memberMissing = false

theorem State.stageable_iff {i : SlotNo} : (s.slotAt i).stageable = true ↔ s.takesStage i := by
  simp [Slot.stageable]

theorem State.freeUser_iff {i : SlotNo} :
    s.freeUser i ↔ i ≠ 0 ∧ ((s.slotAt i).body = .empty && (s.slotAt i).stageable) = true := by
  rw [State.freeUser, ← State.stageable_iff, Bool.and_eq_true, decide_eq_true_eq]

theorem State.freeUserSlot_eq_find (s : State) : s.freeUserSlot = Fin.find? fun i => decide (s.freeUser i) := by
  rw [Fin.find?_eq_find?_finRange, ← slotNumbers_eq_finRange, slotNumbers, State.freeUserSlot]
  simp [List.find?_cons, State.freeUser_iff]

/-- Slot 0 is chosen where a test lets it. -/
theorem slotZero_eq_some_iff {c : Bool} {i : SlotNo} : (if c then some 0 else none) = some i ↔ i = 0 ∧ c = true := by
  rw [Option.ite_none_right_eq_some, Option.some.injEq, and_comm, eq_comm]

theorem State.enrollSlot_eq_some_iff {i : SlotNo} : s.enrollSlot kind = some i ↔ s.enrolls kind i := by
  cases kind with
  | user => simp [State.enrollSlot, State.enrolls, State.freeUserSlot_eq_find]
  | adminPin => rw [State.enrollSlot, State.enrolls, ← State.stageable_iff, slotZero_eq_some_iff]
  | blank =>
    rw [State.enrollSlot, State.enrolls, ← State.stageable_iff, slotZero_eq_some_iff, Bool.and_eq_true, Bool.not_eq_true']

theorem State.enrollSlot_eq_none_iff : s.enrollSlot kind = none ↔ ∀ i, ¬ s.enrolls kind i := by
  simp only [← State.enrollSlot_eq_some_iff, Option.eq_none_iff_forall_ne_some, ne_eq]

/-! ### The second entry (R173 to R175) -/

/-- The offer of a STAGE leaves the slot table and the phase, and the record opens beside it. -/
theorem State.offerStage_eq (s : State) (i : SlotNo) (token : Token) :
    s.offerStage i token
      = (s.offer .stage none (byte i.val :: bytes2 ((s.slotAt i).gen + 1) ++ [0, 0] ++ tokenBytes token)).setSlotTable
          { s.slotTable with
            enrollment := some ⟨i.val, (s.slotAt i).gen + 1, s.phase = .blank, none, Vector.replicate 8 none⟩ } := by
  simp [State.offerStage]

/-- The station as it offers a STAGE with its enrollment record (R86, R174, Table 11-13). -/
theorem State.enroll_offers {i : SlotNo} (he : s.slotTable.enrollment = none) (hi : s.enrolls kind i) :
    s.enroll kind token = (s.emptyBuffer.setSeq .entry).offerStage i token := by
  simp [State.enroll, he, State.enrollSlot_eq_some_iff.mpr hi]

theorem State.enroll_fails (h : s.slotTable.enrollment.isSome = true ∨ ∀ i, ¬ s.enrolls kind i) :
    s.enroll kind token = s.failSequence := by
  unfold State.enroll
  split
  · rfl
  next hnone =>
    rw [State.enrollSlot_eq_none_iff.mpr (h.resolve_left hnone)]

theorem State.enterInSecond_rejected {first : Token} (hr : s.entryRejected = true) :
    s.enterInSecond kind first = s.discardEntry := if_pos hr

theorem State.enterInSecond_differs {first : Token} (hr : ¬ s.entryRejected = true) (hne : s.keyedToken ≠ first) :
    s.enterInSecond kind first = s.failSequence := by
  rw [State.enterInSecond, if_neg hr, if_neg hne]

theorem State.enterInSecond_equal {first : Token} (hr : ¬ s.entryRejected = true) (heq : s.keyedToken = first) :
    s.enterInSecond kind first = s.enroll kind first := by
  rw [State.enterInSecond, if_neg hr, if_pos heq]

/-! ### The admin prefix (R172) -/

/-- The selectors that begin a mode, with the mode of each. -/
inductive Begins : Fin 10 → ModeKind → Prop
  | user : Begins 1 .user
  | adminPin : Begins 2 .adminPin

theorem State.enterInPrefix_begins {x : Fin 10} (hx : Begins x kind) (he : s.slotTable.enrollment = none)
    (hi : ∃ i, s.enrolls kind i) : s.enterInPrefix (some x) = s.setSeq (.modeFirst kind (s.clock + modeTime)) := by
  obtain ⟨i, hi⟩ := hi
  have hsome := State.enrollSlot_eq_some_iff.mpr hi
  cases hx <;> simp [State.enterInPrefix, he, hsome]

theorem State.enterInPrefix_fails {x : Fin 10} (hx : Begins x kind)
    (h : s.slotTable.enrollment.isSome = true ∨ ∀ i, ¬ s.enrolls kind i) : s.enterInPrefix (some x) = s.failSequence := by
  have hnone : s.slotTable.enrollment.isSome = true ∨ s.enrollSlot kind = none :=
    h.imp_right State.enrollSlot_eq_none_iff.mpr
  cases hx <;> rcases hnone with hnone | hnone <;> simp [State.enterInPrefix, hnone]

theorem State.enterInPrefix_other {x : Option (Fin 10)} (h1 : x ≠ some 1) (h2 : x ≠ some 2) (h9 : x ≠ some 9) :
    s.enterInPrefix x = s.failSequence := by
  unfold State.enterInPrefix
  dsimp only
  split
  · exact absurd rfl h1
  · exact absurd rfl h2
  · exact absurd rfl h9
  · rfl

/-- Some user slot is free exactly where there is a lowest one. -/
theorem State.enrolls_user_exists : (∃ i, s.enrolls .user i) ↔ ∃ i, s.freeUser i := by
  refine ⟨fun ⟨i, hi, _⟩ => ⟨i, hi⟩, fun h => ?_⟩
  obtain ⟨i, hi, hleast⟩ := (Set.toFinite {i | s.freeUser i}).exists_minimal h
  exact ⟨i, hi, fun j hj hfree => absurd (hleast hfree hj.le) (not_le.mpr hj)⟩

/-! ### The purge confirm (R113, R176) -/

/-- A move to PURGING ends every sequence of the scanner (R177). -/
theorem State.enterPurging_seq (s : State) : (s.enterPhase .purging).scanner.seq = .entry := by
  have hp : ∀ t : State, t.phase = .purging → ∀ old, (t.tellScanner old).scanner.seq = .entry := fun t ht old => by
    rw [State.tellScanner, if_neg (by simp [ht, Phase.takesEntry])]
    exact t.restScanner_rests.seq
  exact hp _ (by simp [State.carriedOn]) _

theorem State.openPurge_seq (s : State) (cause : PurgeCause) (target : Nat) :
    (s.openPurge cause target).scanner.seq = .entry := by
  simp [State.openPurge_eq, State.enterPurging_seq]

theorem State.confirmPurge_opens (h : s.canOpenOwn = true) :
    s.confirmPurge = (s.setSeq .entry).openPurge .request (s.epoch + 1) := by
  have hcan : (s.setSeq .entry).canOpenOwn = true := h
  rw [State.confirmPurge, if_pos hcan, State.openOwn_opens hcan]
  rfl

theorem State.confirmPurge_last (h : s.canOpenOwn = false) : s.confirmPurge = (s.setSeq .entry).showTransient .red := by
  have hcan : (s.setSeq .entry).canOpenOwn = false := h
  exact if_neg (by simp [hcan])

/-! ### ENTER by sequence state -/

theorem State.enterKey_entry (h : s.scanner.seq = .entry) : s.enterKey = s.enterInEntry := by
  rw [State.enterKey, h]

theorem State.enterKey_pending {t : Micros} (h : s.scanner.seq = .pending token readOnly t) : s.enterKey = s := by
  rw [State.enterKey, h]

theorem State.enterKey_lockTiming {t : Micros} (h : s.scanner.seq = .lockTiming t) : s.enterKey = s.failSequence := by
  rw [State.enterKey, h]

theorem State.enterKey_adminPrefix {x : Option (Fin 10)} {t : Micros} (h : s.scanner.seq = .adminPrefix x t) :
    s.enterKey = s.enterInPrefix x := by
  rw [State.enterKey, h]

theorem State.enterKey_modeFirst_rejected {t : Micros} (h : s.scanner.seq = .modeFirst kind t)
    (hr : s.entryRejected = true) : s.enterKey = s.discardEntry := by
  rw [State.enterKey, h]
  exact if_pos hr

theorem State.enterKey_modeFirst {t : Micros} (h : s.scanner.seq = .modeFirst kind t) (hr : ¬ s.entryRejected = true) :
    s.enterKey = s.emptyBuffer.setSeq (.modeSecond kind s.keyedToken t) := by
  rw [State.enterKey, h]
  exact if_neg hr

theorem State.enterKey_modeSecond {t : Micros} (h : s.scanner.seq = .modeSecond kind token t) :
    s.enterKey = s.enterInSecond kind token := by
  rw [State.enterKey, h]

theorem State.enterKey_purgeConfirm {t : Micros} (h : s.scanner.seq = .purgeConfirm t) : s.enterKey = s.confirmPurge := by
  rw [State.enterKey, h]

/-- A settled ENTER, by what it makes of the station with its key HELD. -/
theorem exec_keyEnter_eq {u : State} (h : s.keyReady .enter due) (hu : (s.withHeld .enter due).enterKey = u) :
    exec .keyEnter s = .next u.payRoll := by
  rw [exec_keyEnter h, hu]

end

/-- Settles O50, by the sequence state that the key finds. -/
theorem enterGoesWhereTheSequenceSays : Obligations.EnterGoesWhereTheSequenceSays := by
  unfold Obligations.EnterGoesWhereTheSequenceSays
  refine ⟨fun s due h => ?_, fun a b ha hb => ⟨tokenOf_injective a b ha hb, congrArg tokenOf⟩⟩
  intro held scanner emptied rejected token red amber takes free pending
  have hrej : held.entryRejected = true ↔ rejected := State.entryRejected_iff
  have entry {u : State} (hq : held.scanner.seq = .entry) (hu : held.enterInEntry = u) :
      exec .keyEnter s = .next u.payRoll := exec_keyEnter_eq h ((State.enterKey_entry hq).trans hu)
  have accepted {u : State} (hq : held.scanner.seq = .entry) (hp : held.phase.takesEntry = true) (hr : ¬ rejected)
      (hu : held.emptyBuffer.placeEntry held.keyedToken held.scanner.readOnly = u) : exec .keyEnter s = .next u.payRoll :=
    entry hq ((State.enterInEntry_accepted hp (hrej.not.mpr hr)).trans hu)
  have prefixed {x : Option (Fin 10)} {t : Micros} {u : State} (hq : held.scanner.seq = .adminPrefix x t)
      (hu : held.enterInPrefix x = u) : exec .keyEnter s = .next u.payRoll :=
    exec_keyEnter_eq h ((State.enterKey_adminPrefix hq).trans hu)
  have second {kind : ModeKind} {first : Token} {t : Micros} {u : State} (hq : held.scanner.seq = .modeSecond kind first t)
      (hu : held.enterInSecond kind first = u) : exec .keyEnter s = .next u.payRoll :=
    exec_keyEnter_eq h ((State.enterKey_modeSecond hq).trans hu)
  refine ⟨?rejects, ?underHold, ?offers, ?outstanding, ?waits, ?recordOpen, ?begins, ?elsewhere, ?pends, ?lockTiming,
    ?selector1, ?selector2, ?selector9, ?otherSelector, ?modeRejects, ?modeFirst, ?differs, ?enrolls, ?purge⟩
  case rejects => exact fun hq hp hr => entry hq (State.enterInEntry_rejected hp (hrej.mpr hr))
  case underHold =>
    exact fun hq hp hr hhold =>
      accepted hq (hp ▸ rfl : s.phase.takesEntry = true) hr (State.placeEntry_held hp hhold)
  case offers =>
    intro hq hp hr hhold hout
    rw [accepted hq (hp ▸ rfl : s.phase.takesEntry = true) hr (State.placeEntry_offers hp hhold hout)]
    have hbit : (if s.scanner.readOnly = true then 128 else 0) = bit s.scanner.readOnly * 128 := by
      cases s.scanner.readOnly <;> rfl
    rw [hbit]
    rfl
  case outstanding =>
    exact fun hq hp hr hhold hout =>
      accepted hq (hp ▸ rfl : s.phase.takesEntry = true) hr (State.placeEntry_waits fun _ => ⟨hhold, hout⟩)
  case waits => exact fun hq hp hl hr => accepted hq hp hr (State.placeEntry_waits fun hl' => absurd hl' hl)
  case recordOpen =>
    exact fun hq hp hr he => entry hq (State.enterInEntry_recordOpen hp (hrej.not.mpr hr) he)
  case begins =>
    exact fun hq hp hr he => entry hq (State.enterInEntry_blank hp (hrej.not.mpr hr) he)
  case elsewhere => exact fun hq hp hb => entry hq (State.enterInEntry_elsewhere hp hb)
  case pends => exact fun first readOnly t hq => exec_keyEnter_eq h (State.enterKey_pending hq)
  case lockTiming => exact fun t hq => exec_keyEnter_eq h (State.enterKey_lockTiming hq)
  case selector1 =>
    have hnone (hno : ∀ i, ¬ free i) (i : SlotNo) : ¬ held.enrolls .user i := fun hi => hno i hi.1
    exact fun t hq => ⟨fun he hf => prefixed hq (State.enterInPrefix_begins .user he (State.enrolls_user_exists.mpr hf)),
      fun hno => prefixed hq (State.enterInPrefix_fails .user (hno.imp_right hnone))⟩
  case selector2 =>
    have hnone (hno : ¬ takes 0) (i : SlotNo) : ¬ held.enrolls .adminPin i := fun hi => hno hi.2
    exact fun t hq => ⟨fun he hf => prefixed hq (State.enterInPrefix_begins .adminPin he ⟨0, rfl, hf⟩),
      fun hno => prefixed hq (State.enterInPrefix_fails .adminPin (hno.imp_right hnone))⟩
  case selector9 => exact fun t hq => prefixed hq rfl
  case otherSelector => exact fun x t hq h1 h2 h9 => prefixed hq (State.enterInPrefix_other h1 h2 h9)
  case modeRejects =>
    rintro (⟨kind, t, hq⟩ | ⟨kind, first, t, hq⟩) hr
    · exact exec_keyEnter_eq h (State.enterKey_modeFirst_rejected hq (hrej.mpr hr))
    · exact second hq (State.enterInSecond_rejected (hrej.mpr hr))
  case modeFirst =>
    exact fun kind t hq hr => exec_keyEnter_eq h (State.enterKey_modeFirst hq (hrej.not.mpr hr))
  case differs => exact fun kind first t hq hr hne => second hq (State.enterInSecond_differs (hrej.not.mpr hr) hne)
  case enrolls =>
    intro kind t hq hr enrolls
    have henrolls (i : SlotNo) : enrolls i ↔ held.enrolls kind i := by cases kind <;> rfl
    have enrolled {u : State} (hu : held.enroll kind token = u) : exec .keyEnter s = .next u.payRoll :=
      second hq ((State.enterInSecond_equal (hrej.not.mpr hr) rfl).trans hu)
    have hnone (hno : ∀ i, ¬ enrolls i) (i : SlotNo) : ¬ held.enrolls kind i := (henrolls i).not.mp (hno i)
    refine ⟨fun i he hi => ?_, fun hno => enrolled (State.enroll_fails (hno.imp_right hnone))⟩
    rw [enrolled (State.enroll_offers he ((henrolls i).mp hi))]
    rw [State.offerStage_eq]
    rfl
  case purge =>
    intro t hq hclosed hu hh
    refine ⟨fun hlast => ?_, fun hlast => ?_⟩
    · have hcan : held.canOpenOwn = true := (State.canOpenOwn_iff held).mpr ⟨hclosed, hu, hh, hlast⟩
      have hexec := exec_keyEnter_eq h ((State.enterKey_purgeConfirm (s := held) hq).trans (State.confirmPurge_opens hcan))
      refine ⟨_, hexec, ?_, ?_⟩
      · have hopens : s.OpensFrom (held.setSeq .entry) := (State.OpensFrom.refl s).congr rfl rfl rfl rfl rfl
        exact (hopens.openPurge .request (s.epoch + 1)).payRoll
      · simpa using State.openPurge_seq _ _ _
    · have hcan : held.canOpenOwn = false := State.canOpenOwn_last hlast
      exact exec_keyEnter_eq h ((State.enterKey_purgeConfirm (s := held) hq).trans (State.confirmPurge_last hcan))

end Sys2Proof.Machine
end

section
/-! PROOFS. Reconciliation: the content at the largest generation and Table 4-5 on the own record (R89 to R91). -/

namespace Sys2Proof.Machine

section
variable {l : List Summary} {g start : Nat} {m : Summary} {c : Content}

/-! ### The largest generation (R89) -/

theorem largestGen_cons (m : Summary) (l : List Summary) : largestGen (m :: l) = max m.gen (largestGen l) := by
  have hstart : ∀ start, l.foldl (fun g m => max g m.gen) start = max start (largestGen l) := by
    induction l with
    | nil => simp [largestGen]
    | cons m' l ih =>
      intro start
      rw [largestGen, List.foldl_cons, List.foldl_cons, ih, ih, Nat.zero_max, max_assoc]
  rw [largestGen, List.foldl_cons, hstart, Nat.zero_max]

theorem le_largestGen (hm : m ∈ l) : m.gen ≤ largestGen l := by
  induction l with
  | nil => simp at hm
  | cons m' l ih =>
    rw [largestGen_cons]
    rcases List.mem_cons.mp hm with rfl | hm
    · exact le_max_left _ _
    · exact (ih hm).trans (le_max_right _ _)

theorem largestGen_mem (hl : l ≠ []) : ∃ m ∈ l, m.gen = largestGen l := by
  induction l with
  | nil => exact absurd rfl hl
  | cons m l ih =>
    rw [largestGen_cons]
    by_cases hle : largestGen l ≤ m.gen
    · exact ⟨m, List.mem_cons_self, (max_eq_left hle).symm⟩
    · have hne : l ≠ [] := by
        rintro rfl
        exact hle (Nat.zero_le _)
      obtain ⟨m', hm', heq⟩ := ih hne
      exact ⟨m', List.mem_cons_of_mem _ hm', heq.trans (max_eq_right (by omega)).symm⟩

/-! ### The content at a generation (R89) -/

/-- Every summary at the generation is EMPTY. -/
abbrev AllEmptyAt (g : Nat) (l : List Summary) : Prop := ∀ m ∈ l, m.gen = g → m.state = .empty

/-- Some summary at the generation is ACTIVE, and none is EMPTY. -/
abbrev StandsActiveAt (g : Nat) (l : List Summary) : Prop :=
  (∃ m ∈ l, m.gen = g ∧ m.state = .active) ∧ ∀ m ∈ l, m.gen = g → m.state ≠ .empty

theorem contentAt_eq (g : Nat) (l : List Summary) :
    contentAt g l = if AllEmptyAt g l then .emptied else if StandsActiveAt g l then .active else .disagreed := by
  unfold contentAt
  refine if_congr ?_ rfl (if_congr ?_ rfl rfl)
  · simp [AllEmptyAt, imp_iff_not_or]
  · simp [StandsActiveAt]

theorem contentAt_emptied_iff : contentAt g l = .emptied ↔ AllEmptyAt g l := by
  rw [contentAt_eq]
  refine ⟨fun h => ?_, fun h => if_pos h⟩
  by_contra hno
  rw [if_neg hno] at h
  split at h <;> cases h

/-- What stands ACTIVE is not all EMPTY. -/
theorem StandsActiveAt.not_allEmptyAt (h : StandsActiveAt g l) : ¬ AllEmptyAt g l := by
  obtain ⟨⟨m, hm, hg, -⟩, hno⟩ := h
  exact fun hall => hno m hm hg (hall m hm hg)

theorem contentAt_active_iff : contentAt g l = .active ↔ StandsActiveAt g l := by
  rw [contentAt_eq]
  refine ⟨fun h => ?_, fun h => by rw [if_neg h.not_allEmptyAt, if_pos h]⟩
  by_contra hno
  rw [if_neg hno] at h
  split at h <;> cases h

theorem contentAt_disagreed_iff : contentAt g l = .disagreed ↔ ¬ AllEmptyAt g l ∧ ¬ StandsActiveAt g l := by
  rw [← contentAt_emptied_iff, ← contentAt_active_iff]
  cases contentAt g l <;> simp

/-! ### Table 4-5 (R90, R91) -/

theorem repairOf_keep (hg : m.gen = g) (hc : c ≠ .disagreed) : repairOf g c m = .keep := by
  cases c <;> simp_all [repairOf]

theorem repairOf_disagreed :
    repairOf g .disagreed m = if m.gen = g ∧ m.state = .diverged then .keep else .diverge := by
  by_cases hg : m.gen = g <;> simp [repairOf, hg]

theorem repairOf_clear (hg : m.gen ≠ g) : repairOf g .emptied m = .clear := by
  simp [repairOf, hg]

theorem repairOf_active (hg : m.gen ≠ g) :
    repairOf g .active m = if m.gen + 1 = g ∧ m.staged = true then .promote else .diverge := by
  simp [repairOf, hg]

theorem showsDiverged_iff : showsDiverged g c m = true ↔ c = .disagreed ∨ (m.gen = g ∧ m.state = .diverged)
    ∨ (c = .active ∧ m.gen ≠ g ∧ ¬ (m.gen + 1 = g ∧ m.staged = true)) := by
  by_cases hg : m.gen = g
  · cases c with
    | emptied => simp [showsDiverged, repairOf, hg]
    | active => simp [showsDiverged, repairOf, hg]
    | disagreed => by_cases hd : m.state = .diverged <;> simp [showsDiverged, repairOf, hg, hd]
  · cases c with
    | emptied => simp [showsDiverged, repairOf_clear hg, hg]
    | active => by_cases hp : m.gen + 1 = g ∧ m.staged = true <;> simp [showsDiverged, repairOf_active hg, hg, hp]
    | disagreed => simp [showsDiverged, repairOf, hg]

/-! ### The least uses (R91) -/

/-- A summary's uses as the least uses take them in. -/
def Summary.lessens (g u : Nat) (m : Summary) : Nat :=
  match m.uses with
  | some v => if m.gen = g && m.state = .active then min u v else u
  | none => u

theorem leastUses_cons (g start : Nat) (m : Summary) (l : List Summary) :
    leastUses g start (m :: l) = leastUses g (m.lessens g start) l := rfl

theorem Summary.lessens_shown {w : Nat} (hg : m.gen = g) (ha : m.state = .active) (hw : m.uses = some w) :
    m.lessens g start = min start w := by
  simp [Summary.lessens, hg, ha, hw]

theorem Summary.lessens_cases (g start : Nat) (m : Summary) : m.lessens g start = start
    ∨ ∃ w, m.gen = g ∧ m.state = .active ∧ m.uses = some w ∧ m.lessens g start = w ∧ w ≤ start := by
  unfold Summary.lessens
  split
  · next w hw =>
    split
    · next h =>
      obtain ⟨hg, ha⟩ : m.gen = g ∧ m.state = .active := by simpa using h
      rcases le_total start w with hle | hle
      · exact .inl (min_eq_left hle)
      · exact .inr ⟨w, hg, ha, hw, min_eq_right hle, hle⟩
    · exact .inl rfl
  · exact .inl rfl

theorem leastUses_le (g start : Nat) (l : List Summary) : leastUses g start l ≤ start := by
  induction l generalizing start with
  | nil => exact le_rfl
  | cons m l ih =>
    have hm : m.lessens g start ≤ start := by
      rcases m.lessens_cases g start with h | ⟨w, -, -, -, h, hle⟩ <;> omega
    exact (ih (m.lessens g start)).trans hm

theorem leastUses_le_shown (hm : m ∈ l) {w : Nat} (hg : m.gen = g) (ha : m.state = .active) (hw : m.uses = some w) :
    leastUses g start l ≤ w := by
  induction l generalizing start with
  | nil => simp at hm
  | cons m' l ih =>
    rw [leastUses_cons]
    rcases List.mem_cons.mp hm with rfl | hm
    · rw [Summary.lessens_shown hg ha hw]
      exact (leastUses_le _ _ _).trans (min_le_right _ _)
    · exact ih hm

theorem leastUses_attained (g start : Nat) (l : List Summary) : leastUses g start l = start
    ∨ ∃ m ∈ l, m.gen = g ∧ m.state = .active ∧ m.uses = some (leastUses g start l) := by
  induction l generalizing start with
  | nil => exact .inl rfl
  | cons m l ih =>
    rw [leastUses_cons]
    rcases ih (m.lessens g start) with h | ⟨m', hm', hshown⟩
    · rw [h]
      rcases m.lessens_cases g start with hm | ⟨w, hg, ha, hw, hm, -⟩
      · exact .inl hm
      · exact .inr ⟨m, List.mem_cons_self, hg, ha, hm ▸ hw⟩
    · exact .inr ⟨m', List.mem_cons_of_mem _ hm', hshown⟩

theorem Slot.withLeastUses_settles (sl : Slot) (g : Nat) (l : List Summary) :
    usesSettled g l sl (sl.withLeastUses g l) := by
  refine ⟨fun cred u hbody huses hgen => ?_, fun hno => ?_⟩
  · refine ⟨leastUses g u l, by simp [Slot.withLeastUses, hbody, huses, hgen], leastUses_le _ _ _,
      fun m hm hg ha w hw => leastUses_le_shown hm hg ha hw, leastUses_attained _ _ _⟩
  · unfold Slot.withLeastUses
    split
    · next cred hbody =>
      rcases hno cred hbody with huses | hgen
      · rw [huses]
      · split
        · exact if_neg hgen
        · rfl
    · rfl
    · rfl

end

/-! ### The own record after Table 4-5 -/

section
variable {s : State} {i : SlotNo}

/-- An own record that stands at the largest generation is kept, without its staged part (R90, R91). -/
theorem State.reconciledSlot_kept {g : Nat} (hg : largestGen (s.slotSummaries i) = g) (hown : (s.slotAt i).gen = g)
    (hc : contentAt g (s.slotSummaries i) ≠ .disagreed) :
    s.reconciledSlot i = { s.slotAt i with staged := none }.withLeastUses g (s.slotSummaries i) := by
  subst hg
  unfold State.reconciledSlot
  dsimp only
  rw [repairOf_keep hown hc]
  rfl

/-- What stands DIVERGED after reconciliation (R91). -/
theorem State.reconciledSlot_diverges {g : Nat} (hg : largestGen (s.slotSummaries i) = g)
    (hr : repairOf g (contentAt g (s.slotSummaries i)) (s.slotAt i).summary = .diverge) :
    s.reconciledSlot i = ⟨g, .diverged, none⟩ := by
  subst hg
  unfold State.reconciledSlot
  dsimp only
  rw [hr]
  rfl

theorem SlotBody.state_eq_diverged_iff {b : SlotBody} : b.state = .diverged ↔ b = .diverged := by
  cases b <;> simp [SlotBody.state]

theorem State.reconciledSlot_disagreed {g : Nat} (hg : largestGen (s.slotSummaries i) = g)
    (hc : contentAt g (s.slotSummaries i) = .disagreed) : s.reconciledSlot i = ⟨g, .diverged, none⟩ := by
  by_cases hkeep : (s.slotAt i).gen = g ∧ (s.slotAt i).body.state = .diverged
  · obtain ⟨hown, hstate⟩ := hkeep
    have hbody : (s.slotAt i).body = .diverged := SlotBody.state_eq_diverged_iff.mp hstate
    subst hg
    unfold State.reconciledSlot
    dsimp only
    rw [hc, repairOf_disagreed, if_pos ⟨hown, hstate⟩, State.repairSlot, hown, hbody]
    rfl
  · refine State.reconciledSlot_diverges hg ?_
    rw [hc, repairOf_disagreed]
    exact if_neg hkeep

theorem State.reconciledSlot_cleared {g : Nat} (hg : largestGen (s.slotSummaries i) = g) (hown : (s.slotAt i).gen < g)
    (hc : contentAt g (s.slotSummaries i) = .emptied) : s.reconciledSlot i = ⟨g, .empty, none⟩ := by
  subst hg
  unfold State.reconciledSlot
  dsimp only
  rw [hc, repairOf_clear (m := (s.slotAt i).summary) hown.ne]
  rfl

/-- An older record without the staged part of the next generation cannot follow an ACTIVE one (R91). -/
theorem State.reconciledSlot_left {g : Nat} (hg : largestGen (s.slotSummaries i) = g) (hown : (s.slotAt i).gen < g)
    (hc : contentAt g (s.slotSummaries i) = .active) (hno : (s.slotAt i).gen + 1 ≠ g ∨ (s.slotAt i).staged = none) :
    s.reconciledSlot i = ⟨g, .diverged, none⟩ := by
  refine State.reconciledSlot_diverges hg ?_
  rw [hc, repairOf_active (m := (s.slotAt i).summary) hown.ne]
  refine if_neg fun ⟨hnext, hstaged⟩ => ?_
  rcases hno with hno | hno
  · exact hno hnext
  · simp [Slot.summary, hno] at hstaged

/-- A record that has staged the next generation is promoted, unless the part's token is in use (R91). -/
theorem State.reconciledSlot_promoted {g : Nat} {st : Staged} (hg : largestGen (s.slotSummaries i) = g)
    (hown : (s.slotAt i).gen + 1 = g) (hc : contentAt g (s.slotSummaries i) = .active)
    (hst : (s.slotAt i).staged = some st) :
    s.reconciledSlot i
      = (if s.duplicate i st.cred.verifier = true then ⟨g, .diverged, none⟩ else st.adopted).withLeastUses g
          (s.slotSummaries i) := by
  subst hg
  unfold State.reconciledSlot
  dsimp only
  rw [hc, repairOf_active (m := (s.slotAt i).summary) (by simp only [Slot.summary]; omega),
    if_pos ⟨hown, by simp [Slot.summary, hst]⟩, State.repairSlot, hst]

/-! ### The station after a slot's reconciliation -/

/-- SLOT_DIVERGED as one slot's reconciliation leaves it (R91). -/
def State.marksDiverged (s : State) (i : SlotNo) : State :=
  if (s.slotSummaries i).any (showsDiverged (largestGen (s.slotSummaries i))
      (contentAt (largestGen (s.slotSummaries i)) (s.slotSummaries i)))
  then s.setSlotTable { s.slotTable with slotDiverged := true } else s

theorem State.marksDiverged_stands (s : State) (i : SlotNo) : s.SlotsStand (s.marksDiverged i) := by
  unfold State.marksDiverged
  split
  · exact s.slotsStand_refl.setSlotTable rfl rfl
  · exact s.slotsStand_refl

theorem State.marksDiverged_slotDiverged (s : State) (i : SlotNo) :
    (s.marksDiverged i).slotTable.slotDiverged = true ↔ s.slotTable.slotDiverged = true
      ∨ ∃ m ∈ s.slotSummaries i, showsDiverged (largestGen (s.slotSummaries i))
          (contentAt (largestGen (s.slotSummaries i)) (s.slotSummaries i)) m = true := by
  rw [← List.any_eq_true, State.marksDiverged]
  split <;> simp [*]

theorem State.marksDiverged_sameSlots (s : State) (i : SlotNo) : s.SameSlots (s.marksDiverged i) := by
  unfold State.marksDiverged
  split <;> exact ⟨rfl, rfl, rfl, rfl⟩

/-- A slot's reconciliation: the mark, then the change of a slot that differs. -/
theorem State.reconcileSlot_eq (s : State) (i : SlotNo) : ∃ discards,
    s.reconcileSlot i
      = if s.reconciledSlot i = s.slotAt i then s.marksDiverged i
        else (s.marksDiverged i).changeSlot i (s.reconciledSlot i) discards := by
  have hsame := s.marksDiverged_sameSlots i
  let g := largestGen (s.slotSummaries i)
  let repair := repairOf g (contentAt g (s.slotSummaries i)) ((s.marksDiverged i).slotAt i).summary
  have hslot : ((s.marksDiverged i).repairSlot i g repair).withLeastUses g (s.slotSummaries i)
      = s.reconciledSlot i := by
    simp only [repair, hsame.repairSlot, hsame.slotAt]
    rfl
  refine ⟨!(repair = .promote && (s.reconciledSlot i).isActive), ?_⟩
  rw [← hslot, ← hsame.slotAt i]
  rfl

theorem State.reconcileSlot_slotAt (s : State) (i : SlotNo) : (s.reconcileSlot i).slotAt i = s.reconciledSlot i := by
  rw [State.slotAt, State.reconcileSlot_slots, Fin.getElem_fin, Vector.getElem_set_self]

theorem State.reconcileSlot_slotAt_ne {j : SlotNo} (hne : j ≠ i) : (s.reconcileSlot i).slotAt j = s.slotAt j := by
  rw [State.slotAt, State.reconcileSlot_slots, Fin.getElem_fin,
    Vector.getElem_set_ne _ _ (fun hv => hne (Fin.ext hv.symm))]
  rfl

theorem State.reconcileSlot_slotDiverged (s : State) (i : SlotNo) :
    (s.reconcileSlot i).slotTable.slotDiverged = (s.marksDiverged i).slotTable.slotDiverged := by
  obtain ⟨discards, heq⟩ := s.reconcileSlot_eq i
  rw [heq]
  split
  · rfl
  · simp [State.changeSlot]

theorem State.reconcileSlot_kept (h : s.reconciledSlot i = s.slotAt i) : s.reconcileSlot i = s.marksDiverged i := by
  obtain ⟨discards, heq⟩ := s.reconcileSlot_eq i
  rw [heq, if_pos h]

theorem State.reconcileSlot_requested (h : s.reconciledSlot i ≠ s.slotAt i) :
    s.slotWriteRequested (s.reconcileSlot i) i (s.reconciledSlot i) := by
  obtain ⟨discards, heq⟩ := s.reconcileSlot_eq i
  rw [heq, if_neg h]
  exact ((s.marksDiverged_stands i).changeSlot i _ discards).requested

/-! ### The blank key record (R91) -/

theorem Slot.isActive_of_body {sl : Slot} {c : Credential} (h : sl.body = .active c) : sl.isActive = true := by
  simp [Slot.isActive, h]

theorem State.reconcile_blankKey {c : Credential} (h : (s.reconcile.slotAt 0).body = .active c) :
    s.reconcile.slotTable.blankKey = none := by
  have hactive : ((slotNumbers.foldl State.reconcileSlot s).slotAt 0).isActive = true := by
    have hslots := s.reconcile_slots
    rw [State.slotAt, hslots] at h
    exact Slot.isActive_of_body h
  rw [State.reconcile, if_pos hactive]
  exact State.deleteBlankKey_blankKey _

end

/-- Settles O21: the lists of summaries by themselves, then Table 4-5 by what the own record is to the content. -/
theorem contentAtTheLargestGeneration : Obligations.ContentAtTheLargestGeneration := by
  unfold Obligations.ContentAtTheLargestGeneration
  refine ⟨fun l hl => ?lists, fun s i _ => ?slot, fun s => ⟨?inTurn, fun c h => State.reconcile_blankKey h⟩⟩
  case inTurn => rw [State.reconcile_slots, slotNumbers]
  case lists =>
    exact ⟨fun m hm => le_largestGen hm, largestGen_mem hl, contentAt_emptied_iff, contentAt_active_iff,
      contentAt_disagreed_iff⟩
  intro l g own t ends
  have hslot : t.slotAt i = s.reconciledSlot i := s.reconcileSlot_slotAt i
  have hends {sl : Slot} (h : s.reconciledSlot i = sl.withLeastUses g l) : ends sl := by
    simp only [ends, hslot, h]
    exact sl.withLeastUses_settles g l
  refine ⟨?kept, ?disagreedAt, ?cleared, ?disagreedBelow, ?left, ?promoted, ?mark, ?others, ?same, ?written⟩
  case kept => exact fun hown hc => hends (State.reconciledSlot_kept rfl hown hc)
  case disagreedAt => exact fun _ hc => hslot.trans (State.reconciledSlot_disagreed rfl hc)
  case cleared => exact fun hown hc => hslot.trans (State.reconciledSlot_cleared rfl hown hc)
  case disagreedBelow => exact fun _ hc => hslot.trans (State.reconciledSlot_disagreed rfl hc)
  case left => exact fun hown hc hno => hslot.trans (State.reconciledSlot_left rfl hown hc hno)
  case promoted =>
    intro st hown hc hst
    have hpromoted := State.reconciledSlot_promoted rfl hown hc hst
    refine ⟨fun hdup => hslot.trans ?_, fun hdup => hends ?_⟩
    · rw [hpromoted, if_pos hdup]
      rfl
    · rw [hpromoted, if_neg (by simp [hdup])]
      rfl
  case mark =>
    rw [State.reconcileSlot_slotDiverged, State.marksDiverged_slotDiverged]
    simp only [showsDiverged_iff]
    rfl
  case others => exact fun j hne => State.reconcileSlot_slotAt_ne hne
  case same =>
    intro h
    have hkept : t = s.marksDiverged i := State.reconcileSlot_kept (hslot.symm.trans h)
    rw [hkept]
    exact ⟨(s.marksDiverged_stands i).writes, (s.marksDiverged_stands i).store⟩
  case written =>
    intro h
    rw [hslot] at h ⊢
    exact State.reconcileSlot_requested h

end Sys2Proof.Machine
end

section
/-! PROOFS. The gate follows the phase (R94, R95, R140): a phase change hands the gate its grant and has it recompute its owner, the fault and a new keying recompute the owner, and all else leaves phase, grants, journal state and fault as they are. -/

namespace Sys2Proof.Machine

/-- The grant that a phase may have: that of Table 5-1, or in UNLOCKED one of a slot. -/
structure Phase.Grants (p : Phase) (g : Grant) : Prop where
  table : p ≠ .unlocked → g = grantFor p
  slot : p = .unlocked → ∃ slot ro, g = .user slot ro ∨ g = .admin slot ro

/-- The gate holds the phase controller's grant, and that is one of the phase: the invariant but for the owner. -/
structure State.Granted (s : State) : Prop where
  grant : s.gate.grant = s.phaseCtl.grant
  fits : s.phase.Grants s.phaseCtl.grant

/-- The invariant, as each operation keeps it. -/
structure State.Follows (s : State) : Prop extends s.Granted where
  owner : s.gate.owner = ownerFor s.phase s.purge.journal.isOpen s.gate.channelFault

section
variable {s t : State}

theorem State.follows_iff (s : State) : s.Follows ↔ s.gateFollows :=
  ⟨fun h => ⟨h.grant, h.owner, h.fits.table, h.fits.slot⟩, fun ⟨hg, ho, ht, hs⟩ => ⟨⟨hg, ht, hs⟩, ho⟩⟩

/-- What leaves the values that the invariant reads keeps it; the frames of the operations show that most do. -/
theorem State.Follows.congr (h : s.Follows)
    (hv : t.phaseCtl.phase = s.phaseCtl.phase ∧ t.phaseCtl.grant = s.phaseCtl.grant ∧ t.gate.grant = s.gate.grant
      ∧ t.gate.owner = s.gate.owner ∧ t.purge.journal.isOpen = s.purge.journal.isOpen
      ∧ t.gate.channelFault = s.gate.channelFault) : t.Follows := by
  obtain ⟨hphase, hctl, hgate, howner, hopen, hfault⟩ := hv
  refine ⟨⟨?_, ?_⟩, ?_⟩
  · rw [hgate, hctl, h.grant]
  · rw [State.phase, hphase, hctl]
    exact h.fits
  · rw [howner, State.phase, hphase, hopen, hfault]
    exact h.owner

theorem ite_follows {p : Prop} [Decidable p] {a b : State} (ha : a.Follows) (hb : b.Follows) :
    (if p then a else b).Follows := by
  split
  · exact ha
  · exact hb

/-- What each of several steps keeps, all of them together keep. -/
theorem foldl_follows {α : Type} {op : State → α → State} (hop : ∀ s x, s.Follows → (op s x).Follows) (h : s.Follows)
    (l : List α) : (l.foldl op s).Follows := by
  induction l generalizing s with
  | nil => exact h
  | cons x l ih => exact ih (hop s x h)

/-! ### Phase changes bring the gate to its grant and owner (R94, R95, R140) -/

theorem grants_grantFor {p : Phase} (hp : p ≠ .unlocked) : p.Grants (grantFor p) :=
  ⟨fun _ => rfl, fun h => absurd h hp⟩

theorem grants_unlockGrant (slot : SlotNo) (readOnly : Bool) : Phase.unlocked.Grants (unlockGrant slot readOnly) := by
  refine ⟨fun h => absurd rfl h, fun _ => ⟨slot, readOnly, ?_⟩⟩
  unfold unlockGrant
  split <;> simp

/-- A recomputation of the owner gives that of Table 7-2 (R140). -/
theorem State.Granted.recomputeOwner (h : s.Granted) : s.recomputeOwner.Follows :=
  ⟨⟨by simpa using h.grant, by simpa using h.fits⟩, by simp⟩

theorem State.movePhase_follows (s : State) {p : Phase} {g : Grant} (h : p.Grants g) (a : Option Micros) :
    (s.movePhase p g a).Follows :=
  ⟨⟨by simp, by simpa using h⟩, by simp⟩

theorem State.enterPhase_follows (s : State) {p : Phase} (hp : p ≠ .unlocked) : (s.enterPhase p).Follows := by
  refine s.movePhase_follows (grants_grantFor ?_) _
  unfold State.carriedOn
  split
  · simp
  · exact hp

theorem State.enterUnlocked_follows (s : State) {g : Grant} (h : Phase.unlocked.Grants g) (key : ChannelKey) :
    (s.enterUnlocked g key).Follows :=
  ⟨⟨by simp [State.enterUnlocked], by simpa [State.enterUnlocked] using h⟩, by simp [State.enterUnlocked]⟩

/-! ### Purges opened, and the ends of an unlock or a verification -/

theorem State.openPurge_follows (s : State) (cause : PurgeCause) (target : Nat) : (s.openPurge cause target).Follows :=
  have hfits : Phase.purging.Grants .none := grants_grantFor (by simp)
  ⟨⟨by simp, by simpa using hfits⟩, by simp [Journal.opened]⟩

theorem State.openOwn_follows (h : s.Follows) (cause : PurgeCause) : (s.openOwn cause).Follows :=
  ite_follows (s.openPurge_follows _ _) h

theorem State.endVerification_follows (s : State) : s.endVerification.Follows := by
  unfold State.endVerification
  split
  · next hends =>
    rw [State.openOwn_opens (Bool.and_eq_true_iff.mp hends).2]
    exact s.openPurge_follows _ _
  · exact State.enterPhase_follows _ (by simp)

theorem State.lockDown_follows (h : s.Follows) : s.lockDown.Follows :=
  ite_follows (State.enterPhase_follows _ (by simp)) (ite_follows (State.endVerification_follows _) h)

theorem State.takeTarget_follows (h : s.Follows) (cause : PurgeCause) (target : Nat) :
    (s.takeTarget cause target).Follows :=
  ite_follows (h.congr (by simp)) (ite_follows (s.openPurge_follows _ _) h)

/-! ### Assembly and reports of members -/

theorem State.presenceMoved_follows (h : s.Follows) (left : Bool) : (s.presenceMoved left).Follows := by
  have hincomplete : (s.enterPhase .incomplete).Follows := s.enterPhase_follows (by simp)
  unfold State.presenceMoved
  by_cases hleft : (left && decide (s.phase = .locked)) = true
  · simp only [if_pos hleft]
    (repeat' split) <;> exact hincomplete.congr (by simp)
  · simp only [if_neg hleft]
    (repeat' split) <;> exact h.congr (by simp)

theorem State.markPresent_follows (h : s.Follows) (n : StationNo) (r : LastRecord) : (s.markPresent n r).Follows := by
  have hentry : (s.setEntry n ⟨.present, some r⟩).Follows := h.congr (by simp)
  exact ite_follows (State.presenceMoved_follows hentry _) hentry

theorem State.mergePair_follows (h : s.Follows) (p : Nat × Nat) : (s.mergePair p).Follows := by
  have hheld : (s.raisePair .roster p).restartHold.Follows := h.congr (by simp)
  exact ite_follows (ite_follows (h.congr (by simp)) (ite_follows (State.openOwn_follows hheld _) hheld)) h

theorem State.epochTest_follows (h : s.Follows) (epoch : Nat) : (s.epochTest epoch).Follows :=
  ite_follows h (State.takeTarget_follows h _ _)

theorem State.haltOnConflict_follows (s : State) : s.haltOnConflict.Follows := by
  have hhalted : ((s.setSupervisor { s.supervisor with haltMark := true }).enterPhase .halted).Follows :=
    State.enterPhase_follows _ (by simp)
  unfold State.haltOnConflict
  dsimp only
  split <;> exact hhalted.congr (by simp)

theorem State.completeAssembly_follows (h : s.Follows) : s.completeAssembly.Follows := by
  have hstopped : s.mergeReported.stopAssemblyTimers.Follows := h.congr (by simp)
  refine ite_follows (State.openOwn_follows hstopped _) (State.enterPhase_follows _ ?_)
  split <;> simp

theorem State.completionTest_follows (h : s.Follows) : s.completionTest.Follows :=
  ite_follows (ite_follows s.haltOnConflict_follows (ite_follows (State.completeAssembly_follows h) h)) h

theorem State.beginAssembly_follows (h : s.Follows) : s.beginAssembly.Follows :=
  State.completionTest_follows (s := s.offerRoll) (h.congr (by simp))

theorem State.purgeWaitTest_follows (h : s.Follows) : s.purgeWaitTest.Follows :=
  ite_follows (s.enterPhase_follows (by simp)) h

theorem State.testsAfterReport_follows (h : s.Follows) : s.testsAfterReport.Follows :=
  State.purgeWaitTest_follows (State.completionTest_follows h)

theorem State.leaveLockedOn_follows (h : s.Follows) (halted : Bool) (epoch : Nat) :
    (s.leaveLockedOn halted epoch).Follows :=
  ite_follows (s.enterPhase_follows (by simp)) h

theorem State.answerRoll_follows (h : s.Follows) (calls : Bool) : (s.answerRoll calls).Follows :=
  h.congr (by simp)

theorem State.handleGuardRoll_follows (h : s.Follows) (n : StationNo) (role : Role) (r : GuardRecord) :
    (s.handleGuardRoll n role r).Follows := by
  have hheard : ((s.markPresent n (.guard r)).hear n r.epoch).Follows :=
    (State.markPresent_follows h n (.guard r)).congr (by simp)
  have hmerged : (((s.markPresent n (.guard r)).hear n r.epoch).mergeRoll r).Follows :=
    ite_follows (State.mergePair_follows hheard _) hheard
  exact State.answerRoll_follows
    (State.leaveLockedOn_follows (State.testsAfterReport_follows (State.epochTest_follows hmerged _)) _ _) _

theorem State.handleRoll_follows (h : s.Follows) (f : RxFrame) : (s.handleRoll f).Follows := by
  have hcontroller : (s.handleControllerRoll f.sender).Follows :=
    State.answerRoll_follows (State.testsAfterReport_follows (State.markPresent_follows h f.sender .controller)) _
  unfold State.handleRoll
  split
  · exact h
  · exact ite_follows hcontroller h
  · exact ite_follows h (ite_follows (State.testsAfterReport_follows h) (State.handleGuardRoll_follows h _ _ _))

theorem State.handlePurged_follows (h : s.Follows) (f : RxFrame) : (s.handlePurged f).Follows := by
  have hheard : ((s.updateRecord f.sender (purgedRecord (u16 f.payload 0))).hear f.sender (u16 f.payload 0)).Follows :=
    h.congr (by simp)
  exact ite_follows h (ite_follows (State.testsAfterReport_follows h)
    (State.leaveLockedOn_follows (State.testsAfterReport_follows (State.epochTest_follows hheard _)) _ _))

theorem State.markSilent_follows (h : s.Follows) (missing : List StationNo) : (s.markSilent missing).Follows := by
  have hsilent : (missing.foldl State.silence s).Follows := foldl_follows (fun _ _ hs => (hs.congr (by simp))) h missing
  exact ite_follows (State.presenceMoved_follows hsilent _) hsilent

/-! ### Entries and verdicts -/

theorem State.beginAttempt_follows (s : State) (n : StationNo) (e : EntryFields) (own : OwnResult) :
    (s.beginAttempt n e own).Follows :=
  State.enterPhase_follows _ (by simp)

theorem State.actOnEntry_follows (h : s.Follows) (n : StationNo) (e : EntryFields) (finding : EntryFinding) :
    (s.actOnEntry n e finding).Follows := by
  cases finding with
  | turnedAway r => exact h.congr (by simp [State.actOnEntry])
  | matched slot key =>
    exact (s.beginAttempt_follows n e (.matched slot key)).congr (by simp [State.actOnEntry])
  | mismatched => exact State.beginAttempt_follows _ _ _ _

theorem State.handleEntry_follows (h : s.Follows) (f : RxFrame) : (s.handleEntry f).Follows := by
  have hacted := State.actOnEntry_follows h f.sender (readEntry f.payload) (s.findEntry f.sender (readEntry f.payload))
  have htaken : (s.takeEntry f).Follows := ite_follows h (hacted.congr (by simp))
  have hserved : (if s.phase = .halted then s else if f.own = some .dropped then s.showTransient .amber
      else s.takeEntry f).Follows :=
    ite_follows h (ite_follows (h.congr (by simp)) htaken)
  exact ite_follows (hserved.congr (by simp)) hserved

theorem State.handOver_follows (s : State) (slot : SlotNo) (readOnly : Bool) (key : ChannelKey) :
    (s.handOver slot readOnly key).Follows :=
  State.enterUnlocked_follows _ (grants_unlockGrant slot readOnly) key

theorem State.spendOrHandOver_follows (h : s.Follows) (a : Attempt) (slot : SlotNo) (key : ChannelKey) :
    (s.spendOrHandOver a slot key).Follows := by
  unfold State.spendOrHandOver
  (repeat' split)
  · exact s.handOver_follows _ _ _
  · exact s.handOver_follows _ _ _
  · exact h.congr (by simp)

theorem State.clearTamper_follows (h : s.Follows) : s.clearTamper.Follows :=
  h.congr (by simp)

theorem State.unlockOutcome_follows (h : s.Follows) (a : Attempt) : (s.unlockOutcome a).Follows := by
  have hspent (slot : SlotNo) (key : ChannelKey) : (s.countUnlock.spendOrHandOver a slot key).Follows :=
    State.spendOrHandOver_follows (h.congr (by simp)) a slot key
  unfold State.unlockOutcome
  split
  · exact ite_follows (State.clearTamper_follows (hspent _ _)) (hspent _ _)
  · exact State.endVerification_follows _

theorem State.takeDecision_follows (h : s.Follows) (a : Attempt) : (s.takeDecision a).Follows := by
  unfold State.takeDecision
  dsimp only
  split
  · exact State.unlockOutcome_follows (h.congr (by simp)) a
  all_goals exact State.endVerification_follows _

theorem State.fileVerdict_follows (h : s.Follows) (a : Attempt) (n : StationNo) (v : Filed) :
    (s.fileVerdict a n v).Follows :=
  ite_follows h (ite_follows (State.takeDecision_follows (h.congr (by simp)) _) (h.congr (by simp)))

theorem State.mergeVerdict_follows (h : s.Follows) (n : StationNo) (v : Filed) : (s.mergeVerdict n v).Follows :=
  ite_follows (State.mergePair_follows h _) h

theorem State.handleVerdict_follows (h : s.Follows) (f : RxFrame) : (s.handleVerdict f).Follows := by
  have htaken (v : VerdictFields) : (s.takeVerdict f.sender v).Follows := by
    have hupdated : (s.updateRecord f.sender (verdictRecord v.filed)).Follows := h.congr (by simp)
    unfold State.takeVerdict
    dsimp only
    split
    · exact ite_follows (State.fileVerdict_follows hupdated _ _ _) (State.mergeVerdict_follows hupdated _ _)
    · exact State.mergeVerdict_follows hupdated _ _
  unfold State.handleVerdict
  split
  · exact ite_follows (htaken _) h
  · exact h

/-! ### Slots -/

theorem State.firstAdoption_follows (h : s.Follows) : s.firstAdoption.Follows := by
  have hdeleted : s.deleteBlankKey.Follows := h.congr (by simp)
  unfold State.firstAdoption
  dsimp only
  split
  · exact ite_follows (State.enterUnlocked_follows _ (grants_unlockGrant 0 false) _) hdeleted
  · exact hdeleted

theorem State.settleWait_follows (h : s.Follows) (serial : Nat) (sl : Slot) (w : SlotWait) :
    (s.settleWait serial sl w).Follows := by
  have hadopted : (if (w.first && sl.activeAt w.gen) = true then s.firstAdoption else s).Follows :=
    ite_follows (State.firstAdoption_follows h) h
  exact ite_follows (hadopted.congr (by simp)) h

theorem State.settleHandOver_follows (h : s.Follows) (i : SlotNo) (serial : Nat) :
    (s.settleHandOver i serial).Follows := by
  unfold State.settleHandOver
  (repeat' split)
  · exact s.handOver_follows _ _ _
  all_goals exact h

theorem State.slotStored_follows (h : s.Follows) (w : InFlight) : (s.slotStored w).Follows := by
  unfold State.slotStored
  dsimp only
  split
  · refine foldl_follows (fun _ x hs => State.settleWait_follows hs _ _ x) (State.settleHandOver_follows ?_ _ _) _
    exact h.congr (by simp)
  all_goals exact h.congr (by simp)

/-! ### LOCK and PURGE, and the engine's writes -/

theorem State.handleLock_follows (h : s.Follows) (f : RxFrame) : (s.handleLock f).Follows := by
  unfold State.handleLock
  split
  · exact ite_follows (State.lockDown_follows h) h
  · exact h

theorem State.handlePurge_follows (h : s.Follows) (f : RxFrame) : (s.handlePurge f).Follows := by
  unfold State.handlePurge
  dsimp only
  split
  · exact ite_follows h (State.takeTarget_follows (h.congr (by simp)) _ _)
  · exact h

theorem State.handleControllerPurge_follows (h : s.Follows) (f : RxFrame) : (s.handleControllerPurge f).Follows := by
  have hopened := s.openPurge_follows .request (u16 f.payload 1)
  have hanswered (r : AnswerResult) : (s.answerPurge f.sender r (u16 f.payload 1)).Follows := h.congr (by simp)
  have hraised : ((s.raiseTarget (u16 f.payload 1)).awaitPurge f.sender (u16 f.payload 1)).Follows := h.congr (by simp)
  exact ite_follows h (ite_follows (hanswered _) (ite_follows (hanswered _) (ite_follows
    (ite_follows (hanswered _) (hopened.congr (by simp))) (ite_follows hraised h))))

theorem State.openPending_follows (h : s.Follows) : s.openPending.Follows := by
  unfold State.openPending
  split
  · exact State.openPurge_follows _ _ _
  · exact h

/-- The close sets the journal CLOSED and then changes the phase, which gives the channel back (R133, R140). -/
theorem State.closePurge_follows (s : State) : s.closePurge.Follows := by
  have hoffered (v : PurgeEngine) : ((s.setPurge v).enterPhase .purgeWait).offerPurged.Follows :=
    State.Follows.congr (s := (s.setPurge v).enterPhase .purgeWait) (State.enterPhase_follows _ (by simp)) (by simp)
  exact State.openPending_follows (State.purgeWaitTest_follows (hoffered _))

theorem State.journalStored_follows (h : s.Follows) (j : Journal) : (s.journalStored j).Follows := by
  have hanswered : (s.answerStored (j.target.getD 0)).Follows := h.congr (by simp)
  exact ite_follows (State.closePurge_follows _) (ite_follows (hanswered.congr (by simp)) hanswered)

theorem State.purgeStored_follows (h : s.Follows) (w : InFlight) : (s.purgeStored w).Follows := by
  have hclosed : (s.closeWrite .purge w.contents.record).Follows := h.congr (by simp)
  refine ite_follows ?_ hclosed
  unfold State.purgeGoesOn
  split
  · exact State.journalStored_follows hclosed _
  all_goals exact ite_follows hclosed (hclosed.congr (by simp))

/-! ### The channel's fault and keying (R140, R152, R153, R198) -/

/-- A channel fault that begins has the gate recompute its owner (R152). -/
theorem State.beginFault_follows (h : s.Granted) : s.beginFault.Follows := by
  have hfault : (s.setGate
      { s.gate with channelFault := true, faultPeriod := some (s.clock + faultPeriodTime) }).recomputeOwner.Follows :=
    State.Granted.recomputeOwner ⟨h.grant, h.fits⟩
  exact ite_follows (hfault.congr (by simp)) (hfault.congr (by simp))

theorem State.countExpiry_follows (h : s.Follows) : s.countExpiry.Follows :=
  ite_follows (h.congr (by simp)) (ite_follows (State.beginFault_follows ⟨h.grant, h.fits⟩) (h.congr (by simp)))

/-- A fault that a periodic reset clears has the gate recompute its owner (R153). -/
theorem State.clearFault_follows (h : s.Granted) : s.clearFault.Follows :=
  State.Granted.recomputeOwner ⟨h.grant, h.fits⟩

theorem State.finishReset_follows (h : s.Follows) (reason : ResetReason) (completed : Bool) :
    (s.finishReset reason completed).Follows := by
  have hfree : (s.setGate { s.gate with op := none }).Follows := h.congr (by simp)
  unfold State.finishReset
  dsimp only
  cases reason with
  | drain => exact hfree.congr (by simp)
  | erase n => exact hfree.congr (by simp)
  | periodic =>
    cases completed with
    | true => exact (State.clearFault_follows hfree.toGranted).congr (by simp)
    | false => exact hfree.congr (by simp)

theorem State.expireDrain_follows (h : s.Follows) : s.expireDrain.Follows :=
  State.countExpiry_follows (h.congr (by simp))

theorem State.setDraws_follows (h : s.Follows) (n : Nat) : (s.setDraws n).Follows :=
  h.congr (by simp)

/-- Initial keying closes the journal and has the gate recompute its owner (R140, R198). -/
theorem State.beginKeying_follows (h : s.Granted) (n : StationNo) : (s.beginKeying n).Follows := by
  have hkeyed : s.keyBlocks.Follows := by
    refine State.setDraws_follows (State.Granted.recomputeOwner ?_) _
    exact ⟨h.grant, h.fits⟩
  exact hkeyed.congr (by simp [State.beginKeying])

theorem State.checkSetupLock_follows (h : s.Follows) (f : RxFrame) : (s.checkSetupLock f).Follows :=
  ite_follows (h.congr (by simp)) (ite_follows (h.congr (by simp)) (State.beginKeying_follows h.toGranted f.sender))

/-! ### Keypad, senses and starts -/

theorem State.confirmPurge_follows (h : s.Follows) : s.confirmPurge.Follows := by
  have hseq : (s.setSeq .entry).Follows := h.congr (by simp)
  exact ite_follows (State.openOwn_follows hseq _) (hseq.congr (by simp))

theorem State.enterKey_follows (h : s.Follows) : s.enterKey.Follows := by
  unfold State.enterKey
  split
  case h_2 => exact h
  case h_5 => split <;> exact h.congr (by simp)
  case h_7 => exact State.confirmPurge_follows h
  all_goals exact h.congr (by simp)

theorem State.assertTamper_follows (h : s.Follows) : s.assertTamper.Follows := by
  have hasserted : (((s.setSupervisor { s.supervisor with tamperAsserted := true }).setTampered true).request
      .supervisor .tamper).Follows := h.congr (by simp)
  exact ite_follows (State.openOwn_follows hasserted _) (State.lockDown_follows hasserted)

/-- Stopped blocks have grant NONE and owner NONE, in UNCOMMISSIONED with a CLOSED journal (R139, R181, R192). -/
theorem State.stopBlocks_follows (s : State) : s.stopBlocks.Follows :=
  ⟨⟨rfl, grants_grantFor (p := .uncommissioned) (by simp)⟩, rfl⟩

theorem State.loseSupply_follows (s : State) (landed : Bool) : (s.loseSupply landed).Follows :=
  (State.stopBlocks_follows (s.setStore (s.store.cutOff landed))).congr ⟨rfl, rfl, rfl, rfl, rfl, rfl⟩

theorem State.sleep_follows (s : State) : s.sleep.Follows :=
  s.stopBlocks_follows.congr ⟨rfl, rfl, rfl, rfl, rfl, rfl⟩

theorem State.detachNow_follows (h : s.Follows) (landed : Bool) : (s.detachNow landed).Follows := by
  have hdetached : (s.setSupervisor { s.supervisor with attached := false }).Follows := h.congr (by simp)
  exact ite_follows (State.loseSupply_follows _ _) ((State.lockDown_follows hdetached).congr (by simp))

theorem State.takeBand_follows (h : s.Follows) (b : Band) (landed : Bool) : (s.takeBand b landed).Follows :=
  ite_follows (State.loseSupply_follows _ _) (h.congr (by simp))

theorem State.offerRoll_follows (h : s.Follows) : s.offerRoll.Follows :=
  h.congr (by simp)

theorem State.resumePurge_follows (s : State) : s.resumePurge.Follows :=
  (s.enterPhase_follows (p := .purging) (by simp)).congr (by simp [State.resumePurge])

/-- Every start ends in a phase change, whatever the store held (R31). -/
theorem State.choosePhase_follows (s : State) (cause : StartCause) : (s.choosePhase cause).Follows := by
  have hhalted : s.startHalted.Follows := State.offerRoll_follows (State.enterPhase_follows _ (by simp))
  exact ite_follows hhalted (ite_follows (s.enterPhase_follows (by simp)) (ite_follows hhalted
    (ite_follows s.resumePurge_follows (ite_follows (State.offerRoll_follows (s.openPurge_follows _ _))
      (State.beginAssembly_follows (s.enterPhase_follows (by simp)))))))

/-! ### Line resets, attempts and the setup -/

theorem State.resetPhase_follows (h : s.Follows) : s.resetPhase.Follows := by
  have hagain : (s.leavePhase.enterPhase .assembling).beginAssembly.Follows :=
    State.beginAssembly_follows (State.enterPhase_follows _ (by simp))
  unfold State.resetPhase
  split
  case h_7 | h_8 | h_9 => exact h.congr (by simp)
  case h_10 => exact h
  all_goals exact hagain

theorem State.finishAttempt_follows (h : s.Follows) (f : TxFrame) (rest : List TxFrame) (slots : Byte) :
    (s.finishAttempt f rest slots).Follows := by
  have hended : s.endAttempt.driveOwnSlot.Follows := h.congr (by simp)
  have hreleased (o : SendOutcome) : (s.endAttempt.driveOwnSlot.releaseHead f rest o).Follows := h.congr (by simp)
  exact ite_follows (hreleased _) (ite_follows (hended.congr (by simp)) (ite_follows (hreleased _)
    (State.markSilent_follows (hended.congr (by simp)) _)))

theorem State.lockedStored_follows (h : s.Follows) : s.lockedStored.Follows := by
  have hentered : ((s.setSetup { s.setup with state := .locked }).enterPhase .assembling).Follows :=
    State.enterPhase_follows _ (by simp)
  exact ite_follows (State.beginAssembly_follows (hentered.congr (by simp))) h

/-! ### What a command keeps -/

/-- A command that ends in a next state ends in one that meets the invariant. -/
def LeavesFollowing (o : Host.Outcome State Fault Refusal) : Prop := ∀ t, o = .next t → t.Follows

theorem leavesFollowing_next (h : s.Follows) : LeavesFollowing (.next s) := by
  rintro t ⟨⟩
  exact h

theorem State.done_follows (h : s.Follows) : LeavesFollowing s.done :=
  leavesFollowing_next (h.congr (by simp))

theorem State.whileAwake_follows (h : s.Follows) {body : State → State} (hb : (body s).Follows) :
    LeavesFollowing (s.whileAwake body) := by
  unfold State.whileAwake
  split
  · exact State.done_follows hb
  · exact leavesFollowing_next h

theorem State.frameRow_follows (h : s.Follows) {isMine : RxFrame → Bool} {serve : State → RxFrame → State}
    (hs : ∀ s f, s.Follows → (serve s f).Follows) : LeavesFollowing (s.frameRow isMine serve) := by
  refine State.whileAwake_follows h ?_
  unfold State.takeFrame
  split
  · exact h
  · next f rest _ =>
    have htaken : (s.setLine { s.line with rx := rest }).Follows := h.congr (by simp)
    exact ite_follows (ite_follows (hs _ f htaken) htaken) h

theorem State.completeWrite_follows (h : s.Follows) (w : InFlight) {event : State → State}
    (he : ∀ s, s.Follows → (event s).Follows) : (s.completeWrite w event).Follows := by
  rw [State.completeWrite_eq]
  exact (he (s.stores w.contents) (h.congr (by simp))).congr (by simp)

theorem State.takeKey_follows (h : s.Follows) (key : Key) {act : State → State}
    (ha : ∀ s, s.Follows → (act s).Follows) : (s.takeKey key act).Follows := by
  unfold State.takeKey
  dsimp only
  (repeat' split)
  · exact h
  · exact ha _ (h.congr (by simp))
  · exact ha _ (h.congr (by simp))
  all_goals exact h

theorem State.serveSetup_follows (h : s.Follows) (f : RxFrame) {serve : State → State}
    (hs : ∀ s, s.Follows → (serve s).Follows) : (s.serveSetup f serve).Follows :=
  ite_follows (hs s h) (ite_follows h (h.congr (by simp)))

theorem State.takeAdopt_follows (h : s.Follows) (f : RxFrame) {effect : State → StationNo → Nat → Nat → State}
    (he : ∀ s n slot gen, s.Follows → (effect s n slot gen).Follows) : (s.takeAdopt f effect).Follows :=
  ite_follows h (ite_follows (he s _ _ _ h) (h.congr (by simp)))

/-! ### The commands that start, stop or take samples -/

theorem execPowerUp_follows (h : s.Follows) (i : StartInputs) : LeavesFollowing (execPowerUp i s) := by
  unfold execPowerUp
  split
  · exact State.done_follows (State.choosePhase_follows _ _)
  · exact leavesFollowing_next h

theorem execSupplyLost_follows (h : s.Follows) (landed : Bool) : LeavesFollowing (execSupplyLost landed s) := by
  unfold execSupplyLost
  split
  · exact leavesFollowing_next (s.loseSupply_follows landed)
  · exact leavesFollowing_next h

theorem execWake_follows (h : s.Follows) (cause : WakeCause) (i : StartInputs) :
    LeavesFollowing (execWake cause i s) := by
  unfold execWake
  (repeat' split)
  · exact State.done_follows (State.Follows.congr (s := s.start i .wake) (State.choosePhase_follows _ _) (by simp))
  · exact leavesFollowing_next (s.loseSupply_follows false)
  · exact leavesFollowing_next h

theorem execCellBandChange_follows (h : s.Follows) (samples : List Nat) (landed : Bool) :
    LeavesFollowing (execCellBandChange samples landed s) := by
  unfold execCellBandChange
  dsimp only
  (repeat' split)
  · exact leavesFollowing_next h
  · exact State.done_follows (State.takeBand_follows h _ landed)
  · exact leavesFollowing_next (s.loseSupply_follows landed)
  · exact leavesFollowing_next h

/-! ### The commands -/

/-- Every command keeps the invariant: the frame rows take a frame and serve it, the completions end a write, the keys act once they are taken, the starts end in a phase change, the channel's fault recomputes the owner, and any other command leaves what the invariant reads. -/
theorem exec_follows (h : s.Follows) (c : Instr) : LeavesFollowing (exec c s) := by
  cases c <;> unfold exec
  case powerUp i => exact execPowerUp_follows h i
  case supplyLost landed => exact execSupplyLost_follows h landed
  case wake cause i => exact execWake_follows h cause i
  case cellBandChange samples landed => exact execCellBandChange_follows h samples landed
  case roll => exact State.frameRow_follows h fun _ f hs => State.handleRoll_follows hs f
  case entry => exact State.frameRow_follows h fun _ f hs => State.handleEntry_follows hs f
  case verdict => exact State.frameRow_follows h fun _ f hs => State.handleVerdict_follows hs f
  case lock => exact State.frameRow_follows h fun _ f hs => State.handleLock_follows hs f
  case purge => exact State.frameRow_follows h fun _ f hs => State.handlePurge_follows hs f
  case controllerPurge => exact State.frameRow_follows h fun _ f hs => State.handleControllerPurge_follows hs f
  case purged => exact State.frameRow_follows h fun _ f hs => State.handlePurged_follows hs f
  case stage | retire | answer | range | query | clear =>
    exact State.frameRow_follows h fun _ _ hs => hs.congr (by simp)
  case status => exact State.frameRow_follows h fun _ _ hs => hs
  case setup =>
    exact State.frameRow_follows h fun _ f hs => State.serveSetup_follows hs f fun _ hs => hs.congr (by simp)
  case setupLock =>
    exact State.frameRow_follows h fun _ f hs =>
      State.serveSetup_follows hs f fun _ hs => State.checkSetupLock_follows hs f
  case adopt | adoptAbandon =>
    exact State.frameRow_follows h fun _ f hs => State.takeAdopt_follows hs f fun _ _ _ _ hs => hs.congr (by simp)
  case keyDigit | keyLock => exact State.whileAwake_follows h (State.takeKey_follows h _ fun _ hs => hs.congr (by simp))
  case keyEnter => exact State.whileAwake_follows h (State.takeKey_follows h _ fun _ hs => State.enterKey_follows hs)
  case attemptComplete slots =>
    refine State.whileAwake_follows h ?_
    split
    · exact ite_follows (State.finishAttempt_follows h _ _ slots) h
    · exact h
  case lineReset => exact State.whileAwake_follows h (ite_follows h (State.resetPhase_follows (h.congr (by simp))))
  case dormancyEntry _ _ => exact State.whileAwake_follows h (ite_follows s.sleep_follows h)
  case assemblyWindowEnd =>
    refine State.whileAwake_follows h ?_
    split
    · exact ite_follows (State.enterPhase_follows _ (by simp)) (State.completionTest_follows (h.congr (by simp)))
    · exact h
  case verdictWindowExpire =>
    refine State.whileAwake_follows h ?_
    (repeat' split)
    · exact State.takeDecision_follows (s := s.runTo _) (h.congr (by simp)) _
    all_goals exact h
  case attachWindowExpire =>
    refine State.whileAwake_follows h ?_
    split
    · exact State.lockDown_follows (s := s.runTo _) (h.congr (by simp))
    · exact h
  case detach landed sense => exact State.whileAwake_follows h (ite_follows (State.detachNow_follows h landed) h)
  case attach sense => exact State.whileAwake_follows h (ite_follows (h.congr (by simp)) h)
  case tamperAssertion => exact State.whileAwake_follows h (ite_follows h (State.assertTamper_follows h))
  case recoveryResetReady =>
    refine State.whileAwake_follows h ?_
    split
    · exact State.finishReset_follows h _ _
    all_goals exact h
  case recoveryResetTimeout =>
    refine State.whileAwake_follows h ?_
    split
    · exact State.finishReset_follows (h.congr (by simp)) _ _
    all_goals exact h
  case eraseStepTimeout =>
    refine State.whileAwake_follows h ?_
    split
    · exact State.countExpiry_follows (h.congr (by simp))
    all_goals exact h
  case drainExpire =>
    refine State.whileAwake_follows h ?_
    split
    · exact State.expireDrain_follows (h.congr (by simp))
    all_goals exact h
  case purgeWriteComplete =>
    refine State.whileAwake_follows h ?_
    split
    · exact State.completeWrite_follows h _ fun _ hs => State.purgeStored_follows hs _
    · exact h
  case slotWriteComplete =>
    refine State.whileAwake_follows h ?_
    split
    · exact State.completeWrite_follows h _ fun _ hs => State.slotStored_follows hs _
    · exact h
  case attemptWriteComplete =>
    refine State.whileAwake_follows h ?_
    split
    · exact ite_follows (State.completeWrite_follows h _ fun _ hs => hs.congr (by simp)) h
    · exact h
  case rangeWriteComplete | setupWriteComplete =>
    refine State.whileAwake_follows h ?_
    split
    · exact State.completeWrite_follows h _ fun _ hs => hs.congr (by simp)
    · exact h
  case tamperWriteComplete =>
    refine State.whileAwake_follows h ?_
    split
    · exact State.completeWrite_follows h _ fun _ hs => hs
    · exact h
  case keyingWriteComplete =>
    refine State.whileAwake_follows h ?_
    split
    · exact ite_follows h (State.completeWrite_follows h _ fun _ hs => hs.congr (by simp))
    · exact h
  case setupLockComplete =>
    refine State.whileAwake_follows h ?_
    split
    · exact State.completeWrite_follows h _ fun _ hs => State.lockedStored_follows hs
    · exact h
  case assemblySend | zeroShiftEnd =>
    refine State.whileAwake_follows h ?_
    dsimp only
    (repeat' split) <;> exact h.congr (by simp)
  all_goals
    refine State.whileAwake_follows h ?_
    (repeat' split) <;> exact h.congr (by simp)

/-- Settles O6: a tick leaves what the invariant reads, and a command keeps the invariant. -/
theorem gateFollowsThePhase : Obligations.GateFollowsThePhase := by
  intro s t hs hstep
  rw [← State.follows_iff] at hs ⊢
  unfold Steps step at hstep
  split at hstep
  · cases hstep
    exact hs.congr ⟨rfl, rfl, rfl, rfl, rfl, rfl⟩
  · next c rest _ => exact exec_follows (s := s.setPending rest) (hs.congr (by simp)) c t hstep

end
end Sys2Proof.Machine
end

section
/-! PROOFS. The key port: the ends of its shifts, and what its pins show meanwhile (R106 to R108). -/

namespace Sys2Proof.Machine

/-! ### The ends of the shifts (R107, R108) -/

section
variable {s : State} {due : Micros}

theorem exec_keyShiftEnd (h : s.awake = true) (hs : s.keyPort.state = .shiftingKey)
    (hd : s.keyPort.shiftDue = some due) :
    exec .keyShiftEnd s
      = .next ((s.runTo due).setKeyPort
          { s.keyPort with state := .presented, shiftDue := none, sent := keyBits }).payRoll := by
  simp [exec, execKeyShiftEnd, State.whileAwake_of_awake h, hs, hd]

/-- The zeros end in CLEAR, and a request that waited behind them begins its key shift there. -/
theorem exec_zeroShiftEnd (h : s.awake = true) (hs : s.keyPort.state = .shiftingZero)
    (hd : s.keyPort.shiftDue = some due) :
    exec .zeroShiftEnd s
      = .next (if s.keyPort.waiting = true
          then ((s.runTo due).setKeyPort ⟨.clear, 0, none, false, none, 0⟩).beginKeyShift
          else (s.runTo due).setKeyPort ⟨.clear, 0, none, false, none, 0⟩).payRoll := by
  simp [exec, execZeroShiftEnd, State.whileAwake_of_awake h, hs, hd]

end

/-! ### The pins (Table 5-6, R107, R108) -/

section
variable {p : KeyPort} {due now : Nat}

theorem KeyPort.inShift_iff (hd : p.shiftDue = some due) :
    p.inShift now = true ↔ (p.state = .shiftingKey ∨ p.state = .shiftingZero) ∧ now < due := by
  simp [KeyPort.inShift, hd]

theorem KeyPort.shiftStart_eq (hd : p.shiftDue = some due) : p.shiftStart = due - 512 := by
  simp [KeyPort.shiftStart, hd, shiftTime]

/-- Within a shift KCLK is high exactly when an odd time is left to its end. -/
theorem KeyPort.kclk_of_inShift (hd : p.shiftDue = some due) (hin : p.inShift now = true) :
    p.kclk now = decide ((due - now) % 2 = 1) := by
  simp [KeyPort.kclk, hin, hd, bitTime]

theorem KeyPort.kdat_of_key (hs : p.state = .shiftingKey) (hin : p.inShift now = true) :
    p.kdat now = p.presented.getMsbD (p.bitsOver now) := by
  simp [KeyPort.kdat, hin, hs]

/-- Within a shift of zeros KDAT is low, but before its first zero it keeps the bit of a stopped key shift. -/
theorem KeyPort.kdat_of_zeros (hs : p.state = .shiftingZero) (hd : p.shiftDue = some due) (hin : p.inShift now = true) :
    p.kdat now = if now < due - 512 then p.lastBit.getD false else false := by
  simp [KeyPort.kdat, hin, hs, KeyPort.shiftStart_eq hd]

theorem KeyPort.low_outside_shift (now : Nat) (h : p.state = .clear ∨ p.state = .presented) :
    p.kdat now = false ∧ p.kclk now = false := by
  have hout : p.inShift now = false := by rcases h with h | h <;> simp [KeyPort.inShift, h]
  simp [KeyPort.kdat, KeyPort.kclk, hout]

/-- The moments of bit n of a shift: its two halves, at 2 us for each bit from 512 us before the end (R107). -/
theorem KeyPort.bit_of_shift {n half : Nat} (hs : p.state = .shiftingKey ∨ p.state = .shiftingZero)
    (hd : p.shiftDue = some due) (hdue : 512 ≤ due) (hn : n < 256) (hhalf : half < 2)
    (hnow : now = due - 512 + 2 * n + half) :
    p.inShift now = true ∧ p.bitsOver now = n ∧ p.kclk now = decide (half = 1) := by
  have hin : p.inShift now = true := (KeyPort.inShift_iff hd).mpr ⟨hs, by omega⟩
  refine ⟨hin, ?_, ?_⟩
  · rw [KeyPort.bitsOver, KeyPort.shiftStart_eq hd, bitTime]
    omega
  · rw [KeyPort.kclk_of_inShift hd hin, decide_eq_decide]
    omega

/-- The moments of the bit that a stopped key shift leaves before its zeros (R108). -/
theorem KeyPort.bit_before_zeros {half : Nat} (hs : p.state = .shiftingZero) (hd : p.shiftDue = some due)
    (hdue : 514 ≤ due) (hhalf : half < 2) (hnow : now = due - 514 + half) :
    p.kdat now = p.lastBit.getD false ∧ p.kclk now = decide (half = 1) := by
  have hin : p.inShift now = true := (KeyPort.inShift_iff hd).mpr ⟨.inr hs, by omega⟩
  refine ⟨?_, ?_⟩
  · rw [KeyPort.kdat_of_zeros hs hd hin, if_pos (by omega)]
  · rw [KeyPort.kclk_of_inShift hd hin, decide_eq_decide]
    omega

end

/-- A station that drives its outputs drives the pins of its key port (Table 5-6, R181). -/
theorem State.outputs_keyPort {s : State} {enable ready : Bool} {data : Byte} {o : Outputs}
    (h : s.outputs enable ready data = some o) : o.kvalid = s.kvalid ∧ o.kdat = s.kdat ∧ o.kclk = s.kclk := by
  cases hv : s.supervisor.supplyValid with
  | false => simp [hv] at h
  | true =>
    rw [State.outputs_powered _ _ _ _ hv] at h
    cases h
    exact ⟨rfl, rfl, rfl⟩

/-- Settles O37: the ends of the shifts, then the pins by the moments of a shift. -/
theorem keyPortShiftsEnd : Obligations.KeyPortShiftsEnd := by
  refine ⟨fun s due hawake hd => ?ends, fun p due n half hd hdue hn hhalf => ?bits,
    fun p due half hs hd hdue hhalf => KeyPort.bit_before_zeros hs hd hdue hhalf rfl,
    fun p now => KeyPort.low_outside_shift now, fun s => ⟨rfl, rfl, rfl, fun _ _ _ _ => State.outputs_keyPort⟩⟩
  case ends =>
    refine ⟨fun hs => exec_keyShiftEnd hawake hs hd, fun hs hw => ?_, fun hs hw => ?_⟩
    · rw [exec_zeroShiftEnd hawake hs hd, if_neg (by simp [hw])]
      rfl
    · rw [exec_zeroShiftEnd hawake hs hd, if_pos hw]
      rfl
  case bits =>
    refine ⟨fun hs => ?_, fun hs => ?_⟩
    · obtain ⟨hin, hbits, hclk⟩ := KeyPort.bit_of_shift (.inl hs) hd hdue hn hhalf rfl
      exact ⟨by rw [KeyPort.kdat_of_key hs hin, hbits], hclk⟩
    · obtain ⟨hin, _, hclk⟩ := KeyPort.bit_of_shift (.inr hs) hd hdue hn hhalf rfl
      exact ⟨by rw [KeyPort.kdat_of_zeros hs hd hin, if_neg (by omega)], hclk⟩

end Sys2Proof.Machine
end

section
/-! PROOFS. The senses: the attach state, the band of the cell, and the ERASE that follows them (R102, R103, R124, R129, R182 to R184). -/

namespace Sys2Proof.Machine

/-! ### Bands and samples (R184, Table 9-2) -/

/-- The bands above CUTOFF by their bounds (Table 9-2). -/
theorem bandOf_bounds (mv : Nat) : (bandOf mv = .good ↔ 3450 ≤ mv) ∧ (bandOf mv = .low ↔ 3300 ≤ mv ∧ mv < 3450)
    ∧ (bandOf mv = .floor ↔ 3000 ≤ mv ∧ mv < 3300) := by
  unfold bandOf
  (repeat' split) <;> simp <;> omega

theorem Band.level_higher (a b : Band) : (a.higher b).level = max a.level b.level := by
  unfold Band.higher
  split <;> omega

theorem Band.level_lower (a b : Band) : (a.lower b).level = min a.level b.level := by
  unfold Band.lower
  split <;> omega

theorem Band.level_le_good (b : Band) : b.level ≤ Band.good.level := by
  cases b <;> decide

/-- Of the bands only GOOD is as high as GOOD. -/
theorem Band.eq_good_of_level {b : Band} (h : Band.good.level ≤ b.level) : b = .good := by
  cases b <;> simp_all [Band.level]

/-- The lowest band of some samples, from a band on. -/
def leastBand (start : Band) (samples : List Nat) : Band := samples.foldl (fun b mv => b.lower (bandOf mv)) start

theorem leastBand_le_start (start : Band) (samples : List Nat) : (leastBand start samples).level ≤ start.level := by
  induction samples generalizing start with
  | nil => exact Nat.le_refl _
  | cons mv l ih =>
    have := ih (start.lower (bandOf mv))
    rw [Band.level_lower] at this
    exact this.trans (Nat.min_le_left _ _)

theorem leastBand_le {mv : Nat} {samples : List Nat} (start : Band) (h : mv ∈ samples) :
    (leastBand start samples).level ≤ (bandOf mv).level := by
  induction samples generalizing start with
  | nil => cases h
  | cons x l ih =>
    rcases List.mem_cons.mp h with rfl | h
    · have := leastBand_le_start (start.lower (bandOf mv)) l
      rw [Band.level_lower] at this
      exact this.trans (Nat.min_le_right _ _)
    · exact ih _ h

/-- The lowest band is the band that it began from, or that of a sample. -/
theorem leastBand_mem (start : Band) (samples : List Nat) :
    leastBand start samples = start ∨ ∃ mv ∈ samples, leastBand start samples = bandOf mv := by
  induction samples generalizing start with
  | nil => exact .inl rfl
  | cons x l ih =>
    rcases ih (start.lower (bandOf x)) with h | ⟨mv, hmv, h⟩
    · have hlower : start.lower (bandOf x) = start ∨ start.lower (bandOf x) = bandOf x := by
        unfold Band.lower
        split <;> simp
      exact hlower.imp h.trans fun hx => ⟨x, by simp, h.trans hx⟩
    · exact .inr ⟨mv, List.mem_cons_of_mem _ hmv, h⟩

/-- Of at least one sample the lowest band, from GOOD on, is that of a sample. -/
theorem leastBand_good_mem {samples : List Nat} (h : 0 < samples.length) :
    ∃ mv ∈ samples, leastBand .good samples = bandOf mv := by
  rcases leastBand_mem .good samples with hgood | hmem
  · obtain ⟨mv, hmv⟩ := List.exists_mem_of_length_pos h
    have hle := leastBand_le .good hmv
    rw [hgood] at hle
    exact ⟨mv, hmv, hgood.trans (Band.eq_good_of_level hle).symm⟩
  · exact hmem

/-- The move down takes the last three samples and gives the highest of their bands. -/
theorem bandDown_eq_some {current b : Band} {newest : List Nat} :
    bandDown current newest = some b ↔ ∃ x y z before, newest = z :: y :: x :: before
      ∧ b = (bandOf x).higher ((bandOf y).higher (bandOf z)) ∧ b.level < current.level := by
  unfold bandDown
  split
  · next z y x before =>
    dsimp only
    rw [Option.ite_none_right_eq_some]
    constructor
    · rintro ⟨hlt, ⟨⟩⟩
      exact ⟨x, y, z, before, rfl, rfl, hlt⟩
    · rintro ⟨x', y', z', before', heq, rfl, hlt⟩
      cases heq
      exact ⟨hlt, rfl⟩
  · next hshort =>
    refine ⟨fun h => (nomatch h), ?_⟩
    rintro ⟨x, y, z, before, heq, _⟩
    exact (hshort z y x before heq).elim

/-- The move up takes the samples of the last second and gives the lowest of their bands. -/
theorem bandUp_eq_some {current b : Band} {newest : List Nat} :
    bandUp current newest = some b ↔ 100 ≤ newest.length ∧ b = leastBand .good (newest.take 100)
      ∧ current.level < b.level := by
  have hlength : (newest.take 100).length < 100 ↔ ¬ 100 ≤ newest.length := by
    rw [List.length_take]
    omega
  have hup : bandUp current newest
      = if (newest.take 100).length < 100 then none
        else if current.level < (leastBand .good (newest.take 100)).level then some (leastBand .good (newest.take 100))
        else none := rfl
  rw [hup]
  rw [Option.ite_none_left_eq_some, hlength, not_not, Option.ite_none_right_eq_some]
  constructor
  · rintro ⟨hlen, hlt, ⟨⟩⟩
    exact ⟨hlen, rfl, hlt⟩
  · rintro ⟨hlen, rfl, hlt⟩
    exact ⟨hlen, hlt, rfl⟩

theorem bandAfter_of_down {current b : Band} {samples : List Nat} (h : bandDown current samples.reverse = some b) :
    bandAfter current samples = b := by
  simp [bandAfter, h]

theorem bandAfter_of_up {current b : Band} {samples : List Nat} (hd : bandDown current samples.reverse = none)
    (h : bandUp current samples.reverse = some b) : bandAfter current samples = b := by
  simp [bandAfter, hd, h]

/-- A band that samples move was moved down or up. -/
theorem bandAfter_moves {current : Band} {samples : List Nat} (h : bandAfter current samples ≠ current) :
    (∃ b, bandDown current samples.reverse = some b) ∨ ∃ b, bandUp current samples.reverse = some b := by
  cases hd : bandDown current samples.reverse with
  | some b => exact .inl ⟨b, rfl⟩
  | none =>
    cases hu : bandUp current samples.reverse with
    | some b => exact .inr ⟨b, rfl⟩
    | none => exact absurd (by simp [bandAfter, hd, hu]) h

/-- Three samples in lower bands move the band to the highest of theirs. -/
theorem bandAfter_falls {band : Band} (before : List Nat) {a b c : Nat} (ha : (bandOf a).level < band.level)
    (hb : (bandOf b).level < band.level) (hc : (bandOf c).level < band.level) :
    (bandAfter band (before ++ [a, b, c])).level = max (bandOf a).level (max (bandOf b).level (bandOf c).level) := by
  have htop : ((bandOf a).higher ((bandOf b).higher (bandOf c))).level
      = max (bandOf a).level (max (bandOf b).level (bandOf c).level) := by
    rw [Band.level_higher, Band.level_higher]
  have hdown : bandDown band (before ++ [a, b, c]).reverse = some ((bandOf a).higher ((bandOf b).higher (bandOf c))) :=
    bandDown_eq_some.mpr ⟨a, b, c, before.reverse, by simp, rfl, by omega⟩
  rw [bandAfter_of_down hdown, htop]

/-- The samples of a second in higher bands move the band to the lowest of theirs: the last three hold it from falling. -/
theorem bandAfter_rises {band : Band} (before : List Nat) {second : List Nat} (hlen : second.length = 100)
    (h : ∀ mv ∈ second, band.level < (bandOf mv).level) :
    bandAfter band (before ++ second) = leastBand .good second.reverse := by
  have hrev : (before ++ second).reverse = second.reverse ++ before.reverse := List.reverse_append
  have hlast : (second.reverse ++ before.reverse).take 100 = second.reverse := by
    rw [List.take_left' (by simpa using hlen)]
  have hdown : bandDown band (before ++ second).reverse = none := by
    refine Option.eq_none_iff_forall_ne_some.mpr fun b hb => ?_
    obtain ⟨x, y, z, rest, heq, rfl, hlt⟩ := bandDown_eq_some.mp hb
    have hz : z ∈ second := by
      have hhead : (second.reverse ++ before.reverse).take 100 = z :: y :: x :: rest.take 97 := by
        rw [← hrev, heq]
        rfl
      rw [hlast] at hhead
      exact List.mem_reverse.mp (by simp [hhead])
    have := h z hz
    rw [Band.level_higher, Band.level_higher] at hlt
    omega
  obtain ⟨mv, hmv, hleast⟩ := leastBand_good_mem (samples := second.reverse) (by simp [hlen])
  refine bandAfter_of_up hdown (bandUp_eq_some.mpr ⟨?_, ?_, ?_⟩)
  · simp [hlen]
  · rw [hrev, hlast]
  · rw [hleast]
    exact h mv (List.mem_reverse.mp hmv)

/-- Samples that move the band end in three that lie below it, or in a second of them that lie above it. -/
theorem bandAfter_moved {band : Band} {samples : List Nat} (h : bandAfter band samples ≠ band) :
    (∃ before a b c, samples = before ++ [a, b, c] ∧ (bandOf a).level < band.level ∧ (bandOf b).level < band.level
      ∧ (bandOf c).level < band.level)
    ∨ ∃ before second, samples = before ++ second ∧ second.length = 100
      ∧ ∀ mv ∈ second, band.level < (bandOf mv).level := by
  rcases bandAfter_moves h with ⟨b, hdown⟩ | ⟨b, hup⟩
  · obtain ⟨x, y, z, rest, heq, rfl, hlt⟩ := bandDown_eq_some.mp hdown
    rw [Band.level_higher, Band.level_higher] at hlt
    refine .inl ⟨rest.reverse, x, y, z, ?_, by omega, by omega, by omega⟩
    rw [← List.reverse_reverse samples, heq]
    simp
  · obtain ⟨hlen, rfl, hlt⟩ := bandUp_eq_some.mp hup
    refine .inr ⟨(samples.reverse.drop 100).reverse, (samples.reverse.take 100).reverse, ?_, ?_, fun mv hmv => ?_⟩
    · rw [← List.reverse_append, List.take_append_drop, List.reverse_reverse]
    · simpa using hlen
    · exact hlt.trans_le (leastBand_le .good (List.mem_reverse.mp hmv))

/-! ### The senses of a station that runs no ERASE (R182 to R184) -/

section
variable {s : State}

theorem attachAfter_false (sense : Nat) : attachAfter false sense = decide (4400 ≤ sense) := rfl

theorem attachAfter_true (sense : Nat) : attachAfter true sense = decide (4200 ≤ sense) := rfl

/-- The station once its attach sense is back: the attach window stops (R103). -/
def State.reattached (s : State) : State :=
  (s.setSupervisor { s.supervisor with attached := true }).setPhaseCtl { s.phaseCtl with attachWindow := none }

/-- The attach, and then ERASE looks at the cell (R103, R129). -/
theorem exec_attach (h : s.awake = true) (ha : s.supervisor.attached = false) {sense : Nat} (hs : 4400 ≤ sense) :
    exec (.attach sense) s = .next s.reattached.eraseAdvance.payRoll := by
  have hnow : s.attachNow = s.reattached.eraseAdvance := rfl
  simp [hnow, exec, execAttach, State.whileAwake_of_awake h, ha, attachAfter_false, hs]

theorem exec_attach_keeps (h : s.awake = true) {sense : Nat} (hs : s.supervisor.attached = true ∨ sense < 4400) :
    exec (.attach sense) s = .next s.payRoll := by
  rcases hs with hs | hs
  · simp [exec, execAttach, State.whileAwake_of_awake h, hs]
  · simp [exec, execAttach, State.whileAwake_of_awake h, attachAfter_false, Nat.not_le.mpr hs]

/-- Outside UNLOCKED and VERIFYING a detach has no phase to end (R102). -/
theorem exec_detach_elsewhere (h : s.awake = true) (ha : s.supervisor.attached = true) {sense : Nat} (hs : sense < 4200)
    (hb : s.supervisor.band ≠ .cutoff) (hu : s.phase ≠ .unlocked) (hv : s.phase ≠ .verifying) (landed : Bool) :
    exec (.detach landed sense) s = .next s.detached.eraseAdvance.payRoll := by
  rw [State.exec_detach h ha hs hb landed, State.lockDown_elsewhere (s := s.detached) hu hv]

theorem exec_detach_keeps (h : s.awake = true) {sense : Nat} (hs : s.supervisor.attached = false ∨ 4200 ≤ sense)
    (landed : Bool) : exec (.detach landed sense) s = .next s.payRoll := by
  rcases hs with hs | hs
  · simp [exec, execDetach, State.whileAwake_of_awake h, hs]
  · simp [exec, execDetach, State.whileAwake_of_awake h, attachAfter_true, hs]

/-- The station with another cell band (R184). -/
def State.banded (s : State) (b : Band) : State := s.setSupervisor { s.supervisor with band := b }

/-- A band that keeps the supply valid is taken; then ERASE looks at the cell (R129, R184, R185). -/
theorem exec_cellBandChange (h : s.awake = true) {samples : List Nat}
    (hm : bandAfter s.supervisor.band samples ≠ s.supervisor.band)
    (hc : bandAfter s.supervisor.band samples ≠ .cutoff ∨ s.supervisor.attached = true) (landed : Bool) :
    exec (.cellBandChange samples landed) s
      = .next (s.banded (bandAfter s.supervisor.band samples)).eraseAdvance.payRoll := by
  have hsupply : ¬ (bandAfter s.supervisor.band samples = .cutoff ∧ s.supervisor.attached = false) := by
    rintro ⟨hcut, hoff⟩
    rcases hc with hc | hc
    · exact hc hcut
    · simp [hoff] at hc
  simp [exec, execCellBandChange, h, hm, State.takeBand, hsupply, State.done, State.banded]

/-! ### A running ERASE (R124, R127, R129, R151) -/

/-- ERASE has something to wait for or to do: a step in flight, or blocks left on a channel without a fault. -/
def State.eraseGoesOn (s : State) : Prop :=
  s.gate.stepInFlight = true ∨ (s.purge.nextBlock < s.blocks ∧ s.gate.channelFault = false)

/-- The next step, once ERASE is not suspended. -/
def State.stepNext (s : State) : State := if s.mayErase = true then s.issueErase else s

theorem State.eraseCellOk_iff (s : State) :
    s.eraseCellOk = true ↔ s.supervisor.attached = true ∨ s.supervisor.band = .good ∨ s.supervisor.band = .low := by
  simp [State.eraseCellOk, or_assoc]

theorem State.mayErase_iff (s : State) :
    s.mayErase = true ↔ s.purge.suspended = false ∧ s.gate.op = none ∧ s.gate.holder = .guard
      ∧ s.gate.handOver = .steady ∧ s.gate.periodicDue = false := by
  simp [State.mayErase, and_assoc]

/-- No step follows a step in flight. -/
theorem State.mayErase_of_stepInFlight (h : s.gate.stepInFlight = true) : s.mayErase = false := by
  refine Bool.eq_false_iff.mpr fun hmay => ?_
  obtain ⟨_, hop, _⟩ := s.mayErase_iff.mp hmay
  simp [Gate.stepInFlight, hop] at h

theorem State.suspendOrResume_resumes (h : s.eraseCellOk = true) :
    s.suspendOrResume = s.setPurge { s.purge with suspended := false } := by
  simp [State.suspendOrResume, h]

theorem State.suspendOrResume_stays (h : s.eraseCellOk = false) (hs : s.purge.suspended = true) :
    s.suspendOrResume = s := by
  simp [State.suspendOrResume, h, hs]

theorem State.suspendOrResume_suspends (h : s.eraseCellOk = false) (hs : s.purge.suspended = false) :
    s.suspendOrResume = (s.setPurge { s.purge with suspended := true }).checkpoint := by
  simp [State.suspendOrResume, h, hs]

theorem State.suspendOrResume_gate (s : State) : s.suspendOrResume.gate = s.gate := by
  unfold State.suspendOrResume State.checkpoint
  (repeat' split) <;> simp

theorem State.eraseAdvance_of_goesOn (he : s.erasing = true) (h : s.eraseGoesOn) :
    s.eraseAdvance = s.suspendOrResume.stepNext := by
  by_cases hstep : s.gate.stepInFlight = true
  · have hmay : s.suspendOrResume.mayErase = false :=
      State.mayErase_of_stepInFlight (by rw [State.suspendOrResume_gate, hstep])
    simp [State.eraseAdvance, he, hstep, State.stepNext, hmay]
  · obtain ⟨hblocks, hfault⟩ := h.resolve_left hstep
    simp [State.eraseAdvance, he, hstep, Nat.not_le.mpr hblocks, hfault, State.stepNext]

/-- A suspended ERASE makes no step. -/
theorem State.stepNext_suspended (h : s.purge.suspended = true) : s.stepNext = s := by
  refine if_neg fun hmay => ?_
  obtain ⟨hs, _⟩ := s.mayErase_iff.mp hmay
  simp [h] at hs

/-- What the checkpoint of a suspension leaves: the next block in the journal, its write noted, the gate as it was (R127, R129). -/
theorem State.checkpoint_suspends (s : State) :
    let t := (s.setPurge { s.purge with suspended := true }).checkpoint
    t.purge.suspended = true ∧ t.purge.journal = { s.purge.journal with nextBlock := s.purge.nextBlock }
      ∧ t.purge.nextBlock = s.purge.nextBlock ∧ (.journal ∈ t.purge.writes.changed ∨ t.purge.writes.rechanged = true)
      ∧ t.gate = s.gate :=
  ⟨by simp [State.checkpoint], by simp [State.checkpoint], by simp [State.checkpoint], State.noteWrite_purge_noted _ _,
    by simp [State.checkpoint]⟩

/-- A running ERASE follows the cell condition as it stands. -/
theorem State.eraseAdvance_eraseFollows (he : s.erasing = true) (h : s.eraseGoesOn) :
    s.eraseFollows s.eraseAdvance (s.eraseCellOk = true) := by
  rw [State.eraseAdvance_of_goesOn he h]
  refine ⟨fun hcell hs => ?suspends, fun hcell hs => ?stays, fun hcell => ?resumes⟩
  case suspends =>
    have hleft := s.checkpoint_suspends
    rw [State.suspendOrResume_suspends (by simpa using hcell) hs, State.stepNext_suspended hleft.1]
    exact hleft
  case stays =>
    rw [State.suspendOrResume_stays (by simpa using hcell) hs, State.stepNext_suspended hs]
    exact ⟨rfl, rfl⟩
  case resumes =>
    rw [State.suspendOrResume_resumes hcell]
    have hmay := (s.setPurge { s.purge with suspended := false }).mayErase_iff
    refine ⟨?_, fun hbusy => ?_, fun hfree => ?_⟩
    · unfold State.stepNext State.issueErase
      split <;> rfl
    · rw [State.stepNext, if_neg fun hm => hbusy (hmay.mp hm).2]
      rfl
    · rw [State.stepNext, if_pos (hmay.mpr ⟨rfl, hfree⟩)]
      rfl

/-- The same at the end of an event; what the senses read and the phase stay. -/
theorem State.eraseAdvance_payRoll_follows {cellOk : Prop} (he : s.erasing = true) (h : s.eraseGoesOn)
    (hcell : s.eraseCellOk = true ↔ cellOk) :
    s.eraseFollows s.eraseAdvance.payRoll cellOk ∧ s.eraseAdvance.payRoll.supervisor = s.supervisor
      ∧ s.eraseAdvance.payRoll.phase = s.phase := by
  have hfollows := State.eraseAdvance_eraseFollows he h
  rw [propext hcell] at hfollows
  exact ⟨by simpa [State.eraseFollows] using hfollows, by simp, by simp⟩

end

/-- Settles O54: without an ERASE the sense alone moves; the bands and the moves of the band by themselves; a running ERASE then looks at the cell. -/
theorem sensesAreTaken : Obligations.SensesAreTaken := by
  refine ⟨fun s sense landed hawake he => ?senses, fun mv => ?bands, fun band before => ?moves,
    fun band samples => bandAfter_moved, fun s sense landed hawake he hgoes => ?erase⟩
  case bands =>
    obtain ⟨hgood, hlow, hfloor⟩ := bandOf_bounds mv
    exact ⟨hgood, hlow, hfloor, bandOf_eq_cutoff mv⟩
  case moves =>
    refine ⟨fun a b c ha hb hc => bandAfter_falls before ha hb hc, fun second hlen h => ?_⟩
    rw [bandAfter_rises before hlen h]
    obtain ⟨mv, hmv, hleast⟩ := leastBand_good_mem (samples := second.reverse) (by simp [hlen])
    exact ⟨⟨mv, List.mem_reverse.mp hmv, hleast⟩, fun mv hmv => leastBand_le .good (List.mem_reverse.mpr hmv)⟩
  case senses =>
    refine ⟨fun ha hs => ?_, exec_attach_keeps hawake, fun ha hs hb hu hv => ?_,
      fun hs => exec_detach_keeps hawake hs landed, fun samples hm hc => ?_⟩
    · rw [exec_attach hawake ha hs, State.eraseAdvance_of_not_erasing (s := s.reattached) he]
      rfl
    · rw [exec_detach_elsewhere hawake ha hs hb hu hv, State.eraseAdvance_of_not_erasing (s := s.detached) he]
      rfl
    · have hstays := State.eraseAdvance_of_not_erasing (s := s.banded (bandAfter s.supervisor.band samples)) he
      rw [exec_cellBandChange hawake hm hc, hstays]
      rfl
  case erase =>
    refine ⟨fun ha hs => ⟨_, exec_attach hawake ha hs, ?_⟩,
      fun ha hs hb hu hv => ⟨_, exec_detach_elsewhere hawake ha hs hb hu hv landed, ?_⟩,
      fun samples hm hc => ⟨_, exec_cellBandChange hawake hm hc landed, ?_⟩⟩
    · exact State.eraseAdvance_payRoll_follows (s := s.reattached) he hgoes
        ((State.eraseCellOk_iff _).trans (by simp [State.reattached]))
    · exact State.eraseAdvance_payRoll_follows (s := s.detached) he hgoes
        ((State.eraseCellOk_iff _).trans (by simp [State.detached]))
    · exact State.eraseAdvance_payRoll_follows (s := s.banded (bandAfter s.supervisor.band samples)) he hgoes
        (State.eraseCellOk_iff _)

end Sys2Proof.Machine
end

section
/-! PROOFS. The tables of purge and gate (R114, R123, R129, R130, R132, R135, R140, R143, R198). -/

namespace Sys2Proof.Machine

section
variable {s : State}

/-! ### Progress of a purge (R135) -/

theorem State.progress_closed (h : s.purge.journal.isOpen = false) :
    s.progressStage = none ∧ s.progressPercent = 100 := by
  simp [State.progressStage, State.progressPercent, h]

theorem State.progressStage_open (h : s.purge.journal.isOpen = true) : s.progressStage = s.purge.journal.stage := by
  simp [State.progressStage, h]

/-- The percentage that an OPEN journal shows by its stage. -/
theorem State.progressPercent_open (h : s.purge.journal.isOpen = true) :
    (s.purge.journal.stage = some .destroy → s.progressPercent = 0)
      ∧ (s.purge.journal.stage = some .erase → s.progressPercent = s.purge.nextBlock * 100 / s.blocks)
      ∧ (s.purge.journal.stage = some .rekey ∨ s.purge.journal.stage = some .close → s.progressPercent = 100) := by
  refine ⟨fun hst => ?_, fun hst => ?_, ?_⟩
  · simp [State.progressPercent, h, hst]
  · simp [State.progressPercent, h, hst]
  · rintro (hst | hst) <;> simp [State.progressPercent, h, hst]

/-! ### The suspended flag (R114, R129, R130) -/

/-- After a look at the cell the flag stands as the cell condition has it. -/
theorem State.suspendOrResume_suspended (s : State) : s.suspendOrResume.purge.suspended = !s.eraseCellOk := by
  cases hcell : s.eraseCellOk with
  | true => simp [State.suspendOrResume_resumes hcell]
  | false =>
    cases hs : s.purge.suspended with
    | true => simp [State.suspendOrResume_stays hcell hs, hs]
    | false => simp [State.suspendOrResume_suspends hcell hs]

theorem State.endErase_suspended (s : State) (early : Bool) : (s.endErase early).purge.suspended = false := by
  simp [State.endErase]

theorem State.openPurge_suspended (s : State) (cause : PurgeCause) (target : Nat) :
    (s.openPurge cause target).purge.suspended = false := by
  simp [State.openPurge_eq, State.beginOffers, State.journalOpened]

end

/-! ### The owner (Table 7-2) -/

/-- With a CLOSED journal and roles in force the fault alone decides (Table 7-2, third and fourth row). -/
theorem ownerFor_running {p : Phase} (hh : p ≠ .halted) (hu : p ≠ .uncommissioned) (fault : Bool) :
    ownerFor p false fault = if fault = true then .none else .controller := by
  simp [ownerFor, hh, hu]

/-! ### The pass rule (R143) -/

theorem mem_rangeNumbers (i : RangeNo) : i ∈ rangeNumbers := by
  revert i
  decide

theorem RangeEntry.covers_iff (e : RangeEntry) (block : Nat) :
    e.covers block = true ↔ e.enabled = true ∧ e.base ≤ block ∧ block ≤ e.limit := by
  simp [RangeEntry.covers, and_assoc]

/-- What is visible under a grant: the entries and classes of Table 7-3. -/
def Grant.Sees (g : Grant) (e : RangeEntry) (c : CommandClass) : Prop :=
  match g with
  | .none => False
  | .pub => e.visibility = .pub ∧ c = .read
  | .user _ readOnly => e.visibility ≠ .admin ∧ (readOnly = true → c = .read)
  | .admin _ readOnly => readOnly = true → c = .read

theorem Grant.admits_iff (g : Grant) (e : RangeEntry) (c : CommandClass) :
    g.admits e.visibility c = true ↔ g.Sees e c := by
  have hwrites (readOnly : Bool) : (c = .read ∨ readOnly = false) ↔ (readOnly = true → c = .read) := by
    cases readOnly <;> simp
  cases g <;> simp [Grant.admits, Grant.Sees, hwrites]

theorem Gate.admits_iff (g : Gate) (c : CommandClass) (block : Nat) :
    g.admits c block = true ↔ ∃ i : RangeNo,
      (g.ranges[i].enabled = true ∧ g.ranges[i].base ≤ block ∧ block ≤ g.ranges[i].limit)
        ∧ g.ranges[i].permits c = true ∧ g.grant.Sees g.ranges[i] c := by
  simp only [Gate.admits, List.any_eq_true, Bool.and_eq_true, mem_rangeNumbers, true_and, RangeEntry.covers_iff,
    Grant.admits_iff, and_assoc]

/-- Settles O42: progress by the journal's stage, the orders of writes as they are defined, the rows of Table 7-2 and the pass rule by grant. -/
theorem purgeAndGateTables : Obligations.PurgeAndGateTables := by
  refine ⟨fun s => ?progress, ⟨rfl, rfl, rfl⟩, fun p journalOpen fault => ?owner, fun g block => ?admits⟩
  case progress =>
    refine ⟨State.progress_closed, State.progressStage_open, fun ho => (State.progressPercent_open ho).1,
      fun ho => (State.progressPercent_open ho).2.1, fun ho => (State.progressPercent_open ho).2.2, ?_, rfl, ?_,
      s.suspendOrResume_suspended, s.endErase_suspended, s.openPurge_suspended⟩
    · rw [← bit_mul]
      rfl
    · have hsuspended : bit s.purge.suspended = if s.purge.suspended = true then 1 else 0 := rfl
      rw [← hsuspended, ← bit_mul, ← bit_mul]
      rfl
  case owner =>
    refine ⟨fun ho => by rw [ho, ownerFor_open], fun hc hp => by rw [hc, ownerFor_stopped p fault hp],
      fun hc hh hu hf => ?_, fun hc hh hu hf => ?_⟩
    · rw [hc, ownerFor_running hh hu, if_pos hf]
    · rw [hc, ownerFor_running hh hu, hf]
      rfl
  case admits =>
    exact ⟨g.admits_iff .read block, g.admits_iff .program block, g.admits_iff .erase block⟩

end Sys2Proof.Machine
end

section
/-! PROOFS. The purge engine's writes (R74, R112, R206), and the target that is raised (R116, R117, R120). -/

namespace Sys2Proof.Machine

section
variable {s t u : State} {rec : RecordId} {target : Nat}

/-! ### The writes of the engine -/

/-- The station with another set of writes of the engine. -/
def State.withWrites (s : State) (v : WriteSet) : State := s.setPurge { s.purge with writes := v }

/-- What a record holds does not depend on the engine's set of writes. -/
theorem State.heldContents_withWrites (s : State) (v : WriteSet) (rec : RecordId) :
    (s.withWrites v).heldContents rec = s.heldContents rec := by
  cases rec <;> rfl

/-- An engine with nothing to write requests its write, and no more. -/
theorem State.noteWrite_purge_first (hc : s.purge.writes.changed = [])
    (hw : ∀ w, s.store.inFlight = some w → w.requester ≠ .purge) :
    s.noteWrite .purge rec = (s.withWrites ⟨[rec], s.purge.writes.rechanged⟩).request .purge rec := by
  have hnone : s.writeOf .purge = none := by
    unfold State.writeOf
    split
    · next w h => rw [if_neg (hw w h)]
    · rfl
  have hnone' : (s.withWrites ⟨[rec], s.purge.writes.rechanged⟩).writeOf .purge = none := hnone
  simp only [State.withWrites] at hnone' ⊢
  simp [State.noteWrite, State.kickWrites, hnone, State.writeSet, hc, State.setWriteSet, hnone']

/-- An idle store takes the engine's write at once. -/
theorem State.noteWrite_purge_granted (hc : s.purge.writes.changed = []) (hq : s.store.requests.purge = none)
    (hi : s.store.inFlight = none) (hd : s.store.deciding = false) :
    (s.noteWrite .purge rec).store.inFlight = some ⟨.purge, s.heldContents rec, s.store.grants + 1⟩ := by
  rw [State.noteWrite_purge_first hc (by simp [hi]), State.request_idle (s.withWrites ⟨[rec], s.purge.writes.rechanged⟩) .purge rec hq hi hd,
    State.grantWrite, State.heldContents_withWrites]
  rfl

/-- A record of the engine is to be written: it stands in its set, or joins it again when its write completes (R74, R112). -/
abbrev State.notes (s : State) (rec : RecordId) : Prop := rec ∈ s.purge.writes.changed ∨ s.purge.writes.rechanged = true

/-- No further write drops a record that is to be written. -/
theorem State.notes.noteWrite (h : s.notes rec) (hu : u.purge.writes = s.purge.writes) (other : RecordId) :
    (u.noteWrite .purge other).notes rec := by
  rw [State.notes, ← hu] at h
  unfold State.noteWrite State.notes
  dsimp only
  simp only [State.kickWrites_frame]
  (repeat' split) <;> rcases h with h | h <;> simp_all [State.setWriteSet, State.writeSet]

/-! ### A target raised (R116, R117, R120) -/

/-- The station with the target of its journal raised and offered, its CLOSE not yet begun again. -/
def State.targetRaised (s : State) (target : Nat) : State :=
  ((s.setPurge { s.purge with journal := { s.purge.journal with target := some target } }).noteWrite
    .purge .journal).beginOffers.offerPurge

@[simp] theorem State.targetRaised_frame (s : State) (target : Nat) :
    (s.targetRaised target).clock = s.clock ∧ (s.targetRaised target).roster = s.roster
    ∧ (s.targetRaised target).verifier = s.verifier ∧ (s.targetRaised target).slotTable = s.slotTable
    ∧ (s.targetRaised target).phaseCtl = s.phaseCtl ∧ (s.targetRaised target).keyPort = s.keyPort
    ∧ (s.targetRaised target).purge.journal = { s.purge.journal with target := some target }
    ∧ (s.targetRaised target).purge.heard = Vector.replicate 8 false ∧ (s.targetRaised target).purge.reoffered = 0
    ∧ (s.targetRaised target).purge.plan = s.purge.plan ∧ (s.targetRaised target).purge.begun = s.purge.begun
    ∧ (s.targetRaised target).purge.waits = s.purge.waits
    ∧ (s.targetRaised target).gate = s.gate ∧ (s.targetRaised target).setup = s.setup
    ∧ (s.targetRaised target).store.stored = s.store.stored := by
  simp [State.targetRaised, State.beginOffers]

theorem State.targetRaised_notes (s : State) (target : Nat) : (s.targetRaised target).notes .journal := by
  have hnoted := State.noteWrite_purge_noted
    (s.setPurge { s.purge with journal := { s.purge.journal with target := some target } }) .journal
  simpa [State.notes, State.targetRaised, State.beginOffers] using hnoted

theorem State.targetRaised_reoffer (s : State) (target : Nat) :
    (s.targetRaised target).purge.reoffer = if s.others = [] then none else some (s.clock + 2000000) := by
  have hothers : ((s.setPurge { s.purge with journal := { s.purge.journal with target := some target } }).noteWrite
      .purge .journal).others = s.others := State.others_congr (by simp) (by simp)
  simp [State.targetRaised, State.beginOffers, hothers, announcePeriod, seconds]

theorem State.targetRaised_offers {cause : PurgeCause} (hcause : s.purge.journal.cause = some cause)
    (ho : s.ownOutstanding .purge = false) (hl : s.line.tx.length < 4) :
    ∃ f ∈ (s.targetRaised target).line.tx, f.kind = .purge ∧ f.payload = byte cause.code :: bytes2 target := by
  have hmem := State.offerPurge_offers
    (s := ((s.setPurge { s.purge with journal := { s.purge.journal with target := some target } }).noteWrite
      .purge .journal).beginOffers)
    (by simpa [State.ownOutstanding, State.beginOffers] using ho) (by simpa [State.beginOffers] using hl)
  refine ⟨_, hmem, rfl, ?_⟩
  simp [State.formFrame, State.purgePayload, State.beginOffers, hcause]

/-- The close, begun: attempt record, hold and range table as the new epoch has them, and the first of its writes noted (R120, R132). -/
theorem State.beginClose_eq (s : State) :
    s.beginClose
      = (((s.setVerifier { s.verifier with held := ⟨s.purge.journal.target.getD 0, 0, 0⟩, hold := none }).setGate
          { s.gate with ranges := defaultRanges s.blocks, waits := [] }).setPurge
          { s.purge with plan := closePlan, begun := true }).noteWrite .purge .attempt := rfl

theorem State.notes.beginClose (h : s.notes rec) : s.beginClose.notes rec := by
  rw [State.beginClose_eq]
  refine h.noteWrite ?_ _
  rfl

theorem State.raiseTarget_same (h : target ≤ s.purge.journal.target.getD 0) : s.raiseTarget target = s := if_pos h

/-- During the close the largest target waits for the next purge (log entry 55). -/
theorem State.raiseTarget_pends (h : s.purge.journal.target.getD 0 < target) (hc : s.purge.closing = true) :
    s.raiseTarget target
      = s.setPurge { s.purge with pendingTarget := some (max target (s.purge.pendingTarget.getD 0)) } := by
  rw [State.raiseTarget, if_neg (Nat.not_le.mpr h), if_pos hc]

theorem State.raiseTarget_raises (h : s.purge.journal.target.getD 0 < target) (hc : s.purge.closing = false) :
    s.raiseTarget target
      = if s.purge.journal.stage = some .close ∧ s.purge.begun = true then (s.targetRaised target).beginClose
        else s.targetRaised target := by
  have hstage : (s.targetRaised target).purge.journal.stage = s.purge.journal.stage := by simp
  have hbegun : (s.targetRaised target).purge.begun = s.purge.begun := by simp
  rw [State.raiseTarget, if_neg (Nat.not_le.mpr h), if_neg (by simp [hc]), ← hstage, ← hbegun]
  simp [State.targetRaised]

/-- A target above the journal's, outside the close: journal, offers and a CLOSE begun again (R116, R117, R120). -/
theorem State.raiseTarget_raisedTo (h : s.purge.journal.target.getD 0 < target) (hc : s.purge.closing = false) :
    s.raisedTo (s.raiseTarget target) target := by
  rw [State.raiseTarget_raises h hc]
  have hoffers := fun cause hcause ho hl => State.targetRaised_offers (s := s) (target := target) (cause := cause) hcause ho hl
  split
  · next hclose =>
    refine ⟨by simp, by simp, by simp [State.beginClose_eq], by simpa using s.targetRaised_reoffer target,
      (s.targetRaised_notes target).beginClose, fun _ _ => ?_, fun hno => absurd hclose hno,
      by simpa using hoffers, by simp, by simp, by simp, by simp⟩
    simp [State.beginClose_eq]
  · next hno =>
    exact ⟨by simp, by simp, by simp, s.targetRaised_reoffer target, s.targetRaised_notes target,
      fun hstage hbegun => absurd ⟨hstage, hbegun⟩ hno, fun _ => by simp, hoffers, by simp, by simp, by simp, by simp⟩

/-- What follows a raise and touches neither engine, gate nor verifier, and takes no frame from the queue, leaves it raised. -/
theorem State.raisedTo.later (h : s.raisedTo t target) (hpurge : u.purge.journal = t.purge.journal
      ∧ u.purge.heard = t.purge.heard ∧ u.purge.reoffered = t.purge.reoffered ∧ u.purge.reoffer = t.purge.reoffer
      ∧ u.purge.writes = t.purge.writes ∧ u.purge.plan = t.purge.plan)
    (hverifier : u.verifier = t.verifier) (hgate : u.gate = t.gate) (hphase : u.phaseCtl = t.phaseCtl)
    (hslots : u.slotTable = t.slotTable) (hkey : u.keyPort = t.keyPort) (hstore : u.store = t.store)
    (htx : ∀ g ∈ t.line.tx, g ∈ u.line.tx) : s.raisedTo u target := by
  obtain ⟨hjournal, hheard, hreoffered, hreoffer, hwrites, hplan⟩ := hpurge
  obtain ⟨h1, h2, h3, h4, h5, h6, h7, h8, h9, h10, h11, h12⟩ := h
  refine ⟨hjournal.trans h1, hheard.trans h2, hreoffered.trans h3, hreoffer.trans h4, by rw [hwrites]; exact h5,
    by rw [hverifier, hplan]; exact h6, by rw [hverifier, hplan, hgate]; exact h7, fun cause hcause ho hl => ?_,
    hphase.trans h9, by rw [hslots, h10], hkey.trans h11, by rw [hstore, h12]⟩
  obtain ⟨f, hf, hrest⟩ := h8 cause hcause ho hl
  exact ⟨f, htx f hf, hrest⟩

theorem State.raisedTo.payRoll (h : s.raisedTo t target) : s.raisedTo t.payRoll target :=
  h.later (by simp) (by simp) (by simp) (by simp) (by simp) (by simp) (by simp) fun _ => State.mem_payRoll

end

end Sys2Proof.Machine
end

section
/-! PROOFS. PURGE of a member (R112 to R118, R120). -/

namespace Sys2Proof.Machine

section
variable {s t b : State} {f : RxFrame} {rest : List RxFrame} {cause : PurgeCause} {target : Nat} {n : StationNo}

/-! ### PURGE, by its cause and the phase -/

theorem exec_purge (h : s.isFront f rest) (hk : f.kind = .purge) (hr : s.roleOf f.sender ≠ .controller) :
    exec .purge s = .next ((s.taken rest).handlePurge f).payRoll := by
  refine State.frameRow_front h ?_ _
  simp [hk, hr]

theorem State.asleepToRequests_eq_false (hu : s.phase ≠ .uncommissioned) (hh : s.phase ≠ .halted) :
    s.asleepToRequests = false := by
  simp [State.asleepToRequests, hu, hh]

/-- A PURGE that counts is heard, and its target taken (R117, R118). -/
theorem State.handlePurge_takes (hcause : PurgeCause.ofCode (u8 f.payload 0) = some cause) (hu : b.phase ≠ .uncommissioned)
    (hh : b.phase ≠ .halted) :
    b.handlePurge f
      = (b.hear f.sender (u16 f.payload 1)).takeTarget (b.causeOf f.sender cause) (u16 f.payload 1) := by
  simp [State.handlePurge, hcause, State.asleepToRequests_eq_false hu hh]

theorem State.handlePurge_ignores (h : b.phase = .halted ∨ PurgeCause.ofCode (u8 f.payload 0) = none) :
    b.handlePurge f = b := by
  unfold State.handlePurge
  split
  · next hc =>
    have hp : b.phase = .halted := h.resolve_right (by simp [hc])
    rw [if_pos (by simp [State.asleepToRequests, hp])]
  · rfl

/-! ### The heard set (R117) -/

/-- A CLOSED journal hears nobody. -/
theorem State.hear_closed (h : b.purge.journal.isOpen = false) (n : StationNo) (epoch : Nat) : b.hear n epoch = b := by
  simp [State.hear, h]

theorem State.hear_below {epoch : Nat} (h : epoch < b.purge.journal.target.getD 0) (n : StationNo) : b.hear n epoch = b := by
  simp [State.hear, Nat.not_le.mpr h]

/-- A report changes heard set and re-offers, and no more. -/
theorem State.hear_eq (b : State) (n : StationNo) (epoch : Nat) :
    ∃ heard reoffer, b.hear n epoch = b.setPurge { b.purge with heard := heard, reoffer := reoffer } := by
  unfold State.hear
  dsimp only
  (repeat' split)
  · exact ⟨_, _, rfl⟩
  · exact ⟨_, _, rfl⟩
  · exact ⟨b.purge.heard, b.purge.reoffer, rfl⟩

/-- Another member at or above the journal's target joins the heard set. -/
theorem State.hear_joins {epoch : Nat} (ho : b.purge.journal.isOpen = true) (he : b.purge.journal.target.getD 0 ≤ epoch)
    (hne : n ≠ b.sn) (hm : b.isMember n = true) : (b.hear n epoch).purge.heard = b.purge.heard.set n true := by
  have hcond : (b.purge.journal.isOpen && decide (b.purge.journal.target.getD 0 ≤ epoch) && decide (n ≠ b.sn)
      && b.isMember n) = true := by
    simp [ho, he, hm]
    exact hne
  rw [State.hear, if_pos hcond]
  dsimp only
  split <;> rfl

/-! ### The opening (R112 to R118) -/

theorem State.takeTarget_opens (hc : b.purge.journal.isOpen = false) (hless : b.epoch < target) :
    b.takeTarget cause target = b.openPurge cause target := by
  rw [State.takeTarget, hc, if_neg (by simp), if_pos hless]

theorem State.takeTarget_ignores (hc : b.purge.journal.isOpen = false) (hle : target ≤ b.epoch) :
    b.takeTarget cause target = b := by
  rw [State.takeTarget, hc, if_neg (by simp), if_neg (Nat.not_lt.mpr hle)]

theorem State.takeTarget_open (ho : b.purge.journal.isOpen = true) : b.takeTarget cause target = b.raiseTarget target :=
  if_pos ho

/-- A phase other than VERIFYING is left without a request to the store. -/
theorem State.leavePhase_store (hv : s.phase ≠ .verifying) : s.leavePhase.store = s.store := by
  unfold State.leavePhase
  split
  · rfl
  · next h => exact absurd h hv
  all_goals rfl

/-- Out of another phase than VERIFYING an idle store takes the opened journal at once (R112, R206). -/
theorem State.openPurge_granted (hv : s.phase ≠ .verifying) (hi : s.store.inFlight = none) (hd : s.store.deciding = false)
    (hq : s.store.requests.purge = none) (hc : s.purge.writes.changed = []) :
    (s.openPurge cause target).store.inFlight
      = some ⟨.purge, .journal ⟨true, some target, some cause, some .destroy, 0, false, false⟩, s.store.grants + 1⟩ := by
  have hstore := State.leavePhase_store hv
  rw [State.openPurge_store, State.journalOpened, State.noteWrite_purge_granted (by simpa using hc)
    (by simpa [hstore] using hq) (by simpa [hstore] using hi) (by simpa using hd)]
  simp [hstore, State.heldContents, State.journalAsWritten, Journal.opened]

/-- What an opening makes of the engine's own counters. -/
theorem State.openPurge_restarts (s : State) (cause : PurgeCause) (target : Nat) :
    (s.openPurge cause target).purge.nextBlock = 0 ∧ (s.openPurge cause target).purge.begun = false
      ∧ (s.openPurge cause target).purge.pendingTarget = none := by
  simp [State.openPurge_eq, State.beginOffers, State.journalOpened]

/-- BLANK and UNLOCKED give up their key and their enrollment (R84, R87, R96). -/
theorem State.openPurge_givesUp (h : s.phase = .blank ∨ s.phase = .unlocked) (cause : PurgeCause) (target : Nat) :
    (s.openPurge cause target).slotTable.unlockedKey = none ∧ (s.openPurge cause target).slotTable.enrollment = none := by
  rw [(s.openPurge_left cause target).2.2]
  rcases h with h | h <;> simp [State.leavePhase, h]

/-- A purge leaves no attempt, and no key presented (R51, R109). -/
theorem State.openPurge_hidesKey (h : s.keyFenced) (cause : PurgeCause) (target : Nat) :
    (s.openPurge cause target).verifier.attempt = none ∧ (s.openPurge cause target).keyPort.state ≠ .presented := by
  have hfenced := State.openPurge_fenced ((State.fenced_iff s).mpr h) cause target
  refine ⟨?_, fun hpresented => ?_⟩
  · have hno : ¬ (s.openPurge cause target).verifier.attempt.isSome = true := by
      rw [hfenced.verifying]
      simp
    simpa using hno
  · have hphase := hfenced.unlocked (.inr (.inl hpresented))
    simp at hphase

theorem exec_purge_closed (h : s.isFront f rest) (hk : f.kind = .purge) (hr : s.roleOf f.sender ≠ .controller)
    (hcause : PurgeCause.ofCode (u8 f.payload 0) = some cause) (hu : s.phase ≠ .uncommissioned) (hh : s.phase ≠ .halted)
    (hc : s.purge.journal.isOpen = false) :
    (s.epoch < u16 f.payload 1 →
      exec .purge s = .next ((s.taken rest).openPurge (s.causeOf f.sender cause) (u16 f.payload 1)).payRoll)
    ∧ (u16 f.payload 1 ≤ s.epoch → exec .purge s = .next (s.taken rest).payRoll) := by
  rw [exec_purge h hk hr, State.handlePurge_takes (b := s.taken rest) hcause hu hh,
    State.hear_closed (b := s.taken rest) hc]
  exact ⟨fun hless => by rw [State.takeTarget_opens (b := s.taken rest) hc hless]; rfl,
    fun hle => by rw [State.takeTarget_ignores (b := s.taken rest) hc hle]⟩

/-! ### A target while the journal is OPEN (R117, R120) -/

theorem exec_purge_open (h : s.isFront f rest) (hk : f.kind = .purge) (hr : s.roleOf f.sender ≠ .controller)
    (hcause : PurgeCause.ofCode (u8 f.payload 0) = some cause) (hu : s.phase ≠ .uncommissioned) (hh : s.phase ≠ .halted)
    (ho : s.purge.journal.isOpen = true) :
    exec .purge s = .next (((s.taken rest).hear f.sender (u16 f.payload 1)).raiseTarget (u16 f.payload 1)).payRoll := by
  rw [exec_purge h hk hr, State.handlePurge_takes (b := s.taken rest) hcause hu hh,
    State.takeTarget_open (by simpa using ho)]

/-- The frame taken and its sender heard, the raise is that of the station before. -/
theorem State.raisedTo_of_taken {heard : Vector Bool 8} {reoffer : Option Micros} (hrx : s.line.rx = f :: rest)
    (h : ((s.taken rest).setPurge { s.purge with heard := heard, reoffer := reoffer }).raisedTo t target) :
    s.raisedTo t target := by
  obtain ⟨h1, h2, h3, h4, h5, h6, h7, h8, h9, h10, h11, h12⟩ := h
  exact ⟨h1, h2, h3, h4, h5, h6, h7,
    fun c hc ho hl => h8 c hc ((State.OpensFrom.taken (f := f) hrx).outstanding ho) hl, h9, h10, h11, h12⟩

theorem State.isMember_not_controller (h : s.isMember n = true) : s.roleOf n ≠ .controller := by
  intro hr
  simp [State.isMember, hr] at h

end

/-- Settles O38: with a CLOSED journal the opening, or nothing; with an OPEN one the raise, the pending target, or the heard set; in HALTED and without a named cause nothing. -/
theorem memberPurgeOpensThePurge : Obligations.MemberPurgeOpensThePurge := by
  refine ⟨fun s f rest cause hfront hk hr hcause hu hh hclosed => ?closed,
    fun s f rest cause held hfront hk hm hcause hu hh hopen htarget => ?raised, fun s f rest hfront hk hr hignored => ?ignored⟩
  case closed =>
    obtain ⟨hopens, hstays⟩ := exec_purge_closed hfront hk hr hcause hu hh hclosed
    have hcut : s.causeOf f.sender cause
        = if cause = .request ∧ s.roleOf f.sender = .keypadGuard ∧ s.phaseCtl.grant.isAdmin = true
          then PurgeCause.request else .epoch := rfl
    rw [hcut] at hopens
    have hepoch := (s.taken rest).openPurge_epoch
    refine ⟨fun hless => ⟨_, hopens hless, ((State.OpensFrom.taken hfront.2.1).openPurge _ _).payRoll,
      fun hv hi hd hq hc => ?granted, ?_⟩, hstays⟩
    case granted =>
      have hgranted := fun c n => State.openPurge_granted (s := s.taken rest) (cause := c) (target := n) hv hi hd hq hc
      simpa using hgranted _ _
    have hrestarts := (s.taken rest).openPurge_restarts
    refine ⟨by simpa using (hrestarts _ _).1, by simpa using (hrestarts _ _).2.1, by simpa using (hrestarts _ _).2.2,
      fun hp => ?_, by simpa using hepoch _ _, by simp, fun hfenced => ?_, by simp, by simp [State.keepsRecords]⟩
    · simpa using State.openPurge_givesUp (s := s.taken rest) hp _ _
    · simpa using State.openPurge_hidesKey (s := s.taken rest) hfenced _ _
  case raised =>
    have hexec := exec_purge_open hfront hk (State.isMember_not_controller hm) hcause hu hh hopen
    obtain ⟨heard, reoffer, hhear⟩ := (s.taken rest).hear_eq f.sender (u16 f.payload 1)
    have hheld : s.purge.journal.target.getD 0 = held := by simp [htarget]
    refine ⟨fun hless hnot => ⟨_, hexec, ?_⟩, fun hless hclosing => ⟨_, hexec, ?_⟩, fun heq hne => ⟨_, hexec, ?_⟩,
      fun hless => ?_⟩
    · rw [hhear]
      refine (State.raisedTo_of_taken hfront.2.1 (State.raiseTarget_raisedTo ?_ ?_)).payRoll
      · simpa [hheld] using hless
      · exact hnot
    · rw [State.raiseTarget_pends (by simpa [hheld] using hless) (by simpa using hclosing)]
      simp
    · rw [State.raiseTarget_same (by simp [hheld, heq])]
      have hjoins := State.hear_joins (b := s.taken rest) (n := f.sender) (epoch := u16 f.payload 1) hopen
        (by simp [hheld, heq]) (by simpa using hne) hm
      simp [hjoins]
    · rw [hexec, State.raiseTarget_same (by simp [hheld, hless.le]),
        State.hear_below (b := s.taken rest) (by simpa [hheld] using hless)]
  case ignored =>
    rw [exec_purge hfront hk hr, State.handlePurge_ignores (b := s.taken rest) hignored]

end Sys2Proof.Machine
end

section
/-! PROOFS. The stages of a purge as they begin, by the store's journal (R121, R123, R124, R131, R132), and the journal's answers (R119). -/

namespace Sys2Proof.Machine

section
variable {s t u : State} {c : Contents} {serial : Nat} {j : Journal} {w : PurgeReply}

/-! ### The stages as they begin -/

theorem State.beginDestroy_eq (s : State) :
    s.beginDestroy
      = ((s.setSlotTable
          { s.slotTable with slots := Vector.replicate 6 Slot.cleared, blankKey := none, waits := [] }).setPurge
          { s.purge with badBlocks := [], plan := destroyPlan, begun := true }).noteWrite .purge .badBlocks := rfl

theorem State.beginRekey_eq (s : State) :
    s.beginRekey
      = (((s.setSlotTable { s.slotTable with blankKey := some (Config.freeKey s.draws) }).setDraws (s.draws + 1)).setPurge
          { s.purge with plan := [.blankKey], begun := true }).noteWrite .purge .blankKey := rfl

/-- No stage owes a ROLL as it begins: TAMPERED is cleared in the middle of CLOSE (R132). -/
theorem State.beginStage_roster (s : State) : s.beginStage.roster = s.roster := by
  unfold State.beginStage
  split
  · simp [State.beginDestroy_eq]
  · simp [State.beginErase]
  · simp [State.beginRekey_eq]
  · simp [State.beginClose_eq]
  · rfl

/-! ### The completion of the engine's writes (R112, R206) -/

theorem exec_purgeWriteComplete (h : s.writing .purge c serial) :
    exec .purgeWriteComplete s = .next ((s.stores c).purgeStored ⟨.purge, c, serial⟩).arbitrate.payRoll := by
  change execPurgeWriteComplete s = _
  rw [execPurgeWriteComplete, State.whileAwake_of_awake h.1, State.writeOf_writing h]
  rfl

theorem State.purgeStored_journal (hp : s.phase = .purging) :
    s.purgeStored ⟨.purge, .journal j, serial⟩ = (s.closeWrite .purge .journal).journalStored j := by
  have hphase : (s.closeWrite .purge .journal).phase = .purging := by simpa using hp
  rw [State.purgeStored, Contents.record, if_pos hphase]
  rfl

/-- An OPEN journal stored: its answers, and perhaps the beginning of its stage (R119, R121). -/
theorem State.journalStored_open (hj : j.isOpen = true) :
    s.journalStored j = s.answerStored (j.target.getD 0)
      ∨ s.journalStored j = (s.answerStored (j.target.getD 0)).beginStage := by
  unfold State.journalStored
  dsimp only
  rw [if_neg (by simp [hj])]
  split
  · exact .inr rfl
  · exact .inl rfl

/-! ### The answers that wait for the journal (R119) -/

/-- A target that is stored is answered DONE. -/
theorem State.answerStored_answers (hw : s.purge.waits = [w]) {target : Nat} (h : w.target ≤ target) :
    s.answerStored target = (s.setPurge { s.purge with waits := [] }).answerPurge w.replyTo .done w.target := by
  simp [State.answerStored, hw, h, Nat.not_lt.mpr h]

/-- A higher target waits on. -/
theorem State.answerStored_waits (hw : s.purge.waits = [w]) {target : Nat} (h : target < w.target) :
    s.answerStored target = s := by
  have hsame : (s.setPurge { s.purge with waits := [w] }) = s := by rw [← hw]; rfl
  simp [State.answerStored, hw, h, Nat.not_le.mpr h, hsame]

end

end Sys2Proof.Machine
end

section
/-! PROOFS. PURGE of the controller, and the re-offers of an own PURGE (R112, R116, R117, R119, R120). -/

namespace Sys2Proof.Machine

section
variable {s t b : State} {f : RxFrame} {rest : List RxFrame} {due : Micros}

/-! ### The rows of Table 6-3 -/

theorem u16_lt (p : List Byte) (i : Nat) : u16 p i < 65536 := by
  have h1 := (byteAt p i).isLt
  have h2 := (byteAt p (i + 1)).isLt
  simp only [u16, u8]
  omega

theorem PurgeCause.ofCode_request (n : Nat) : PurgeCause.ofCode n = some .request ↔ n = 1 := by
  unfold PurgeCause.ofCode
  split <;> simp_all

theorem exec_controllerPurge (h : s.isFront f rest) (hk : f.kind = .purge) (hr : s.roleOf f.sender = .controller) :
    exec .controllerPurge s = .next ((s.taken rest).handleControllerPurge f).payRoll := by
  refine State.frameRow_front h ?_ _
  simp [hk, hr]

/-- The controller asks for a purge, and setup lets it (rows 1 and 2 of Table 6-3). -/
def State.grantsPurge (b : State) (f : RxFrame) : Prop := b.hostAdmin = true ∧ u8 f.payload 0 = 1

theorem State.handleControllerPurge_refuses (hu : b.phase ≠ .uncommissioned) (hh : b.phase ≠ .halted)
    (h : ¬ b.grantsPurge f) : b.handleControllerPurge f = b.answerPurge f.sender .refused (u16 f.payload 1) := by
  have hcode := PurgeCause.ofCode_request (u8 f.payload 0)
  simp only [State.handleControllerPurge, State.asleepToRequests_eq_false hu hh]
  cases ha : b.hostAdmin with
  | false => rfl
  | true =>
    have hno : PurgeCause.ofCode (u8 f.payload 0) ≠ some .request := fun hc => h ⟨ha, hcode.mp hc⟩
    simp [hno]

/-- Past its rights the journal decides (rows 3 to 6 of Table 6-3). -/
theorem State.handleControllerPurge_granted (hu : b.phase ≠ .uncommissioned) (hh : b.phase ≠ .halted)
    (h : b.grantsPurge f) :
    (b.purge.journal.isOpen = false → b.epoch = 65535 ∨ u16 f.payload 1 ≤ b.epoch →
      b.handleControllerPurge f = b.answerPurge f.sender .invalid (u16 f.payload 1))
    ∧ (b.purge.journal.isOpen = false → b.epoch < u16 f.payload 1 →
      b.handleControllerPurge f
        = (b.openPurge .request (u16 f.payload 1)).awaitPurge f.sender (u16 f.payload 1))
    ∧ (b.purge.journal.isOpen = true → b.purge.journal.target.getD 0 < u16 f.payload 1 →
      b.handleControllerPurge f = (b.raiseTarget (u16 f.payload 1)).awaitPurge f.sender (u16 f.payload 1))
    ∧ (b.purge.journal.isOpen = true → u16 f.payload 1 ≤ b.purge.journal.target.getD 0 →
      b.handleControllerPurge f = b) := by
  obtain ⟨ha, hone⟩ := h
  have hcause := (PurgeCause.ofCode_request _).mpr hone
  have hbound := u16_lt f.payload 1
  have hrights : b.handleControllerPurge f
      = if !b.purge.journal.isOpen then
          if b.epoch = 65535 ∨ u16 f.payload 1 ≤ b.epoch then b.answerPurge f.sender .invalid (u16 f.payload 1)
          else (b.openPurge .request (u16 f.payload 1)).awaitPurge f.sender (u16 f.payload 1)
        else if b.purge.journal.target.getD 0 < u16 f.payload 1 then
          (b.raiseTarget (u16 f.payload 1)).awaitPurge f.sender (u16 f.payload 1)
        else b := by
    rw [State.handleControllerPurge, if_neg (by simp [State.asleepToRequests_eq_false hu hh]), if_neg (by simp [ha]),
      if_neg (by simp [hcause])]
    rfl
  refine ⟨fun hc hinvalid => ?_, fun hc hless => ?_, fun ho hless => ?_, fun ho hle => ?_⟩
  · rw [hrights, if_pos (by simp [hc]), if_pos hinvalid]
  · rw [hrights, if_pos (by simp [hc]), if_neg (by omega)]
  · rw [hrights, if_neg (by simp [ho]), if_pos hless]
  · rw [hrights, if_neg (by simp [ho]), if_neg (Nat.not_lt.mpr hle)]

theorem State.awaitPurge_waits (b : State) (n : StationNo) (target : Nat) :
    (b.awaitPurge n target).purge.waits = b.purge.waits ++ [⟨n, target⟩] := rfl

theorem State.raisedTo.awaitPurge {target : Nat} (h : s.raisedTo t target) (n : StationNo) (waited : Nat) :
    s.raisedTo (t.awaitPurge n waited) target :=
  h.later ⟨rfl, rfl, rfl, rfl, rfl, rfl⟩ rfl rfl rfl rfl rfl rfl fun _ => id

/-! ### The write that stores the target (R119) -/

/-- The station as the journal's write is stored and closed. -/
def State.journalClosed (s : State) (j : Journal) : State := (s.stores (.journal j)).closeWrite .purge .journal

@[simp] theorem State.journalClosed_frame (s : State) (j : Journal) :
    (s.journalClosed j).line = s.line ∧ (s.journalClosed j).roster = s.roster
    ∧ (s.journalClosed j).phaseCtl = s.phaseCtl ∧ (s.journalClosed j).purge.waits = s.purge.waits
    ∧ (s.journalClosed j).store.stored = { s.store.stored with journal := j } := by
  simp [State.journalClosed, Stored.put]

theorem exec_journalWriteComplete {j : Journal} {serial : Nat} (h : s.writing .purge (.journal j) serial)
    (hp : s.phase = .purging) :
    exec .purgeWriteComplete s = .next ((s.journalClosed j).journalStored j).arbitrate.payRoll := by
  rw [exec_purgeWriteComplete h, State.purgeStored_journal (s := s.stores (.journal j)) hp]
  rfl

/-- What follows the answers of an OPEN journal moves neither phase nor line, and leaves the answers that wait. -/
theorem State.journalStored_answers {j : Journal} (hj : j.isOpen = true) :
    (s.journalStored j).phaseCtl = s.phaseCtl
      ∧ (s.journalStored j).line = (s.answerStored (j.target.getD 0)).line
      ∧ (s.journalStored j).roster = s.roster
      ∧ (s.journalStored j).purge.waits = (s.answerStored (j.target.getD 0)).purge.waits := by
  rcases State.journalStored_open (s := s) hj with h | h <;> rw [h]
  · simp
  · simp [State.beginStage_roster]

/-! ### The re-offers (R117) -/

/-- The station as a re-offer falls due: the run counted, and the next in 2 s until it has made 15. -/
def State.reofferDue (s : State) (due : Micros) : State :=
  (s.setClock (max s.clock due)).setPurge
    { s.purge with
      reoffer := if 15 ≤ s.purge.reoffered + 1 then none else some (due + 2000000)
      reoffered := s.purge.reoffered + 1 }

theorem exec_purgeReoffer (h : s.awake = true) (hr : s.purge.reoffer = some due) :
    exec .purgeReoffer s = .next (s.reofferDue due).offerPurge.payRoll := by
  change execPurgeReoffer s = _
  rw [execPurgeReoffer, State.whileAwake_of_awake h, hr]
  rfl

end

/-- Settles O39: the controller's PURGE by the rows of Table 6-3, its answer at the write of the journal, and the run of re-offers. -/
theorem controllerPurgeAndReoffers : Obligations.ControllerPurgeAndReoffers := by
  refine ⟨fun s f rest hfront hk hr hu hh => ?rows, fun s j serial stored w h hp hj ht hw => ?done,
    fun s due hawake hdue => ?reoffers⟩
  case rows =>
    intro target reply request
    have hexec := exec_controllerPurge hfront hk hr
    have hgranted := State.handleControllerPurge_granted (b := s.taken rest) (f := f) hu hh
    refine ⟨fun hno => ?_, fun hreq hclosed hinvalid => ?_, fun hreq hclosed hless => ⟨_, hexec, ?_⟩,
      fun hreq hopen hless hnot => ⟨_, hexec, ?_⟩, fun hreq hopen hless hclosing => ⟨_, hexec, ?_⟩,
      fun hreq hopen hle => ?_⟩
    · rw [hexec, State.handleControllerPurge_refuses (b := s.taken rest) hu hh hno]
      rfl
    all_goals obtain ⟨hinvalid', hopens, hraises, hignores⟩ := hgranted hreq
    · rw [hexec, hinvalid' hclosed hinvalid]
      rfl
    · rw [hopens hclosed hless]
      simp [State.awaitPurge_waits, Journal.opened, target]
    · have hraised := State.raiseTarget_raisedTo (s := s.taken rest) hless hnot
      rw [hraises hopen hless]
      exact ⟨((State.raisedTo_of_taken hfront.2.1 hraised).awaitPurge _ _).payRoll, by simp [State.awaitPurge_waits, target]⟩
    · rw [hraises hopen hless, State.raiseTarget_pends (s := s.taken rest) hless hclosing]
      simp [State.awaitPurge_waits, target]
    · rw [hexec, hignores hopen hle]
  case done =>
    obtain ⟨hphase, hline, hroster, hwaits⟩ := State.journalStored_answers (s := s.journalClosed j) hj
    have hw' : (s.journalClosed j).purge.waits = [w] := by simpa using hw
    have htarget : j.target.getD 0 = stored := by simp [ht]
    rw [htarget] at hline hwaits
    have hpaid (ho : s.roster.rollOwed = false) :
        ((s.journalClosed j).journalStored j).arbitrate.payRoll.line = ((s.journalClosed j).answerStored stored).line := by
      rw [State.arbitrate_payRoll_line (by simpa [hroster] using ho), hline]
    refine ⟨_, exec_journalWriteComplete h hp, by simp, by simp [hphase], fun hle => ?_, fun hless => ?_⟩
    · rw [State.answerStored_answers hw' hle] at hpaid hwaits
      refine ⟨by simpa using hwaits, fun ho => (hpaid ho).trans ?_⟩
      exact State.offer_line_congr (by simp) (by simp) _ _ _
    · rw [State.answerStored_waits hw' hless] at hpaid hwaits
      exact ⟨by simpa using hwaits.trans hw', fun ho => (hpaid ho).trans (by simp)⟩
  case reoffers =>
    intro late
    have hexec := exec_purgeReoffer hawake hdue
    refine ⟨fun ho => ?_, fun cause target ho hcause htarget => ?_⟩
    · have hyes : (s.reofferDue due).ownOutstanding .purge = true := ho
      rw [hexec, State.offerPurge, if_pos hyes]
      rfl
    · have hno : (s.reofferDue due).ownOutstanding .purge = false := ho
      rw [hexec, State.offerPurge, if_neg (by simp [hno])]
      simp [State.reofferDue, late, hcause, htarget]

end Sys2Proof.Machine
end

section
/-! PROOFS. The hand-over, the drain and the settle, and the channel fault that an expired drain may begin (R124, R128, R140, R147 to R154). -/

namespace Sys2Proof.Machine

section
variable {s t : State} {g cut : Gate} {due : Micros}

/-! ### Parts that do not look at the gate -/

theorem State.erasing_congr (h : t.purge = s.purge) : t.erasing = s.erasing := by
  simp [State.erasing, h]

theorem State.blocks_congr (h : t.setup = s.setup) : t.blocks = s.blocks := by
  simp [State.blocks, State.lockedSetup, h]

theorem State.ownOutstanding_congr (h : t.line = s.line) (k : Kind) : t.ownOutstanding k = s.ownOutstanding k := by
  simp [State.ownOutstanding, h]

/-! ### A change of owner (R140, R147, R148) -/

/-- A hand-over from the controller begins with the end of its command: the rest of a passed one drains, an address is broken off, and what an ended command left busy is waited for. -/
theorem State.beginHandOver_controller (hh : s.gate.holder = .controller) :
    s.beginHandOver
      = if s.denyTaking.gate.commandInFlight then
          s.denyTaking.setGate { s.denyTaking.gate with handOver := .draining (some (s.clock + 20000)) }
        else s.denyTaking.setGate { s.denyTaking.gate with handOver := .settling (s.clock + 1000) } := by
  simp [State.beginHandOver, hh, State.beginSettle, readyWait, handOverSettle, ms]

theorem State.beginHandOver_other (hh : s.gate.holder ≠ .controller) :
    s.beginHandOver
      = s.setGate { s.gate with
          handOver := if s.gate.op.isSome = true then .draining none else .settling (s.clock + 1000) } := by
  cases hc : s.gate.holder with
  | controller => exact absurd hc hh
  | guard | none =>
    by_cases hop : s.gate.op.isSome = true <;> simp [State.beginHandOver, hc, hop, State.beginSettle, handOverSettle, ms]

/-- The station with another owner of the channel, before a hand-over begins. -/
def State.withOwner (s : State) (owner : Side) : State := s.setGate { s.gate with owner := owner }

/-- A recomputation touches the gate only. -/
theorem State.recomputeOwner_eq_setGate (s : State) : s.recomputeOwner = s.setGate s.recomputeOwner.gate := by
  have hbegins (u : State) : u.beginHandOver = u.setGate u.beginHandOver.gate := by
    by_cases hc : u.gate.holder = .controller
    · rw [State.beginHandOver_controller hc]
      unfold State.denyTaking State.denyCommand
      (repeat' split) <;> rfl
    · rw [State.beginHandOver_other hc]
      rfl
  by_cases h : s.ownerNow = s.gate.owner
  · rw [State.recomputeOwner_same s h]
    rfl
  · by_cases hh : s.gate.handOver = .steady
    · rw [State.recomputeOwner_begins s h hh]
      exact hbegins (s.withOwner s.ownerNow)
    · rw [State.recomputeOwner_underWay s h hh]
      rfl

/-- The hand-over that a new owner begins in STEADY (R147, R148). -/
theorem State.beginHandOver_handsOver (hh : s.gate.handOver = .steady) (owner : Side) :
    s.gate.handsOverTo (s.withOwner owner).beginHandOver.gate owner s.clock := by
  refine ⟨fun hne => absurd hh hne, fun _ hc => ?_, fun _ hc => ?_⟩
  · rw [State.beginHandOver_controller (s := s.withOwner owner) hc]
    refine ⟨fun cycles ended hcommand => ?_, fun code held inDrain hcommand => ?_, ?_⟩
    · simp [State.withOwner, State.denyTaking, hcommand, Gate.commandInFlight]
    · cases hbusy : s.gate.flashBusy <;>
        simp [State.withOwner, State.denyTaking, State.denyCommand, hcommand, Gate.commandInFlight, hbusy]
    · rintro (hcommand | hcommand) <;>
        cases hbusy : s.gate.flashBusy <;>
          simp [State.withOwner, State.denyTaking, hcommand, Gate.commandInFlight, hbusy]
  · rw [State.beginHandOver_other (s := s.withOwner owner) hc]
    rfl

/-- A change of owner begins a hand-over as Table 7-4 has it, unless one is under way. -/
theorem State.recomputeOwner_handsOver (h : s.ownerNow ≠ s.gate.owner) :
    s.gate.handsOverTo s.recomputeOwner.gate s.ownerNow s.clock := by
  by_cases hh : s.gate.handOver = .steady
  · rw [State.recomputeOwner_begins s h hh]
    exact State.beginHandOver_handsOver hh s.ownerNow
  · rw [State.recomputeOwner_underWay s h hh]
    exact ⟨fun _ => rfl, fun hsteady => absurd hsteady hh, fun hsteady => absurd hsteady hh⟩

/-- During a hand-over the owner alone follows. -/
theorem State.recomputeOwner_handingOver (h : s.gate.handOver ≠ .steady) :
    s.recomputeOwner = s.setGate { s.gate with owner := s.ownerNow } := by
  by_cases ho : s.ownerNow = s.gate.owner
  · rw [State.recomputeOwner_same s ho, ho]
    rfl
  · exact State.recomputeOwner_underWay s ho h

/-- The gate after the opening of a purge: the grant is gone, and the channel is handed over to the engine. -/
theorem State.openPurge_handsOver (ho : s.gate.owner ≠ .guard) (cause : PurgeCause) (target : Nat) :
    { s.gate with grant := .none }.handsOverTo (s.openPurge cause target).gate .guard s.clock := by
  have hmoved := State.recomputeOwner_handsOver
    (s := ((s.leavePhase.journalOpened cause target).setPhaseCtl ⟨.purging, .none, none⟩).setGate
      { s.gate with grant := .none })
    (by simpa [State.ownerNow, State.journalOpened, Journal.opened] using ho.symm)
  have hopened : (s.openPurge cause target).gate
      = (((s.leavePhase.journalOpened cause target).setPhaseCtl ⟨.purging, .none, none⟩).setGate
          { s.gate with grant := .none }).recomputeOwner.gate := by
    simp [State.openPurge_eq, State.enterPhase, State.movePhase, State.carriedOn, grantFor]
  rw [hopened]
  simpa [State.ownerNow, State.journalOpened, Journal.opened] using hmoved

/-! ### The channel free again (R147 to R153) -/

/-- A hand-over that waits for no work of the gate goes on by itself. -/
theorem State.settleAfterWork_same (hd : s.gate.handOver ≠ .draining none) (hr : s.gate.handOver ≠ .resetting) :
    s.settleAfterWork = s := by
  unfold State.settleAfterWork
  split
  · next h => exact absurd h hd
  · next h => exact absurd h hr
  · rfl
  · rfl
  · rfl

theorem State.settleAfterWork_settles (h : s.gate.handOver = .draining none ∨ s.gate.handOver = .resetting) :
    s.settleAfterWork = s.setGate { s.gate with handOver := .settling (s.clock + 1000) } := by
  rcases h with h | h <;> simp [State.settleAfterWork, h, State.beginSettle, handOverSettle, ms]

theorem State.issueDuePeriodic_none (h : s.gate.periodicDue = false) : s.issueDuePeriodic = s := by
  simp [State.issueDuePeriodic, h]

/-- With nothing due and no ERASE the hand-over alone goes on. -/
theorem State.channelFree_quiet (hp : s.gate.periodicDue = false) (he : s.erasing = false) :
    s.channelFree = s.settleAfterWork := by
  rw [State.channelFree, State.issueDuePeriodic_none (by simpa using hp),
    State.eraseAdvance_of_not_erasing ((State.erasing_congr (by simp)).trans he)]

/-! ### ERASE and the gate's work (R124, R125, R128) -/

/-- The reset of a drain is no step of ERASE. -/
theorem Gate.stepInFlight_drain (h : g.op = some (.recoveryReset .drain due)) : g.stepInFlight = false := by
  simp [Gate.stepInFlight, h]

/-- Where its conditions hold, ERASE issues its next step (R124). -/
theorem State.eraseAdvance_issues (he : s.erasing = true) (hb : s.purge.nextBlock < s.blocks)
    (hf : s.gate.channelFault = false) (hcell : s.eraseCellOk = true) (hop : s.gate.op = none)
    (hholder : s.gate.holder = .guard) (hsteady : s.gate.handOver = .steady) (hp : s.gate.periodicDue = false) :
    s.eraseAdvance = (s.setPurge { s.purge with suspended := false }).issueErase := by
  have hmay : (s.setPurge { s.purge with suspended := false }).mayErase = true :=
    (State.mayErase_iff _).mpr ⟨rfl, hop, hholder, hsteady, hp⟩
  rw [State.eraseAdvance_of_goesOn he (.inr ⟨hb, hf⟩), State.suspendOrResume_resumes hcell, State.stepNext, if_pos hmay]

/-- An ERASE that is not suspended stays so. -/
theorem State.setPurge_unsuspended (h : s.purge.suspended = false) :
    s.setPurge { s.purge with suspended := false } = s := by
  rw [← h]
  rfl

theorem State.issueErase_eq (s : State) :
    s.issueErase
      = s.setGate
          { s.gate with
            op := some (.eraseStep s.purge.nextBlock (s.clock + 20000))
            driven := [0x60, byte (s.purge.nextBlock * s.pagesPerBlock), byte (s.purge.nextBlock * s.pagesPerBlock / 256),
              byte (s.purge.nextBlock * s.pagesPerBlock / 65536), 0xD0] } := rfl

/-- On a channel with a fault ERASE ends, early unless its blocks are done (R128, R130). -/
theorem State.eraseAdvance_faulty (he : s.erasing = true) (hs : s.gate.stepInFlight = false)
    (hf : s.gate.channelFault = true) : s.eraseAdvance = s.endErase (decide (s.purge.nextBlock < s.blocks)) := by
  by_cases hb : s.blocks ≤ s.purge.nextBlock
  · simp [State.eraseAdvance, he, hs, hb, Nat.not_lt.mpr hb]
  · simp [State.eraseAdvance, he, hs, hb, hf, Nat.lt_of_not_le hb]

/-- The end of ERASE: the journal in stage REKEY with the engine's next block, its write noted, the gate as it was. -/
theorem State.endErase_ends (s : State) (early : Bool) :
    (s.endErase early).purge.journal
        = { s.purge.journal with
            stage := some .rekey, nextBlock := s.purge.nextBlock
            eraseIncomplete := s.purge.journal.eraseIncomplete || early }
      ∧ (s.endErase early).purge.begun = false ∧ (s.endErase early).purge.suspended = false
      ∧ (.journal ∈ (s.endErase early).purge.writes.changed ∨ (s.endErase early).purge.writes.rechanged = true)
      ∧ (s.endErase early).gate = s.gate ∧ (s.endErase early).slotTable = s.slotTable :=
  ⟨by simp [State.endErase], by simp [State.endErase], by simp [State.endErase], State.noteWrite_purge_noted _ _,
    by simp [State.endErase], by simp [State.endErase]⟩

/-! ### An expired wait, and the fault (R148, R151, R152, R154) -/

theorem State.countExpiry_standing (h : s.gate.channelFault = true) :
    s.countExpiry = s.setGate { s.gate with stepTimeout := true } := by
  simp [State.countExpiry, h]

theorem State.countExpiry_counts (h : s.gate.channelFault = false) (hc : s.gate.faultCount < 2) :
    s.countExpiry = s.setGate { s.gate with stepTimeout := true, faultCount := s.gate.faultCount + 1 } := by
  have hless : ¬ faultLimit ≤ s.gate.faultCount + 1 := by
    simp only [faultLimit]
    omega
  simp [State.countExpiry, h, hless]

/-- The station at the third expiry in a row, as its fault begins, before the engine and the drive learn of it. -/
def State.faulted (s : State) : State :=
  (s.setGate
    { s.gate with
      stepTimeout := true, faultCount := 3, channelFault := true
      faultPeriod := some (s.clock + 1000000) }).recomputeOwner

theorem State.countExpiry_faults (h : s.gate.channelFault = false) (hc : s.gate.faultCount = 2) :
    s.countExpiry
      = if s.faultPolicyAll then s.faulted.tellEngine.offerLock .fault else s.faulted.tellEngine := by
  have hpolicy : s.faulted.tellEngine.faultPolicyAll = s.faultPolicyAll := by
    simp [State.faultPolicyAll, State.lockedSetup, State.faulted]
  rw [← hpolicy]
  simp only [State.countExpiry, h, hc, faultLimit, State.beginFault]
  rfl

theorem State.offerLock_offers (ho : s.ownOutstanding .lock = false) (cause : LockCause) :
    s.offerLock cause = s.offer .lock none [byte cause.code] := by
  simp [State.offerLock, ho]

/-! ### The drain (R148) -/

theorem State.exec_drainExpire (hawake : s.awake = true) (h : s.gate.handOver = .draining (some due)) :
    exec .drainExpire s = .next (s.setClock (max s.clock due)).expireDrain.payRoll := by
  change execDrainExpire s = _
  rw [execDrainExpire, State.whileAwake_of_awake hawake, h]
  rfl

/-- The command is cut off at the gate, and nowhere else. -/
theorem State.cutCommand_eq (h : s.gate.cutOffTo cut) : s.cutCommand = s.setGate cut := by
  obtain ⟨hpassed, hended, hother⟩ := h
  unfold State.cutCommand
  split
  · next cycles hc => rw [hpassed cycles hc]; rfl
  · next cycles hc => rw [hended cycles hc]
  · next hc => rw [hother (by simp [hc])]; rfl
  · next hc => rw [hother (by simp [hc])]; rfl
  · next hc => rw [hother (by simp [hc])]; rfl

/-- What a cut leaves of the gate. -/
theorem Gate.cutOffTo.kept (h : g.cutOffTo cut) :
    cut = { g with command := cut.command, gateDenied := cut.gateDenied } := by
  obtain ⟨hpassed, hended, hother⟩ := h
  cases hc : g.command with
  | passed cycles ended =>
    cases ended with
    | true => rw [hended cycles hc]
    | false => rw [hpassed cycles hc]
  | idle | takingAddress _ _ _ | denied => rw [hother (by simp [hc])]

/-- The gate of an expired drain: its command cut off, RESETTING, and the recovery reset driven. -/
def Gate.drainCut (cut : Gate) (now : Micros) : Gate :=
  { cut with
    handOver := .resetting, flashBusy := false, op := some (.recoveryReset .drain (now + 20000)), driven := [0xFF] }

theorem State.expireDrain_eq (h : s.gate.cutOffTo cut) :
    s.expireDrain = (s.setGate (cut.drainCut s.clock)).countExpiry := by
  rw [State.expireDrain, State.cutCommand_eq h]
  rfl

/-! ### The settle (R149) -/

/-- The station as the owner in force takes the channel at the end of the settle. -/
def State.handedOn (s : State) (due : Micros) : State :=
  (s.setClock (max s.clock due)).setGate { s.gate with holder := s.gate.owner, handOver := .steady }

theorem State.exec_settleEnd (hawake : s.awake = true) (h : s.gate.handOver = .settling due) :
    exec .settleEnd s = .next (s.handedOn due).channelFree.payRoll := by
  change execSettleEnd s = _
  rw [execSettleEnd, State.whileAwake_of_awake hawake, h]
  rfl

/-- In STEADY with no periodic reset due, ERASE alone goes on. -/
theorem State.channelFree_steady (hsteady : s.gate.handOver = .steady) (hp : s.gate.periodicDue = false) :
    s.channelFree = s.eraseAdvance := by
  rw [State.channelFree, State.settleAfterWork_same (by simp [hsteady]) (by simp [hsteady]),
    State.issueDuePeriodic_none hp]

end

end Sys2Proof.Machine
end

section
/-! PROOFS. The ends of drain and settle (R124, R128, R147 to R154). -/

namespace Sys2Proof.Machine

section
variable {s t : State} {cut : Gate} {due : Micros}

/-! ### The third expiry of a drain (R128, R152, R154) -/

/-- The station as the fault of an expired drain has begun. -/
def State.drainFaulted (s : State) (cut : Gate) : State := (s.setGate (cut.drainCut s.clock)).faulted

/-- In RESETTING the new owner waits for the hand-over under way, and nothing else of the gate moves (R140). -/
theorem State.drainFaulted_gate (s : State) (cut : Gate) :
    (s.drainFaulted cut).gate
      = { cut.drainCut s.clock with
          stepTimeout := true, faultCount := 3, channelFault := true, faultPeriod := some (s.clock + 1000000)
          owner := ownerFor s.phase s.purge.journal.isOpen true } := by
  rw [State.drainFaulted, State.faulted, State.recomputeOwner_handingOver (by simp [Gate.drainCut])]
  rfl

@[simp] theorem State.drainFaulted_frame (s : State) (cut : Gate) :
    (s.drainFaulted cut).clock = s.clock ∧ (s.drainFaulted cut).line = s.line ∧ (s.drainFaulted cut).roster = s.roster
    ∧ (s.drainFaulted cut).verifier = s.verifier ∧ (s.drainFaulted cut).phaseCtl = s.phaseCtl
    ∧ (s.drainFaulted cut).keyPort = s.keyPort ∧ (s.drainFaulted cut).purge = s.purge
    ∧ (s.drainFaulted cut).setup = s.setup ∧ (s.drainFaulted cut).store = s.store := by
  simp [State.drainFaulted, State.faulted]

/-- The engine learns of the fault: an ERASE under way ends early, and nothing else goes on. -/
theorem State.drainFaulted_tellEngine (s : State) (cut : Gate) :
    (s.drainFaulted cut).tellEngine
      = if s.erasing = true then (s.drainFaulted cut).endErase (decide (s.purge.nextBlock < s.blocks))
        else s.drainFaulted cut := by
  have hstep : (s.drainFaulted cut).gate.stepInFlight = false :=
    Gate.stepInFlight_drain (due := s.clock + 20000) (by simp [State.drainFaulted_gate, Gate.drainCut])
  have herasing : (s.drainFaulted cut).erasing = s.erasing := State.erasing_congr (by simp)
  have hblocks : (s.drainFaulted cut).blocks = s.blocks := State.blocks_congr (by simp)
  rw [State.tellEngine, if_neg (by simp [hstep])]
  split
  · next he =>
    rw [State.eraseAdvance_faulty (herasing.trans he) hstep (by simp [State.drainFaulted_gate]), hblocks]
    simp
  · next he => exact State.eraseAdvance_of_not_erasing (herasing.trans (by simpa using he))

/-- The station after the third expiry in a row of a drain. -/
def State.drainFault (s : State) (cut : Gate) : State :=
  if s.faultPolicyAll then (s.drainFaulted cut).tellEngine.offerLock .fault else (s.drainFaulted cut).tellEngine

theorem State.exec_drainExpire_faults (hawake : s.awake = true) (h : s.gate.handOver = .draining (some due))
    (hcut : s.gate.cutOffTo cut) (hf : s.gate.channelFault = false) (hc : s.gate.faultCount = 2) :
    exec .drainExpire s = .next ((s.setClock (max s.clock due)).drainFault cut).payRoll := by
  have hkept := hcut.kept
  rw [State.exec_drainExpire hawake h, State.expireDrain_eq (s := s.setClock (max s.clock due)) hcut,
    State.countExpiry_faults (by rw [hkept]; exact hf) (by rw [hkept]; exact hc)]
  rfl

@[simp] theorem State.drainFault_frame (s : State) (cut : Gate) :
    (s.drainFault cut).gate = (s.drainFaulted cut).gate ∧ (s.drainFault cut).roster = s.roster
    ∧ (s.drainFault cut).verifier = s.verifier ∧ (s.drainFault cut).phaseCtl = s.phaseCtl
    ∧ (s.drainFault cut).keyPort = s.keyPort ∧ (s.drainFault cut).setup = s.setup
    ∧ (s.drainFault cut).store.stored = s.store.stored := by
  rw [State.drainFault, State.drainFaulted_tellEngine]
  (repeat' split) <;> simp [(State.endErase_ends _ _).2.2.2.2.1]

/-- What the fault leaves of the engine: an ERASE ended early, or all as it was. -/
theorem State.drainFault_purge (s : State) (cut : Gate) :
    (s.drainFault cut).purge
      = if s.erasing = true then ((s.drainFaulted cut).endErase (decide (s.purge.nextBlock < s.blocks))).purge
        else s.purge := by
  rw [State.drainFault, State.drainFaulted_tellEngine]
  (repeat' split) <;> simp

theorem State.drainFault_line (h : s.faultPolicyAll = false) (cut : Gate) : (s.drainFault cut).line = s.line := by
  rw [State.drainFault, h, if_neg (by simp)]
  simp

/-- Under policy ALL a LOCK with cause FAULT goes out (R154). -/
theorem State.drainFault_locks (h : s.faultPolicyAll = true) (ho : s.ownOutstanding .lock = false)
    (hl : s.line.tx.length < 4) (cut : Gate) :
    ∃ f ∈ (s.drainFault cut).line.tx, f.kind = .lock ∧ f.payload = [2] := by
  have hline : (s.drainFaulted cut).tellEngine.line = s.line := by simp
  have hout := (State.ownOutstanding_congr hline .lock).trans ho
  rw [State.drainFault, if_pos h, State.offerLock_offers hout]
  exact ⟨_, State.mem_offer_urgent (k := .lock) rfl (by rwa [hline]) none _, rfl, rfl⟩

end

/-- Settles O45: the change of owner, by the rows of Table 7-4; the opening of a purge as one such change; the expired drain by what was counted before; the settle with and without an ERASE that waits for the channel. -/
theorem drainAndSettleEnd : Obligations.DrainAndSettleEnd := by
  refine ⟨fun s => ?owner, fun s f rest cause hfront hk hr hcause hu hh hclosed hless ho => ?opens,
    fun s due cut hawake h hcut => ?drain, fun s due hawake h hp hop => ?settle⟩
  case owner =>
    exact ⟨State.recomputeOwner_same s, fun h => ⟨s.recomputeOwner_eq_setGate, State.recomputeOwner_handsOver h⟩⟩
  case opens =>
    refine ⟨_, (exec_purge_closed hfront hk hr hcause hu hh hclosed).1 hless, ?_⟩
    have hopened := State.openPurge_handsOver (s := s.taken rest) ho (s.causeOf f.sender cause) (u16 f.payload 1)
    simpa using hopened
  case drain =>
    have hkept := hcut.kept
    have hexec := State.exec_drainExpire hawake h
    rw [State.expireDrain_eq (s := s.setClock (max s.clock due)) hcut] at hexec
    refine ⟨fun hf => ?_, fun hf hc => ?_, fun hf hc => ?_⟩
    · rw [hexec, State.countExpiry_standing (by rw [hkept]; exact hf)]
      rw [hkept]
      rfl
    · rw [hexec, State.countExpiry_counts (by rw [hkept]; exact hf) (by rw [hkept]; exact hc)]
      rw [hkept]
      rfl
    · refine ⟨_, State.exec_drainExpire_faults hawake h hcut hf hc, ?_⟩
      have hgate := (s.setClock (max s.clock due)).drainFaulted_gate cut
      have hpurge := (s.setClock (max s.clock due)).drainFault_purge cut
      have hranges : cut.ranges = s.gate.ranges := by rw [hkept]
      refine ⟨by simp [hgate], by simp [hgate], by simp [hgate], by simp [hgate], by simp [hgate, Gate.drainCut],
        by simp [hgate, Gate.drainCut], by simp [hgate, Gate.drainCut], by simp [hgate, Gate.drainCut],
        by simp [hgate, Gate.drainCut], by simp [hgate, Gate.drainCut], by simp [hgate], fun hall hno hl => ?_,
        fun hself hpaid => ?_, fun he => ?_, fun he => ?_, by simp, by simp, by simp, ?_⟩
      · obtain ⟨f, hf, hlock⟩ := State.drainFault_locks (s := s.setClock (max s.clock due)) hall hno hl cut
        exact ⟨f, State.mem_payRoll hf, hlock⟩
      · rw [State.payRoll_of_not_owed (by simpa using hpaid),
          State.drainFault_line (s := s.setClock (max s.clock due)) hself]
        rfl
      · have he' : (s.setClock (max s.clock due)).erasing = false := he
        rw [if_neg (by simp [he'])] at hpurge
        simp [hpurge]
      · have he' : (s.setClock (max s.clock due)).erasing = true := he
        have hends := ((s.setClock (max s.clock due)).drainFaulted cut).endErase_ends
          (decide (s.purge.nextBlock < s.blocks))
        obtain ⟨hjournal, hbegun, hsuspended, hnoted, -⟩ := hends
        have hpaid : (((s.setClock (max s.clock due)).drainFault cut).payRoll).purge
            = (((s.setClock (max s.clock due)).drainFaulted cut).endErase
              (decide (s.purge.nextBlock < s.blocks))).purge := by
          have hblocks : (s.setClock (max s.clock due)).blocks = s.blocks := rfl
          simpa [he', hblocks] using hpurge
        rw [hpaid]
        exact ⟨by simpa using hjournal, hbegun, hsuspended, hnoted⟩
      · simp [State.keepsRecords, hgate, Gate.drainCut, hranges]
  case settle =>
    intro taken row
    have hexec := State.exec_settleEnd hawake h
    rw [State.channelFree_steady (s := s.handedOn due) rfl hp] at hexec
    refine ⟨fun he => ?_, fun he ho hf hs hcell hb => ?_⟩
    · rw [hexec, State.eraseAdvance_of_not_erasing (s := s.handedOn due) he]
      rfl
    · rw [hexec, State.eraseAdvance_issues (s := s.handedOn due) he hb hf hcell hop ho rfl hp,
        State.setPurge_unsuspended (s := s.handedOn due) hs, State.issueErase_eq]
      rfl

end Sys2Proof.Machine
end

section
/-! PROOFS. The steps of ERASE: their blocks, and how ERASE goes on over a channel that is free again (R124 to R130, R151, R153). -/

namespace Sys2Proof.Machine

section
variable {s t u : State} {rec : RecordId} {n : Nat} {bad : Bool}

/-! ### A record to be written stays so -/

theorem State.checkpoint_notes (s : State) : s.checkpoint.notes .journal := State.noteWrite_purge_noted _ _

theorem State.notes.checkpoint (h : s.notes rec) : s.checkpoint.notes rec := by
  refine h.noteWrite ?_ _
  rfl

theorem State.notes.endErase (h : s.notes rec) (early : Bool) : (s.endErase early).notes rec := by
  refine h.noteWrite ?_ _
  rfl

theorem State.notes.congr (h : s.notes rec) (hw : t.purge.writes = s.purge.writes) : t.notes rec := by
  rwa [State.notes, hw]

theorem State.notes.suspendOrResume (h : s.notes rec) : s.suspendOrResume.notes rec := by
  unfold State.suspendOrResume
  (repeat' split)
  · exact h
  · exact h
  · exact State.notes.checkpoint (s := s.setPurge { s.purge with suspended := true }) h

theorem State.notes.stepNext (h : s.notes rec) : s.stepNext.notes rec := by
  unfold State.stepNext
  split
  · exact h
  · exact h

/-! ### ERASE goes on (R124, R128 to R130) -/

/-- How ERASE goes on: not at all, or it waits for a step in flight, or it ends, early or not, or it looks at the cell and goes to its next step. -/
theorem State.eraseAdvance_cases (s : State) {P : State → Prop} (idle : s.erasing = false → P s)
    (waits : s.gate.stepInFlight = true → P s.suspendOrResume)
    (ends : s.erasing = true → s.blocks ≤ s.purge.nextBlock → P (s.endErase false))
    (early : s.gate.channelFault = true → P (s.endErase true))
    (goesOn : s.gate.stepInFlight = false → s.gate.channelFault = false → P s.suspendOrResume.stepNext) :
    P s.eraseAdvance := by
  by_cases he : s.erasing = true
  · by_cases hstep : s.gate.stepInFlight = true
    · simpa [State.eraseAdvance, he, hstep] using waits hstep
    by_cases hb : s.blocks ≤ s.purge.nextBlock
    · simpa [State.eraseAdvance, he, hstep, hb] using ends he hb
    by_cases hf : s.gate.channelFault = true
    · simpa [State.eraseAdvance, he, hstep, hb, hf] using early hf
    · simpa [State.eraseAdvance, he, hstep, hb, hf, State.stepNext] using goesOn (by simpa using hstep) (by simpa using hf)
  · rw [State.eraseAdvance_of_not_erasing (by simpa using he)]
    exact idle (by simpa using he)

@[simp] theorem State.stepNext_frame (s : State) :
    s.stepNext.slotTable = s.slotTable ∧ s.stepNext.purge = s.purge ∧ s.stepNext.store = s.store := by
  unfold State.stepNext
  split <;> simp

@[simp] theorem State.suspendOrResume_slotTable (s : State) : s.suspendOrResume.slotTable = s.slotTable := by
  unfold State.suspendOrResume State.checkpoint
  (repeat' split) <;> simp

@[simp] theorem State.eraseAdvance_slotTable (s : State) : s.eraseAdvance.slotTable = s.slotTable :=
  s.eraseAdvance_cases (P := fun t => t.slotTable = s.slotTable) (fun _ => rfl) (fun _ => by simp)
    (fun _ _ => by simp [State.endErase]) (fun _ => by simp [State.endErase]) (fun _ _ => by simp)

theorem State.notes.eraseAdvance (h : s.notes rec) : s.eraseAdvance.notes rec :=
  s.eraseAdvance_cases (P := fun t => t.notes rec) (fun _ => h) (fun _ => h.suspendOrResume) (fun _ _ => h.endErase _)
    (fun _ => h.endErase _) (fun _ _ => h.suspendOrResume.stepNext)

theorem State.suspendOrResume_journal (s : State) :
    s.suspendOrResume.purge.journal
      = { s.purge.journal with
          nextBlock := if s.eraseCellOk = true ∨ s.purge.suspended = true then s.purge.journal.nextBlock
            else s.purge.nextBlock } := by
  cases hcell : s.eraseCellOk with
  | true => simp [State.suspendOrResume_resumes hcell]
  | false =>
    cases hs : s.purge.suspended with
    | true => simp [State.suspendOrResume_stays hcell hs]
    | false => simp [State.suspendOrResume_suspends hcell hs, State.checkpoint]

/-- The list-full flag is not ERASE's to change as it goes on. -/
theorem State.eraseAdvance_listFull (s : State) : s.eraseAdvance.purge.journal.listFull = s.purge.journal.listFull :=
  s.eraseAdvance_cases (P := fun t => t.purge.journal.listFull = s.purge.journal.listFull) (fun _ => rfl)
    (fun _ => by simp [State.suspendOrResume_journal]) (fun _ _ => by simp [State.endErase])
    (fun _ => by simp [State.endErase]) (fun _ _ => by simp [State.suspendOrResume_journal])

/-- A next block that the journal holds stays in it (R127). -/
theorem State.eraseAdvance_checkpointed (h : s.purge.journal.nextBlock = s.purge.nextBlock) :
    s.eraseAdvance.purge.journal.nextBlock = s.purge.nextBlock :=
  s.eraseAdvance_cases (P := fun t => t.purge.journal.nextBlock = s.purge.nextBlock) (fun _ => h)
    (fun _ => by simp [State.suspendOrResume_journal, h]) (fun _ _ => by simp [State.endErase])
    (fun _ => by simp [State.endErase]) (fun _ _ => by simp [State.suspendOrResume_journal, h])

/-- With blocks left, no fault and the cell as it should be, ERASE leaves the journal (R127, R129). -/
theorem State.eraseAdvance_journal (hb : s.purge.nextBlock < s.blocks) (hf : s.gate.channelFault = false)
    (hcell : s.eraseCellOk = true) : s.eraseAdvance.purge.journal = s.purge.journal :=
  s.eraseAdvance_cases (P := fun t => t.purge.journal = s.purge.journal) (fun _ => rfl)
    (fun _ => by simp [State.suspendOrResume_resumes hcell]) (fun _ hdone => absurd hdone (Nat.not_le.mpr hb))
    (fun hfault => by simp [hf] at hfault) (fun _ _ => by simp [State.suspendOrResume_resumes hcell])

/-- What the gate does as ERASE goes on: it holds what it had, or drives the erase of the engine's next block. -/
theorem State.eraseAdvance_op (s : State) :
    (s.eraseAdvance.gate = s.gate)
      ∨ (s.eraseAdvance.gate.op = some (.eraseStep s.purge.nextBlock (s.clock + 20000))
        ∧ s.eraseAdvance.gate.driven = eraseCycles s.purge.nextBlock s.pagesPerBlock) := by
  refine s.eraseAdvance_cases
    (P := fun t => t.gate = s.gate ∨ (t.gate.op = some (.eraseStep s.purge.nextBlock (s.clock + 20000))
      ∧ t.gate.driven = eraseCycles s.purge.nextBlock s.pagesPerBlock)) (fun _ => .inl rfl)
    (fun _ => .inl s.suspendOrResume_gate) (fun _ _ => .inl (by simp [State.endErase]))
    (fun _ => .inl (by simp [State.endErase])) (fun _ _ => ?_)
  have hpages : s.suspendOrResume.pagesPerBlock = s.pagesPerBlock := by
    simp [State.pagesPerBlock, State.lockedSetup]
  unfold State.stepNext
  split
  · exact .inr (by simp [State.issueErase, hpages, readyWait, ms])
  · exact .inl s.suspendOrResume_gate

/-! ### The channel, free again (R147, R148, R153) -/

/-- The station as hand-over and periodic reset have gone on, before ERASE does. -/
def State.channelReady (s : State) : State := s.settleAfterWork.issueDuePeriodic

theorem State.channelFree_eq (s : State) : s.channelFree = s.channelReady.eraseAdvance := rfl

@[simp] theorem State.channelReady_frame (s : State) :
    s.channelReady.clock = s.clock ∧ s.channelReady.slotTable = s.slotTable ∧ s.channelReady.purge = s.purge
    ∧ s.channelReady.supervisor = s.supervisor ∧ s.channelReady.setup = s.setup
    ∧ s.channelReady.gate.channelFault = s.gate.channelFault ∧ s.channelReady.store = s.store
    ∧ s.channelReady.phaseCtl = s.phaseCtl ∧ s.channelReady.gate.faultCount = s.gate.faultCount := by
  simp [State.channelReady]

/-- A channel with no work in flight stays so, or takes the periodic reset that is due (R153). -/
theorem State.channelReady_op (h : s.gate.op = none) :
    (s.channelReady.gate.op = none ∧ s.channelReady.gate.driven = s.gate.driven)
      ∨ ∃ due, s.channelReady.gate.op = some (.recoveryReset .periodic due) := by
  unfold State.channelReady State.issueDuePeriodic
  split
  · exact .inr ⟨_, rfl⟩
  · exact .inl (by simpa using h)

theorem State.channelReady_step (h : s.gate.op = none) : s.channelReady.gate.stepInFlight = false := by
  rcases State.channelReady_op h with ⟨hop, _⟩ | ⟨due, hop⟩ <;> simp [Gate.stepInFlight, hop]

theorem State.channelReady_erasing (s : State) : s.channelReady.erasing = s.erasing := State.erasing_congr (by simp)

theorem State.channelReady_blocks (s : State) : s.channelReady.blocks = s.blocks := State.blocks_congr (by simp)

@[simp] theorem State.channelFree_slotTable (s : State) : s.channelFree.slotTable = s.slotTable := by
  simp [State.channelFree_eq]

theorem State.notes.channelFree (h : s.notes rec) : s.channelFree.notes rec :=
  State.notes.eraseAdvance (h.congr (by simp))

theorem State.channelFree_listFull (s : State) : s.channelFree.purge.journal.listFull = s.purge.journal.listFull := by
  simp [State.channelFree_eq, State.eraseAdvance_listFull]

theorem State.channelFree_checkpointed (h : s.purge.journal.nextBlock = s.purge.nextBlock) :
    s.channelFree.purge.journal.nextBlock = s.purge.nextBlock := by
  rw [State.channelFree_eq, State.eraseAdvance_checkpointed (by simpa using h)]
  simp

theorem State.channelFree_journal (hb : s.purge.nextBlock < s.blocks) (hf : s.gate.channelFault = false)
    (hcell : s.eraseCellOk = true) : s.channelFree.purge.journal = s.purge.journal := by
  have hcell' : s.channelReady.eraseCellOk = true := by simpa [State.eraseCellOk] using hcell
  rw [State.channelFree_eq, State.eraseAdvance_journal (by simpa [State.channelReady_blocks] using hb) (by simpa using hf) hcell']
  simp

/-- ERASE that has no block left, or a fault over it, ends on the free channel (R128, R130). -/
theorem State.channelFree_ends (hop : s.gate.op = none) (he : s.erasing = true) :
    (s.blocks ≤ s.purge.nextBlock → s.channelFree = s.channelReady.endErase false)
      ∧ (s.purge.nextBlock < s.blocks → s.gate.channelFault = true → s.channelFree = s.channelReady.endErase true) := by
  have hstep := State.channelReady_step hop
  have he' := s.channelReady_erasing.trans he
  refine ⟨fun hb => ?_, fun hb hf => ?_⟩
  · simp [State.channelFree_eq, State.eraseAdvance, he', hstep, State.channelReady_blocks, hb]
  · rw [State.channelFree_eq, State.eraseAdvance_faulty he' hstep (by simpa using hf)]
    simp [State.channelReady_blocks, hb]

/-- A channel with no work in flight then has none, or a periodic reset, or the erase of the engine's next block. -/
theorem State.channelFree_op (h : s.gate.op = none) :
    (s.channelFree.gate.op = none ∧ s.channelFree.gate.driven = s.gate.driven)
      ∨ (∃ due, s.channelFree.gate.op = some (.recoveryReset .periodic due))
      ∨ (s.channelFree.gate.op = some (.eraseStep s.purge.nextBlock (s.clock + 20000))
        ∧ s.channelFree.gate.driven = eraseCycles s.purge.nextBlock s.pagesPerBlock) := by
  have hpages : s.channelReady.pagesPerBlock = s.pagesPerBlock := by simp [State.pagesPerBlock, State.lockedSetup]
  rw [State.channelFree_eq]
  rcases s.channelReady.eraseAdvance_op with hgate | hstep
  · rw [hgate]
    exact (State.channelReady_op h).imp_right .inl
  · exact .inr (.inr (by simpa [hpages] using hstep))

/-! ### A block that is done (R125 to R127, R130) -/

theorem State.addBadBlock_badBlocks (s : State) (n : Nat) :
    (s.addBadBlock n).purge.badBlocks
      = if n ∉ s.purge.badBlocks ∧ s.purge.badBlocks.length < 32 then s.purge.badBlocks ++ [n] else s.purge.badBlocks := by
  by_cases hin : n ∈ s.purge.badBlocks
  · simp [State.addBadBlock, hin]
  · by_cases hroom : s.purge.badBlocks.length < 32 <;> simp [State.addBadBlock, hin, badBlockPlaces, hroom]

theorem State.addBadBlock_journal (s : State) (n : Nat) :
    (s.addBadBlock n).purge.journal
      = if n ∉ s.purge.badBlocks ∧ 32 ≤ s.purge.badBlocks.length then { s.purge.journal with listFull := true }
        else s.purge.journal := by
  by_cases hin : n ∈ s.purge.badBlocks
  · simp [State.addBadBlock, hin]
  · by_cases hroom : s.purge.badBlocks.length < 32
    · simp [State.addBadBlock, hin, badBlockPlaces, hroom, Nat.not_le.mpr hroom]
    · simp [State.addBadBlock, hin, badBlockPlaces, hroom, Nat.le_of_not_lt hroom]

/-- The record that a bad block changes is to be written: the list, or the journal where the list is full (R126). -/
theorem State.addBadBlock_notes (hin : n ∉ s.purge.badBlocks) :
    (s.purge.badBlocks.length < 32 → (s.addBadBlock n).notes .badBlocks)
      ∧ (32 ≤ s.purge.badBlocks.length → (s.addBadBlock n).notes .journal) := by
  refine ⟨fun hroom => ?_, fun hfull => ?_⟩
  · rw [State.addBadBlock, if_neg hin, badBlockPlaces, if_pos hroom]
    exact State.noteWrite_purge_noted _ _
  · rw [State.addBadBlock, if_neg hin, badBlockPlaces, if_neg (Nat.not_lt.mpr hfull)]
    exact State.noteWrite_purge_noted _ _

@[simp] theorem State.addBadBlock_slotTable (s : State) (n : Nat) : (s.addBadBlock n).slotTable = s.slotTable := by
  unfold State.addBadBlock
  (repeat' split) <;> simp

/-- The station with the next block risen, its block entered in the list where it was bad. -/
def State.blockCounted (s : State) (n : Nat) (bad : Bool) : State :=
  let u := if bad then s.addBadBlock n else s
  u.setPurge { u.purge with nextBlock := u.purge.nextBlock + 1 }

theorem State.blockCounted_purge (s : State) (n : Nat) (bad : Bool) :
    (s.blockCounted n bad).purge.nextBlock = s.purge.nextBlock + 1
      ∧ (s.blockCounted n bad).purge.badBlocks = (if bad = true then s.addBadBlock n else s).purge.badBlocks
      ∧ (s.blockCounted n bad).purge.journal = (if bad = true then s.addBadBlock n else s).purge.journal := by
  cases bad <;> simp [State.blockCounted]

theorem State.blockDone_eq (s : State) (n : Nat) (bad : Bool) :
    s.blockDone n bad
      = if (s.purge.nextBlock + 1) % 64 = 0 ∧ s.purge.nextBlock + 1 < s.blocks then (s.blockCounted n bad).checkpoint
        else s.blockCounted n bad := by
  have hblocks : (s.blockCounted n bad).blocks = s.blocks :=
    State.blocks_congr (by cases bad <;> simp [State.blockCounted])
  rw [← (s.blockCounted_purge n bad).1, ← hblocks]
  rfl

theorem State.blockDone_nextBlock (s : State) (n : Nat) (bad : Bool) :
    (s.blockDone n bad).purge.nextBlock = s.purge.nextBlock + 1 := by
  obtain ⟨hnext, -, -⟩ := s.blockCounted_purge n bad
  rw [State.blockDone_eq]
  split <;> simp [hnext]

theorem State.blockDone_badBlocks (s : State) (n : Nat) (bad : Bool) :
    (s.blockDone n bad).purge.badBlocks
      = if bad = true ∧ n ∉ s.purge.badBlocks ∧ s.purge.badBlocks.length < 32 then s.purge.badBlocks ++ [n]
        else s.purge.badBlocks := by
  obtain ⟨-, hbad, -⟩ := s.blockCounted_purge n bad
  have hlist : (s.blockDone n bad).purge.badBlocks = (s.blockCounted n bad).purge.badBlocks := by
    rw [State.blockDone_eq]
    split <;> simp
  rw [hlist, hbad]
  cases bad <;> simp [State.addBadBlock_badBlocks]

/-- The journal after a block: the list-full flag of R126, and the checkpoint of R127. -/
theorem State.blockDone_journal (s : State) (n : Nat) (bad : Bool) :
    (s.blockDone n bad).purge.journal
      = { s.purge.journal with
          listFull := if bad = true ∧ n ∉ s.purge.badBlocks ∧ 32 ≤ s.purge.badBlocks.length then true
            else s.purge.journal.listFull
          nextBlock := if (s.purge.nextBlock + 1) % 64 = 0 ∧ s.purge.nextBlock + 1 < s.blocks then s.purge.nextBlock + 1
            else s.purge.journal.nextBlock } := by
  obtain ⟨hnext, -, hjournal⟩ := s.blockCounted_purge n bad
  have hcounted : (s.blockCounted n bad).purge.journal
      = { s.purge.journal with
          listFull := if bad = true ∧ n ∉ s.purge.badBlocks ∧ 32 ≤ s.purge.badBlocks.length then true
            else s.purge.journal.listFull } := by
    rw [hjournal]
    cases bad with
    | false => simp
    | true =>
      rw [if_pos rfl, State.addBadBlock_journal]
      by_cases hfull : n ∉ s.purge.badBlocks ∧ 32 ≤ s.purge.badBlocks.length <;> simp [hfull]
  rw [State.blockDone_eq]
  split
  · simp [State.checkpoint, hcounted, hnext]
  · rw [hcounted]

theorem State.notes.blockDone (h : (if bad = true then s.addBadBlock n else s).notes rec) : (s.blockDone n bad).notes rec := by
  have hcounted : (s.blockCounted n bad).notes rec := h
  rw [State.blockDone_eq]
  split
  · exact hcounted.checkpoint
  · exact hcounted

theorem State.blockDone_checkpoints (h : (s.purge.nextBlock + 1) % 64 = 0 ∧ s.purge.nextBlock + 1 < s.blocks) :
    (s.blockDone n bad).notes .journal := by
  rw [State.blockDone_eq, if_pos h]
  exact State.checkpoint_notes _

@[simp] theorem State.blockDone_slotTable (s : State) (n : Nat) (bad : Bool) : (s.blockDone n bad).slotTable = s.slotTable := by
  have hcounted : (s.blockCounted n bad).slotTable = s.slotTable := by cases bad <;> simp [State.blockCounted]
  rw [State.blockDone_eq]
  split
  · simp [State.checkpoint, hcounted]
  · exact hcounted

theorem State.blockDone_erasing (s : State) (n : Nat) (bad : Bool) : (s.blockDone n bad).erasing = s.erasing := by
  simp [State.erasing, State.blockDone_journal]

end

end Sys2Proof.Machine
end

section
/-! PROOFS. The ends of erase steps and of recovery resets (R125 to R128, R150 to R154). -/

namespace Sys2Proof.Machine

section
variable {s t : State} {n : Nat} {due : Micros} {status : Byte} {reason : ResetReason}

/-! ### An erase step that ends with ready (R125, R126, R127, R151) -/

/-- The station as the status of an erase step has been read, before its block counts as done. -/
def State.statusRead (s : State) : State :=
  s.setGate
    { s.gate with
      op := none, driven := s.gate.driven ++ [0x70]
      faultCount := if s.gate.channelFault = true then s.gate.faultCount else 0 }

@[simp] theorem State.statusRead_frame (s : State) :
    s.statusRead.verifier = s.verifier ∧ s.statusRead.slotTable = s.slotTable ∧ s.statusRead.phaseCtl = s.phaseCtl
    ∧ s.statusRead.keyPort = s.keyPort ∧ s.statusRead.purge = s.purge ∧ s.statusRead.gate.ranges = s.gate.ranges
    ∧ s.statusRead.gate.op = none ∧ s.statusRead.gate.driven = s.gate.driven ++ [0x70]
    ∧ s.statusRead.gate.faultCount = (if s.gate.channelFault = true then s.gate.faultCount else 0)
    ∧ s.statusRead.gate.channelFault = s.gate.channelFault ∧ s.statusRead.supervisor = s.supervisor
    ∧ s.statusRead.setup = s.setup ∧ s.statusRead.store = s.store := by
  simp [State.statusRead]

/-- The station whose erase step is over: its block is done, and the channel is free. -/
def State.stepOver (s : State) (n : Nat) (failed : Bool) : State := s.statusRead.blockDone n failed

theorem State.stepOver_blocks (s : State) (n : Nat) (failed : Bool) : (s.stepOver n failed).blocks = s.blocks :=
  State.blocks_congr (by simp [State.stepOver])

theorem State.stepOver_pages (s : State) (n : Nat) (failed : Bool) :
    (s.stepOver n failed).pagesPerBlock = s.pagesPerBlock := by
  simp [State.stepOver, State.pagesPerBlock, State.lockedSetup]

theorem State.stepOver_cell (s : State) (n : Nat) (failed : Bool) : (s.stepOver n failed).eraseCellOk = s.eraseCellOk := by
  simp [State.stepOver, State.eraseCellOk]

theorem exec_eraseStepReady (h : s.awake = true) (hop : s.gate.op = some (.eraseStep n due)) :
    exec (.eraseStepReady status) s
      = .next (s.stepOver n (status.getLsbD 0)).channelFree.payRoll := by
  change execEraseStepReady status s = _
  rw [execEraseStepReady, State.whileAwake_of_awake h, hop]
  rfl

/-- A bad block is to be written: in the list, or by the journal's flag where the list is full (R126). -/
theorem State.stepOver_notes (hin : n ∉ s.purge.badBlocks) :
    (s.purge.badBlocks.length < 32 → (s.stepOver n true).notes .badBlocks)
      ∧ (32 ≤ s.purge.badBlocks.length → (s.stepOver n true).notes .journal) := by
  have hnotes := State.addBadBlock_notes (s := s.statusRead) (n := n) (by simpa using hin)
  exact ⟨fun hroom => State.notes.blockDone (hnotes.1 (by simpa using hroom)),
    fun hfull => State.notes.blockDone (hnotes.2 (by simpa using hfull))⟩

/-- The records after the step: the next block risen, a bad block entered or the list full, and the checkpoint of every 64th block. -/
theorem State.stepOver_purge (s : State) (n : Nat) (failed : Bool) :
    (s.stepOver n failed).purge.nextBlock = s.purge.nextBlock + 1
      ∧ (s.stepOver n failed).purge.badBlocks
          = (if failed = true ∧ n ∉ s.purge.badBlocks ∧ s.purge.badBlocks.length < 32 then s.purge.badBlocks ++ [n]
            else s.purge.badBlocks)
      ∧ (s.stepOver n failed).purge.journal
          = { s.purge.journal with
              listFull := if failed = true ∧ n ∉ s.purge.badBlocks ∧ 32 ≤ s.purge.badBlocks.length then true
                else s.purge.journal.listFull
              nextBlock := if (s.purge.nextBlock + 1) % 64 = 0 ∧ s.purge.nextBlock + 1 < s.blocks
                then s.purge.nextBlock + 1 else s.purge.journal.nextBlock } := by
  have hblocks : s.statusRead.blocks = s.blocks := State.blocks_congr (by simp)
  have hbad := s.statusRead.blockDone_badBlocks n failed
  have hjournal := s.statusRead.blockDone_journal n failed
  rw [hblocks] at hjournal
  rw [State.stepOver]
  exact ⟨by simp [State.blockDone_nextBlock], by simpa using hbad, by simpa using hjournal⟩

@[simp] theorem State.stepOver_frame (s : State) (n : Nat) (failed : Bool) :
    (s.stepOver n failed).gate.op = none ∧ (s.stepOver n failed).gate.channelFault = s.gate.channelFault
    ∧ (s.stepOver n failed).gate.driven = s.gate.driven ++ [0x70]
    ∧ (s.stepOver n failed).gate.faultCount = (if s.gate.channelFault = true then s.gate.faultCount else 0)
    ∧ (s.stepOver n failed).gate.ranges = s.gate.ranges ∧ (s.stepOver n failed).phaseCtl = s.phaseCtl
    ∧ (s.stepOver n failed).verifier = s.verifier ∧ (s.stepOver n failed).slotTable = s.slotTable
    ∧ (s.stepOver n failed).keyPort = s.keyPort ∧ (s.stepOver n failed).store.stored = s.store.stored
    ∧ (s.stepOver n failed).setup = s.setup := by
  simp [State.stepOver]

/-- Every 64th block is noted in the journal, unless it is the last (R127). -/
theorem State.stepOver_checkpoints (hmark : (s.purge.nextBlock + 1) % 64 = 0) (hmore : s.purge.nextBlock + 1 < s.blocks)
    (n : Nat) (failed : Bool) :
    (s.stepOver n failed).channelFree.purge.journal.nextBlock = s.purge.nextBlock + 1
      ∧ (s.stepOver n failed).channelFree.notes .journal := by
  have hblocks : s.statusRead.blocks = s.blocks := State.blocks_congr (by simp)
  obtain ⟨hnext, -, hjournal⟩ := s.stepOver_purge n failed
  have hnotes : (s.stepOver n failed).notes .journal :=
    State.blockDone_checkpoints (s := s.statusRead) (by simpa [hblocks] using ⟨hmark, hmore⟩)
  have hheld := State.channelFree_checkpointed (s := s.stepOver n failed) (by simp [hjournal, hnext, hmark, hmore])
  exact ⟨hheld.trans hnext, hnotes.channelFree⟩

/-- What the gate drives after the step: the status it read, until the erase of the engine's next block begins (R125). -/
theorem State.stepOver_drives (s : State) (n : Nat) (failed : Bool) :
    let t := (s.stepOver n failed).channelFree
    (t.gate.op = none → t.gate.driven = s.gate.driven ++ [0x70])
      ∧ (∀ m d, t.gate.op = some (.eraseStep m d) →
          m = s.purge.nextBlock + 1 ∧ t.gate.driven = eraseCycles m s.pagesPerBlock) := by
  obtain ⟨hnext, -, -⟩ := s.stepOver_purge n failed
  have hpages := s.stepOver_pages n failed
  intro t
  rcases State.channelFree_op (s := s.stepOver n failed) (by simp) with ⟨hnone, hdriven⟩ | ⟨d', hreset⟩ | ⟨herase, hdriven⟩
  · exact ⟨fun _ => by simpa [t] using hdriven, fun m d h => by simp [t, hnone] at h⟩
  · exact ⟨fun h => by simp [t, hreset] at h, fun m d h => by simp [t, hreset] at h⟩
  · refine ⟨fun h => by simp [t, herase] at h, fun m d h => ?_⟩
    obtain ⟨rfl, -⟩ : (s.stepOver n failed).purge.nextBlock = m ∧ (s.stepOver n failed).clock + 20000 = d := by
      simpa [t, herase] using h
    exact ⟨hnext, by rw [hdriven, hpages]⟩

/-- The step on the last block ends ERASE as complete (R128). -/
theorem State.stepOver_ends (he : s.erasing = true) (hb : s.blocks ≤ s.purge.nextBlock + 1) (n : Nat) (failed : Bool) :
    (s.stepOver n failed).channelFree = (s.stepOver n failed).channelReady.endErase false := by
  obtain ⟨hnext, -, -⟩ := s.stepOver_purge n failed
  have hblocks := s.stepOver_blocks n failed
  refine (State.channelFree_ends (s := s.stepOver n failed) (by simp)
    ((s.statusRead.blockDone_erasing n failed).trans he)).1 ?_
  rw [hblocks, hnext]
  exact hb

/-! ### An erase step that expires (R151, R152) -/

/-- The station as an erase step has run out: its recovery reset is driven (R125, R151). -/
def State.stepExpired (s : State) (n : Nat) (due : Micros) : State :=
  (s.setClock (max s.clock due)).setGate
    { s.gate with op := some (.recoveryReset (.erase n) (max s.clock due + 20000)), driven := [0xFF] }

theorem exec_eraseStepTimeout (h : s.awake = true) (hop : s.gate.op = some (.eraseStep n due)) :
    exec .eraseStepTimeout s = .next (s.stepExpired n due).countExpiry.payRoll := by
  change execEraseStepTimeout s = _
  rw [execEraseStepTimeout, State.whileAwake_of_awake h, hop]
  rfl

/-- The station as the third expiry in a row is that of an erase step. -/
def State.stepFaulted (s : State) (n : Nat) (due : Micros) : State :=
  (s.setClock (max s.clock due)).setGate
    { s.gate with
      op := some (.recoveryReset (.erase n) (max s.clock due + 20000)), driven := [0xFF]
      stepTimeout := true, faultCount := 3, channelFault := true, faultPeriod := some (max s.clock due + 1000000) }

/-- While the engine owns the channel a fault begins without a change of owner, and a step in flight goes to its end. -/
theorem State.stepExpired_faults (hopen : s.purge.journal.isOpen = true) (hguard : s.gate.owner = .guard) (n : Nat)
    (due : Micros) : (s.stepExpired n due).faulted.tellEngine = s.stepFaulted n due := by
  have hfaulted : (s.stepExpired n due).faulted = s.stepFaulted n due := by
    rw [State.faulted, State.recomputeOwner_same]
    · rfl
    · simp [State.ownerNow, State.stepExpired, hopen, hguard]
  have hstep : (s.stepFaulted n due).gate.stepInFlight = true := rfl
  rw [hfaulted, State.tellEngine, if_pos hstep]

/-! ### Recovery resets that end (R150) -/

/-- A reset that ends leaves the channel to what waited on it: nothing of it in flight, and STEP_TIMEOUT where it expired. -/
def State.resetOver (s : State) : State := s.setGate { s.gate with op := none }

@[simp] theorem State.resetOver_frame (s : State) :
    s.resetOver.phaseCtl = s.phaseCtl ∧ s.resetOver.verifier = s.verifier ∧ s.resetOver.keyPort = s.keyPort
    ∧ s.resetOver.purge = s.purge ∧ s.resetOver.slotTable = s.slotTable ∧ s.resetOver.setup = s.setup
    ∧ s.resetOver.supervisor = s.supervisor ∧ s.resetOver.store = s.store ∧ s.resetOver.gate.op = none
    ∧ s.resetOver.gate.ranges = s.gate.ranges ∧ s.resetOver.gate.channelFault = s.gate.channelFault
    ∧ s.resetOver.gate.faultCount = s.gate.faultCount := by
  simp [State.resetOver]

/-- The station as a recovery reset runs out. -/
def State.resetExpired (s : State) (due : Micros) : State :=
  (s.setClock (max s.clock due)).setGate { s.gate with stepTimeout := true }

theorem exec_recoveryResetReady (h : s.awake = true) (hop : s.gate.op = some (.recoveryReset reason due)) :
    exec .recoveryResetReady s = .next (s.finishReset reason true).payRoll := by
  change execRecoveryResetReady s = _
  rw [execRecoveryResetReady, State.whileAwake_of_awake h, hop]

theorem exec_recoveryResetTimeout (h : s.awake = true) (hop : s.gate.op = some (.recoveryReset reason due)) :
    exec .recoveryResetTimeout s = .next ((s.resetExpired due).finishReset reason false).payRoll := by
  change execRecoveryResetTimeout s = _
  rw [execRecoveryResetTimeout, State.whileAwake_of_awake h, hop]
  rfl

theorem State.finishReset_drain (s : State) (completed : Bool) : s.finishReset .drain completed = s.resetOver.channelFree := rfl

theorem State.finishReset_erase (s : State) (n : Nat) (completed : Bool) :
    s.finishReset (.erase n) completed = (s.resetOver.blockDone n true).channelFree := rfl

theorem State.finishReset_periodic (s : State) :
    s.finishReset .periodic true = s.resetOver.clearFault.channelFree
      ∧ s.finishReset .periodic false = s.resetOver.channelFree := ⟨rfl, rfl⟩

/-- With a fault standing, an ERASE that has blocks left ends early with the reset of its step (R128, R130). -/
theorem State.finishReset_erase_ends (he : s.erasing = true) (hf : s.gate.channelFault = true)
    (hb : s.purge.nextBlock + 1 < s.blocks) (n : Nat) (completed : Bool) :
    s.finishReset (.erase n) completed = (s.resetOver.blockDone n true).channelReady.endErase true := by
  have hblocks : (s.resetOver.blockDone n true).blocks = s.blocks := State.blocks_congr (by simp)
  have hnext := s.resetOver.blockDone_nextBlock n true
  rw [State.finishReset_erase]
  refine (State.channelFree_ends (by simp) ((s.resetOver.blockDone_erasing n true).trans he)).2 ?_
    (by simpa using hf)
  rw [hnext, hblocks]
  exact hb

/-- What the station is as its ERASE has ended early over the reset of a step. -/
theorem State.finishReset_endsEarly (he : s.erasing = true) (hf : s.gate.channelFault = true)
    (hb : s.purge.nextBlock + 1 < s.blocks) (n : Nat) (completed : Bool) :
    let t := (s.finishReset (.erase n) completed).payRoll
    t.purge.journal.isOpen = true ∧ t.purge.journal.stage = some .rekey
      ∧ t.purge.journal.nextBlock = s.purge.nextBlock + 1 ∧ t.purge.journal.eraseIncomplete = true
      ∧ t.purge.begun = false ∧ t.purge.suspended = false
      ∧ (.journal ∈ t.purge.writes.changed ∨ t.purge.writes.rechanged = true)
      ∧ t.gate.channelFault = true ∧ t.gate.faultCount = s.gate.faultCount
      ∧ (∀ m d, t.gate.op ≠ some (.eraseStep m d)) ∧ t.phaseCtl = s.phaseCtl := by
  intro t
  have ht : t = ((s.resetOver.blockDone n true).channelReady.endErase true).payRoll :=
    congrArg State.payRoll (State.finishReset_erase_ends he hf hb n completed)
  obtain ⟨hjournal, hbegun, hsuspended, hnoted, hgate, -⟩ :=
    (s.resetOver.blockDone n true).channelReady.endErase_ends true
  have hnext := s.resetOver.blockDone_nextBlock n true
  have hopen : s.purge.journal.isOpen = true := by
    by_contra hclosed
    rw [State.not_erasing_of_closed (by simpa using hclosed)] at he
    exact absurd he (by simp)
  have hidle : (s.resetOver.blockDone n true).gate.op = none := by simp
  rw [ht]
  refine ⟨by simp [hopen], by simp [hjournal], by simp [hjournal, hnext], by simp [hjournal], by simp [hbegun],
    by simp [hsuspended], by simpa using hnoted, by simpa [hgate] using hf, by simp [hgate], fun m d => ?_, by simp⟩
  rcases State.channelReady_op hidle with ⟨hop, -⟩ | ⟨due, hop⟩ <;> simp [hgate, hop]

/-- The fault is cleared, and the owner recomputed; no work is in flight (R153). -/
theorem State.clearFault_gate (s : State) :
    s.clearFault.gate.channelFault = false ∧ s.clearFault.gate.faultCount = 0 ∧ s.clearFault.gate.faultPeriod = none
      ∧ s.clearFault.gate.periodicDue = false ∧ s.clearFault.gate.op = s.gate.op
      ∧ s.clearFault.gate.owner = ownerFor s.phase s.purge.journal.isOpen false := by
  simp [State.clearFault]

/-! ### The fault period (R153) -/

/-- The station as its fault period falls due: the next 1 s later, and a periodic reset due. -/
def State.periodDue (s : State) (due : Micros) : State :=
  (s.setClock (max s.clock due)).setGate { s.gate with faultPeriod := some (due + 1000000), periodicDue := true }

theorem exec_faultPeriod (h : s.awake = true) (hp : s.gate.faultPeriod = some due) :
    exec .faultPeriod s = .next (s.periodDue due).issueDuePeriodic.payRoll := by
  change execFaultPeriod s = _
  rw [execFaultPeriod, State.whileAwake_of_awake h, hp]
  rfl

theorem State.issueDuePeriodic_issues (hp : s.gate.periodicDue = true) (hf : s.gate.channelFault = true)
    (hop : s.gate.op = none) (hh : s.gate.handOver = .steady) :
    s.issueDuePeriodic = (s.setGate { s.gate with periodicDue := false }).issueReset .periodic := by
  simp [State.issueDuePeriodic, hp, hf, hop, hh]

/-- A periodic reset waits for the work in flight and for a hand-over under way. -/
theorem State.issueDuePeriodic_waits (h : s.gate.op.isSome = true ∨ s.gate.handOver ≠ .steady) :
    s.issueDuePeriodic = s := by
  refine if_neg ?_
  rcases h with h | h
  · have hop : s.gate.op.isNone = false := by
      cases hc : s.gate.op <;> simp_all
    simp [hop]
  · simp [h]

/-- The reset of a drain leaves the channel to the settle (R149, R150). -/
theorem State.channelFree_resetting (h : s.gate.handOver = .resetting) (he : s.erasing = false) :
    s.channelFree = s.setGate { s.gate with handOver := .settling (s.clock + 1000) } := by
  have hsettles := State.settleAfterWork_settles (.inr h)
  rw [State.channelFree_eq, State.channelReady, State.issueDuePeriodic_waits (.inr (by simp [hsettles])),
    State.eraseAdvance_of_not_erasing ((State.erasing_congr (by simp)).trans he), hsettles]

end

/-- Settles O41: the end with ready by its block and by what ERASE goes on to; the expiry by what was counted before; the end of ERASE on a channel with a fault. -/
theorem eraseStepsEnd : Obligations.EraseStepsEnd := by
  refine ⟨fun s n due status hawake hop => ⟨⟨_, exec_eraseStepReady hawake hop, ?ready⟩, fun hf hc => ?counts,
    fun hf hc hopen hguard => ?faults⟩, fun s n due c hawake hop hc hf he hb => ?ends⟩
  case ready =>
    generalize status.getLsbD 0 = failed
    obtain ⟨hnext, hbad, hjournal⟩ := s.stepOver_purge n failed
    obtain ⟨hdrives, hissues⟩ := s.stepOver_drives n failed
    refine ⟨by simp [hnext], by simp [hbad], fun hfailed hin hfull => ?full, fun hroom => ?room,
      fun hfailed hin hroom => ?listed, fun hmore => ⟨fun hmark => ?mark, fun hmark hf hcell => ?unmarked⟩, by simp,
      by simp, by simpa using hdrives, fun m d hop' => ?issued, fun he hlast => ?completes, by simp, by simp, by simp,
      by simp, by simp [State.keepsRecords]⟩
    case full =>
      subst hfailed
      have hnotes := ((State.stepOver_notes hin).2 hfull).channelFree
      exact ⟨by simp [State.channelFree_listFull, hjournal, hin, hfull], by simpa [State.notes] using hnotes⟩
    case room =>
      have hroom' : ¬ (failed = true ∧ n ∉ s.purge.badBlocks ∧ 32 ≤ s.purge.badBlocks.length) := by
        rintro ⟨hfailed, hin, hfull⟩
        rcases hroom with hok | hin' | hless
        · simp [hfailed] at hok
        · exact hin hin'
        · omega
      simp [State.channelFree_listFull, hjournal, hroom']
    case listed =>
      subst hfailed
      simpa [State.notes] using ((State.stepOver_notes hin).1 hroom).channelFree
    case mark =>
      have hmarked := State.stepOver_checkpoints hmark hmore n failed
      simpa [State.notes] using hmarked
    case unmarked =>
      have hkept := State.channelFree_journal (s := s.stepOver n failed)
        (by rw [hnext, State.stepOver_blocks]; exact hmore) (by simpa using hf) ((s.stepOver_cell n failed).trans hcell)
      simp [hkept, hjournal, hmark]
    case issued =>
      obtain ⟨rfl, hdriven⟩ := hissues m d (by simpa using hop')
      exact ⟨by simp [hnext], by simp [hdriven, eraseCycles, rowCycles]⟩
    case completes =>
      have hends := State.stepOver_ends he hlast n failed
      have hend := (s.stepOver n failed).channelReady.endErase_ends false
      rw [← hends] at hend
      obtain ⟨hstage, hbegun, -, hnoted, -⟩ := hend
      simp [hstage, hbegun, hnoted, hnext, hjournal]
  case counts =>
    rw [exec_eraseStepTimeout hawake hop, State.countExpiry_counts (s := s.stepExpired n due) hf hc]
    rfl
  case faults =>
    intro faulty
    have hexec := exec_eraseStepTimeout hawake hop
    have hpolicy : (s.stepExpired n due).faultPolicyAll = s.faultPolicyAll := rfl
    have hout : (s.stepFaulted n due).ownOutstanding .lock = s.ownOutstanding .lock := rfl
    rw [State.countExpiry_faults (s := s.stepExpired n due) hf hc, State.stepExpired_faults hopen hguard, hpolicy] at hexec
    refine ⟨fun hquiet => ?_, fun hall hno => ?_⟩
    · have hstays : (if s.faultPolicyAll = true then (s.stepFaulted n due).offerLock .fault else s.stepFaulted n due)
          = s.stepFaulted n due := by
        rcases hquiet with hself | hout'
        · rw [if_neg (by simp [hself])]
        · rw [State.offerLock, if_pos (hout.trans hout'), ite_self]
      rw [hexec, hstays]
      rfl
    · rw [hexec, if_pos hall, State.offerLock_offers (hout.trans hno)]
      rfl
  case ends =>
    rcases hc with rfl | rfl
    · exact ⟨_, exec_recoveryResetReady hawake hop, State.finishReset_endsEarly he hf hb n true⟩
    · exact ⟨_, exec_recoveryResetTimeout hawake hop,
        State.finishReset_endsEarly (s := s.resetExpired due) he hf hb n false⟩

/-- Settles O46: the resets by their reason, and the fault period by what the channel has in flight. -/
theorem recoveryResetsRunTheirCourse : Obligations.RecoveryResetsRunTheirCourse := by
  refine ⟨fun s due hawake => ⟨fun hop hh he => ?drain, fun hop hh hf hp he => ?periodic, fun n hop => ?erase⟩,
    fun s due hawake hdue hf => ?period⟩
  case drain =>
    rw [exec_recoveryResetReady hawake hop, exec_recoveryResetTimeout hawake hop, State.finishReset_drain,
      State.finishReset_drain, State.channelFree_resetting (s := s.resetOver) hh he,
      State.channelFree_resetting (s := (s.resetExpired due).resetOver) hh he]
    exact ⟨rfl, rfl⟩
  case periodic =>
    refine ⟨?_, _, exec_recoveryResetReady hawake hop, ?_⟩
    · rw [exec_recoveryResetTimeout hawake hop, (State.finishReset_periodic _).2,
        State.channelFree_steady (s := (s.resetExpired due).resetOver) hh hp,
        State.eraseAdvance_of_not_erasing (s := (s.resetExpired due).resetOver) he]
      rfl
    · have hover := (State.finishReset_periodic s).1
      obtain ⟨hfault, hcount, hperiod, hdue, hop', howner⟩ := s.resetOver.clearFault_gate
      rw [State.channelFree_quiet hdue ((State.erasing_congr (by simp)).trans he)] at hover
      rw [hover]
      exact ⟨by simp [hfault], by simp [hcount], by simp [hperiod], by simp,
        by simp [howner], by simp, by simp,
        by simp, by simp, by simp [State.keepsRecords]⟩
  case erase =>
    refine ⟨_, exec_recoveryResetReady hawake hop, ?_⟩
    have hnext := s.resetOver.blockDone_nextBlock n true
    have hbad := s.resetOver.blockDone_badBlocks n true
    rw [State.finishReset_erase]
    refine ⟨by simp [hnext], fun hroom => ?_, by simp, by simp,
      by simp, by simp [State.keepsRecords]⟩
    by_cases hin : n ∈ s.purge.badBlocks
    · simp [hbad, hin]
    · simp [hbad, hin, hroom]
  case period =>
    intro late
    have hexec := exec_faultPeriod hawake hdue
    refine ⟨fun hop hh => ?_, fun hbusy => ?_⟩
    · rw [hexec, State.issueDuePeriodic_issues (s := s.periodDue due) rfl hf hop hh]
      rfl
    · rw [hexec, State.issueDuePeriodic_waits (s := s.periodDue due) hbusy]
      rfl

end Sys2Proof.Machine
end

section
/-! PROOFS. The engine's stored writes and the requests that follow them (R112, R121 to R132, R206). -/

namespace Sys2Proof.Machine

section
variable {s t u : State} {c : Contents} {serial grants : Nat} {j : Journal} {rec : RecordId} {rest more : List RecordId}

/-! ### The grant that follows a stored write (R206) -/

/-- At the end of a write: the arbiter is about to choose, and the engine has nothing requested and nothing to write. -/
structure State.AwaitsGrant (u : State) (grants : Nat) : Prop where
  deciding : u.store.deciding = true
  unrequested : u.store.requests.purge = none
  unwritten : u.purge.writes.changed = []
  idle : u.store.inFlight = none
  grants : u.store.grants = grants

theorem State.AwaitsGrant.congr (h : u.AwaitsGrant grants) (hstore : t.store = u.store)
    (hwrites : t.purge.writes = u.purge.writes) : t.AwaitsGrant grants where
  deciding := by rw [hstore]; exact h.deciding
  unrequested := by rw [hstore]; exact h.unrequested
  unwritten := by rw [hwrites]; exact h.unwritten
  idle := by rw [hstore]; exact h.idle
  grants := by rw [hstore]; exact h.grants

/-- The engine is the first that the arbiter serves. -/
theorem State.AwaitsGrant.granted (h : u.AwaitsGrant grants) (rec : RecordId) :
    (u.noteWrite .purge rec).arbitrate.payRoll.store.inFlight = some ⟨.purge, u.heldContents rec, grants + 1⟩ := by
  have hrequest : u.noteWrite .purge rec
      = (u.withWrites ⟨[rec], u.purge.writes.rechanged⟩).setStore
          { u.store with requests := u.store.requests.put .purge (some rec) } := by
    rw [State.noteWrite_purge_first h.unwritten (by simp [h.idle]),
      State.request_busy (s := u.withWrites ⟨[rec], u.purge.writes.rechanged⟩) (r := .purge) h.unrequested
        (.inr h.deciding)]
    rfl
  have hfirst : (u.noteWrite .purge rec).store.requests.first arbiterOrder = some (.purge, rec) := by
    rw [hrequest]
    rfl
  have hpaid : (u.noteWrite .purge rec).arbitrate.payRoll.store = (u.noteWrite .purge rec).arbitrate.store := by simp
  rw [hpaid, State.arbitrate_some hfirst, hrequest, State.heldContents_setStore, State.heldContents_withWrites, ← h.grants]
  rfl

/-! ### The write that is stored -/

/-- The station as a write of the engine is stored and closed, with nothing more to write. -/
def State.writeClosed (s : State) (c : Contents) : State := (s.stores c).withWrites ⟨[], false⟩

@[simp] theorem State.writeClosed_frame (s : State) (c : Contents) :
    (s.writeClosed c).clock = s.clock ∧ (s.writeClosed c).draws = s.draws ∧ (s.writeClosed c).line = s.line
    ∧ (s.writeClosed c).roster = s.roster ∧ (s.writeClosed c).verifier = s.verifier
    ∧ (s.writeClosed c).slotTable = s.slotTable ∧ (s.writeClosed c).phaseCtl = s.phaseCtl
    ∧ (s.writeClosed c).keyPort = s.keyPort ∧ (s.writeClosed c).purge = { s.purge with writes := ⟨[], false⟩ }
    ∧ (s.writeClosed c).gate = s.gate ∧ (s.writeClosed c).supervisor = s.supervisor
    ∧ (s.writeClosed c).setup = s.setup ∧ (s.writeClosed c).store.stored = s.store.stored.put c := by
  simp [State.writeClosed, State.withWrites, State.stores]

theorem State.writeClosed_awaits (hq : s.store.requests.purge = none) (c : Contents) :
    (s.writeClosed c).AwaitsGrant s.store.grants :=
  ⟨rfl, hq, rfl, rfl, rfl⟩

theorem State.closeWrite_last (hw : s.purge.writes = ⟨[rec], false⟩) : s.closeWrite .purge rec = s.withWrites ⟨[], false⟩ := by
  simp [State.closeWrite, State.writeSet, hw, State.setWriteSet, State.kickWrites, State.withWrites]

theorem State.answerStored_none (hw : s.purge.waits = []) (target : Nat) : s.answerStored target = s := by
  have hsame : s.setPurge { s.purge with waits := [] } = s := by rw [← hw]; rfl
  simp [State.answerStored, hw, hsame]

/-- The journal's write, with no answer that waits for it. -/
theorem exec_journalStored (h : s.writing .purge (.journal j) serial) (hp : s.phase = .purging) (hwaits : s.purge.waits = [])
    (hw : s.purge.writes = ⟨[.journal], false⟩) :
    exec .purgeWriteComplete s
      = .next (if s.purge.closing && !j.isOpen then (s.writeClosed (.journal j)).closePurge
        else if s.purge.journal.isOpen && !s.purge.begun && j.isOpen && j.stage = s.purge.journal.stage then
          (s.writeClosed (.journal j)).beginStage
        else s.writeClosed (.journal j)).arbitrate.payRoll := by
  rw [exec_journalWriteComplete h hp, State.journalClosed, State.closeWrite_last (s := s.stores (.journal j)) hw]
  change Host.Outcome.next ((s.writeClosed (.journal j)).journalStored j).arbitrate.payRoll = _
  rw [State.journalStored, State.answerStored_none (by simpa using hwaits)]
  simp

/-- The stored journal begins its stage (R121). -/
theorem exec_journalStored_begins (h : s.writing .purge (.journal j) serial) (hp : s.phase = .purging)
    (hj : s.purge.journal = j) (ho : j.isOpen = true) (hb : s.purge.begun = false) (hc : s.purge.closing = false)
    (hwaits : s.purge.waits = []) (hw : s.purge.writes = ⟨[.journal], false⟩) :
    exec .purgeWriteComplete s = .next (s.writeClosed (.journal j)).beginStage.arbitrate.payRoll := by
  rw [exec_journalStored h hp hwaits hw, if_neg (by simp [hc]), if_pos (by simp [hj, ho, hb])]

/-- Another record's write leads to the next of the plan (R112). -/
theorem exec_planStored (h : s.writing .purge c serial) (hp : s.phase = .purging) (hc : c.record ≠ .journal)
    (hw : s.purge.writes = ⟨[c.record], false⟩) :
    exec .purgeWriteComplete s = .next ((s.writeClosed c).planStored c.record).arbitrate.payRoll := by
  have hagain : (s.stores c).purge.writes.rechanged = false := by simp [hw]
  have hphase : ((s.stores c).withWrites ⟨[], false⟩).phase = .purging := hp
  rw [exec_purgeWriteComplete h, State.purgeStored]
  dsimp only
  rw [State.closeWrite_last (s := s.stores c) hw, if_pos hphase, hagain]
  cases c with
  | journal j => exact absurd rfl hc
  | setup _ | salt _ | attempt _ | slot _ _ | blankKey _ | range _ _ | badBlocks _ | tamper _ => rfl

/-! ### The stages that begin (R121 to R132) -/

/-- ERASE takes up the next block of its journal (R124). -/
def State.eraseTaken (s : State) : State := s.setPurge { s.purge with nextBlock := s.purge.journal.nextBlock, begun := true }

theorem State.beginErase_eq (s : State) : s.beginErase = s.eraseTaken.eraseAdvance := rfl

/-- The journal that the end of ERASE has written. -/
theorem State.endErase_eq (s : State) (early : Bool) :
    s.endErase early
      = (s.setPurge
          { s.purge with
            journal := { s.purge.journal with
              stage := some .rekey, nextBlock := s.purge.nextBlock
              eraseIncomplete := s.purge.journal.eraseIncomplete || early }
            begun := false, suspended := false }).noteWrite .purge .journal := rfl

/-- ERASE with no block left ends as complete, with a fault or without (log entry 24). -/
theorem State.eraseAdvance_ends (he : s.erasing = true) (hs : s.gate.stepInFlight = false) (hb : s.blocks ≤ s.purge.nextBlock) :
    s.eraseAdvance = s.endErase false := by
  simp [State.eraseAdvance, he, hs, hb]

/-- The next stage, by the journal that it has written. -/
theorem State.nextStage_eq (s : State) (stage : PurgeStage) :
    s.nextStage stage
      = (s.setPurge { s.purge with journal := { s.purge.journal with stage := some stage }, begun := false }).noteWrite
          .purge .journal := rfl

@[simp] theorem State.eraseTaken_frame (s : State) :
    s.eraseTaken.purge = { s.purge with nextBlock := s.purge.journal.nextBlock, begun := true }
    ∧ s.eraseTaken.clock = s.clock ∧ s.eraseTaken.verifier = s.verifier ∧ s.eraseTaken.slotTable = s.slotTable
    ∧ s.eraseTaken.gate = s.gate ∧ s.eraseTaken.supervisor = s.supervisor ∧ s.eraseTaken.setup = s.setup
    ∧ s.eraseTaken.store = s.store := by
  simp [State.eraseTaken]

theorem State.eraseTaken_erasing (ho : s.purge.journal.isOpen = true) (hstage : s.purge.journal.stage = some .erase) :
    s.eraseTaken.erasing = true := by
  simp [State.erasing, ho, hstage]

theorem State.eraseTaken_blocks (s : State) : s.eraseTaken.blocks = s.blocks := State.blocks_congr (by simp)

/-! ### The sequence of a stage (R112, R131, R132) -/

/-- The station with what is left of its sequence. -/
def State.withPlan (s : State) (plan : List RecordId) : State := s.setPurge { s.purge with plan := plan }

@[simp] theorem State.withPlan_frame (s : State) (plan : List RecordId) :
    (s.withPlan plan).purge = { s.purge with plan := plan } ∧ (s.withPlan plan).supervisor = s.supervisor
    ∧ (s.withPlan plan).slotTable = s.slotTable ∧ (s.withPlan plan).gate = s.gate ∧ (s.withPlan plan).store = s.store := by
  simp [State.withPlan]

theorem State.AwaitsGrant.withPlan (h : u.AwaitsGrant grants) (plan : List RecordId) : (u.withPlan plan).AwaitsGrant grants :=
  h.congr rfl rfl

theorem State.planStored_next (hplan : s.purge.plan = rec :: rest) (hne : rest ≠ []) :
    s.planStored rec = (s.withPlan rest).writePlanHead := by
  simp [State.planStored, State.withPlan, hplan, hne]

/-- After the last record DESTROY and REKEY give way to the next stage. -/
theorem State.planStored_last (hplan : s.purge.plan = [rec]) :
    s.planStored rec
      = if s.purge.journal.stage = some .destroy then (s.withPlan []).nextStage .erase
        else if s.purge.journal.stage = some .rekey then (s.withPlan []).nextStage .close
        else s.withPlan [] := by
  rw [State.planStored, hplan]
  dsimp only
  rw [if_pos rfl, if_neg (by simp)]
  rfl

/-- A record of the sequence that is neither TAMPERED nor the journal is written as it is held. -/
theorem State.writePlanHead_record (hplan : s.purge.plan = rec :: more) (ht : rec ≠ .tamper) (hj : rec ≠ .journal) :
    s.writePlanHead = s.noteWrite .purge rec := by
  rw [State.writePlanHead, hplan]
  cases rec <;> simp_all

/-- TAMPERED is cleared before it is written (R132). -/
theorem State.writePlanHead_tamper (hplan : s.purge.plan = .tamper :: more) :
    s.writePlanHead = (s.setTampered false).noteWrite .purge .tamper := by
  rw [State.writePlanHead, hplan]

/-- The journal is written CLOSED (R132). -/
theorem State.writePlanHead_journal (hplan : s.purge.plan = .journal :: more) :
    s.writePlanHead = (s.setPurge { s.purge with closing := true }).noteWrite .purge .journal := by
  rw [State.writePlanHead, hplan]

/-- The sequence leaves slot table and gate to the stages that begin. -/
@[simp] theorem State.writePlanHead_leaves (s : State) :
    s.writePlanHead.slotTable = s.slotTable ∧ s.writePlanHead.gate = s.gate := by
  unfold State.writePlanHead
  split <;> simp

@[simp] theorem State.planStored_leaves (s : State) (rec : RecordId) :
    (s.planStored rec).slotTable = s.slotTable ∧ (s.planStored rec).gate = s.gate := by
  unfold State.planStored
  dsimp only
  (repeat' split) <;> simp [State.nextStage_eq]

theorem State.planStored_plan (hplan : s.purge.plan = rec :: rest) : (s.planStored rec).purge.plan = rest := by
  cases rest with
  | nil =>
    rw [State.planStored_last hplan]
    (repeat' split) <;> simp [State.nextStage_eq]
  | cons next more =>
    rw [State.planStored_next hplan (by simp)]
    simp

/-- ERASE with no block left ends as it begins. -/
theorem State.beginErase_ends (ho : s.purge.journal.isOpen = true) (hstage : s.purge.journal.stage = some .erase)
    (hs : s.gate.stepInFlight = false) (hb : s.blocks ≤ s.purge.journal.nextBlock) :
    s.beginErase = s.eraseTaken.endErase false := by
  rw [State.beginErase_eq, State.eraseAdvance_ends (State.eraseTaken_erasing ho hstage) (by simpa using hs)]
  simpa [State.eraseTaken_blocks] using hb

/-- ERASE begins with the block of its journal where its conditions hold. -/
theorem State.beginErase_issues (ho : s.purge.journal.isOpen = true) (hstage : s.purge.journal.stage = some .erase)
    (hb : s.purge.journal.nextBlock < s.blocks) (hf : s.gate.channelFault = false) (hcell : s.eraseCellOk = true)
    (hop : s.gate.op = none) (hholder : s.gate.holder = .guard) (hsteady : s.gate.handOver = .steady)
    (hp : s.gate.periodicDue = false) :
    s.beginErase = (s.eraseTaken.setPurge { s.eraseTaken.purge with suspended := false }).issueErase := by
  rw [State.beginErase_eq]
  refine State.eraseAdvance_issues (State.eraseTaken_erasing ho hstage) ?_ (by simpa using hf)
    (by simpa [State.eraseCellOk] using hcell) (by simpa using hop) (by simpa using hholder) (by simpa using hsteady)
    (by simpa using hp)
  simpa [State.eraseTaken_blocks] using hb

/-! ### The first write of what begins (R112, R206) -/

/-- The write of the next stage's journal. -/
theorem State.AwaitsGrant.nextStage (h : u.AwaitsGrant grants) (ho : u.purge.journal.isOpen = true)
    (hc : u.purge.closing = false) (stage : PurgeStage) :
    (u.nextStage stage).arbitrate.payRoll.store.inFlight
      = some ⟨.purge, .journal
          { u.purge.journal with
            stage := some stage
            nextBlock := if stage = .erase then u.purge.nextBlock else u.purge.journal.nextBlock }, grants + 1⟩ := by
  rw [State.nextStage_eq, State.AwaitsGrant.granted (h.congr (by simp) (by simp))]
  simp [State.heldContents, State.journalAsWritten, ho, hc]

theorem State.AwaitsGrant.endErase (h : u.AwaitsGrant grants) (ho : u.purge.journal.isOpen = true)
    (hc : u.purge.closing = false) :
    (u.endErase false).arbitrate.payRoll.store.inFlight
      = some ⟨.purge, .journal { u.purge.journal with stage := some .rekey, nextBlock := u.purge.nextBlock }, grants + 1⟩ := by
  rw [State.endErase_eq, State.AwaitsGrant.granted (h.congr (by simp) (by simp))]
  simp [State.heldContents, State.journalAsWritten, ho, hc]

theorem State.AwaitsGrant.beginDestroy (h : u.AwaitsGrant grants) :
    u.beginDestroy.arbitrate.payRoll.store.inFlight = some ⟨.purge, .badBlocks [], grants + 1⟩ := by
  rw [State.beginDestroy_eq, State.AwaitsGrant.granted (h.congr (by simp) (by simp))]
  simp [State.heldContents]

theorem State.AwaitsGrant.beginRekey (h : u.AwaitsGrant grants) :
    u.beginRekey.arbitrate.payRoll.store.inFlight
      = some ⟨.purge, .blankKey (some (Config.freeKey u.draws)), grants + 1⟩ := by
  rw [State.beginRekey_eq, State.AwaitsGrant.granted (h.congr (by simp) (by simp))]
  simp [State.heldContents]

theorem State.AwaitsGrant.beginClose (h : u.AwaitsGrant grants) :
    u.beginClose.arbitrate.payRoll.store.inFlight
      = some ⟨.purge, .attempt ⟨u.purge.journal.target.getD 0, 0, 0⟩, grants + 1⟩ := by
  rw [State.beginClose_eq, State.AwaitsGrant.granted (h.congr (by simp) (by simp))]
  simp [State.heldContents]

/-- The next record of a sequence, as it is held; TAMPERED cleared, and in CLOSE the journal CLOSED (R132). -/
theorem State.AwaitsGrant.writePlanHead (h : u.AwaitsGrant grants) (hplan : u.purge.plan = rec :: more) :
    (rec ≠ .tamper → rec ≠ .journal →
        u.writePlanHead.arbitrate.payRoll.store.inFlight = some ⟨.purge, u.heldContents rec, grants + 1⟩)
      ∧ (rec = .tamper → u.writePlanHead.arbitrate.payRoll.store.inFlight = some ⟨.purge, .tamper false, grants + 1⟩)
      ∧ (rec = .journal → u.purge.journal.stage = some .close →
        u.writePlanHead.arbitrate.payRoll.store.inFlight
          = some ⟨.purge, .journal { u.purge.journal with isOpen := false }, grants + 1⟩) := by
  refine ⟨fun ht hj => ?record, fun ht => ?tamper, fun hj hclose => ?journal⟩
  case record => rw [State.writePlanHead_record hplan ht hj, h.granted]
  case tamper =>
    subst ht
    rw [State.writePlanHead_tamper hplan, State.AwaitsGrant.granted (h.congr (by simp) (by simp))]
    simp [State.setTampered_supervisor, State.heldContents]
  case journal =>
    subst hj
    rw [State.writePlanHead_journal hplan, State.AwaitsGrant.granted (h.congr (by simp) (by simp))]
    simp [State.heldContents, State.journalAsWritten, hclose]

/-- What the next record of a sequence moves beside the store. -/
theorem State.writePlanHead_moves (hplan : s.purge.plan = rec :: more) :
    s.writePlanHead.purge.closing = (if rec = .journal then true else s.purge.closing)
      ∧ s.writePlanHead.supervisor
        = (if rec = .tamper then { s.supervisor with tampered := false } else s.supervisor) := by
  by_cases ht : rec = .tamper
  · subst ht
    rw [State.writePlanHead_tamper hplan]
    simp [State.setTampered_supervisor]
  by_cases hj : rec = .journal
  · subst hj
    rw [State.writePlanHead_journal hplan]
    simp
  · rw [State.writePlanHead_record hplan ht hj]
    simp [ht, hj]

/-- What a stored write leaves in place of the records that the next ones hold. -/
theorem State.heldContents_writeClosed (s : State) (c : Contents) (plan : List RecordId) (hj : rec ≠ .journal) :
    ((s.writeClosed c).withPlan plan).heldContents rec = s.heldContents rec := by
  cases rec <;> simp [State.heldContents, State.withPlan] at hj ⊢

end

end Sys2Proof.Machine
end

section
/-! PROOFS. The close of a purge, and PURGE_WAIT (R116, R132 to R136, R140). -/

namespace Sys2Proof.Machine

section
variable {s t u b : State} {entries : Vector RosterEntry 8} {target : Nat} {f : RxFrame} {r : GuardRecord}

/-! ### The test of PURGE_WAIT (R136) -/

/-- Every other member's last record is at the epoch of s or above, and out of PURGING. -/
def State.everyoneArrived (s : State) (entries : Vector RosterEntry 8) : Prop :=
  ∀ n ∈ s.others, ∃ r, entries[n].last = some (.guard r) ∧ s.epoch ≤ r.epoch ∧ r.phase ≠ .purging

theorem State.everyoneArrived_congr (hothers : u.others = s.others) (hepoch : u.epoch = s.epoch) :
    u.everyoneArrived entries ↔ s.everyoneArrived entries := by
  rw [State.everyoneArrived, State.everyoneArrived, hothers, hepoch]

theorem State.memberArrived_other {n : StationNo} (hne : n ≠ s.sn) :
    s.memberArrived n = true
      ↔ ∃ r, s.roster.entries[n].last = some (.guard r) ∧ s.epoch ≤ r.epoch ∧ r.phase ≠ .purging := by
  unfold State.memberArrived State.lastGuard
  rw [if_neg hne]
  rcases s.roster.entries[n] with ⟨p, _ | r | _⟩ <;> simp

theorem State.all_memberArrived_iff (s : State) : s.others.all s.memberArrived = true ↔ s.everyoneArrived s.roster.entries := by
  rw [List.all_eq_true]
  refine forall₂_congr fun n hn => State.memberArrived_other ?_
  simp only [State.others, List.mem_filter] at hn
  simpa using hn.2

/-- The station leaves PURGE_WAIT for BLANK once every other member has arrived. -/
theorem State.purgeWaitTest_eq (h : s.phase = .purgeWait) :
    (s.everyoneArrived s.roster.entries → s.purgeWaitTest = s.enterPhase .blank)
      ∧ (¬ s.everyoneArrived s.roster.entries → s.purgeWaitTest = s) := by
  rw [← s.all_memberArrived_iff]
  refine ⟨fun harrived => ?_, fun hno => ?_⟩
  · rw [State.purgeWaitTest, if_pos (by simpa using ⟨h, by simpa using harrived⟩)]
  · rw [State.purgeWaitTest, if_neg (by simpa using fun _ => by simpa using hno)]

/-- The phase that the test leaves. -/
theorem State.purgeWaitTest_phase (h : s.phase = .purgeWait) :
    (s.everyoneArrived s.roster.entries → s.purgeWaitTest.phase = .blank)
      ∧ (¬ s.everyoneArrived s.roster.entries → s.purgeWaitTest.phase = .purgeWait) := by
  obtain ⟨harrived, hwaits⟩ := State.purgeWaitTest_eq h
  refine ⟨fun ha => ?_, fun hno => by rw [hwaits hno, h]⟩
  rw [harrived ha]
  simp [State.carriedOn]

/-! ### The close (R116, R132, R136) -/

/-- The station as the stored close has ended its purge: CLOSED, in PURGE_WAIT, with its PURGED offered. -/
def State.purgeClosed (s : State) : State :=
  ((s.setPurge
    { s.purge with
      journal := { s.purge.journal with isOpen := false }, closing := false, begun := false, plan := []
      suspended := false, reoffer := none }).enterPhase .purgeWait).offerPurged

theorem State.closePurge_eq (s : State) : s.closePurge = s.purgeClosed.purgeWaitTest.openPending := rfl

@[simp] theorem State.purgeClosed_frame (s : State) :
    s.purgeClosed.clock = s.clock ∧ s.purgeClosed.roster.sn = s.roster.sn ∧ s.purgeClosed.roster.entries = s.roster.entries
    ∧ s.purgeClosed.verifier = s.verifier ∧ s.purgeClosed.slotTable = s.slotTable ∧ s.purgeClosed.keyPort = s.keyPort
    ∧ s.purgeClosed.phaseCtl = ⟨.purgeWait, .none, none⟩ ∧ s.purgeClosed.gate.ranges = s.gate.ranges
    ∧ s.purgeClosed.gate.owner = ownerFor .purgeWait false s.gate.channelFault ∧ s.purgeClosed.gate.grant = .none
    ∧ s.purgeClosed.gate.channelFault = s.gate.channelFault
    ∧ s.purgeClosed.purge.journal = { s.purge.journal with isOpen := false }
    ∧ s.purgeClosed.purge.pendingTarget = s.purge.pendingTarget ∧ s.purgeClosed.purge.writes = s.purge.writes
    ∧ s.purgeClosed.setup = s.setup ∧ s.purgeClosed.store = s.store := by
  simp [State.purgeClosed, State.carriedOn, grantFor]

/-- The PURGED that a close offers joins the tail of a queue with room (R20, R136). -/
theorem State.purgeClosed_line (hl : s.line.tx.length < 4) :
    ∃ g, g.kind = .purged
      ∧ g.payload
        = bytes2 s.epoch
          ++ [byte ((if s.purge.journal.eraseIncomplete = true then 128 else 0)
              + (if s.purge.journal.listFull = true then 64 else 0)), byte s.purge.badBlocks.length]
      ∧ s.purgeClosed.line.tx = s.line.tx ++ [g] ∧ s.purgeClosed.line.rx = s.line.rx := by
  have hline := (s.setPurge
    { s.purge with
      journal := { s.purge.journal with isOpen := false }, closing := false, begun := false, plan := []
      suspended := false, reoffer := none }).enterPhase_line .purgeWait (by simp [State.carriedOn])
  rw [State.purgeClosed, State.offerPurged, State.offer_line_other (k := .purged) rfl (by rw [hline]; exact hl)]
  refine ⟨_, rfl, ?_, by rw [hline]; rfl, by rw [hline]; rfl⟩
  cases he : s.purge.journal.eraseIncomplete <;> cases hf : s.purge.journal.listFull <;>
    simp [State.formFrame, State.epoch, bit, he, hf]

/-- The test of PURGE_WAIT offers no frame. -/
theorem State.purgeWaitTest_line (s : State) : s.purgeWaitTest.line = s.line := by
  unfold State.purgeWaitTest
  split
  · exact State.enterPhase_line _ _ (by simp [State.carriedOn])
  · rfl

/-- Where the close has left the station once its PURGE_WAIT is tested. -/
theorem State.purgeClosed_tested (s : State) :
    (s.everyoneArrived s.roster.entries → s.purgeClosed.purgeWaitTest.phaseCtl = ⟨.blank, .none, none⟩)
      ∧ (¬ s.everyoneArrived s.roster.entries → s.purgeClosed.purgeWaitTest.phaseCtl = ⟨.purgeWait, .none, none⟩)
      ∧ s.purgeClosed.purgeWaitTest.gate.grant = .none
      ∧ s.purgeClosed.purgeWaitTest.gate.owner = (if s.gate.channelFault = true then .none else .controller) := by
  have hothers : s.purgeClosed.others = s.others := State.others_congr (by simp) (by simp)
  have hepoch : s.purgeClosed.epoch = s.epoch := by simp [State.epoch]
  have hcongr := State.everyoneArrived_congr (entries := s.roster.entries) hothers hepoch
  obtain ⟨harrived, hwaits⟩ := State.purgeWaitTest_eq (s := s.purgeClosed) (by simp)
  simp only [State.purgeClosed_frame, hcongr] at harrived hwaits
  by_cases ha : s.everyoneArrived s.roster.entries
  · rw [harrived ha]
    simp [ha, State.carriedOn, grantFor, ownerFor_running]
  · rw [hwaits ha]
    simp [ha, ownerFor_running]

theorem State.openPending_none (h : s.purge.pendingTarget = none) : s.openPending = s := by
  rw [State.openPending, h]

theorem State.openPending_opens (h : s.purge.pendingTarget = some target) :
    s.openPending = (s.setPurge { s.purge with pendingTarget := none }).openPurge .epoch target := by
  rw [State.openPending, h]

/-! ### The purge that opens at the close (R116, R120) -/

/-- An urgent frame finds room before, or in the place of, a frame at the tail that is not urgent (R20). -/
theorem State.mem_offer_urgent_before {k : Kind} (hu : k.urgent = true) {left : List TxFrame} {g : TxFrame}
    (htx : s.line.tx = left ++ [g]) (hg : g.kind.urgent = false) (dest : Option StationNo) (payload : List Byte) :
    s.formFrame k dest payload ∈ (s.offer k dest payload).line.tx := by
  by_cases hl : s.line.tx.length < 4
  · exact State.mem_offer_urgent hu hl dest payload
  · have hu' : (s.formFrame k dest payload).kind.urgent = true := hu
    rw [State.offer_full (Nat.not_lt.mp hl), State.offerToFull_displaces hu' (Nat.not_lt.mp hl) htx hg, State.takeOffer,
      if_pos hu']
    exact mem_placeUrgent _ _ _

/-- The opening behind a frame of the tail that is not urgent offers its PURGE all the same. -/
theorem State.openPurge_offers_before (ho : s.ownOutstanding .purge = false) {left : List TxFrame} {g : TxFrame}
    (htx : s.line.tx = left ++ [g]) (hg : g.kind.urgent = false) (cause : PurgeCause) (target : Nat) :
    ∃ f ∈ (s.openPurge cause target).line.tx, f.kind = .purge ∧ f.directed = false ∧ f.attempt = 0
      ∧ f.payload = byte cause.code :: bytes2 target := by
  have hleft : s.leavePhase.line = s.line := by simp
  have hline : ((s.leavePhase.journalOpened cause target).enterPhase .purging).beginOffers.line = s.line := by
    simp [State.enterPurging_line]
  have hmem := State.mem_offer_urgent_before (s := ((s.leavePhase.journalOpened cause target).enterPhase .purging).beginOffers)
    (k := .purge) rfl (by rw [hline]; exact htx) hg none
    ((s.leavePhase.journalOpened cause target).enterPhase .purging).beginOffers.purgePayload
  have hout := (State.ownOutstanding_congr hline .purge).trans ho
  rw [State.openPurge_eq, State.offerPurge, if_neg (by simp [hout])]
  refine ⟨_, hmem, rfl, rfl, rfl, ?_⟩
  simp [State.formFrame, State.purgePayload, State.beginOffers, State.journalOpened, Journal.opened]

/-- A target that waited for the close opens the next purge; the write in hand is the close's, and the new journal's follows it (R120, log entry 54). -/
theorem State.closePurge_opens (c : Contents) (h : s.purge.pendingTarget = some target) (hw : s.purge.writes.changed ≠ []) :
    s.purgeOpened (s.writeClosed c).closePurge.arbitrate.payRoll .epoch target
      ∧ (s.writeClosed c).closePurge.arbitrate.payRoll.purge.pendingTarget = none := by
  have hpending : (s.writeClosed c).purgeClosed.purgeWaitTest.purge.pendingTarget = some target := by simp [h]
  rw [State.closePurge_eq, State.openPending_opens hpending]
  set u := (s.writeClosed c).purgeClosed.purgeWaitTest.setPurge
    { (s.writeClosed c).purgeClosed.purgeWaitTest.purge with pendingTarget := none } with hu
  have hothers : u.others = s.others := State.others_congr (by simp [hu]) (by simp [hu])
  obtain ⟨hheard, hreoffered, hreoffer⟩ := u.openPurge_heard .epoch target
  have hnoted := u.openPurge_noted .epoch target
  refine ⟨⟨by simp, by simp, by simp, by simp, by simp [Journal.opened], by simpa using hnoted, fun _ hc => absurd hc hw,
    by simp [hheard], by simp [hreoffered], by simp [hreoffer, hothers], fun hout hl => ?_⟩,
    by simp [(u.openPurge_restarts .epoch target).2.2]⟩
  obtain ⟨g, hkind, -, htx, hrx⟩ := (s.writeClosed c).purgeClosed_line (by simpa using hl)
  have hline : u.line = (s.writeClosed c).purgeClosed.line := (s.writeClosed c).purgeClosed.purgeWaitTest_line
  have hnone : u.ownOutstanding .purge = false := by
    simp only [State.ownOutstanding, Bool.or_eq_false_iff] at hout
    simp [State.ownOutstanding, hline, htx, hrx, hkind, hout]
  obtain ⟨f, hf, hpurge⟩ := State.openPurge_offers_before hnone (by rw [hline]; exact htx) (by rw [hkind]; rfl) .epoch target
  exact ⟨f, State.mem_payRoll (by simpa using hf), hpurge⟩

/-- The close moves neither attempt record nor key port, whether or not a purge opens at it. -/
theorem State.closePurge_kept (s : State) :
    s.closePurge.verifier = s.verifier ∧ s.closePurge.keyPort = s.keyPort := by
  have hphase : s.purgeClosed.purgeWaitTest.phase = .blank ∨ s.purgeClosed.purgeWaitTest.phase = .purgeWait := by
    obtain ⟨harrived, hwaits, -, -⟩ := s.purgeClosed_tested
    by_cases ha : s.everyoneArrived s.roster.entries
    · exact .inl (by rw [State.phase, harrived ha])
    · exact .inr (by rw [State.phase, hwaits ha])
  cases hp : s.purge.pendingTarget with
  | none =>
    rw [State.closePurge_eq, State.openPending_none (by simp [hp])]
    simp
  | some target =>
    have hpending : s.purgeClosed.purgeWaitTest.purge.pendingTarget = some target := by simp [hp]
    rw [State.closePurge_eq, State.openPending_opens hpending]
    obtain ⟨hverifier, hkeyPort, -⟩ := (s.purgeClosed.purgeWaitTest.setPurge
      { s.purgeClosed.purgeWaitTest.purge with pendingTarget := none }).openPurge_left .epoch target
    refine ⟨hverifier.trans ?_, hkeyPort.trans ?_⟩ <;>
      rcases hphase with hphase | hphase <;> simp [State.leavePhase, hphase]

/-- Without a target that waited, the station is where the test of PURGE_WAIT has left it. -/
theorem State.closePurge_rests (h : s.purge.pendingTarget = none) : s.closePurge = s.purgeClosed.purgeWaitTest := by
  rw [State.closePurge_eq, State.openPending_none (by simp [h])]

/-! ### The reports of PURGE_WAIT (R46, R136) -/

/-- A report handled in the PURGE_WAIT of s has made the test, and left the records. -/
def State.waitTested (s t : State) : Prop :=
  (s.everyoneArrived t.roster.entries → t.phase = .blank) ∧ (¬ s.everyoneArrived t.roster.entries → t.phase = .purgeWait)
    ∧ s.keepsRecords t

theorem State.waitTested_of_test (hp : u.phase = .purgeWait) (hsn : u.roster.sn = s.roster.sn) (hepoch : u.epoch = s.epoch)
    (hrecords : s.keepsRecords u) : s.waitTested u.purgeWaitTest := by
  obtain ⟨hstored, hranges, hsetup⟩ := hrecords
  obtain ⟨harrived, hwaits⟩ := State.purgeWaitTest_phase hp
  have hentries : u.purgeWaitTest.roster.entries = u.roster.entries := by simp
  rw [State.everyoneArrived_congr (State.others_congr hsetup hsn) hepoch, ← hentries] at harrived hwaits
  exact ⟨harrived, hwaits, by simp [State.keepsRecords, hstored, hranges, hsetup]⟩

theorem State.waitTested.later (h : s.waitTested t) (hphase : u.phaseCtl = t.phaseCtl)
    (hentries : u.roster.entries = t.roster.entries) (hrecords : t.keepsRecords u) : s.waitTested u := by
  obtain ⟨harrived, hwaits, hstored, hranges, hsetup⟩ := h
  obtain ⟨hstored', hranges', hsetup'⟩ := hrecords
  refine ⟨?_, ?_, hstored'.trans hstored, hranges'.trans hranges, hsetup'.trans hsetup⟩
  · rwa [hentries, State.phase, hphase]
  · rwa [hentries, State.phase, hphase]

theorem State.waitTested.payRoll (h : s.waitTested t) : s.waitTested t.payRoll :=
  h.later (by simp) (by simp) (by simp [State.keepsRecords])

theorem State.waitTested.answerRoll (h : s.waitTested t) (calls : Bool) : s.waitTested (t.answerRoll calls) :=
  h.later (by simp) (by simp) (by simp [State.keepsRecords])

/-- In PURGE_WAIT the tests after a report are the one of PURGE_WAIT. -/
theorem State.testsAfterReport_purgeWait (hp : u.phase = .purgeWait) : u.testsAfterReport = u.purgeWaitTest := by
  rw [State.testsAfterReport, State.completionTest_elsewhere (by simp [hp]) (by simp [hp])]

theorem State.afterMerge_purgeWait (hp : u.phase = .purgeWait) {epoch : Nat} (he : epoch ≤ u.epoch) (halted : Bool) :
    u.afterMerge halted epoch = u.purgeWaitTest := by
  have hnot : u.purgeWaitTest.phase ≠ .locked := by
    obtain ⟨harrived, hwaits⟩ := State.purgeWaitTest_phase hp
    by_cases ha : u.everyoneArrived u.roster.entries
    · simp [harrived ha]
    · simp [hwaits ha]
  rw [State.afterMerge, State.epochTest_same he, State.testsAfterReport_purgeWait hp, State.leaveLockedOn_elsewhere (.inl hnot)]

/-- A merge below the failure limit leaves the station in PURGE_WAIT with its epoch and its records (R46, R47). -/
theorem State.mergeRoll_waits (hp : u.phase = .purgeWait) (h : u.mergesRoll r → r.count < u.failureLimit) :
    (u.mergeRoll r).phase = .purgeWait ∧ (u.mergeRoll r).roster = u.roster ∧ (u.mergeRoll r).epoch = u.epoch
      ∧ u.keepsRecords (u.mergeRoll r) := by
  by_cases hm : u.mergesRoll r
  · have hmerged : u.mergeRoll r = u.holdRaised (r.serial, r.count) := by
      rw [State.mergeRoll_merges hm, State.mergePair_holds ⟨by rw [hp]; rfl, hm.2.2⟩ (by simp [hp]) (h hm)]
    have hphase : u.phaseCtl.phase = .purgeWait := hp
    exact ⟨by simp [hmerged, hphase], by simp [hmerged], u.mergeRoll_epoch r, by simp [hmerged, State.keepsRecords]⟩
  · rw [State.mergeRoll_same hm]
    exact ⟨hp, rfl, rfl, rfl, rfl, rfl⟩

/-- A member's ROLL of no higher epoch makes the test. -/
theorem State.rollTaken_tests {n : StationNo} (hp : b.phase = .purgeWait) (he : r.epoch ≤ b.epoch)
    (h : b.mergesRoll r → r.count < b.failureLimit) : b.waitTested (b.rollTaken n r) := by
  have hseen := b.rollSeen_reported n r
  obtain ⟨hphase, hroster, hepoch, hstored, hranges, hsetup⟩ := State.mergeRoll_waits (hseen.phase.trans hp)
    (r := r) (by rwa [hseen.mergesRoll, hseen.failureLimit])
  rw [State.rollTaken, State.afterMerge_purgeWait hphase (by rwa [hepoch, hseen.epoch])]
  exact State.waitTested_of_test hphase (by rw [hroster, hseen.sn]) (hepoch.trans hseen.epoch)
    ⟨by rw [hstored, hseen.store], by rw [hranges, hseen.gate], hsetup.trans hseen.setup⟩

/-- What a report leaves of the drive, and the test with it. -/
theorem State.Reported.tests (h : b.Reported u entries) (hp : b.phase = .purgeWait) : b.waitTested u.purgeWaitTest :=
  State.waitTested_of_test (h.phase.trans hp) h.sn h.epoch ⟨by rw [h.store], by rw [h.gate], h.setup⟩

theorem State.purgedTaken_tests {n : StationNo} {epoch : Nat} (hp : b.phase = .purgeWait) (he : epoch ≤ b.epoch) :
    b.waitTested (b.purgedTaken n epoch) := by
  have hseen := b.purgedSeen_reported n epoch
  rw [State.purgedTaken, State.afterMerge_purgeWait (hseen.phase.trans hp) (by rwa [hseen.epoch])]
  exact hseen.tests hp

/-- An own report makes the test, and no more. -/
theorem State.testsAfterReport_tests (hp : b.phase = .purgeWait) : b.waitTested b.testsAfterReport := by
  rw [State.testsAfterReport_purgeWait hp]
  exact (State.Reported.refl b).tests hp

theorem exec_purged_own {rest : List RxFrame} (h : s.isFront f rest) (hk : f.kind = .purged) (hm : s.isMember f.sender = true)
    (hown : f.sender = s.sn) : exec .purged s = .next (s.taken rest).testsAfterReport.payRoll := by
  have hm' : (s.taken rest).isMember f.sender = true := hm
  have hown' : f.sender = (s.taken rest).sn := hown
  change s.frameRow _ _ = _
  rw [State.frameRow_front h (by simp [hk]), State.handlePurged, hm', if_neg (by simp), if_pos hown']

end

end Sys2Proof.Machine
end

section
/-! PROOFS. The purge from write to write (R112, R120 to R136). -/

namespace Sys2Proof.Machine

/-- Settles O40: the stored journal by the stage that it begins, the sequence by the record that follows, the close by the target that waited for it, and the reports of PURGE_WAIT by the test that each makes. -/
theorem storedJournalMovesThePurge : Obligations.StoredJournalMovesThePurge := by
  refine ⟨fun s j serial h hp hj ho hb hc hwaits hw hq => ?begins, fun s c serial rest h hp hc hplan ho hclosing hw hq => ?sequence,
    fun s j serial h hp hj hc ho hwaits hw => ?closes, fun s f rest hfront hp => ?tests⟩
  case begins =>
    have hawaits := State.writeClosed_awaits hq (.journal j)
    have hblocks : (s.writeClosed (.journal j)).blocks = s.blocks := State.blocks_congr (by simp)
    refine ⟨_, exec_journalStored_begins h hp hj ho hb hc hwaits hw, by simp [Stored.put], by simp, by simp,
      fun hstage => ?destroy, fun hstage hstep hdone => ?ends, fun hstage hmore hfault hcell hholder hsteady hop hperiod => ?erases,
      fun hstage => ?rekey, fun target hstage htarget => ?close⟩
    all_goals rw [State.beginStage]; simp only [State.writeClosed_frame, hj, hstage]
    case destroy =>
      have hgranted := hawaits.beginDestroy
      rw [State.beginDestroy_eq] at hgranted ⊢
      exact ⟨by simp [Slot.cleared], by simp, by simp, by simp, by simp [hj], hgranted, by simp, by simp, by simp⟩
    case ends =>
      rw [State.beginErase_ends (by simpa [hj] using ho) (by simpa [hj] using hstage) (by simpa using hstep)
        (by simpa [hblocks, hj] using hdone)]
      have hgranted := State.AwaitsGrant.endErase (u := (s.writeClosed (.journal j)).eraseTaken)
        (hawaits.congr (by simp) (by simp)) (by simp [hj, ho]) (by simp [hc])
      rw [State.endErase_eq] at hgranted ⊢
      exact ⟨by simp [hj], by simp, by simpa [hj] using hgranted, by simp, by simp, by simp⟩
    case erases =>
      rw [State.beginErase_issues (by simpa [hj] using ho) (by simpa [hj] using hstage) (by simpa [hblocks, hj] using hmore)
        (by simpa using hfault) (by simpa [State.eraseCellOk] using hcell) (by simpa using hop) (by simpa using hholder)
        (by simpa using hsteady) (by simpa using hperiod), State.issueErase_eq]
      exact ⟨by simp [hj], by simp [hj, State.pagesPerBlock, State.lockedSetup], by simp, by simp⟩
    case rekey =>
      have hgranted := hawaits.beginRekey
      rw [State.beginRekey_eq] at hgranted ⊢
      exact ⟨by simp, by simp, by simpa using hgranted, by simp, by simp [hj], by simp, by simp⟩
    case close =>
      have hgranted := hawaits.beginClose
      rw [State.beginClose_eq] at hgranted ⊢
      exact ⟨by simp [hj, htarget], by simp [defaultRanges, hblocks], by simpa [hj, htarget] using hgranted, by simp,
        by simp [hj], by simp⟩
  case sequence =>
    have hawaits := State.writeClosed_awaits hq c
    have hplan' : (s.writeClosed c).purge.plan = c.record :: rest := by simpa using hplan
    refine ⟨_, exec_planStored h hp hc hw, by simp, by simp [State.planStored_plan hplan'], by simp, by simp, by simp, by simp,
      by simp, fun record more heq ht hj => ?record, fun more heq => ?tamper, fun more heq hclose => ?journal,
      fun heq hstage => ?destroyed, fun heq hstage => ?rekeyed⟩
    all_goals subst heq
    case record =>
      obtain ⟨hgranted, -, -⟩ := (hawaits.withPlan (record :: more)).writePlanHead rfl
      obtain ⟨-, hsupervisor⟩ := State.writePlanHead_moves (s := (s.writeClosed c).withPlan (record :: more)) rfl
      rw [State.heldContents_writeClosed s c _ hj] at hgranted
      rw [State.planStored_next hplan' (by simp)]
      exact ⟨hgranted ht hj, by simp, by simp [hsupervisor, ht]⟩
    case tamper =>
      obtain ⟨-, hgranted, -⟩ := (hawaits.withPlan (.tamper :: more)).writePlanHead rfl
      obtain ⟨-, hsupervisor⟩ := State.writePlanHead_moves (s := (s.writeClosed c).withPlan (.tamper :: more)) rfl
      rw [State.planStored_next hplan' (by simp)]
      exact ⟨hgranted rfl, by simp, by simp [hsupervisor]⟩
    case journal =>
      obtain ⟨-, -, hgranted⟩ := (hawaits.withPlan (.journal :: more)).writePlanHead rfl
      obtain ⟨hclosed, hsupervisor⟩ := State.writePlanHead_moves (s := (s.writeClosed c).withPlan (.journal :: more)) rfl
      rw [State.planStored_next hplan' (by simp)]
      exact ⟨by simpa using hgranted rfl (by simpa using hclose), by simp [hclosed], by simp, by simp [hsupervisor]⟩
    case destroyed =>
      have hgranted := (hawaits.withPlan []).nextStage (by simpa using ho) (by simpa using hclosing) .erase
      rw [State.planStored_last hplan', if_pos (by simpa using hstage)]
      exact ⟨by simp [State.nextStage_eq], by simp [State.nextStage_eq], by simpa using hgranted⟩
    case rekeyed =>
      have hgranted := (hawaits.withPlan []).nextStage (by simpa using ho) (by simpa using hclosing) .close
      rw [State.planStored_last hplan', if_neg (by simp [hstage]), if_pos (by simpa using hstage)]
      exact ⟨by simp [State.nextStage_eq], by simp [State.nextStage_eq], by simpa using hgranted⟩
  case closes =>
    intro arrived
    have hexec := exec_journalStored h hp hwaits hw
    rw [if_pos (by simp [hc, hj])] at hexec
    obtain ⟨hverifier, hkeyPort⟩ := (s.writeClosed (.journal j)).closePurge_kept
    refine ⟨_, hexec, by simp [Stored.put], by simp [hverifier], by simp [hkeyPort], by simp,
      fun hpending => ?rests, fun target hpending => State.closePurge_opens (.journal j) hpending (by simp [hw])⟩
    rw [State.closePurge_rests (by simpa using hpending)]
    obtain ⟨harrived, hstays, hgrant, howner⟩ := (s.writeClosed (.journal j)).purgeClosed_tested
    have hcongr : (s.writeClosed (.journal j)).everyoneArrived (s.writeClosed (.journal j)).roster.entries ↔ arrived :=
      State.everyoneArrived_congr (s := s) (State.others_congr (by simp) (by simp)) (by simp [State.epoch])
    rw [hcongr] at harrived hstays
    refine ⟨fun ha => by simp [harrived ha], fun hno => by simp [hstays hno], ?_, by simp [hgrant], by simp [howner],
      by simp, by simp, fun hl => ?_⟩
    · by_cases ha : arrived
      · simp [harrived ha]
      · simp [hstays ha]
    · obtain ⟨g, hkind, hpayload, htx, -⟩ := (s.writeClosed (.journal j)).purgeClosed_line (by simpa using hl)
      refine ⟨g, State.mem_payRoll ?_, hkind, by simpa [State.epoch] using hpayload⟩
      simp [State.purgeWaitTest_line, htx]
  case tests =>
    intro tested
    have hp' : (s.taken rest).phase = .purgeWait := hp
    refine ⟨fun role r hk hread hrole he hcalm => ?roll, fun hk hread hrole => ?controller, fun hk hm he => ?purged⟩
    case roll =>
      refine ⟨_, exec_roll hfront hk, ?_⟩
      by_cases hown : f.sender = s.sn
      · rw [State.handleRoll_own (b := s.taken rest) hread hrole hown]
        exact (State.testsAfterReport_tests hp').payRoll
      · rw [State.handleRoll_guard (b := s.taken rest) hread hrole hown]
        refine ((State.rollTaken_tests hp' he fun hm => ?_).answerRoll _).payRoll
        obtain ⟨hpurging, hepoch, hraises⟩ := hm
        rcases hcalm with h | h | h | h | h
        · exact absurd h hown
        · exact absurd h hpurging
        · exact absurd hepoch (Nat.ne_of_lt h)
        · exact absurd hraises h
        · exact h
    case controller =>
      refine ⟨_, exec_roll hfront hk, ?_⟩
      rw [State.handleRoll_controller (b := s.taken rest) hread hrole]
      have hseen := (s.taken rest).reported_markPresent f.sender .controller
      rw [State.testsAfterReport_purgeWait (hseen.phase.trans hp')]
      exact ((hseen.tests hp').answerRoll _).payRoll
    case purged =>
      by_cases hown : f.sender = s.sn
      · exact ⟨_, exec_purged_own hfront hk hm hown, (State.testsAfterReport_tests hp').payRoll⟩
      · exact ⟨_, exec_purged hfront hk hm hown, (State.purgedTaken_tests hp' (he.resolve_left hown)).payRoll⟩

end Sys2Proof.Machine
end
